-- ==== Sys2Proof/Word.lean ====
section
/-! DEFINITION. The words of the TPX-4480: bytes, fields and the 64-byte line, and their plainest arithmetic (R4, R67, R477). -/

namespace Sys2Proof

/-- A byte. -/
abbrev Byte := BitVec 8
abbrev U8 := BitVec 8
abbrev U16 := BitVec 16
abbrev U32 := BitVec 32
abbrev U64 := BitVec 64

/-- A line of 64 bytes (R44), byte 0 in the least significant bits. -/
abbrev LineData := BitVec 512

/-- The low 32 bits of an epoch, as tags, directory entries and Curd lines carry it (R22, R70, R94). -/
def lo32 (e : Nat) : U32 := BitVec.ofNat 32 e

/-- R477: a is later than b in serial-number order over a window of 2^31. -/
def laterSerial (a b : U32) : Bool :=
  let d := (a - b).toNat
  1 ≤ d && d ≤ 2 ^ 31 - 1

/-- R477: "not later than" means equal or earlier; an incomparable pair satisfies neither. -/
def notLaterSerial (a b : U32) : Bool := a == b || laterSerial b a

/-- Bytes of a page, extent and block of HDM decoding (R67, R78). -/
def lineBytes : Nat := 64
def pageBytes : Nat := 4096
def extentBytes : Nat := 2 * 1024 * 1024
def hdmGranule : Nat := 256 * 1024 * 1024
def gib : Nat := 1024 * 1024 * 1024
def tib : Nat := 1024 * gib

/-- R67: the DPA space is 96 TiB. -/
def dpaSpace : Nat := 96 * tib

end Sys2Proof
end

