-- ==== Sys2Proof/Syntax.lean ====
section
/-! DEFINITION. The commands of the TPX-4480: one constructor of Instr per row of opcode_table.json, with the row's operands. -/

namespace Sys2Proof

/-- R279, R283: a Kolnyx channel, an ordered byte stream in each direction. -/
inductive Chan where
  | mailbox (head ld : Nat)
  | smbus (port eid : Nat)
  | vdm (head eid : Nat)
  | udp (ip : U32) (port : Nat)
  deriving DecidableEq, Repr

/-- R281: an MCTP binding: SMBus port 0 or 1, or the CXL.io path of a head. -/
inductive Bus where
  | smbus (port : Nat)
  | vdm (head : Nat)
  deriving DecidableEq, Repr

/-- R277: what a Kolnyx request packet that passed step 7 of R284 carries beside its opcode and parameters. -/
structure Req where
  ch : Chan
  tag : U32
  urgent : Bool
  deriving DecidableEq, Repr

/-- R44: a 64 B line with its poison mark. -/
structure Line where
  data : LineData
  poison : Bool
  deriving DecidableEq, Repr

/-- R20: one Wire beat: tag header flit, payload flits, control word and one even-parity bit per byte of the five flits
(bit k of `parity` is the parity of byte k, tag bytes first). -/
structure Beat where
  tag : BitVec 128
  payload : LineData
  control : U16
  parity : BitVec 80
  deriving DecidableEq, Repr

/-- R125, R153: what the SPD hubs of a channel declare. -/
structure Dimms where
  count : Nat          -- 0, 1 or 2, slot 0 first
  slot1Only : Bool
  rdimmEcc : Bool
  width : Nat          -- 4
  density : Nat        -- Gb: 16 or 32
  ranks : Nat          -- logical ranks per DIMM
  gibPerDimm : Nat
  identical : Bool     -- both DIMMs alike
  maxRate : Nat        -- lowest SPD maximum, MT/s
  spdId : Nat          -- names the SPD contents, so that a change is seen (R153)
  rfm : Nat            -- activation threshold of RFM (R140), 0 where the SPD asks for none
  deriving DecidableEq, Repr

/-- R158, R162, R164: what the targets' parameter pages of a flash channel declare. -/
structure Targets where
  targets : Nat
  volumesPerCe : Nat
  luns : Nat           -- per target
  planes : Nat
  pageBytes : Nat
  spareBytes : Nat
  pagesPerBlock : Nat
  blocksPerPlane : Nat
  tlcWithSlc : Bool
  mixed : Bool         -- targets differ in page size, planes or cell mode
  rawMib : Nat         -- raw capacity of the channel
  endurance : Nat
  suspend : Bool       -- program and erase suspend
  chipEnables : Nat
  busBits : Nat
  multiPlane : Bool    -- multi-plane read, program and erase
  operations : Bool    -- Read Status Enhanced, cache read, Set and Get Features with read-retry levels, Volume Select, Reset LUN
  readNs : Nat         -- maximum times of a read, a program and an erase (R161)
  programNs : Nat
  eraseNs : Nat
  deriving DecidableEq, Repr

/-- R185: the channel metadata found at power-up. -/
structure ChanMeta where
  own : Bool           -- carries this device's identity
  generation : Nat     -- membership generation
  draining : Bool
  factoryBad : List Nat -- blocks with a factory bad marker (R180), as `Block.id` numbers them
  deriving DecidableEq, Repr

/-- R161: a kind of NAND operation, each with its maximum time. -/
inductive NandKind where
  | read | program | erase
  deriving DecidableEq, Repr

/-- R161: the operation that a LUN runs. -/
structure NandOp where
  target : Nat         -- as R164 numbers them
  lun : Nat
  kind : NandKind
  deriving DecidableEq, Repr

/-- R176: how a fetch of a slot ended. -/
inductive FetchOutcome where
  | decoded            -- hard decode at once
  | misread (tag : List Byte) (newLoc : Option (BitVec 40)) -- a codeword checks whose tag reads so; where the tag is refused, the end of step 3
  | retried            -- a read-retry step
  | soft               -- soft decode
  | rebuilt (newLoc : BitVec 40)   -- from parity, or the other stage copy, rewritten at newLoc
  | lost               -- no step yields a codeword
  deriving DecidableEq, Repr

/-- R144, R145, R147: what the decoder meets in a burst. -/
inductive DramError where
  | good
  | symbols (bad : List Nat)       -- the symbols of its codeword that are in error, 0 to 39
  | poisonCode                     -- the poison pattern in its check symbols
  deriving DecidableEq, Repr

/-- R141, R142: the outcome of a training step of a channel. -/
inductive TrainStep where
  | spdRead (d : Dimms)
  | passed (step : Nat)
  | failed (step : Nat)
  | verified
  | verifyFailed
  deriving DecidableEq, Repr

/-- R160: the rate at which a flash channel's interface trained. -/
inductive FlashTrain where
  | full | fallback | failed
  deriving DecidableEq, Repr

/-- R253: the header of a Felt message, as received: its link, burst and poison flags, region, epoch, line index and tag. -/
structure FeltHdr where
  link : Nat
  first : Bool
  last : Bool
  poison : Bool
  byteEnables : Bool
  region : U16
  epoch : U32
  lineIndex : Nat
  tag : U16
  deriving DecidableEq, Repr

/-- R257: one entry of a REGION_LIST part. -/
structure ListEntry where
  region : U16
  mode : U8
  generation : U32
  size : Nat
  holder : U64
  ec : Nat
  deriving DecidableEq, Repr

/-- R265, R299: the follower's answer to a region operation. -/
inductive OpAnswer where
  | accepted | conflict | noSpace
  deriving DecidableEq, Repr

/-- R256, R265: what a REGION_OP record says: an operation from the holder, or the follower's answer. -/
inductive RegionOpKind where
  | create (size : Nat) (flags : U32)
  | resize (size : Nat)
  | destroy
  | setFlags (flags : U32)
  | answer (a : OpAnswer)
  deriving DecidableEq, Repr

/-- R253, R256: what is wrong with a message that a good flit carries and that no row can name: a reserved type, reserved flag
bits or a reserved region or tag (R253 treats them alike), or a control record with a reserved subtype, a wrong version or a bad CRC. -/
inductive FlitFault where
  | none | messageType | messageFlags | controlRecord
  deriving DecidableEq, Repr

/-- R251, R253: a flit on a Felt link: its bytes, and what is wrong with the message that they carry. -/
structure Flit where
  bytes : List Byte
  fault : FlitFault
  deriving DecidableEq, Repr

/-- R266: what a TOKEN_OP record says. -/
inductive TokenKind where
  | offer | accept | force
  deriving DecidableEq, Repr

/-- R212, R404: the energy state, in the order of its codes. -/
inductive Energy where
  | absent | degraded | normal
  deriving DecidableEq, Repr

/-- R24, R297: a unit of class 0x1 to 0x7, as fences and tests name it. -/
inductive UnitId where
  | engine (i : Nat) | slice (i : Nat) | dram (i : Nat) | flash (i : Nat) | port (i : Nat) | felt (i : Nat) | core (i : Nat)
  | sensor (i : Nat) | rail (i : Nat)
  deriving DecidableEq, Repr

/-- R440: an event as its island posts it (R439): class, severity, code, unit, identity, region, address, detail. -/
structure Occurrence where
  cls : Nat
  severity : Nat
  code : Nat
  unit : U16
  head : Nat          -- 0-15, or 255
  ld : Nat            -- 0-15, or 255
  region : Nat        -- 0-0xFFFE, or 0xFFFF
  address : Nat
  detail : Nat        -- 128 bits, little-endian
  completion : Bool   -- a completion report (R293)
  injected : Bool     -- caused by injection (R451)
  deriving DecidableEq, Repr

/-- R10: an island whose clock may be stepped. -/
inductive Island where
  | hp (i : Nat) | tw (i : Nat) | mc (i : Nat) | fc (i : Nat) | cu (i : Nat) | px | cx | en (i : Nat) | sv
  deriving DecidableEq, Repr

/-- R468: the boundary-scan instructions. -/
inductive Jtag where
  | bypass | idcode | samplePreload | extest | highz | clamp
  deriving DecidableEq, Repr

/-- R420: whether a BIST wave passed for an island. -/
structure BistResult where
  unit : UnitId
  pass : Bool
  deriving DecidableEq, Repr

/-- R418, R420: what a BIST wave found: its results, and whether the SHA-384 of the code stores differs from the digest kept at the
last load. -/
structure BistWave where
  results : List BistResult
  storesChanged : Bool
  deriving DecidableEq, Repr

/-- R151: the end of an hPPR repair of a row: it is done, or the DIMM had no spare. -/
structure HpprEnd where
  row : Nat
  noSpare : Bool
  deriving DecidableEq, Repr

/-- R395, R402: a fall of a rail: by its power-good input or by its sense input, and whether it was shorter than the filter. -/
structure RailDrop where
  rail : Nat
  sense : Bool
  dip : Bool
  deriving DecidableEq, Repr

/-- R423: what the image in a slot declares, and how its header and signature check. -/
structure ImageInfo where
  version : U32
  size : Nat
  headerOk : Bool      -- every check of R423 but the security version
  signatureOk : Bool
  security : Nat
  formats : U16        -- readable media formats
  digest : Nat         -- the first 32 bytes of its SHA-384, as a number of 32 bytes, low byte first
  deriving DecidableEq, Repr

/-- The commands. One constructor per row of opcode_table.json, in its order. -/
inductive Instr where
  -- Kolnyx opcodes, group 0x00 (R303 to R305)
  | identify (r : Req)
  | sessionOpen (r : Req) (kind head ld : U8) (tokenOk : Bool)
  | sessionClose (r : Req) (successor : U16)
  | nop (r : Req)
  | getReadyState (r : Req)
  | resetSession (r : Req) (object : U16)
  | resetPort (r : Req) (object : U16)
  | resetUnit (r : Req) (object : U16)
  | resetWarm (r : Req)
  | resetCold (r : Req)
  -- group 0x01 (R306, R307)
  | paramWrite (r : Req) (more : Bool) (table : U8) (bytes : List Byte)
  | paramRead (r : Req) (table : U8)
  | configSeal (r : Req)
  | configUnseal (r : Req)
  -- group 0x02 (R308 to R310)
  | regionCreate (r : Req) (size : U64) (flags : U32)
  | regionDestroy (r : Req) (region : U16)
  | regionResize (r : Req) (region : U16) (size : U64)
  | regionSetFlags (r : Req) (region : U16) (flags : U32)
  | regionQuery (r : Req) (region : U16)
  | regionGrant (r : Req) (region : U16) (head ld access : U8)
  | capacityAdd (r : Req) (kind index : U8)
  | capacityDrain (r : Req) (kind index : U8)
  -- group 0x03 (R311, R312)
  | tierPin (r : Req) (region : U16) (offset length : U64)
  | tierUnpin (r : Req) (handle : U32)
  | tierPrefetch (r : Req) (region : U16) (offset length : U64)
  | cacheControlSet (r : Req) (mode : U8)
  | cacheControlQuery (r : Req)
  | zeroLines (r : Req) (region : U16) (offset length : U64)
  -- group 0x04 (R313, R314)
  | watermarkClose (r : Req)
  | watermarkQuery (r : Req)
  | flushRegion (r : Req) (region : U16)
  | snapshotBegin (r : Req) (region : U16)
  | snapshotEnd (r : Req) (region : U16)
  -- group 0x05 (R315)
  | twinAttach (r : Req)
  | twinDetach (r : Req)
  | twinStatus (r : Req)
  | twinResync (r : Req) (region : U16) (flags : U8)
  | twinRoleHandover (r : Req) (region : U16) (flags : U8)
  | twinRoleForce (r : Req) (region : U16) (flags : U8)
  -- group 0x06 (R316 to R318)
  | energyStatus (r : Req)
  | energyLearnStart (r : Req)
  | energyLearnAbort (r : Req)
  | energyLearnedWrite (r : Req) (bytes : List Byte)
  | deckleStatus (r : Req)
  | couchRehearse (r : Req) (size : U16)
  -- groups 0x07 to 0x0A (R319, R320)
  | thermalStatus (r : Req) (first count : U16)
  | sensorExclude (r : Req) (sensor : U16)
  | sensorInclude (r : Req) (sensor : U16)
  | railStatus (r : Req)
  | rindRead (r : Req) (start : U32) (count : U16)
  | orderlyPowerDown (r : Req)
  | keySlotBind (r : Req) (slot region : U16)
  | keySlotRetire (r : Req) (slot : U16)
  | keyStatus (r : Req) (slot count : U16)
  | starterProvision (r : Req) (mode : U8) (serial : U64) (key : BitVec 256)
  | eventRead (r : Req) (first : U64) (count : U16) (minSeverity : U8)
  | eventAck (r : Req) (upTo : U64)
  | traceStart (r : Req) (unit : U16) (mask buffer : U32)
  | traceStop (r : Req)
  | traceRead (r : Req)
  | traceClear (r : Req)
  | alarmMask (r : Req) (mask : U32)
  -- group 0x0B (R321, R322)
  | unitFence (r : Req) (unit : U16)
  | unitTest (r : Req) (unit : U16)
  | unitStatusQuery (r : Req) (unit : U16)
  | unitReturn (r : Req) (unit : U16)
  | channelOffline (r : Req) (unit : U16)
  | channelOnline (r : Req) (unit : U16)
  | errorInject (r : Req) (unit : U16) (kind count : U8) (dpa : U64)
  -- group 0x0C (R323, R324)
  | fwDownload (r : Req) (offset size : U32) (data : List Byte)
  | fwVerify (r : Req)
  | fwActivate (r : Req) (mode : U8)
  | fwConfirm (r : Req)
  | fwStatus (r : Req)
  | diagnosticOpcode (r : Req) (opcode : U16)
  -- transports (R279 to R287, R293)
  | kolnyxWrite (head ld : Nat) (payload : List Byte)
  | kolnyxRead (head ld : Nat) (maxLen : U32)
  | mctpMessage (bus : Bus) (eid : Nat) (body : List Byte)
  | setEndpointId (bus : Bus) (src : Nat) (eid : U8)
  | getEndpointId (bus : Bus) (src : Nat)
  | getMctpVersionSupport (bus : Bus) (src : Nat) (msgType : U8)
  | getMessageTypeSupport (bus : Bus) (src : Nat)
  | getVendorDefinedMessageSupport (bus : Bus) (src : Nat) (selector : U8)
  | mctpOtherControlMessage (bus : Bus) (src : Nat) (command : U8)
  | udpDatagram (ip : U32) (port : Nat) (fragmented checksumOk : Bool) (payload : List Byte)
  | arpFrame (senderIp : U32) (senderMac : BitVec 48) (targetIp : U32)
  | icmpEchoRequest (ip : U32) (id seq : U16) (data : List Byte)
  | reassemblyTimeout (ch : Chan)
  | sessionIdleTimeout (session : Nat)
  | progressReportTick
  -- CXL (R43, R77 to R82, R100, R447)
  | cxlMemRead (head ld hostTag hpa : Nat)
  | cxlMemWrite (head ld hostTag hpa : Nat) (data : LineData) (be : BitVec 64) (poison : Bool)
  | hdmDecoderCommit (head ld index hpaBase dpaBase size ways : Nat)
  | getLdInfo (head : Nat)
  | getLdAllocations (head : Nat)
  | setLdAllocations (head : Nat)
  | getDcExtentList (head ld : Nat)
  | dcReleaseResponse (head ld : Nat) (region : Nat) (runs : List (Nat × Nat))
  | releaseTimeout (head ld : Nat) (region : Nat)
  | gpfPhase2Request (head : Nat)
  | setShutdownState (head ld : Nat) (state : U8)
  | getEventRecords (head ld log : Nat)
  | clearEventRecords (head ld log : Nat) (handles : List Nat)
  | getEventInterruptPolicy (head ld : Nat)
  | setEventInterruptPolicy (head ld : Nat) (policy : U32)
  | hostLinkUp (port : Nat) (joined : Bool)
  | hostLinkDown (port : Nat)
  -- the Wire and the engines (R12, R16 to R29)
  | wireBeatReceived (link : Nat) (b : Beat)
  | wireNakReceived (link : Nat) (b : Beat)
  | retryResponse (age : Nat)
  | engineFaultDetected (engine : Nat) (memory : Bool)
  | engineHeartbeatTimeout (engine : Nat)
  | spareRoleResumed (fenced : Nat)
  | islandFrequencyChangeDone (island : Island)
  -- epochs and the Deckle (R34 to R36, R49, R59, R225)
  | epochCloseComplete
  | autoCloseIntervalExpiry
  | deckleRecompute
  | writeCreditIdleTimeout (port : Nat)
  -- PPU and Curd (R94 to R123)
  | pageChargeMessage (page : Nat)
  | curdFillArrival (line : Nat)
  | evictionOffer (line : Nat)
  | dramWriteAck (line : Nat)
  | streamTrackerTimeout (port tracker : Nat)
  | frameReclaim (page : Nat)
  | pageCleanStart (page : Nat)
  | pageCleanComplete (page : Nat) (loc : BitVec 40)
  | curdDrainComplete
  | curdSlicePowerUpDone
  | reamFetchComplete (page : Nat) (outcome : FetchOutcome)
  | deadlineMarginExpiry (age : Nat)
  -- Vat DDR5 (R125 to R157)
  | dramAccessComplete (line : Nat) (err : DramError)
  | caParityAlert (channel : Nat)
  | refreshIntervalTick (channel bank : Nat)
  | refreshWindowExpiry (channel : Nat)
  | rowIdleTimeout (channel bank : Nat)
  | dramTrainingStepComplete (channel : Nat) (step : TrainStep)
  | dramFrequencyChangeDone (channel : Nat) (ok : Bool)
  | scrubRead (frame : Nat) (errs : List (Nat × DramError))
  | rowRepairSpprDone (channel row : Nat) (noSpare : Bool)
  | rowRepairHpprDone (channel : Nat) (row : HpprEnd)
  | channelVacateComplete (channel : Nat)
  | spdHubLossTimeout (channel : Nat)
  | directoryAreaResizeComplete
  | pageMoveEnd (page : Nat) (loc : BitVec 40)
  -- Ream (R158 to R189)
  | flashTrainingComplete (channel : Nat) (result : FlashTrain) (targets : Targets) (found : ChanMeta)
  | nandOperationOverrun (channel : Nat) (op : NandOp)
  | targetStatusTimeout (channel target : Nat)
  | flashAbsentProbeTick (channel : Nat) (found : Bool)
  | stageGatherTimeout
  | stageProgramComplete
  | nandProgramFailure (channel block : Nat)
  | nandEraseComplete (channel block : Nat) (ok : Bool)
  | reclamationStart (channel lun block : Nat)
  | patrolRead (channel block : Nat) (neededRetry : Bool)
  | wearLevelMove (channel block : Nat)
  | channelFormatComplete (channel : Nat) (pass : Bool)
  | channelDrainComplete (channel : Nat)
  | rebuildStripe (page : Nat) (loc : Option (BitVec 40))
  | rebuildComplete (channel : Nat)
  -- Salometer (R190 to R217)
  | salometerSample (current : Int) (voltage : Nat) (temp0 temp1 : Int)
  | autoZeroTick
  | svDiodeSample (temp : Int)
  | lowCurrentModeEntry
  | lowCurrentComparator
  | pkPresentAsserted
  | pkPresentDeasserted
  | packSwapTimeout
  | packIdentityPoll
  | packIdentityReadDone (block : Option (List Byte))
  | probeStart
  | probeComplete (iPre vPre iPb vPb iPost vPost rmsPre rmsPost : Int)
  | probeAgeTimeout (hour : Bool)
  | energyEstimateTick
  | fullChargeAnchor
  | thermistorDisagreement
  | learnTimeout
  | learnInterruptionTimeout
  | learnedRecordDailyUpdate
  -- Couch and Lift (R218 to R248)
  | inputChange (powerFail : Bool) (busMv : Nat)
  | inputLossDetection
  | inputPresenceConfirmed
  | commitPoint
  | couchCurdDrained
  | couchProgramComplete (loc : BitVec 40) (ok : Bool)
  | holdUpTimeLimit
  | couchSealWritten
  | readyLift
  | foldPage (page : Nat) (loc : BitVec 40)
  | rehearsalComplete (durationUs rateMb powerMw : Nat)
  -- Felt (R249 to R276, R480)
  | feltLinkTrained (link : Nat) (full : Bool) (ok : Bool)
  | feltLinkSilence (link : Nat)
  | fastRetrainTimeout (link : Nat)
  | feltFlitReceived (link : Nat) (bytes : Flit) (crc : U32) (fecOk tagOk : Bool)
  | flitAckTimeout (link : Nat) (sequence : Nat)
  | mirrorWrite (h : FeltHdr) (data : LineData) (be : BitVec 64)
  | mirrorAck (link : Nat) (tags : List U16)
  | epochEnd (epoch : Nat) (origin : Nat) (count : Nat)
  | epochApplied (epoch : Nat)
  | twinRead (h : FeltHdr)
  | twinReadData (tag : U16) (data : Line)
  | notResident (tag : U16)
  | pageCopy (h : FeltHdr) (fragment : Nat) (data : LineData)
  | pageAck (region : U16) (page : Nat)
  | pageZero (h : FeltHdr)
  | burstAbort (link : Nat) (tag : U16)
  | mirrorRefused (region : U16) (tags : List U16)
  | hello (link : Nat) (bytes : List Byte)
  | regionList (link : Nat) (part : Nat) (parts : Nat) (listNumber : U32) (entries : List ListEntry)
  | status (link : Nat) (pressure : Nat) (energy : Energy) (closed mirrored sentAt : Nat)
  | commitNotice (time epoch : Nat)
  | regionOp (region : U16) (op : RegionOpKind)
  | tokenOp (region : U16) (kind : TokenKind) (generation : U32)
  | close (epoch : Nat)
  | detach
  | listRequest
  | burstTimeout (link : Nat) (tag : U16)
  | regionListTimeout
  | linkingTimeout
  | feltTimeout
  | statusSendTick
  | resyncPageSend (region : U16) (page : Nat)
  -- cipher (R350 to R368)
  | rekeySweepStep (region : U16) (page : Nat) (loc : BitVec 40)
  | keySlotFreed (slot : Nat)
  | cipherPassComplete (slot : Option Nat) (core : Nat) (blocks : Nat) (disagreeing : Option Nat)
  | cipherSelfTestTick (core : Nat) (pass : Bool)
  -- Cave (R369 to R385)
  | sensorSample (sensor : Nat) (temp : Int) (fault : Bool)
  | spdHubReadTick (channel slot : Nat) (temp : Int)
  | mr4ReadTick (channel rank : Nat) (temp : Option Int)
  | sensorContinuousTimeout (sensor : Nat)
  | sensorContinuousRetry (sensor : Nat) (arrived : Bool)
  | sensorPollTick (sensor : Nat) (temp : Option Int)
  | throttleStepTimer
  | throttleUnwindTimer
  | thermalRestartHold
  -- power (R386 to R411, R430, R466)
  | vaoPowerOn
  | vaoBrownOut
  | calenderGrant
  | chainBypassTimeout
  | railDelayExpiry (rail : Nat)
  | railPowerGood (rail : Nat)
  | railPgTimeout (rail : Nat)
  | caDnOutDelay (held : Bool)
  | caDnInChange (asserted : Bool)
  | powerDownRailStep
  | offTimeExpiry
  | railFault (rail : RailDrop)
  | monitorInputFall (input : Nat)
  | progressWatchTimeout
  | serviceButtonPress
  | serviceButtonRelease
  | buttonHold3s
  | buttonStuckTimeout
  | ppsInputEdge (rising : Bool) (time : Nat)
  | ppsOutputSecond
  -- boot and the Ledger (R412 to R435)
  | bistWaveComplete (wave : Nat) (results : BistWave)
  | imageLoadComplete (genuine : Bool)
  | readyCore
  | bootWatchdogExpiry
  | mgmtEngineFeedTimeout (engine : Nat)
  | serviceWatchdogExpiry
  | ledgerWordProgram (address : BitVec 25) (data : U16)
  | ledgerSectorErase (address : BitVec 25) (key : U16)
  | ledgerIdentify
  | ledgerReset
  | ledgerOtherWrite (address : BitVec 25) (data : U16)
  | ledgerStatusRead
  | ledgerOpComplete (verifyOk : Bool)
  | ledgerEraseLimit
  | vaoSampleTick (millivolts : Nat)
  -- log and service (R439 to R451)
  | eventArrival (o : Occurrence)
  | coalesceWindowClose (key : Nat)
  | tokenRefill (cls : Nat)
  | dropSummaryTick
  | injectionTimeout (unit : UnitId)
  | unitTestComplete (unit : UnitId) (pass : Bool)
  | fwVerifyComplete (genuine : Bool)
  | snapshotScanComplete (region : U16)
  | starterKeyProgrammingDone (ok : Bool)
  | jtagInstruction (instruction : Jtag)
  deriving DecidableEq, Repr

end Sys2Proof
end

