-- ==== Sys2Proof/Decode.lean ====
section
/-! DEFINITION. The command a word spells by the table's bits. No row of opcode_table.json gives bits. -/

namespace Sys2Proof

/-- Every row of opcode_table.json has an empty list of fields: no word spells a command (log entry 6). -/
def decodeTableWord (_nbits _w : Nat) : Option Instr := none

end Sys2Proof
end

