-- ==== Sys2Proof/Config.lean ====
section
/-! DEFINITION. What the manual leaves to the unit, the firmware image or chance: constants with no body, so that no proof can see a value. -/

namespace Sys2Proof

/-- R1, R304: the unit serial number (128 bits). Each unit has its own; the manual states none. Log entry 1. -/
opaque Config.serial : BitVec 128

/-- R304, R423: the version number that the running image in slot A declares. Log entry 1. -/
opaque Config.imageVersionA : U32

/-- R304: the n-th random challenge since power-up. Log entry 2. -/
opaque Config.challenge : Nat → U64

/-- R351: the n-th key drawn from the CTR_DRBG. Log entry 2. -/
opaque Config.drbgKey : Nat → BitVec 256

/-- R200, R339: bytes 8 to 2,471 of the generic chemistry image of a class (1 to 4): data of the running image, "not part of this manual". Log entry 4. -/
opaque Config.genericChemistry : Nat → List Byte

/-- R119, R175: what an erase that runs on the LUN adds to the PPU's estimate of a fetch, in ns: the manual gives it no typical time. Log entry 19. -/
opaque Config.fetchEstimate : Nat → Nat

/-- R183: the read-retry level for a difference, in 0.1 °C, between the read temperature and that recorded at program. The manual names the
choice and no level. Log entry 159. -/
opaque Config.readLevel : Int → Nat

/-- R414: what a word holds whose program or erase was stopped, by a fresh number. Log entry 5. -/
opaque Config.indeterminate : Nat → U16

/-- R2, R422: the n-th byte of the production image in slot A: the manual does not describe its body. Log entry 1. -/
opaque Config.factoryByte : Nat → Byte

/-- R2, R417: the logical sectors of the Ledger that the factory marked bad. Each die has its own; the manual lists none. Log entry 148. -/
opaque Config.factoryBadSectors : List Nat

/-- R407, R411: whether a program that had not the 300 us it may take is torn by a loss of VAO, by a fresh number. Log entry 149. -/
opaque Config.programTorn : Nat → Bool

/-- R20, R21: row and column of the router to which island i (in the order of R10) attaches. The manual says that each island
attaches to the nearest router, and gives no map of the mesh. Log entry 31. -/
opaque Config.routerOf : Nat → Nat × Nat

/-- R28: the output (0 east, 1 west, 2 south, 3 north) of the fault route table for the loss of links, by their numbers in rising order, at
a router, toward a router. The manual says that the tables are computed at boot, and gives none. Log entry 34. -/
opaque Config.faultRoute : List Nat → Nat × Nat → Nat × Nat → Nat

/-- R22: whether a CTL beat is one of a barrier or of an epoch close, by its payload: the manual gives no layout of CTL payloads. Log entry 34. -/
opaque Config.barrierBeat : BitVec 512 → Bool

/-- R272: whether the follower of a region reports a page, by its number in the region, in the n-th list of its pages later than
E_c. The manual names the list and no record that carries it. Log entry 120. -/
opaque Config.followerLater : Nat → Nat → Nat → Bool

/-- R260: the n-th timebase offset measured over Felt, ns. The manual gives the formula, and no record that carries its four times. Log entry 37. -/
opaque Config.feltOffset : Nat → Int

/-- R281: the version entry that Get MCTP Version Support returns. The manual names the message and gives no version. Log entry 39. -/
opaque Config.mctpVersion : U32

/-- R282: the link-local IPv4 address that the device has taken under RFC 3927, 169.254.0.0/16. Log entry 40. -/
opaque Config.linkLocal : U32

/-- R224: the part of the pressure, in units of 0.0001, whose divisor is 0 (B, or the dirty frame ceiling), by its dividend: the
manual gives no value of it. Log entry 20. -/
opaque Config.pressureOverZero : Nat → Nat

end Sys2Proof
end

