-- ==== Sys2Proof/Machine/State.lean ====
section
/-! DEFINITION. The state of the TPX-4480 as plain data, its reset value, and the reasons a step can stop.
After each field stands: width | rule (file) | reset value | what it is. INVENTORY.md's '## State' is made from these lines. -/

namespace Sys2Proof.Machine

/-- No command of this model faults. R294: the device reports an error in the status of its reply, or by the event and
Rind records of R404 and R439, and goes on. -/
inductive Fault where
  deriving DecidableEq, Repr

/-- Why a command has no meaning. -/
inductive Refusal where
  /-- Raised by exec's arm of a command that has no meaning yet; safe. -/
  | notModelled (mnemonic : String)
  /-- Raised by DIAGNOSTIC_OPCODE in an unlocked diagnostic session: R302, "This manual does not describe the diagnostic opcodes."; safe. -/
  | diagnosticOpcodeNotDescribed
  deriving DecidableEq, Repr

/-- What exec and step answer. -/
abbrev Res (σ : Type) := Host.Outcome σ Fault Refusal

/-! ### Data of pages -/

/-- The lines of a page that are not a good line of zeros, by line index 0 to 63, rising (R67, R129). -/
abbrev PageData := List (Nat × Line)

/-- R70, R71: directory states. -/
inductive DirState where
  | free | zero | home | clean | dirty | couched | moving | lost
  | reserved           -- one of the codes 0x8 to 0xF, as found
  deriving DecidableEq, Repr

/-- R70: a directory entry; `charged` is the Deckle's mark of the page (R48). -/
structure DirEntry where
  page : Nat           -- 35 | R67 (03) | - | page number, DPA >> 12
  region : Nat         -- 16 | R70 (03) | - | owning region
  st : DirState        -- 4 | R70 (03) | - | state
  prev : DirState      -- 4 | R72 (03) | - | state before the move, while MOVING
  wrote : Bool         -- 1 | R72 (03) | - | a write arrived during the move
  pinned : Bool        -- 1 | R70, R113 (03, 04) | - | bit [4]
  keyGen : BitVec 2    -- 2 | R70, R359 (03, 13) | - | low bits of the generation of the Ream copy
  loc : BitVec 40      -- 40 | R70, R164 (03, 06) | - | Ream location, 0 for none
  frame : Option Nat   -- 31 | R70 (03) | - | Vat frame, none for 0x7FFF_FFFF
  epoch : U32          -- 32 | R70 (03) | - | low 32 bits of the epoch of the last write
  charged : Bool       -- 1 | R48 (02) | - | charged by the Deckle
  unresolved : Bool    -- 1 | R242 (08) | - | not yet resolved against the Lift index
  deriving DecidableEq, Repr

/-- R106: a frame that is not FREE. -/
structure Frame where
  no : Nat             -- 31 | R70, R128 (03, 05) | - | location number
  valid : Bool         -- 1 | R106 (04) | - | VALID, or FILLING
  referenced : Bool    -- 1 | R102 (04) | - | referenced bit of the clock sweep
  page : Nat           -- 35 | R70 (03) | - | its page
  data : PageData      -- 4 KiB | R106 (04) | - | its lines (poison as R145 encodes it)
  deriving DecidableEq, Repr

/-- R94: states of a Curd line that is not INVALID. -/
inductive LineSt where
  | filling | clean | dirty
  deriving DecidableEq, Repr

/-- R93, R94: a valid Curd line. -/
structure CurdLine where
  addr : Nat           -- 41 | R93 (04) | - | line address a[46:6]
  way : Nat            -- 4 | R93 (04) | - | way of its set
  st : LineSt          -- 2 | R94 (04) | - | state
  data : Line          -- 513 | R94 (04) | - | data and poison bit
  epoch : U32          -- 32 | R94 (04) | - | epoch of its last write
  deriving DecidableEq, Repr

/-- R102: an eviction buffer entry. -/
structure Evict where
  addr : Nat           -- 41 | R102 (04) | - | line address
  dirty : Bool         -- 1 | R102 (04) | - | dirty victim
  data : Line          -- 513 | R102 (04) | - | its data
  epoch : U32          -- 32 | R102 (04) | - | its epoch
  offered : Bool       -- 1 | R102 (04) | - | written to its frame, awaiting the acknowledgement
  deriving DecidableEq, Repr

/-- R95: Curd modes, WB the least strict. -/
inductive Mode where
  | wb | wt | off
  deriving DecidableEq, Repr

/-- R27: a unit that turns requests away: a Curd slice, a DRAM channel's subchannel, the PPU. -/
inductive Refuser where
  | slice (i : Nat)
  | dram (channel sub : Nat)
  | ppu
  deriving DecidableEq, Repr

/-- R100, R96, R171: what an accepted host request waits for. -/
inductive ReqSt where
  | line               -- its Curd line is FILLING
  | frame              -- WT or OFF: its frame is not VALID
  | fetch              -- the Ream fetch of its page
  | block              -- the Ream read of its directory block (R111)
  | dramRead           -- a DRAM read of the frame
  | dramWrite          -- a DRAM write to the frame
  | stage              -- its stage page
  | retry              -- it was answered with a retry response (R27)
  | credit             -- a line of ZERO_LINES waits for write credit (R312); it is not accepted yet
  | mirror             -- only the twin's MIRROR_ACK
  deriving DecidableEq, Repr

/-- R30, R43: an accepted host request that has not completed. -/
structure HostReq where
  age : Nat            -- - | R27 (01) | - | order of acceptance
  write : Bool         -- 1 | R43 (02) | - | write
  port : Nat           -- 4 | R77 (03) | - | head
  ld : Nat             -- 4 | R77 (03) | - | LD-ID
  hostTag : Nat        -- - | R43 (02) | - | the host's own tag
  line : Nat           -- 41 | R93 (04) | - | line address
  data : LineData      -- 512 | R44 (02) | - | write data
  be : BitVec 64       -- 64 | R44 (02) | - | byte enables
  poison : Bool        -- 1 | R44 (02) | - | written poisoned
  epoch : Nat          -- 64 | R56 (02) | - | epoch at acceptance
  region : Nat         -- 16 | R22 (01) | - | region
  accepted : Nat       -- 64 | R118 (04) | - | time of acceptance
  deadline : Option Nat -- 64 | R76, R118 (03, 04) | - | deadline of its class at acceptance, ns; none for a write or D3
  late : Bool          -- 1 | R118 (04) | - | the deadline applies: it found no valid line and no VALID frame
  marked : Bool        -- 1 | R101 (04) | - | streaming hint of its port's detector
  st : ReqSt           -- 3 | R100 (04) | - | what it waits for
  credit : Bool        -- 1 | R225 (08) | - | covered by a write credit of its port
  needAck : Bool       -- 1 | R262 (09) | - | the twin's acknowledgement is missing
  localDone : Bool     -- 1 | R43 (02) | - | its local place is reached
  twinAsked : Bool     -- 1 | R119 (04) | - | a twin read is out
  mirrorTag : U16      -- 16 | R253 (09) | - | tag of its mirror message or twin read
  refuser : Option Refuser := none -- - | R27 (01) | none | unit that answered it with a retry response
  deriving DecidableEq, Repr

/-- R98: a page charge message on its way to the PPU. -/
structure ChargeMsg where
  page : Nat           -- 35 | R98 (04) | - | page
  epoch : U32          -- 32 | R98 (04) | - | epoch of the write
  port : Nat           -- 4 | R98 (04) | - | port whose credit covers the write
  deriving DecidableEq, Repr

/-- R107, R115, R119: a running Ream fetch. -/
structure Fetch where
  page : Nat           -- 35 | R107 (04) | - | page
  prefetch : Bool      -- 1 | R115 (04) | - | below every demand fetch
  kept : Bool          -- 1 | R114 (04) | - | the fetch of a pin, which is not dropped
  reserve : Bool       -- 1 | R243 (08) | - | fault-in from the Couch reserve
  issued : Nat         -- 64 | R119 (04) | - | time of issue
  cch : Bool := false  -- 1 | R229, R233 (08) | - | runs as a CCH read of a committed Couch
  deriving DecidableEq, Repr

/-- R71, R89, R152, R187, R244, R360: why a page is MOVING. -/
inductive MoveKind where
  | clean | drain | rebuild | vacate | fold | relocate | rekey
  deriving DecidableEq, Repr

structure Move where
  page : Nat           -- 35 | R72 (03) | - | page
  kind : MoveKind      -- 3 | R71 (03) | - | reason
  data : PageData      -- 4 KiB | R110 (04) | - | what is being programmed
  epoch : U32          -- 32 | R18 (01) | - | epoch of the data it moves
  target : BitVec 40   -- 40 | R72, R187, R244 (03, 06, 08) | - | where a rebuild or a fold has programmed it, 0 before
  since : Nat          -- 64 | R177 (06) | - | time of its start
  order : Nat := 0     -- - | R479 (06) | - | stage records gathered before its start, which its data holds
  deriving DecidableEq, Repr

/-- R72: a clean or a move of a page in MOVING, answered with a retry response. -/
structure Retried where
  page : Nat           -- 35 | R72 (03) | - | page
  kind : MoveKind      -- 3 | R71 (03) | - | clean, or why it moves
  loc : BitVec 40      -- 40 | R72 (03) | - | location that a move was to leave
  deriving DecidableEq, Repr

/-- R116: a stream of a STREAM region. -/
structure Stream where
  point : Nat          -- 35 | R116 (04) | - | access point P
  ascending : Bool     -- 1 | R116 (04) | - | direction
  trail : Int          -- - | R117 (04) | - | where the trailing edge stood when the stream last advanced
  advanced : Nat       -- - | R116 (04) | - | order of its last advance
  deriving DecidableEq, Repr

/-- R101: a streaming-store tracker of a port. -/
structure Tracker where
  last : Nat           -- 41 | R101 (04) | - | last line
  ascending : Option Bool -- 2 | R101 (04) | - | direction, once two lines stand
  run : Nat            -- - | R101 (04) | - | consecutive lines
  stamp : Nat          -- - | R101 (04) | - | order of its last extension
  deriving DecidableEq, Repr

/-! ### Regions and hosts -/

/-- R80, R308: access of an identity. -/
inductive Access where
  | none | readOnly | readWrite
  deriving DecidableEq, Repr

structure Grant where
  head : Nat           -- 8 | R80 (03) | - | head
  ld : Nat             -- 8 | R80 (03) | - | LD-ID
  access : Access      -- 2 | R80 (03) | - | access
  deriving DecidableEq, Repr

/-- R270, R309: mirror state. -/
inductive MirrorSt where
  | notMirrored | inSync | lagging | resync | diverged
  deriving DecidableEq, Repr

/-- R86, R309: an operation that runs on a region. -/
inductive RegionOpn where
  | shrink | resync | d0fill | flush
  deriving DecidableEq, Repr

/-- R73, R74, R309: a region and its metadata. -/
structure Region where
  num : Nat            -- 16 | R73 (03) | - | number
  flags : U32          -- 32 | R74 (03) | - | flags word
  size : Nat           -- 64 | R83 (03) | - | bytes
  runs : List (Nat × Nat) -- 64 x (32, 32) | R69, R309 (03, 11) | - | first extent and extent count, in region order
  grants : List Grant  -- - | R80 (03) | - | grants other than NONE
  creationEpoch : Nat  -- 64 | R354 (13) | - | epoch at REGION_CREATE
  mirror : MirrorSt    -- 3 | R270 (09) | - | mirror state
  holder : U64         -- 64 | R265 (09) | - | token holder's serial, 0 when not mirrored
  generation : U32     -- 32 | R265 (09) | - | token generation
  ec : Nat             -- 64 | R269 (09) | - | last common epoch, or 0
  opns : List RegionOpn -- - | R86, R309 (03, 11) | - | operations running, the earliest first
  d0InForce : Bool     -- 1 | R114 (04) | - | D0 in force
  deadlineMisses : Nat -- 64 | R120 (04) | - | counter
  twinServed : Nat     -- 64 | R120 (04) | - | counter
  snapshot : Nat       -- 64 | R314 (11) | - | E_b of an open snapshot, or 0
  streams : List Stream -- 4 | R116 (04) | - | its streams
  lastMiss : Nat       -- 35 | R115 (04) | - | page of the last miss
  missRun : Int        -- - | R115 (04) | - | consecutive misses, signed by direction
  metaDirty : Bool     -- 1 | R233 (08) | - | metadata changed since it was last written
  deriving DecidableEq, Repr

/-- R78: a committed HDM decoder. -/
structure Decoder where
  index : Nat          -- 2 | R78 (03) | - | 0 to 3
  hpaBase : Nat        -- 64 | R78 (03) | - | host-physical base
  dpaBase : Nat        -- 64 | R78 (03) | - | DPA base
  size : Nat           -- 64 | R78 (03) | - | size
  committed : Bool     -- 1 | R78 (03) | - | committed, or Error Not Committed
  deriving DecidableEq, Repr

/-- R81, R84: why a release runs. -/
inductive ReleaseFor where
  | grantNone | shrink
  deriving DecidableEq, Repr

structure Release where
  region : Nat         -- 16 | R81 (03) | - | region
  runs : List (Nat × Nat) -- - | R81 (03) | - | runs not yet acknowledged
  why : ReleaseFor     -- 1 | R81, R84 (03) | - | cause
  access : Access      -- 2 | R81 (03) | - | access that the identity keeps until the release completes
  deriving DecidableEq, Repr

/-- R447: a record of a CXL event log. -/
structure CxlRecord where
  kind : Nat           -- 2 | R447 (17) | - | 0 General Media, 1 DRAM, 2 Memory Module
  handle : Nat         -- 16 | R447 (17) | - | handle, by which it is cleared
  cls : Nat            -- 8 | R440 (17) | - | class of the device event
  code : Nat           -- 16 | R440 (17) | - | its code
  address : Nat        -- 64 | R447 (17) | - | DPA
  unit : U16           -- 16 | R447 (17) | - | unit, whose index is the DRAM channel
  detail : Nat         -- 128 | R447 (17) | - | detail, with the place of a DRAM error (R147)
  deriving DecidableEq, Repr

/-- R77: a logical device that has state. -/
structure Ld where
  head : Nat           -- 4 | R77 (03) | - | head
  ld : Nat             -- 4 | R77 (03) | - | LD-ID
  decoders : List Decoder -- 4 | R78 (03) | - | HDM decoders
  held : List (Nat × Nat × Nat) -- 4,096 | R79, R80 (03) | - | runs held: region, first extent, count
  releases : List Release -- - | R81 (03) | - | running releases
  logs : List (List CxlRecord) -- 4 x 128 | R447 (17) | - | event logs, by severity
  overflow : List Nat  -- 4 | R447 (17) | - | overflow counts
  policy : U32         -- 32 | R447 (17) | - | event interrupt policy
  nextHandle : Nat     -- 16 | R447 (17) | - | next record handle
  deriving DecidableEq, Repr

/-! ### Kolnyx -/

/-- R294: status codes. -/
inductive Status where
  | ok | accepted | partial_ | undefinedOpcode | reservedField | badLength | badCrc | version | truncated | notReady
  | notOwner | sealed | busy | noSpace | range | conflict | energyLimit | thermalLimit | twinDown | keyExhausted
  | mediaError | poisoned | internal
  deriving DecidableEq, Repr

/-- R278: a reply packet before it is laid out as bytes. -/
structure Reply where
  opcode : U16         -- 16 | R278 (10) | - | echoed opcode
  tag : U32            -- 32 | R278 (10) | - | echoed host tag
  more : Bool          -- 1 | R287, R293 (10) | - | more-follows
  urgent : Bool        -- 1 | R278 (10) | - | echoed flag
  status : Status      -- 16 | R294 (10) | - | status
  detail : Nat         -- 16 | R294 (10) | - | detail
  params : List Byte   -- - | R278 (10) | - | reply parameters
  deriving DecidableEq, Repr

/-- R288: kinds of session. -/
inductive Kind where
  | data | owner | diagnostic
  deriving DecidableEq, Repr

/-- R287, R307: an open PARAM_WRITE chain. -/
structure Chain where
  tag : U32            -- 32 | R287 (10) | - | host tag
  table : Nat          -- 8 | R307 (11) | - | table ID
  bytes : List Byte    -- 1 MiB | R306 (11) | - | image bytes so far
  deriving DecidableEq, Repr

/-- R114: a pin held by a session. -/
structure Pin where
  handle : Nat         -- 32 | R312 (11) | - | handle
  region : Nat         -- 16 | R311 (11) | - | region
  offset : Nat         -- 64 | R311 (11) | - | offset
  length : Nat         -- 64 | R311 (11) | - | length
  deriving DecidableEq, Repr

structure Session where
  num : Nat            -- 16 | R288 (10) | - | session number
  ch : Chan            -- - | R288 (10) | - | its channel
  kind : Kind          -- 2 | R288 (10) | - | kind
  identity : Option (Nat × Nat) -- 16 | R288, R303 (10, 11) | - | head and LD-ID of a data session
  counters : List Nat  -- 6 x 32 | R295 (10) | - | error counters, saturating
  outstanding : List U32 -- 32 | R291 (10) | - | host tags of requests not yet answered
  chain : Option Chain -- - | R307 (11) | - | open PARAM_WRITE chain
  pins : List Pin      -- 256 | R114, R299 (04, 11) | - | pins
  prefetches : List Nat -- 4,096 | R115 (04) | - | pages queued for prefetch
  deriving DecidableEq, Repr

/-- R283, R286: a channel that has state. -/
structure Channel where
  ch : Chan            -- - | R283 (10) | - | its name
  rx : List Byte       -- 132 KiB | R280, R283 (10) | - | received bytes not yet consumed
  scan : Bool          -- 1 | R286 (10) | - | scan mode
  counters : List Nat  -- 6 x 32 | R295 (10) | - | counted while no session is open
  discarded : Nat      -- 64 | R295 (10) | - | discarded bytes
  replies : List Byte  -- 256 KiB | R280 (10) | - | reply stream of a mailbox channel
  held : List Reply    -- 16 | R293 (10) | - | newest progress report of each operation that waits for room in a full reply queue
  lastUse : Nat        -- - | R282 (10) | - | order of last use, for UDP replacement
  deriving DecidableEq, Repr

/-- R291: a packet that has arrived and not started. -/
structure Arrived where
  ch : Chan            -- - | R291 (10) | - | channel
  tag : U32            -- 32 | R277 (10) | - | host tag
  opcode : U16         -- 16 | R277 (10) | - | opcode
  urgent : Bool        -- 1 | R292 (10) | - | urgent flag
  more : Bool          -- 1 | R287 (10) | - | more-follows
  params : List Byte   -- - | R277 (10) | - | parameters
  number : Nat         -- 64 | R291 (10) | - | arrival number
  deriving DecidableEq, Repr

/-- R293: what a long operation is. -/
inductive LongKind where
  | release (region head ld : Nat)
  | shrink (region : Nat) (size : Nat)
  | mirrorOn (region : Nat)
  | resync (region : Nat)
  | d0fill (region : Nat)
  | add (channels : List Nat)
  | drain (channels : List Nat)
  | zero (region : Nat)
  | flush (region : Nat)
  | snapshot (region eb ee : Nat)
  | attach
  | learn
  | rehearse (size : Nat)
  | test (unit : UnitId)
  | offline (channel : Nat)
  | fwErase
  | fwVerify
  deriving DecidableEq, Repr

structure LongOp where
  kind : LongKind      -- - | R293 (10) | - | the operation
  session : Nat        -- 16 | R293 (10) | - | issuing session
  ch : Chan            -- - | R293 (10) | - | its channel
  opcode : U16         -- 16 | R293 (10) | - | original opcode
  tag : U32            -- 32 | R293 (10) | - | original host tag
  done : Nat           -- 64 | R293 (10) | - | done
  total : Nat          -- 64 | R293 (10) | - | total
  unit : Nat           -- 32 | R293 (10) | - | 0 bytes, 1 pages, 2 ms, 3 steps
  fault : Option Nat := none -- 16 | R87 (03) | - | channel whose format failed
  poisoned : Nat := 0  -- - | R437 (17) | - | poisoned pages that it moved
  deriving DecidableEq, Repr

/-- R421: ready state. -/
inductive Ready where
  | below | core | lift | service | maintenance | recovery
  deriving DecidableEq, Repr

/-- R300, R304: seal state. -/
inductive Seal where
  | notSealed | sealed | unsealed
  deriving DecidableEq, Repr

/-- R75, R265: a region change that waits for an epoch boundary. -/
inductive Change where
  | create (num : Nat) (size : Nat) (flags : U32) (runs : List (Nat × Nat))
  | destroy (num : Nat)
  | grow (num size : Nat) (runs : List (Nat × Nat))
  | shrinkDone (num size : Nat)
  | setFlags (num : Nat) (flags : U32)
  | grant (num head ld : Nat) (access : Access)
  | bindKey (num slot : Nat)
  | snapshotBegin (num : Nat)
  | snapshotEnd (num : Nat)
  | watermark
  | gpf (head : Nat)
  | handover (num : Nat) (toTwin : Bool)
  | force (num : Nat)
  | takeover (num : Nat)
  | detach
  | align (epoch : Nat)
  | insync (num : Nat)
  | sealGrants
  deriving DecidableEq, Repr

/-- A change and the packet that is answered when it is done (none for a request that is no packet). -/
structure Joined where
  change : Change      -- - | R75 (03) | - | the change
  req : Option (Req × U16 × Nat) -- - | R75 (03) | - | packet, opcode and session to answer
  deriving DecidableEq, Repr

/-- R34, R36: a running close. -/
structure Close where
  epoch : Nat          -- 64 | R34 (01) | - | epoch being closed
  joined : List Joined -- - | R36, R75 (01, 03) | - | changes that take effect at its boundary
  started : Nat        -- 64 | R34 (01) | - | time of phase 1
  localDone : Bool     -- 1 | R259 (09) | - | this device has drained; CLOSE sent
  peerDone : Bool      -- 1 | R259 (09) | - | the twin's CLOSE has arrived
  couch : Bool         -- 1 | R36 (01) | - | the Couch's own close
  deriving DecidableEq, Repr

/-! ### DRAM -/

/-- R153, R304: states of a DRAM channel. -/
inductive DramSt where
  | absent | training | online | vacating | offline | failed
  deriving DecidableEq, Repr

/-- R137: DIMM bands. -/
inductive DimmBand where
  | normal | hot | restricted
  deriving DecidableEq, Repr

/-- R128: a bank of a channel: subchannel, rank, bank group and bank in one number, with its open row and predictor. -/
structure Bank where
  id : Nat             -- - | R128, R129 (05) | - | subchannel * 1024 + rank * 32 + bank * 8 + bank group
  openRow : Option Nat -- 17 | R135 (05) | - | open row
  lastRow : Nat        -- 17 | R135 (05) | - | row of the last column command
  predictor : Nat      -- 2 | R135 (05) | - | saturating counter
  judged : Bool        -- 1 | R135 (05) | - | the last column command has moved the counter, or there was none
  hits : Nat           -- 5 | R133 (05) | - | consecutive hits served in the open row
  postponed : Nat      -- 3 | R139 (05) | - | refreshes postponed, 0 to 4 (5 while CCH commands wait)
  pulledIn : Nat       -- 3 | R139 (05) | - | refreshes pulled in, 0 to 4
  tracker : List (Nat × Nat) -- 16 | R140 (05) | - | rows and activation counts
  neighbour : Nat      -- - | R140 (05) | - | neighbour refreshes in this window
  told : Bool          -- 1 | R140 (05) | - | this window's event was logged
  acts : Nat           -- - | R140 (05) | - | activations since the last RFM command
  rfms : Nat           -- - | R140 (05) | - | RFM commands issued in this window
  deriving DecidableEq, Repr

/-- R132, R134: a queued request of a DRAM channel. -/
structure DramReq where
  line : Nat           -- 41 | R134 (05) | - | line address
  write : Bool         -- 1 | R132 (05) | - | write queue, or read queue
  curd : Bool          -- 1 | R94 (04) | - | fills a Curd line
  data : Line          -- 513 | R134 (05) | - | what a read returns in its order, or a write writes
  rmw : Bool           -- 1 | R146 (05) | - | a partial write whose burst has not yet been read
  since : Nat          -- 64 | R133 (05) | - | time of its acceptance
  deriving DecidableEq, Repr

structure Dram where
  st : DramSt          -- 3 | R153 (05) | ABSENT | state
  cause : Nat          -- 8 | R126, R153 (05) | 0 | cause of FAILED: 0 none, 1 UNSUPPORTED, 3 parity, 4 hub or DIMM, 5 uncorrectable rate, 0x10 + k training step k (log entry 136)
  dimms : Option Dimms -- - | R125 (05) | none | population read from the SPD hubs
  step : Nat           -- 3 | R141 (05) | 0 | training step reached
  verify : Bool        -- 1 | R142 (05) | false | a verification pass runs
  results : Option Nat -- - | R142 (05) | none | training results in SV, by SPD contents; kept while VAO is up
  mapping : Nat        -- 2 | R131 (05) | 2 | mapping mode in force
  reduced : Bool       -- 1 | R127, R143 (05) | false | runs at the reduced bin
  rate : Nat           -- 13 | R127 (05) | 0 | data rate in force, MT/s; the island clock is a quarter of it
  timing : Nat         -- 2 | R137 (05) | 0 | timing set in force: 0 A, 1 B, 2 C, 3 D
  writing : List Nat   -- 2 | R133 (05) | [] | subchannels that issue writes until 16 are left
  columns : List (Nat × Nat) -- - | R138 (05) | [] | column commands of the last 1 µs: subchannel, time
  changing : Bool      -- 1 | R143 (05) | false | frequency change running
  changeAt : Nat       -- 64 | R143 (05) | 0 | its start; what arrives later waits on the Wire
  target : Bool        -- 1 | R143 (05) | false | bin it changes to: reduced
  band : DimmBand      -- 2 | R137 (05) | NORMAL | DIMM band
  mr4 : List (Nat × Option Int) -- - | R137, R369 (05, 14) | none | MR4 temperature by rank, 0.1 degC
  share : Nat          -- - | R157 (05) | 0 | locations of the directory cache area on this channel
  shareTo : Nat        -- - | R157 (05) | 0 | locations that its share grows or shrinks to
  zeroTo : Nat := 0    -- - | R112 (04) | 0 | slots of its share that the background zeroing has passed
  caFails : Nat        -- 3 | R147 (05) | 0 | consecutive command/address parity failures
  held : Bool          -- 1 | R147 (05) | false | requests held during a verification retrain
  marks : List (Nat × Nat) -- - | R148 (05) | [] | marked devices: rank and subchannel, device
  corr : List (Nat × Nat × Nat) -- - | R148 (05) | [] | corrections of the last 24 h: rank and subchannel, device, time
  rowCorr : List (Nat × Nat × Nat) -- - | R148 (05) | [] | corrections of the last 24 h: row and subchannel, device, time
  badRows : List (Nat × Nat) -- - | R153 (05) | [] | rows with an uncorrectable error in the last second, with its time
  neighbourLogged : Option Nat -- 64 | R140 (05) | none | time of the last neighbour refresh event
  neighbours : Nat     -- - | R140 (05) | 0 | neighbour refreshes of the channel
  repair : List (Nat × Nat × Nat) -- - | R148, R151 (05) | [] | candidate rows, the step of R151 reached, and the failing device
  sppr : List (Nat × Nat) -- - | R151 (05) | [] | rows under a soft repair and the device, until power-off
  hppr : List (Nat × Nat) -- - | R151 (05) | [] | rows under a hard repair and the device, for good
  offlineLost : Bool   -- 1 | R153 (05) | false | a Couch commit ended the vacating; the Lift reports it
  withheld : List Nat  -- - | R148, R151 (05) | [] | rows (bank and row as one number) withheld
  ranksOut : List Nat  -- - | R148 (05) | [] | ranks vacated until power-off
  banks : List Bank    -- - | R135, R139, R140 (05) | [] | banks that hold state
  queue : List DramReq -- 64 + 64 | R132 (05) | [] | read and write queues, oldest first
  lost : Bool          -- 1 | R153, R380 (05, 14) | false | SPD hub lost
  asleep : List Nat := [] -- 32 | R231 (08) | [] | ranks in self-refresh during a Couch
  deriving DecidableEq, Repr

/-! ### Ream -/

/-- R87, R304: states of a flash channel. -/
inductive FlashSt where
  | absent | present | adding | online | draining | drained | failed
  deriving DecidableEq, Repr

/-- R183: carrier bands, in the order of R385. -/
inductive CarrierBand where
  | belowM10 | m10to0 | home | above70 | above85
  deriving DecidableEq, Repr

/-- R167: segment types. -/
inductive Seg where
  | home | directory | rootLog | stage | image | summary | regionMeta | chanMeta
  deriving DecidableEq, Repr

/-- R167, R180, R181: a block that holds state; a block not listed, or of sequence 0, is erased. `id` is a location (R164) with slot, plane's
low bits kept, and page zero, less its channel. -/
structure Block where
  id : Nat             -- 33 | R164 (06) | - | location bits below the channel, >> 2, page 0
  seg : Seg            -- 8 | R167 (06) | - | segment type
  closed : Bool        -- 1 | R167 (06) | - | closed
  sequence : Nat       -- 64 | R167 (06) | - | block sequence
  generation : Nat     -- 32 | R167 (06) | - | Couch generation, or 0
  erasing : Bool       -- 1 | R173 (06) | - | an erase runs or is queued
  bad : Bool           -- 1 | R180 (06) | - | factory or grown bad
  suspect : List Nat   -- 64 | R176, R180 (06) | - | times of its step-3 recoveries of the last 24 h
  erases : Nat         -- - | R181 (06) | - | erase count
  eraseSince : Nat     -- 64 | R177 (06) | - | time at which its erase was queued
  suspends : Nat       -- 2 | R177 (06) | - | times that its erase has been suspended
  closedAt : Nat       -- 64 | R179 (06) | - | time at which it was closed
  header : List Byte   -- 64 x 8 | R167 (06) | - | segment header of its header slot, empty when erased
  copy : List Byte := [] -- 64 x 8 | R167 (06) | - | its copy at bytes 2,048 to 2,111
  used : Nat := 0      -- 14 | R165 (06) | - | slots of it that have been programmed; new data never overwrites old
  patrolled : Option Nat := none -- 64 | R181 (06) | - | time of its last patrol read
  temp : Int := 250    -- 16 | R183 (06) | - | temperature of its carrier at its last program, 0.1 degC
  deriving DecidableEq, Repr

/-- R169: a stripe: the blocks at one position across a group's ONLINE channels. -/
structure Stripe where
  group : Nat          -- 2 | R169 (06) | - | parity group
  seg : Seg            -- 8 | R167, R169 (06) | - | segment type of its blocks
  seq : Nat            -- 64 | R167, R169 (06) | - | stripe sequence
  width : Nat          -- 4 | R169 (06) | - | channels at its opening
  parity : Nat × Nat   -- - | R169 (06) | - | parity member: channel and block
  members : List (Nat × Nat) -- 4 to 12 | R169 (06) | - | channels and blocks that are not yet erased, parity included
  closed : Bool        -- 1 | R169, R170 (06) | - | takes no more slots
  deriving DecidableEq, Repr

structure Flash where
  st : FlashSt         -- 3 | R87 (03) | ABSENT | state
  cause : Nat          -- 8 | R159, R160, R186 (06) | 0 | cause of FAILED: 0 none, 1 UNSUPPORTED, 2 training, 3 removed, 4 targets, 5 offline
  targets : Option Targets -- - | R158, R162 (06) | none | what its targets declare
  found : Option ChanMeta -- - | R185 (06) | none | channel metadata
  slow : Bool          -- 1 | R160 (06) | false | 1800 MT/s fall-back
  deadTargets : List Nat -- 8 | R161, R186 (06) | [] | failed targets
  overruns : List NandOp -- - | R161 (06) | [] | operations that overran once and were issued again
  band : CarrierBand   -- 3 | R183 (06) | 0 to 70 degC | band of its carrier (assumed 25.0 degC, R381)
  reserveReady : Bool  -- 1 | R219 (08) | false | Couch reserve formatted
  joined : Bool := false -- 1 | R50, R87 (02, 03) | false | in the Couch set's choice since a recompute of the bound
  stageReady : Bool    -- 1 | R222 (08) | false | stages formatted
  removed : Bool       -- 1 | R87 (03) | false | removed
  drainMark : Bool     -- 1 | R87, R185 (03, 06) | false | draining mark in the channel's metadata
  addStep : Nat        -- 3 | R188 (06) | 0 | step of the format
  level : Nat := 0     -- - | R183 (06) | 0 | read-retry level that its reads use
  leftHome : Option Nat -- 64 | R183 (06) | none | time at which its carrier left the home window, while it is outside
  blocks : List Block  -- - | R167 (06) | [] | blocks that hold state
  nextSeq : Nat        -- 64 | R167 (06) | 1 | next block sequence
  lost : Nat           -- - | R182 (06) | 0 | extents its share has fallen by
  deriving DecidableEq, Repr

/-- R165, R166: a data slot of the Ream, by its location. The tag's line poison mask is the poison of its lines. -/
structure Slot where
  loc : BitVec 40      -- 40 | R164 (06) | - | location
  page : Nat           -- 48 | R166 (06) | - | page number
  region : Nat         -- 16 | R166 (06) | - | region
  epoch : Nat          -- 64 | R166 (06) | - | epoch of the newest write in it
  keySlot : Nat        -- 10 | R166 (06) | - | key slot
  keyGen : Nat         -- 32 | R166, R359 (06, 13) | - | key generation, whose low 2 bits stand in the key word
  cipher : Bool        -- 1 | R166 (06) | - | cipher on
  generation : Nat     -- 32 | R166 (06) | - | Couch generation, or 0
  data : PageData      -- 4 KiB | R165 (06) | - | its lines, as deciphered with its own key
  deriving DecidableEq, Repr

/-- R171: a stage record. -/
structure StageRec where
  line : Nat           -- 41 | R171 (06) | - | line address
  data : Line          -- 513 | R171 (06) | - | data and poison
  epoch : Nat          -- 22 | R171 (06) | - | epoch of the write, whose low 22 bits stand in its line tag
  block : Nat := 0     -- 64 | R171 (06) | - | sequence of the stage block that holds it, once programmed
  order : Nat          -- - | R171 (06) | - | order of block sequence, page, slot and record
  valid : Bool         -- 1 | R479 (06) | - | not yet made invalid by cleaning
  programmed : Bool    -- 1 | R171 (06) | - | both copies are programmed
  deriving DecidableEq, Repr

/-- R171: a stage block, on channel c and on channel (c + 12) modulo 48. -/
structure StageBlock where
  seq : Nat            -- 64 | R167, R171 (06) | - | block sequence
  channel : Nat        -- 6 | R171 (06) | - | c
  pages : Nat          -- 12 | R171 (06) | - | 16 KiB pages programmed
  limit : Nat          -- 12 | R162, R168 (06) | - | pages that it takes
  deriving DecidableEq, Repr

/-- R238, R239: an image generation. -/
structure Generation where
  num : Nat            -- 32 | R236 (08) | - | generation number
  openEpoch : Nat      -- 64 | R238 (08) | - | closed epoch of its records
  manifest : List Nat  -- - | R237 (08) | - | directory pages charged at commit
  pages : List (Nat × BitVec 40 × U32 × Bool) -- - | R237, R242 (08) | - | page, slot, epoch, poison, in save order
  leftOut : Nat        -- 64 | R238 (08) | - | pages left out
  flags : U8           -- 8 | R238 (08) | - | seal flags
  sealed : Bool        -- 1 | R239 (08) | - | a valid seal copy exists
  opened : Bool        -- 1 | R239 (08) | - | a valid open record exists
  previous : Nat       -- 32 | R238 (08) | - | newest unfolded generation at commit, or 0
  commitTime : Nat     -- 64 | R238 (08) | - | commit time
  counted : Bool       -- 1 | R63 (02) | - | a LIFT record has counted it
  stageMark : Nat := 0 -- - | R479 (06) | - | stage records gathered before its commit, which its pages hold
  width : Nat := 0     -- 4 | R169, R173 (06) | - | stripe width at its commit
  records : List (List Byte) := [] -- 4 x 512 | R237, R238 (08) | - | standalone copies of the open and seal records
  deriving DecidableEq, Repr

/-! ### Felt -/

/-- R258: pair states. -/
inductive Pair where
  | detached | linking | attached | twinDown
  deriving DecidableEq, Repr

/-- R250: a link. -/
inductive LinkSt where
  | held | down | fastRetrain | fullTrain | trained | up
  deriving DecidableEq, Repr

/-- R254, R256: what the device has sent on Felt. -/
inductive FeltMsg where
  | mirrorWrite (region : Nat) (epoch : U32) (lineIndex : Nat) (tag : U16) (data : LineData) (be : BitVec 64) (poison : Bool)
  | mirrorAck (tags : List U16)
  | epochEnd (epoch origin count : Nat)
  | epochApplied (epoch : Nat)
  | twinRead (region : Nat) (lineIndex : Nat) (tag : U16)
  | twinReadData (tag : U16) (data : Line)
  | notResident (tag : U16)
  | pageCopy (region : Nat) (page : Nat) (epoch : U32) (tag : U16) (data : PageData)
  | pageAck (region : Nat) (page : Nat)
  | pageZero (region : Nat) (page : Nat) (epoch : U32) (tag : U16)
  | burstAbort (tag : U16)
  | mirrorRefused (region : Nat) (tags : List U16)
  | hello (current closed : Nat)
  | regionList (number : Nat) (entries : List ListEntry)
  | status (pressure : Nat) (energy : Energy) (closed mirrored sentAt : Nat)
  | commitNotice (time epoch : Nat)
  | regionOp (region : Nat) (op : RegionOpKind)
  | tokenOp (region : Nat) (kind : TokenKind) (generation : U32)
  | close (epoch : Nat)
  | detach
  | listRequest (number : Nat)
  deriving DecidableEq, Repr

structure Link where
  st : LinkSt          -- 3 | R250 (09) | held down | state
  session : Nat        -- 32 | R250 (09) | 0 | link session number
  rxSeq : Nat          -- 12 | R251 (09) | 0 | next flit sequence expected
  txSeq : Nat          -- 12 | R251 (09) | 0 | next flit sequence to send
  retryBuf : List Nat  -- 256 | R252 (09) | [] | sequences sent and not acknowledged
  replayed : List (Nat × Nat) -- - | R250 (09) | [] | consecutive replays by flit
  tagFails : Nat       -- 2 | R252 (09) | 0 | tag failures in a row
  replays : Nat        -- 16 | R315 (11) | 0 | flit replays since reset
  aborts : Nat         -- 16 | R315 (11) | 0 | burst aborts since reset
  flits : Nat          -- 56 | R252 (09) | 0 | flits sent in the session
  dataCredits : Nat    -- 11 | R254 (09) | 1024 | DATA pool credits, in units of 64 B
  ctlCredits : Nat     -- 5 | R254 (09) | 32 | CTL pool credits
  mapped : Bool        -- 1 | R261 (09) | false | in the mapping
  fullFails : List Nat -- - | R449 (17) | [] | times of the failed full trainings of the last 60 s
  discarded : Nat      -- - | R251, R255 (09) | 0 | flits, messages and fragments discarded and counted
  nextTag : Nat        -- 16 | R253 (09) | 0 | next message tag
  authentic : Bool := false -- 1 | R250 (09) | false | a flit of this session has passed its CRC and its tag
  queue : List FeltMsg -- - | R261 (09) | [] | messages sent and not yet acknowledged, then messages not yet sent
  unsent : Nat         -- - | R261 (09) | 0 | messages at the end of the queue not yet sent
  deriving DecidableEq, Repr

/-- R255: a partial burst. -/
structure Burst where
  link : Nat           -- 3 | R255 (09) | - | link
  tag : U16            -- 16 | R255 (09) | - | message tag
  region : Nat         -- 16 | R253 (09) | - | region
  page : Nat           -- - | R254 (09) | - | page within the region
  epoch : U32          -- 32 | R253 (09) | - | epoch
  data : PageData      -- 4 KiB | R255 (09) | - | fragments held
  count : Nat          -- 7 | R255 (09) | - | fragments received
  deriving DecidableEq, Repr

/-- R58, R264: a staged ASYNC write of the follower. -/
structure StagedAsync where
  epoch : Nat          -- 64 | R58 (02) | - | its epoch
  origin : Nat         -- 3 | R264 (09) | - | link it came on
  region : Nat         -- 16 | R253 (09) | - | region
  line : Nat           -- - | R253 (09) | - | line index within the region
  data : LineData      -- 512 | R254 (09) | - | data
  be : BitVec 64       -- 64 | R254 (09) | - | byte enables
  poison : Bool        -- 1 | R253 (09) | - | poison
  deriving DecidableEq, Repr

/-! ### Salometer -/

/-- R208, R317: learning phases. -/
inductive Phase where
  | none | charging | discharge | recharge
  deriving DecidableEq, Repr

/-- R197: the identity block. -/
structure PackId where
  chemistry : Nat      -- 8 | R197 (07) | - | class
  cells : Nat          -- 8 | R197 (07) | - | series cells
  ratedJ : Nat         -- 32 | R197 (07) | - | rated energy, J
  ratedMah : Nat       -- 16 | R197 (07) | - | rated capacity, mAh
  cutoffMv : Nat       -- 16 | R197 (07) | - | cutoff voltage, mV
  chargeMv : Nat       -- 16 | R197 (07) | - | charge voltage, mV
  maxCurrent : Nat     -- 16 | R197 (07) | - | maximum discharge current, 10 mA
  packId : Nat         -- 64 | R197 (07) | - | pack ID
  usable : Bool        -- 1 | R197, R198 (07) | - | no value makes it "not vouched for"
  deriving DecidableEq, Repr

/-- R209: a learned record. -/
structure Learned where
  high : Bool          -- 8 | R209 (07) | - | confidence HIGH
  packId : Nat         -- 64 | R209 (07) | - | pack ID
  qmax : Nat           -- 32 | R209 (07) | - | mC
  fR : Nat             -- 32 | R209 (07) | - | 16.16
  time : Nat           -- 64 | R209 (07) | - | learn time, ns
  temp : Int           -- 16 | R209 (07) | - | learn temperature, 0.01 degC
  cycles : Nat         -- 16 | R209 (07) | - | equivalent full cycles since learning
  shunt : Nat          -- 32 | R209 (07) | - | nOhm
  divider : Nat        -- 32 | R209 (07) | - | 16.16
  sequence : Nat       -- 32 | R209 (07) | - | sequence
  deriving DecidableEq, Repr

/-! ### Cipher -/

/-- R350, R351: a bank of the starter key array. -/
inductive KeyBank where
  | blank
  | consumed                       -- non-blank without a valid marker
  | valid (key : BitVec 256)
  deriving DecidableEq, Repr

/-- R357: states of a key slot that is not FREE. -/
structure KeySlot where
  slot : Nat           -- 10 | R357 (13) | - | slot
  region : Nat         -- 16 | R357 (13) | - | region bound
  retired : Bool       -- 1 | R357 (13) | - | RETIRED, or BOUND
  generation : Nat     -- 32 | R359 (13) | - | current generation
  usage : Nat          -- 64 | R360 (13) | - | blocks enciphered under it
  sweep : Bool         -- 1 | R360 (13) | - | the re-key sweep runs
  exhausted : Bool     -- 1 | R360 (13) | - | usage reached 4 x L with g - 1 live
  inflight : Nat       -- - | R357, R360 (13) | - | cipher requests in flight
  recorded : Nat       -- 64 | R361 (13) | - | usage that the region metadata records
  keys : List (Nat × List Byte) -- 2 x 512 | R357, R365 (13) | - | derived keys of the live generations, as CX holds them
  deriving DecidableEq, Repr

/-- R365: a request that waits for a cipher core. -/
structure CipherReq where
  slot : Option Nat    -- 10 | R365 (13) | - | key slot, none for the queue of stage keys
  gen : Nat            -- 32 | R360 (13) | - | generation that tags it
  level : Nat          -- 3 | R365 (13) | - | priority, 1 first
  since : Nat          -- 64 | R365 (13) | - | time at which it was queued
  deriving DecidableEq, Repr

/-! ### Cave -/

/-- R369 to R374: a sensor. -/
structure Sensor where
  filter : List Int    -- 16 | R370 (14) | [] | last samples passed or replaced, newest first, 0.1 degC
  reading : Option Int -- - | R370 (14) | none | filtered reading, 0.1 degC
  raw : Option Int     -- - | R373 (14) | none | last raw reading
  crossed : Bool       -- 1 | R373 (14) | false | excluded by the cross-check, flag [0]
  commanded : Bool     -- 1 | R374 (14) | false | excluded by command, flag [1]
  polled : Bool        -- 1 | R371 (14) | false | polled fall-back, flag [2]
  failed : Bool        -- 1 | R371 (14) | false | failed
  deviating : Nat      -- 2 | R373 (14) | 0 | deviating samples in a row
  agreeing : Nat       -- - | R373 (14) | 0 | samples within 3.0 degC while excluded
  exclusions : Nat     -- 2 | R373 (14) | 0 | cross-check exclusions since power-up
  history : List (Nat × Int) -- - | R375, R376 (14) | [] | filtered readings of the last second, with their times
  deriving DecidableEq, Repr

/-- R377: Tj bands. -/
inductive TjBand where
  | normal | warn | throttle | critical
  deriving DecidableEq, Repr

/-! ### Power -/

/-- R227: orchestrator states. -/
inductive Orch where
  | serving | armed | committed | lifting | down
  deriving DecidableEq, Repr

/-- R390, R392: what the sequencer is doing. -/
inductive SeqPhase where
  | off                -- VAO absent, or SV in reset
  | waitInput          -- step 2
  | waitCool           -- step 3
  | waitGrant          -- step 4
  | rails (position : Nat)      -- step 5, at this sequence position
  | settle             -- step 6 to 7, all power-good
  | booting            -- step 7 on, below READY.CORE
  | running            -- READY.CORE or beyond
  | powerDown (rails : List Nat) -- R392, rails still to fall, in their order
  | offTime            -- R393
  | stayDown           -- R394, R396: waits for input to go and come back, VAO, or the button
  deriving DecidableEq, Repr

/-- R394, R404: why the device goes DOWN, in the order of the DOWN record's causes. -/
inductive DownCause where
  | inputAbsent | cold | orderly | fault | thermal
  deriving DecidableEq, Repr

structure Rail where
  enabled : Bool       -- 1 | R386 (15) | false | SV_ENe
  good : Bool          -- 1 | R386, R395 (15) | false | judged ON
  failed : Bool        -- 1 | R395 (15) | false | failed
  deriving DecidableEq, Repr

/-- R404: a Rind record. -/
structure Rind where
  type : Nat           -- 8 | R404 (15) | - | record type
  flags : U8           -- 8 | R404 (15) | - | flags
  rail : Nat           -- 8 | R401, R481 (15) | - | first failing rail
  energy : Energy      -- 8 | R404 (15) | - | energy state
  time : Nat           -- 64 | R404 (15) | - | timestamp
  generation : Nat     -- 32 | R404 (15) | - | Couch generation, or 0
  sequence : Nat       -- 64 | R404 (15) | - | record sequence
  slot : Nat           -- - | R403 (15) | - | slot, counted from the first ever written; the ring's slot is its remainder
  epoch : Nat          -- 64 | R404 (15) | - | closed epoch
  dirtyCount : Nat     -- 32 | R408 (15) | - | dirty shutdown count
  pg : BitVec 24       -- 32 | R404 (15) | - | power-good snapshot
  sns : U16            -- 16 | R404 (15) | - | sense snapshot
  en : U16             -- 16 | R404 (15) | - | enable snapshot
  detail : Nat         -- 64 | R404 (15) | - | detail
  mark : U32           -- 32 | R404, R405 (15) | - | completion mark
  deriving DecidableEq, Repr

/-! ### Ledger and firmware -/

/-- R413, R416: an operation of the command machine that waits. -/
inductive LedgerOp where
  | program (address : Nat) (data : U16)
  | erase (address : Nat) (key : U16)
  | identify
  deriving DecidableEq, Repr

/-- R413: the command machine. -/
inductive LedgerSt where
  | read | unlock1 | unlock2 | program | erase | identify
  | busyProgram (address : Nat) (data : U16)
  | busyErase (sector : Nat)
  deriving DecidableEq, Repr

/-- R426: an activation or trial record (both copies as one, with what each copy shows). -/
structure Activation where
  kind : Nat           -- 8 | R426 (16) | - | 1 ACTIVATE, 2 REVERT, 3 FACTORY, 4 RECOVERY
  slotB : Bool         -- 8 | R426 (16) | - | slot to boot
  now : Bool           -- 8 | R426 (16) | - | mode
  sequence : Nat       -- 64 | R426 (16) | - | sequence
  version : U32        -- 32 | R426 (16) | - | image version
  size : Nat           -- 32 | R426 (16) | - | image size
  digest : Nat         -- 256 | R426 (16) | - | digest
  boots : Nat          -- 16 | R426 (16) | - | boots counted, 0 to 3
  confirmed : Bool     -- 16 | R426 (16) | - | confirm mark 0x0000
  deriving DecidableEq, Repr

/-- R323, R432: state of a firmware slot. -/
inductive SlotSt where
  | erased | erasing | downloading | complete | verified | pending | invalid
  deriving DecidableEq, Repr

structure FwSlot where
  st : SlotSt          -- 8 | R323, R432 (11, 16) | - | state
  image : Option ImageInfo -- - | R423 (16) | - | what its image declares, once checked
  declared : Nat       -- 32 | R323 (11) | - | declared size
  received : Nat       -- 32 | R323 (11) | - | bytes downloaded
  bytes : List Byte    -- 24 MiB | R423 (16) | - | bytes downloaded
  deriving DecidableEq, Repr

/-! ### Log -/

/-- R439: an event record. -/
structure EventRec where
  sequence : Nat       -- 64 | R439 (17) | - | sequence
  time : Nat           -- 64 | R439 (17) | - | timestamp
  occ : Occurrence     -- - | R439 (17) | - | class to address, detail
  flags : U8           -- 8 | R439 (17) | - | flags
  count : Nat          -- 32 | R439 (17) | - | occurrences
  last : Nat           -- 64 | R439 (17) | - | last time
  acked : Bool         -- 1 | R445 (17) | - | acknowledged
  reserve : Bool       -- 1 | R444 (17) | - | stands in the FATAL reserve
  deriving DecidableEq, Repr

/-- R441: an event at the event port of its island, on its way to the service engines. -/
structure PortEvent where
  island : Island      -- - | R441 (17) | - | island whose port holds it
  occ : Occurrence     -- - | R440 (17) | - | the event
  time : Nat           -- 64 | R439 (17) | - | time of its occurrence
  deriving DecidableEq, Repr

/-- R442: an open, pending or waiting coalescing window. -/
structure Window where
  occ : Occurrence     -- - | R442 (17) | - | key, and address of the first occurrence
  first : Nat          -- 64 | R442 (17) | - | time of the first occurrence
  last : Nat           -- 64 | R442 (17) | - | time of the last
  count : Nat          -- 32 | R442 (17) | - | occurrences not yet recorded
  closed : Bool        -- 1 | R442 (17) | - | closed; its summary waits for a token
  deriving DecidableEq, Repr

/-- R322, R450: a unit of class 0x1, 0x2, 0x5, 0x6 or 0x7. -/
inductive UnitSt where
  | inService | fenced | testing
  deriving DecidableEq, Repr

structure Unit_ where
  st : UnitSt          -- 2 | R450 (17) | IN_SERVICE | state
  result : Nat         -- 2 | R322 (11) | 0 | last test: 0 none, 1 pass, 2 fail
  corr : Nat           -- 32 | R449 (17) | 0 | correctable count
  uncorr : Nat         -- 32 | R449 (17) | 0 | uncorrectable count
  deriving DecidableEq, Repr

/-- R14, R304: roles of an engine. -/
inductive Role where
  | ream | tier | port | felt | couch | management | service | spare | fenced
  deriving DecidableEq, Repr

structure Engine where
  role : Role          -- 8 | R14, R304 (01, 11) | R14 | role
  instance_ : Nat      -- 8 | R304 (11) | R14 | instance, 255 for spare and fenced
  unit : Unit_         -- - | R450 (17) | IN_SERVICE | fence state and counts
  failing : Bool       -- 1 | R19 (01) | false | kept in use though failing
  resuming : Bool      -- 1 | R17 (01) | false | a spare that has not resumed its role
  work : List Beat     -- - | R17, R18 (01) | [] | work queue: beats issued for its items in progress, not yet answered, oldest first
  deriving DecidableEq, Repr

/-- R451: a running injection. -/
structure Injection where
  unit : UnitId        -- - | R451 (17) | - | unit
  kind : Nat           -- 3 | R451 (17) | - | kind
  left : Nat           -- 8 | R451 (17) | - | injections left
  dpa : Nat            -- 64 | R451 (17) | - | DPA, or 0
  deriving DecidableEq, Repr

/-- R448: a trace. -/
structure Trace where
  unit : U16           -- 16 | R448 (17) | - | traced unit, 0 for all
  mask : U32           -- 32 | R448 (17) | - | class mask
  running : Bool       -- 1 | R448 (17) | - | capturing
  kib : Nat            -- 32 | R448 (17) | - | buffer taken, KiB
  entries : List (Nat × Beat × U16 × Bool) -- - | R448 (17) | - | time, beat, unit, sent; oldest first
  written : Nat        -- 64 | R448 (17) | - | entries written
  dropped : Nat        -- 64 | R448 (17) | - | entries dropped
  frames : List Nat    -- - | R448 (17) | - | frames taken
  staging : List ((Nat × Nat) × Nat) -- 16 per router | R448 (17) | - | captures staged at a router, and when each is in the buffer
  deriving DecidableEq, Repr

/-! ### What the device puts out -/

/-- One thing sent on a port of the device. -/
inductive Out where
  | readData (head ld hostTag : Nat) (data : Line)
  | writeDone (head ld hostTag : Nat)
  | noCredit (head : Nat)
  | retryResponse (page : Nat)
  | reply (ch : Chan) (r : Reply)
  | headerReply (ch : Chan) (bytes : List Byte) (status : Status) (detail : Nat)
  | segment (ch : Chan) (bytes : List Byte)
  | mailbox (head ld : Nat) (busy : Bool) (data : List Byte)
  | mctp (bus : Bus) (dest : Nat) (completion : Nat) (data : List Byte)
  | arp (ip : U32) (mac : BitVec 48)
  | icmp (ip : U32) (id seq : U16) (data : List Byte)
  | decoderResult (head ld index : Nat) (committed : Bool)
  | ldInfo (head count : Nat)
  | ldAllocations (head : Nat) (lds : List Nat)
  | unsupported (head : Nat)
  | extentList (head ld : Nat) (runs : List (Nat × Nat × Nat))
  | addCapacity (head ld region : Nat) (runs : List (Nat × Nat)) (readOnly shareable : Bool)
  | releaseCapacity (head ld region : Nat) (runs : List (Nat × Nat)) (forced : Bool)
  | gpfDone (head : Nat)
  | events (head ld log : Nat) (records : List CxlRecord) (overflow : Nat)
  | policy (head ld : Nat) (value : U32)
  | felt (link : Nat) (m : FeltMsg)
  | flitNak (link sequence : Nat)
  | flitReplay (link : Nat) (sequences : List Nat)
  | wireAccept (link : Nat)
  | wireNak (link : Nat)
  | wireResend (link : Nat) (b : Beat)
  | wireUndeliverable (link : Nat) (tag : BitVec 128)
  | wireForward (link : Nat) (b : Beat)
  | wireKeyError (link : Nat) (tag : BitVec 128)
  | ledgerWord (w : U16)
  | identityRead
  | interrupt (head ld log : Nat)
  | portReset (port : Nat)
  | jtag (executed : Jtag)
  deriving DecidableEq, Repr

/-! ### The subsystems (R8) -/

/-- R21: the outputs of a router: four neighbours, and the islands attached to it. -/
inductive Hop where
  | east | west | south | north
  | island (i : Island)
  deriving DecidableEq, Repr

/-- R12, R25: a beat that waits in a router's buffer for one of its outputs. -/
structure WireWait where
  router : Nat × Nat   -- - | R21 (01) | - | router, row and column
  hop : Hop            -- - | R21 (01) | - | output
  via : Nat            -- - | R25 (01) | - | link on which it came, whose buffer of its class it fills
  beat : Beat          -- - | R20 (01) | - | the beat
  since : Nat          -- 64 | R25 (01) | - | time of its arrival
  deriving DecidableEq, Repr

/-- R25: the arbiter of a router's output. -/
structure Arbiter where
  router : Nat × Nat   -- - | R25 (01) | - | router
  hop : Hop            -- - | R25 (01) | - | output
  last : Nat           -- 3 | R25 (01) | - | class that took the last round-robin slot
  sinceCtl : Nat       -- 3 | R25 (01) | - | slots since a CTL beat went
  deriving DecidableEq, Repr

/-- A direction of a Wire link as its sender sees it. -/
structure WireLink where
  no : Nat             -- - | R20 (01) | - | link
  failures : Nat       -- 3 | R28 (01) | - | consecutive failures of the beat being resent
  beat : Option Beat   -- - | R28 (01) | - | the beat being resent
  retry : List Beat    -- 16 | R28 (01) | - | retry buffer: beats sent and not yet accepted, oldest first
  beats : List Nat     -- - | R29 (01) | - | times of the beats of the last 1 s
  retries : List Nat   -- - | R29 (01) | - | times of the retries of the last 1 s
  logged : Option Nat  -- 64 | R29 (01) | - | time of the last retry-rate event
  fenced : Bool        -- 1 | R28 (01) | - | fenced
  deriving DecidableEq, Repr

structure Wire where
  links : List WireLink        -- - | R20, R28 (01) | [] | links that hold state
  waiting : List WireWait      -- - | R12, R25 (01) | [] | beats in the routers' class buffers, oldest first
  arbiters : List Arbiter      -- - | R25 (01) | [] | arbiters that have served a beat
  accepted : List (U16 × U16 × BitVec 4 × Nat) -- - | R23 (01) | [] | receiver, and source, class and sequence of a beat that it has accepted
  discards : Nat               -- - | R22, R24 (01) | 0 | beats discarded for address or class
  cchFirst : Bool              -- 1 | R25, R229 (01, 08) | false | CCH beats go strictly first
  redirect : List (Nat × Nat)  -- 160 | R16, R19 (01) | [] | role redirection table: fenced engine, engine that its messages go to
  changing : List Island       -- 117 | R12 (01) | [] | islands changing frequency
  clock : List (Island × Nat)  -- - | R10, R127, R160, R378 (01, 05, 06, 14) | [] | frequency step in force of the islands that run below their nominal clock
  unrouted : List Island       -- 117 | R13 (01) | [] | islands removed from routing and powered off
  offWait : List Island        -- 117 | R13 (01) | [] | islands whose power-off waits for the running close
  deriving DecidableEq, Repr

structure Cmd where
  channels : List Channel      -- - | R283 (10) | [] | channels
  sessions : List Session      -- 64 | R288 (10) | [] | sessions
  owner : Nat                  -- 16 | R288 (10) | 0 | session that holds ownership, 0 vacant
  arrived : List Arrived       -- - | R291 (10) | [] | packets arrived and not started
  arrivals : Nat               -- 64 | R291 (10) | 0 | arrival numbers given
  longOps : List LongOp        -- 16 | R293 (10) | [] | long operations
  challenges : Nat             -- 64 | R304 (11) | 0 | challenges drawn since power-up
  tables : List (Option (List Byte)) -- 15 | R328 (12) | 15 x none | images written, by table ID 1 to 15
  ready : Ready                -- 16 | R304, R421 (11, 16) | below READY.CORE | ready state
  sealSt : Seal                -- 8 | R301, R304 (11) | not sealed | seal state
  safe : Bool                  -- 1 | R347 (12) | true | the safe profile runs
  eids : List (Bus × U8)       -- 8 | R281 (10) | [] | endpoint IDs set
  mctpDiscards : Nat           -- - | R281 (10) | 0 | MCTP messages discarded and counted
  udpDiscards : Nat            -- - | R282 (10) | 0 | fragmented datagrams discarded and counted
  uses : Nat                   -- - | R282 (10) | 0 | channel uses, for least recent use
  resetRun : Nat               -- 3 | R40 (01) | 0 | widest reset running: 0 none, 1 + scope
  resetUnit : Option UnitId    -- 16 | R37, R40 (01) | none | unit whose reset of scope UNIT runs on
  resetPorts : List Nat        -- 16 | R37, R38 (01) | [] | ports whose accepted writes drain before their reset
  resetNext : List (Nat × Option UnitId) -- - | R40 (01) | [] | wider resets that wait for the running one: scope, and unit of scope UNIT
  injections : List Injection  -- - | R451 (17) | [] | running injections
  trace : Option Trace         -- - | R448 (17) | none | trace
  nextHandle : Nat             -- 32 | R312 (11) | 1 | next pin handle
  zeros : List (Nat × LongKind × Option (Req × U16 × Nat)) -- - | R105, R312 (04, 11) | [] | ZERO_LINES whose lines are not all placed: mark of its lines, its long operation, and the packet to answer
  closing : List (Req × U16 × Nat) -- - | R289 (10) | [] | hand-overs that wait for the owner's started commands: packet, successor, session
  deriving DecidableEq, Repr

structure Cxl where
  linkUp : List Nat            -- 16 | R77 (03) | [] | ports whose link is up
  joined : List Nat            -- 8 | R331 (12) | [] | even ports whose pair is joined
  lds : List Ld                -- 256 | R77 (03) | [] | logical devices that hold state
  reqs : List HostReq          -- - | R30, R43 (01, 02) | [] | accepted requests not yet completed, oldest first
  nextAge : Nat                -- - | R27 (01) | 1 | next acceptance number
  gpfDvsec : List (Nat × Nat)  -- 16 | R62 (02) | 16 x (200, 150) | GPF DVSEC of each head: Phase 2 duration in µs, power in W
  waiting : List (Nat × Nat × Nat × Bool) -- - | R225 (08) | [] | writes waiting for credit: port, LD, host tag, to a mirrored region
  deriving DecidableEq, Repr

structure Epochs where
  current : Nat                -- 64 | R56 (02) | 1 | current epoch
  closed : Nat                 -- 64 | R57 (02) | 0 | closed epoch
  mirrored : Nat               -- 64 | R58 (02) | 0 | mirrored epoch
  running : Option Close       -- - | R36 (01) | none | running close
  queued : Option (List Joined) -- - | R36 (01) | none | queued close and the changes that joined it
  duration : Nat               -- 32 | R313 (11) | 0 | last close duration, ns
  paired : Bool                -- 1 | R313 (11) | false | a pair has formed since reset
  asyncBytes : Nat             -- - | R59 (02) | 0 | ASYNC bytes of the current epoch
  began : Nat                  -- 64 | R59 (02) | 0 | moment the current epoch began
  deriving DecidableEq, Repr

structure Regions where
  list : List Region           -- 65,534 | R73 (03) | [] | regions, by rising number
  reserved : List (Nat × Nat)  -- - | R69, R84, R265 (03, 09) | [] | runs allocated to a change not yet in force
  readOnly : Bool              -- 1 | R47, R92 (02, 03) | true | every region is served read-only
  rootTail : List (Nat × BitVec 40 × Nat) -- - | R172, R223 (06, 08) | [] | unwritten root log tail, oldest first: directory page, location, write count
  deriving DecidableEq, Repr

structure Ppu where
  dir : List DirEntry          -- - | R70 (03) | [] | directory entries, by rising page; an unlisted page of an allocated extent is ZERO, of a free one FREE
  blocks : List (Nat × Nat × Nat) -- - | R111, R149 (04, 05) | [] | directory blocks in the cache area, newest first: extent, and the first locations of its two copies
  px : List Nat                -- 1,048,576 in sets of 8 | R111 (04) | [] | pages whose entry PX holds, newest first
  dirtyBlocks : List Nat       -- - | R111 (04) | [] | directory blocks (extents) charged as pages of region 0
  frames : List Frame          -- - | R106 (04) | [] | frames that are not FREE, by rising number
  charges : List ChargeMsg     -- - | R98 (04) | [] | page charge messages in flight
  fetches : List Fetch         -- - | R107 (04) | [] | running fetches
  moves : List Move            -- - | R72 (03) | [] | running moves and cleans
  uses : Nat                   -- - | R116 (04) | 0 | order of stream advances
  recovering : List Nat        -- - | R154 (05) | [] | charged pages of a failed channel that the twin copies
  stageIndex : List Nat        -- - | R171, R479 (06) | [] | staged pages, rebuilt by the Lift
  retried : List Retried       -- - | R27, R72 (01, 03) | [] | cleans and moves that were answered with a retry response while their page is MOVING, oldest first
  zeroed : List Nat            -- - | R112 (04) | [] | slots of the directory cache area, by first location, zeroed before the background zeroing came to them
  deriving DecidableEq, Repr

structure Curd where
  lines : List CurdLine        -- 128 MiB | R93 (04) | [] | valid lines
  plru : List (Nat × BitVec 15) -- 15 per set | R93 (04) | [] | pseudo-LRU trees, by slice * 8192 + set
  evicts : List Evict          -- 16 x 64 | R102 (04) | [] | eviction buffers
  configured : Mode            -- 2 | R95 (04) | WB | configured mode
  forcing : BitVec 5           -- 5 | R95, R312 (04, 11) | 0b00001, start-up | forcing conditions
  effective : Mode             -- 2 | R95 (04) | WT | effective mode
  draining : Option Mode       -- - | R121 (04) | none | a drain runs toward this mode
  drainReq : Option (Req × U16 × Nat) -- - | R121 (04) | none | packet answered at step 5
  powering : Bool              -- 1 | R97 (04) | false | slices are being powered up
  off : Bool                   -- 1 | R121 (04) | false | slices powered off
  trackers : List (Nat × Tracker) -- 16 x 16 | R101 (04) | [] | port and tracker, least recent first
  stuckCells : List (Nat × Nat) -- 16 x 64 | R449 (17) | [] | slice and stuck cells entered
  corrected : List (Nat × Nat) -- - | R449 (17) | [] | corrections of the last 1 s: slice, time
  corrLogged : List (Nat × Nat) -- - | R449 (17) | [] | slice and time of its last correction-rate event, of the last 1 s
  spoiled : List (Nat × Nat)   -- - | R449 (17) | [] | uncorrectable errors of the last 24 h: slice, time
  deriving DecidableEq, Repr

structure Deckle where
  bound : Nat                  -- 64 | R49 (02) | 0 | B
  capacity : Nat               -- 64 | R221 (08) | 0 | C
  bTerm : Nat                  -- 8 | R317 (11) | 3 | B term
  cTerm : Nat                  -- 8 | R317 (11) | 5 | C term
  pool : List Nat              -- 16 x 9 | R225 (08) | 16 x 0 | credits each port holds without a write
  inUse : List Nat             -- 16 x 9 | R225 (08) | 16 x 0 | credits that cover accepted writes
  grant : Option Nat           -- 64 | R224 (08) | none | G in bytes per second, none unrestricted
  grantM : Option Nat          -- 64 | R225 (08) | none | G_m in bytes per second, none unrestricted
  spent : List Nat             -- 16 | R225 (08) | 16 x 0 | bytes of credit granted to each port in this interval
  spentM : List Nat            -- 16 | R225 (08) | 16 x 0 | of them to writes to mirrored regions
  demand : Nat                 -- 32 | R224 (08) | 0 | cleaning demand, units of 0.0001
  cleaned : Nat                -- - | R224 (08) | 0 | bytes cleaned since the last recompute
  rateClean : Nat              -- - | R224 (08) | 0 | rate_clean, bytes per second
  m : Nat                      -- 32 | R219 (08) | 9200 | planning factor, units of 0.0001
  atRisk : Bool                -- 1 | R51 (02) | false | D exceeds C
  overcommitted : Bool         -- 1 | R91 (03) | false | A exceeds H
  packCurrentLogged : Nat      -- 64 | R221 (08) | 0 | pack ID for which the pack-current event was logged
  stagePath : Bool             -- 1 | R222 (08) | true | the stage path is in force
  deriving DecidableEq, Repr

structure Vat where
  ch : List Dram               -- 16 | R153 (05) | 16 channels at their reset values | channels MC0 to MC15
  pendingReduced : Option Bool -- - | R143 (05) | none | bin all channels change to
  areaTarget : Nat             -- - | R157 (05) | 0 | directory cache area size asked for, in units of 16 GiB; 0 default
  setCount : Nat               -- 5 | R157 (05) | 0 | channels ONLINE when the area size was last set
  recoveries : List (U16 × DramReq) -- - | R147 (05) | [] | lines read from the twin after an uncorrectable error: tag of the TWIN_READ, and the access that waits
  deriving DecidableEq, Repr

structure Ream where
  ch : List Flash              -- 48 | R87 (03) | 48 channels at their reset values | channels FC0 to FC47
  slots : List Slot            -- - | R165 (06) | [] | data slots written
  stage : List StageRec        -- - | R171 (06) | [] | stage records, oldest first
  gathering : Bool             -- 1 | R171 (06) | false | a stage page gathers records
  stageOrder : Nat             -- - | R171 (06) | 0 | records ordered
  stageClosed : Nat            -- - | R171 (06) | 0 | oldest unprogrammed records whose page gathers no more
  stageBlocks : List StageBlock -- - | R171 (06) | [] | stage blocks that hold pages, oldest first
  stageSeq : Nat := 1          -- 64 | R167, R171 (06) | 1 | sequence of the next stage block
  stripes : List Stripe := []  -- - | R169 (06) | [] | stripes that hold slots
  stripeSeq : List Nat := [0, 0, 0, 0] -- 64 x 4 | R169 (06) | [0, 0, 0, 0] | stripes opened in each group
  rootMedia : List (Nat × BitVec 40 × Nat) := [] -- - | R172 (06) | [] | directory root as the newest checkpoint and the root log on the media give it
  imageCapacity : Nat          -- 64 | R173 (06) | 0 | free image capacity as last reported to the Deckle
  root : List (Nat × BitVec 40 × Nat) -- - | R172 (06) | [] | directory root: directory page, location, write count
  generations : List Generation -- - | R236 (08) | [] | unfolded generations, oldest first
  lastGen : Nat                -- 32 | R236 (08) | 0 | last generation number
  rehearsal : Nat              -- - | R173, R247 (06, 08) | 0 | SLC bytes of rehearsal and folded blocks that await their erase
  index : List (Nat × BitVec 40 × U32 × Bool × Nat) -- - | R242 (08) | [] | Lift index: page, slot, epoch, poison, generation
  dirCopy : List DirEntry      -- - | R172, R233 (06, 08) | [] | newest copy on the media of the directory, home or image, by rising page
  membership : List Nat        -- 4 | R185 (06) | [0, 0, 0, 0] | highest membership generation of each group
  rootLog : Nat                -- 33 | R172 (06) | 0 | bytes of root log since the newest checkpoint
  patrolled : Nat              -- - | R181 (06) | 0 | patrol reads made
  deriving DecidableEq, Repr

structure Couch where
  orch : Orch                  -- 3 | R227 (08) | DOWN | orchestrator
  detected : Option Nat        -- 64 | R226, R230 (08) | none | time of the detection that the energy watch counts from
  committed : Nat              -- 64 | R238 (08) | 0 | commit time
  cancels : List Nat           -- 3 | R227 (08) | [] | times of cancelled windows, newest first
  commanded : Bool             -- 1 | R227, R238 (08) | false | commit was commanded
  cause : DownCause            -- 3 | R404 (15) | input absent | why the device goes DOWN after the seal
  toDown : Bool                -- 1 | R227, R395 (08, 15) | false | goes DOWN whatever the input
  cold : Bool                  -- 1 | R37 (01) | false | rails come up again after the off time
  firstRail : Nat              -- 8 | R481 (15) | 255 | capture of the detection or fault that caused the commit
  todo : List Nat              -- - | R233 (08) | [] | pages still to save, in save order
  gen : Option Generation      -- - | R237 (08) | none | generation being written
  curdDrained : Bool           -- 1 | R232 (08) | false | step 5 done
  set : List Nat := []         -- 48 | R219, R235 (08) | [] | Couch channel set at the commit
  loaded : List (Nat × Nat) := [] -- 48 | R228 (08) | [] | first erased reserve block that the engines have loaded, by channel
  rehearsedAt : Nat := 0       -- 64 | R247 (08) | 0 | start of the running rehearsal
  stopped : Bool               -- 1 | R234 (08) | false | programming has stopped; the seal follows
  stop : U8                    -- 8 | R238 (08) | 0 | seal flags gathered
  dAtCommit : Nat              -- 64 | R404 (15) | 0 | D at commit
  sealed : Bool                -- 1 | R232 (08) | false | seal records written
  rehearsing : Option Nat      -- - | R247 (08) | none | size of the running rehearsal
  inputPresent : Bool          -- 1 | R226 (08) | false | input confirmed present
  inputSeen : Bool             -- 1 | R226 (08) | false | confirmed since the last VAO power-on or DOWN
  raw : Bool                   -- 1 | R226 (08) | false | input lost as the pins show it, filter running
  eraseHold : Bool             -- 1 | R228 (08) | false | no new erase starts
  heldAt : Nat := 0            -- 64 | R184, R228 (06, 08) | 0 | time from which none starts
  absentDirty : Bool           -- 1 | R63 (02) | false | the supply failed in ABSENT with D nonzero since the last Lift
  folding : Bool               -- 1 | R244 (08) | false | folding may run
  deriving DecidableEq, Repr

structure Felt where
  pair : Pair                  -- 2 | R258 (09) | DETACHED | pair state
  links : List Link            -- 8 | R250 (09) | 8 links held down | links TW0 to TW7
  peerMask : U8                -- 8 | R256 (09) | 0 | links the twin enables
  twinSerial : U64             -- 64 | R315 (11) | 0 | twin's serial, low 64 bits
  twinPressure : Nat           -- 16 | R263 (09) | 0 | twin pressure, units of 0.001
  twinEnergy : Energy          -- 8 | R256 (09) | ABSENT | twin energy state
  twinClosed : Nat             -- 64 | R256 (09) | 0 | twin closed epoch
  twinLocked : Bool            -- 1 | R260 (09) | false | twin locked to PPS
  offset : Int                 -- 32 | R260 (09) | 0 | timebase offset, ns
  offsetSince : Option Nat     -- 64 | R260 (09) | none | since when the offset exceeds 50 ns
  slew : Int                   -- 2 | R260 (09) | 0 | nanosecond by which the timebase is to be slewed
  slewAt : Nat                 -- 64 | R260 (09) | 0 | time of the last slew
  bursts : List Burst          -- - | R255 (09) | [] | partial bursts held
  staged : List StagedAsync    -- - | R58 (02) | [] | staged ASYNC writes
  ends : List (Nat × Nat × Nat) -- - | R264 (09) | [] | EPOCH_END markers held: epoch, origin, count
  applied : Nat                -- 64 | R264 (09) | 0 | highest epoch applied as follower
  sentAsync : List (Nat × Nat × Nat) -- - | R264 (09) | [] | epoch, link, ASYNC writes sent
  lag : List (Nat × Nat × Nat) -- - | R264 (09) | [] | epoch, bytes, time of its oldest write, not yet applied by the twin
  parts : List (Nat × List ListEntry) -- - | R257 (09) | [] | parts held of the list being received
  partCount : Nat              -- 16 | R257 (09) | 0 | its part count
  partNumber : U32             -- 32 | R257 (09) | 0 | its list number
  listNumber : U32             -- 32 | R257 (09) | 0 | list number last sent
  peerList : List ListEntry    -- - | R257 (09) | [] | newest complete list of the twin
  ops : List (Nat × RegionOpKind × Option OpAnswer) -- - | R265 (09) | [] | region operations sent and their answers
  opReqs : List (Nat × Joined) -- - | R265 (09) | [] | changes that wait for the follower's answer
  reservedOps : List (Nat × RegionOpKind × List (Nat × Nat)) -- - | R265 (09) | [] | operations accepted as follower, in force at the next close, with their runs
  resyncTodo : List (Nat × Nat) -- - | R272 (09) | [] | region and page still to copy
  resyncOut : List (Nat × Nat) -- - | R272 (09) | [] | copies sent and not acknowledged
  hellos : List (Nat × Nat)    -- 8 | R256, R258 (09) | [] | links on which HELLO has failed, with the detail of R256
  refused : Nat                -- - | R480 (09) | 0 | messages refused and counted
  pairUnits : Nat := 0         -- - | R272 (09) | 0 | units of 64 bytes sent since mirror messages wait
  copyUnits : Nat := 0         -- - | R272 (09) | 0 | those of page copies
  credits : List Nat           -- 8 x 9 | R262 (09) | 8 x 0 | write credits held by the Felt unit, per link
  copied : List Nat            -- - | R270 (09) | [] | regions of which a page copy has arrived since the last pair-wide close
  tookOver : List Nat          -- - | R266 (09) | [] | regions taken over on commit
  deriving DecidableEq, Repr

structure Sal where
  present : Bool               -- 1 | R190 (07) | false | PK_PRESENT_N asserted
  id : Option PackId           -- - | R197 (07) | none | identity read
  idRetries : Nat              -- 2 | R198 (07) | 0 | retries made of a failed read
  unread : Bool                -- 1 | R198, R212 (07) | true | no good identity read since power-up or the last assertion
  reading : Bool               -- 1 | R197 (07) | false | an identity read runs
  reservedLogged : List Nat    -- - | R197 (07) | [] | pack IDs whose reserved-byte event was logged since VAO power-on
  voltage : Nat                -- 32 | R193 (07) | 0 | V, uV
  current : Int                -- 32 | R193 (07) | 0 | I, uA, positive on discharge
  ntc0 : Option Int            -- 16 | R201 (07) | none | NTC0, 0.01 degC, none failed
  ntc1 : Option Int            -- 16 | R201 (07) | none | NTC1
  diode : Option Int           -- - | R194 (07) | none | SV die temperature, 0.01 degC
  diodeBad : Bool              -- 1 | R194 (07) | false | diode out of range
  ocv : Nat                    -- 32 | R203 (07) | 0 | OCV, uV
  rint : Nat                   -- 32 | R203 (07) | 0 | Rint, uOhm
  fR : Nat                     -- 32 | R206 (07) | 0x10000 | f_R, 16.16
  firstProbe : Bool            -- 1 | R198, R204 (07) | false | a probe of the present pack has been accepted
  ocvOk : Bool                 -- 1 | R198 (07) | false | the OCV of that first probe lies in range
  socLb : Nat                  -- 16 | R204 (07) | 0 | soc_lb, 0.0001 %
  socUb : Nat                  -- 16 | R204 (07) | 1000000 | soc_ub, 0.0001 %
  chargeLb : Int               -- - | R195, R204 (07) | 0 | counted charge, with the error of soc_lb's side, not yet moved into soc_lb, pC
  chargeUb : Int               -- - | R195, R204 (07) | 0 | the same for soc_ub, pC
  ntcOut0 : Bool := false      -- 1 | R201 (07) | false | NTC0's last sample was out of range
  ntcOut1 : Bool := false      -- 1 | R201 (07) | false | NTC1's last sample was out of range
  lowTime : Nat := 0           -- - | R195 (07) | 0 | time for which the 1-second mean of |I| has stayed below 0.5 % of the range, us
  probeUs : Nat := 0           -- - | R203 (07) | 0 | time since PK_PROBE_EN was asserted, as the samples count it, us
  swapped : Bool := false      -- 1 | R210 (07) | false | the present deassertion was recorded as a swap
  copies : List (List Byte) := [[], []] -- 2 x 512 | R209 (07) | no record | the Ledger's two copies of the learned record; empty: no valid record in it
  copyDue : Option Nat := none -- 1 | R209 (07) | none | the copy still to be written
  absSum : Nat                 -- - | R195, R214 (07) | 0 | sum of |I| over the running second, pC
  absTime : Nat                -- - | R195, R214 (07) | 0 | its length so far, us
  throughput : Nat             -- - | R209 (07) | 0 | charge discharged and not yet counted in the record's cycles, pC
  probing : Bool               -- 1 | R203 (07) | false | PK_PROBE_EN asserted by a probe
  probeEn : Bool               -- 1 | R190 (07) | false | PK_PROBE_EN
  suspended : Option Nat       -- 64 | R207 (07) | none | time from which the 10 s after the supply's return count
  lastProbe : Option Nat       -- 64 | R205 (07) | none | time of the last accepted probe
  lastAnchor : Option Nat      -- 64 | R204, R215 (07) | none | time of the last anchor
  anchorBase : Option Nat      -- 64 | R215 (07) | none | time from which anchor growth counts
  aged300 : Bool               -- 1 | R205 (07) | false | no probe accepted for 300 s
  aged1h : Bool                -- 1 | R205 (07) | false | no probe accepted for 1 h
  overrange : Bool             -- 1 | R196 (07) | false | discharge overrange since the last valid probe
  disagree : Nat               -- 2 | R204 (07) | 0 | OCV anchors in a row that disagree
  anchorLow : Bool             -- 1 | R204 (07) | true | LOW until the first (or next full-charge) anchor
  ntcFailed : Nat              -- 2 | R201 (07) | 0 | thermistor declared failed: 0 none, 1 NTC0, 2 NTC1
  lowCurrent : Bool            -- 1 | R195 (07) | false | low-current mode
  state : Energy               -- 8 | R212 (07) | ABSENT | energy state
  before : Option Energy       -- 8 | R212 (07) | none | state before a deassertion not yet 100 ms old
  beforePack : Nat             -- 64 | R212 (07) | 0 | pack ID before it
  eEst : Nat                   -- 64 | R202 (07) | 0 | E_est, mJ
  eLb : Nat                    -- 64 | R215 (07) | 0 | E_lb, mJ
  u : Nat                      -- 32 | R215 (07) | 0 | U, mJ
  reported : Option Nat        -- 16 | R216 (07) | none | reported state of energy, 0.0001 % FS
  reportedAt : Nat             -- 64 | R216 (07) | 0 | time of its last move
  learned : Option Learned     -- - | R209 (07) | none | learned record in use
  phase : Phase                -- 8 | R208 (07) | none | learning phase
  qDis : Nat                   -- - | R208 (07) | 0 | Q_dis, pC
  qRes : Nat                   -- - | R208 (07) | 0 | Q_res, pC
  qChg : Nat                   -- - | R208 (07) | 0 | Q_chg, pC
  window : Nat                 -- 2 | R382, R385 (14) | 0 | charging window: 0 inside, 1 below, 2 above
  learnWindow : Bool           -- 1 | R382 (14) | false | T inside 15 to 35 degC
  zeroChannel : Nat            -- 2 | R194 (07) | 0 | modulator zeroed next
  ageWarned : Bool             -- 1 | R211 (07) | false | record age warning logged
  probes : Nat                 -- - | R205 (07) | 0 | retries since the last scheduled probe
  deriving DecidableEq, Repr

structure Cipher where
  banks : List KeyBank         -- 2 | R350 (13) | [blank, blank] | starter key banks
  programming : Option (BitVec 256 × Option (Req × U16 × Nat)) -- - | R351 (13) | none | key being programmed, and the packet to answer
  drawn : Nat                  -- - | R351 (13) | 0 | keys drawn from the DRBG
  slots : List KeySlot         -- 1,024 | R357 (13) | [] | slots that are not FREE
  engineOk : Bool              -- 1 | R367 (13) | true | the derivation engine passed its tests
  noVerify : Bool              -- 1 | R368 (13) | false | the Couch runs without verification
  passes : Nat                 -- - | R365 (13) | 0 | passes made
  requests : List CipherReq    -- - | R365 (13) | [] | enciphering requests that wait, in order of arrival
  turns : List (Nat × Option Nat × Nat) -- 16 | R365 (13) | [] | core, the queue that it served last, and consecutive requests served of it
  deriving DecidableEq, Repr

structure Cave where
  sensors : List Sensor        -- 110 | R369 (14) | 110 sensors without a reading | sensors
  tj : TjBand                  -- 2 | R377 (14) | NORMAL | Tj band
  tjHist : List (Nat × Int)    -- - | R375 (14) | [] | Tj as judged over the last 250 ms, oldest first, with times
  rise : Option Nat            -- - | R376 (14) | none | rate-of-rise condition, and when a sensor last met it
  step : Nat                   -- 2 | R378 (14) | 0 | throttle step in force
  unwinding : Bool             -- 1 | R378 (14) | false | steps are being undone
  stepTj : Int                 -- - | R378 (14) | 0 | Tj at the last step, 0.1 degC
  carriers : List (Nat × CarrierBand) -- 16 + 48 | R381 (14) | [] | bands of carriers (16 + c for a channel that is its own carrier)
  carrierHist : List (Nat × Nat × Int) -- - | R375, R381 (14) | [] | carrier, time, temperature over the last 250 ms
  channelHist : List (Nat × Nat × Int) -- - | R375, R380 (14) | [] | DRAM channel, time, temperature over the last 250 ms
  assumedLogged : Bool         -- 1 | R381 (14) | false | the assumed-temperature event was logged
  packHist : List (Nat × Int)  -- - | R375, R382 (14) | [] | pack temperature over the last 250 ms, with times
  criticalSensor : Nat         -- 7 | R379 (14) | 0 | sensor of a thermal shutdown
  held3 : Bool                 -- 1 | R377 (14) | false | held at step 3 for want of sensors
  deriving DecidableEq, Repr

structure Power where
  vao : Bool                   -- 1 | R390 (15) | false | VAO present and SV out of reset
  now : Nat                    -- 64 | R29, R410 (01, 15) | 0 | timebase, ns
  seq : SeqPhase               -- - | R390, R392 (15) | off | sequencer
  rails : List Rail            -- 16 | R386 (15) | 16 rails off | rails
  pg : BitVec 24               -- 24 | R386 (15) | 0 | SV_PG levels
  sns : U16                    -- 16 | R386 (15) | 0 | sense comparators
  powerFail : Bool             -- 1 | R226 (08) | false | POWER_FAIL_N asserted
  busMv : Nat                  -- - | R226 (08) | 0 | BUS_SENSE, mV
  falls : List (Nat × Nat)     -- - | R400 (15) | [] | stamped falls: code of R401 and time
  firstRail : Nat              -- 8 | R320, R400 (11, 15) | 255 | first failing rail of the last event
  glitches : Nat               -- 32 | R402 (15) | 0 | glitch count
  upIn : Bool                  -- 1 | R398 (15) | false | CA_UP_IN_N asserted, as granted
  dnIn : Bool                  -- 1 | R398 (15) | false | CA_DN_IN_N asserted
  bypassDue : Bool := false    -- 1 | R390, R399 (15) | false | 10 s have passed since input became present
  dnOut : Bool                 -- 1 | R398 (15) | false | CA_DN_OUT_N asserted
  upOut : Bool                 -- 1 | R398 (15) | false | CA_UP_OUT_N asserted
  done : Bool                  -- 1 | R398 (15) | false | CA_DONE released
  restarts : List Nat          -- 3 | R396 (15) | [] | times of fault restarts
  lockout : Bool               -- 1 | R396 (15) | false | fault lock-out
  faultDown : Bool             -- 1 | R396 (15) | false | this DOWN was caused by a fault
  absentSince : Option Nat     -- 64 | R394, R396 (15) | none | since when input is absent
  brownOut : Bool              -- 1 | R401 (15) | false | a VAO brown-out preceded this power-up
  vaoLost : Bool               -- 1 | R404 (15) | true | VAO was lost before this power-up
  vaoMv : Nat                  -- - | R415 (16) | 0 | VAO, mV
  button : Option Nat          -- - | R430 (16) | none | SVC_BTN_N pressed, since
  held3 : Bool                 -- 1 | R430 (16) | false | held at least 3 s
  stuck : Bool                 -- 1 | R430 (16) | false | declared stuck
  waitButton : Bool            -- 1 | R430 (16) | false | the boot waits at step 3
  maintenance : Bool           -- 1 | R431 (16) | false | maintenance boot selected
  ppsOut : Bool                -- 1 | R345, R466 (12, 18) | false | TM_PPS_OUT pulse in this second
  ppsLocked : Bool             -- 1 | R260 (09) | false | locked to TM_PPS_IN
  ppsPhase : Int               -- - | R345 (12) | 0 | ns by which the last edge, less the cable delay, lay after the timebase second
  ppsAt : Nat                  -- 64 | R260, R345 (09, 12) | 0 | time of the last step toward it
  pendingHold : Option Nat     -- - | R397 (15) | none | rail brought up or down alone
  watching : Bool              -- 1 | R395 (15) | false | progress watch
  deriving DecidableEq, Repr

structure Ledger where
  st : LedgerSt                -- - | R413 (16) | read mode | command machine
  array : List Host.Cell       -- 64 MiB | R412 (16) | [] | bytes that commands programmed and that are not 0xFF, by rising byte address
  queue : List LedgerOp        -- - | R416 (16) | [] | operations that wait, in order of arrival
  toggle : Bool                -- 1 | R414 (16) | false | bit [6]
  error : Bool                 -- 1 | R414 (16) | false | bit [1]
  byReset : Bool               -- 1 | R414 (16) | false | bit [2]
  sectors : List (Nat × Nat)   -- - | R417 (16) | [] | sector table: logical and replacement sector, newest first
  badReserve : List Nat        -- - | R417 (16) | [] | reserve sectors used or bad
  withdrawn : List Nat         -- - | R417 (16) | [] | logical sectors withdrawn
  band : Nat                   -- 2 | R415 (16) | 0 | read timing band: 0 9 cycles, 1 8, 2 6
  bandSince : Nat              -- 64 | R415 (16) | 0 | since when VAO lies inside the faster band
  rind : List Rind             -- 131,072 slots | R403 (15) | [] | valid records, oldest first
  torn : List Nat              -- - | R403, R409 (15) | [] | torn slots, counted as those of the records
  rindHead : Nat               -- - | R403, R406 (15) | 0 | slot of the next record
  rindAt : Option Nat          -- - | R407 (15) | none | when the program of the newest record began
  markAt : Option (Nat × Nat)  -- - | R405 (15) | none | when the newest completion mark's program began, and its record's sequence
  dropped : Bool               -- 1 | R407 (15) | false | a record was dropped since the last one
  eraseEnded : Option Nat      -- - | R407 (15) | none | sector whose erase was ended, erased again later
  activations : List Activation -- - | R426 (16) | [FACTORY, slot A, confirmed] | records, newest first
  slotA : FwSlot               -- - | R2, R412 (00, 16) | production image, active | firmware slot A
  slotB : FwSlot               -- - | R2, R412 (00, 16) | erased | firmware slot B
  running : Bool               -- 1 | R304 (11) | false, slot A | slot of the running image: B
  trial : Bool                 -- 1 | R323 (11) | false | the running image is an unconfirmed trial
  chosen : Bool                -- 1 | R427 (16) | false | slot the loader has chosen: B
  loadTries : Nat              -- 2 | R418, R427 (16) | 0 | attempt at loading an image that runs, 0 when the image stands in its code stores
  expiries : Nat               -- 2 | R434 (16) | 0 | consecutive boot watchdog expiries
  fuses : Nat                  -- 64 | R424 (16) | 0 | fused counter
  recordAt : Option (Nat × List Activation) := none -- - | R426, R433 (16) | none | when the newest record or mark was begun in copy 0, and the records as they stood before
  jtagLast : Jtag              -- 4 | R468 (18) | IDCODE | JTAG instruction in force
  deriving DecidableEq, Repr

structure Log where
  ports : List PortEvent       -- 16 per island | R441 (17) | [] | events at the event ports, oldest first
  ring : List EventRec         -- 8,192 | R444 (17) | [] | event ring, by rising sequence
  next : Nat                   -- 64 | R439 (17) | 1 | next sequence
  windows : List Window        -- 512 | R442 (17) | [] | coalescing table
  tokens : List Nat            -- 17 | R443 (17) | 17 x 100 | tokens by class
  portDrops : List Nat         -- 17 | R441 (17) | 17 x 0 | dropped at event ports since the last summary
  tableDrops : List Nat        -- 17 | R442 (17) | 17 x 0 | dropped at a full table since the last summary
  overwrites : List Nat        -- 17 | R444 (17) | 17 x 0 | unread records overwritten since the last summary
  ringDrops : List Nat         -- 17 | R444 (17) | 17 x 0 | new records that found no place in the ring since the last summary
  lost : List Nat              -- 17 | R443 (17) | 17 x 0 | events lost since the VAO power-on
  dropFlag : List Bool         -- 17 | R443 (17) | 17 x false | next record of the class carries flag [1]
  mask : U32                   -- 32 | R446 (17) | 0x00003E01 | alarm mask
  noDram : Bool                -- 1 | R418 (16) | false | no DRAM channel ONLINE: asserts ALERT_N
  deriving DecidableEq, Repr

structure Units where
  engines : List Engine        -- 160 | R14 (01) | roles of R14 | engines
  slices : List Unit_          -- 16 | R449 (17) | IN_SERVICE | Curd slices
  ports : List Unit_           -- 16 | R449 (17) | IN_SERVICE | host ports
  links : List Unit_           -- 8 | R449 (17) | IN_SERVICE | Felt links
  cores : List Unit_           -- 16 | R449 (17) | IN_SERVICE | cipher cores
  dramUnits : List Unit_       -- 16 | R322, R449 (11, 17) | IN_SERVICE | test results and counts of DRAM channels
  flashUnits : List Unit_      -- 48 | R322, R449 (11, 17) | IN_SERVICE | test results and counts of flash channels
  fed : List Nat               -- 8 | R434 (16) | [] | management engines silent since their last feed
  fenceWait : List (UnitId)    -- - | R122, R123 (04) | [] | slices draining before their bypass
  portDowns : List (Nat × Nat) -- - | R449 (17) | [] | port and time of the link-downs of the last 60 s
  engineCorr : List (Nat × Nat) -- - | R449 (17) | [] | engine and time of the correctable memory errors of the last 1 s
  coreFailing : List Nat       -- 16 | R368 (13) | [] | cores kept in use though failing
  deriving DecidableEq, Repr

/-- The state of the block. -/
structure State where
  pending : List Instr         -- - | the model's own | [] | commands that wait, first in first out
  out : List Out               -- - | the model's own | [] | what the device has put out, oldest first
  fresh : Nat                  -- - | the model's own | 0 | counter of free values drawn
  wire : Wire                  -- - | R20 (01) | - | the Wire
  cmd : Cmd                    -- - | R277 (10) | - | Command Processor
  cxl : Cxl                    -- - | R77 (03) | - | Host Port Complex
  epochs : Epochs              -- - | R56 (02) | - | Watermark
  regions : Regions            -- - | R73 (03) | - | regions
  ppu : Ppu                    -- - | R70 (03) | - | Placement and Paging Unit
  curd : Curd                  -- - | R93 (04) | - | Curd
  deckle : Deckle              -- - | R48 (02) | - | Deckle
  vat : Vat                    -- - | R125 (05) | - | Vat
  ream : Ream                  -- - | R158 (06) | - | Ream
  couch : Couch                -- - | R227 (08) | - | Couch and Lift orchestrator
  felt : Felt                  -- - | R249 (09) | - | Felt
  sal : Sal                    -- - | R190 (07) | - | Salometer
  cipher : Cipher              -- - | R350 (13) | - | cipher complex
  cave : Cave                  -- - | R369 (14) | - | Cave
  power : Power                -- - | R386 (15) | - | power sequencer and supervisor
  ledger : Ledger              -- - | R412 (16) | - | Ledger
  log : Log                    -- - | R439 (17) | - | event log
  units : Units                -- - | R449 (17) | - | units under service
  deriving DecidableEq, Repr

/-! ### Reset -/

/-- R450: a unit in service. -/
def Unit_.reset : Unit_ := { st := .inService, result := 0, corr := 0, uncorr := 0 }

/-- R14: engines of each role in clusters EN0 to EN9, in the column order of the table. -/
def roleTable : List (List Nat) :=
  [[5, 4, 2, 1, 2, 1, 0, 1], [5, 4, 2, 1, 2, 1, 0, 1], [5, 3, 2, 1, 2, 1, 1, 1], [5, 3, 2, 1, 2, 1, 1, 1],
   [5, 3, 2, 1, 2, 0, 1, 2], [5, 3, 2, 1, 2, 0, 1, 2], [5, 3, 1, 1, 3, 1, 1, 1], [5, 3, 1, 1, 3, 1, 1, 1],
   [4, 3, 1, 0, 3, 1, 1, 3], [4, 3, 1, 0, 3, 1, 1, 3]]

/-- R14: the roles in the column order of the table. -/
def roleOrder : List Role := [.ream, .tier, .port, .felt, .couch, .management, .service, .spare]

/-- R14: instances of a role are numbered upward over the clusters. -/
def clusterEngines (before : List Nat) (counts : List Nat) : List Engine :=
  ((roleOrder.zip (before.zip counts)).map fun (r, b, n) =>
    (List.range n).map fun k =>
      { role := r, instance_ := if r = .spare then 255 else b + k, unit := .reset, failing := false, resuming := false, work := [] }).flatten

def engineMap : List Nat → List (List Nat) → List Engine
  | _, [] => []
  | before, c :: rest => clusterEngines before c ++ engineMap (List.zipWith (· + ·) before c) rest

/-- R14, R15: the production firmware map. -/
def engineReset : List Engine := engineMap [0, 0, 0, 0, 0, 0, 0, 0] roleTable

def Dram.reset : Dram :=
  { st := .absent, cause := 0, dimms := none, step := 0, verify := false, results := none, mapping := 2, reduced := false,
    changing := false, changeAt := 0, target := false, band := .normal, mr4 := [], share := 0, shareTo := 0, caFails := 0, held := false, marks := [],
    corr := [], rowCorr := [], badRows := [], neighbourLogged := none, neighbours := 0, sppr := [], hppr := [], offlineLost := false, rate := 0, timing := 0, writing := [], columns := [], repair := [], withheld := [], ranksOut := [], banks := [], queue := [], lost := false }

def Flash.reset : Flash :=
  { st := .absent, cause := 0, targets := none, found := none, slow := false, deadTargets := [], overruns := [], band := .home,
    reserveReady := false, stageReady := false, removed := false, drainMark := false, addStep := 0, leftHome := none, blocks := [], nextSeq := 1, lost := 0 }

def Link.reset : Link :=
  { st := .held, session := 0, rxSeq := 0, txSeq := 0, retryBuf := [], replayed := [], tagFails := 0, replays := 0, aborts := 0,
    flits := 0, dataCredits := 1024, ctlCredits := 32, mapped := false, fullFails := [], discarded := 0, nextTag := 0, queue := [], unsent := 0 }

def Sensor.reset : Sensor :=
  { filter := [], reading := none, raw := none, crossed := false, commanded := false, polled := false, failed := false,
    deviating := 0, agreeing := 0, exclusions := 0, history := [] }

def Wire.reset : Wire :=
  { links := [], waiting := [], arbiters := [], accepted := [], discards := 0, cchFirst := false, redirect := [], changing := [], clock := [],
    unrouted := [], offWait := [] }

def Cmd.reset : Cmd :=
  { channels := [], sessions := [], owner := 0, arrived := [], arrivals := 0, longOps := [], challenges := 0,
    tables := List.replicate 15 none, ready := .below, sealSt := .notSealed, safe := true, eids := [], mctpDiscards := 0,
    udpDiscards := 0, uses := 0, resetRun := 0, resetUnit := none, resetPorts := [], resetNext := [], injections := [], trace := none, nextHandle := 1,
    zeros := [], closing := [] }

def Cxl.reset : Cxl := { linkUp := [], joined := [], lds := [], reqs := [], nextAge := 1, gpfDvsec := List.replicate 16 (200, 150), waiting := [] }

/-- R56: on the media of a new device no epoch is recorded: the first current epoch is 1 and none is closed or mirrored. -/
def Epochs.reset : Epochs :=
  { current := 1, closed := 0, mirrored := 0, running := none, queued := none, duration := 0, paired := false, asyncBytes := 0, began := 0 }

def Regions.reset : Regions := { list := [], reserved := [], readOnly := true, rootTail := [] }

def Ppu.reset : Ppu :=
  { dir := [], blocks := [], px := [], dirtyBlocks := [], frames := [], charges := [], fetches := [], moves := [],
    uses := 0, recovering := [], stageIndex := [], retried := [], zeroed := [] }

def Curd.reset : Curd :=
  { lines := [], plru := [], evicts := [], configured := .wb, forcing := 1, effective := .wt, draining := none, drainReq := none,
    powering := false, off := false, trackers := [], stuckCells := [], corrected := [], corrLogged := [], spoiled := [] }

def Deckle.reset : Deckle :=
  { bound := 0, capacity := 0, bTerm := 3, cTerm := 5, pool := List.replicate 16 0, inUse := List.replicate 16 0, grant := none,
    grantM := none, spent := List.replicate 16 0, spentM := List.replicate 16 0, demand := 0, cleaned := 0, rateClean := 0, m := 9200, atRisk := false, overcommitted := false,
    packCurrentLogged := 0, stagePath := true }

def Vat.reset : Vat :=
  { ch := List.replicate 16 .reset, pendingReduced := none, areaTarget := 0, setCount := 0, recoveries := [] }

def Ream.reset : Ream :=
  { ch := List.replicate 48 .reset, slots := [], stage := [], gathering := false, stageOrder := 0, stageClosed := 0, stageBlocks := [], imageCapacity := 0,
    root := [], generations := [], lastGen := 0, rehearsal := 0, index := [], dirCopy := [], membership := [0, 0, 0, 0], rootLog := 0, patrolled := 0 }

def Couch.reset : Couch :=
  { orch := .down, detected := none, committed := 0, cancels := [], commanded := false, cause := .inputAbsent, toDown := false,
    cold := false, firstRail := 255, todo := [], gen := none, curdDrained := false, stopped := false, stop := 0, dAtCommit := 0,
    sealed := false, rehearsing := none, inputPresent := false, inputSeen := false, raw := false, eraseHold := false,
    absentDirty := false, folding := false }

def Felt.reset : Felt :=
  { pair := .detached, links := List.replicate 8 .reset, peerMask := 0, twinSerial := 0, twinPressure := 0, twinEnergy := .absent,
    twinClosed := 0, twinLocked := false, offset := 0, offsetSince := none, slew := 0, slewAt := 0, bursts := [], staged := [], ends := [], applied := 0,
    sentAsync := [], lag := [], parts := [], partCount := 0, partNumber := 0, listNumber := 0, peerList := [], ops := [],
    opReqs := [], reservedOps := [], resyncTodo := [], resyncOut := [], hellos := [], refused := 0,
    credits := List.replicate 8 0, copied := [], tookOver := [] }

def Sal.reset : Sal :=
  { present := false, id := none, idRetries := 0, unread := true, reading := false, reservedLogged := [], voltage := 0, current := 0, ntc0 := none,
    ntc1 := none, diode := none, diodeBad := false, ocv := 0, rint := 0, fR := 0x10000, firstProbe := false, ocvOk := false,
    socLb := 0, socUb := 1000000, chargeLb := 0, chargeUb := 0, absSum := 0, absTime := 0, throughput := 0, probing := false, probeEn := false, suspended := none, lastProbe := none,
    lastAnchor := none, anchorBase := none, aged300 := false, aged1h := false, overrange := false, disagree := 0, anchorLow := true,
    ntcFailed := 0, lowCurrent := false, state := .absent, before := none, beforePack := 0, eEst := 0, eLb := 0, u := 0,
    reported := none, reportedAt := 0, learned := none, phase := .none, qDis := 0, qRes := 0, qChg := 0, window := 0, learnWindow := false,
    zeroChannel := 0, ageWarned := false, probes := 0 }

def Cipher.reset : Cipher :=
  { banks := [.blank, .blank], programming := none, drawn := 0, slots := [], engineOk := true, noVerify := false, passes := 0, requests := [], turns := [] }

def Cave.reset : Cave :=
  { sensors := List.replicate 110 .reset, tj := .normal, tjHist := [], rise := none, step := 0, unwinding := false, stepTj := 0,
    carriers := [], carrierHist := [], channelHist := [], assumedLogged := false, packHist := [], criticalSensor := 0, held3 := false }

/-- The supervisor at reset. Before any event the first failing rail reads 0xFF, the code of R401 for no application (DESIGN CHOICE, log entry 170). -/
def Power.reset : Power :=
  { vao := false, now := 0, seq := .off, rails := List.replicate 16 { enabled := false, good := false, failed := false }, pg := 0,
    sns := 0, powerFail := false, busMv := 0, falls := [], firstRail := 255, glitches := 0, upIn := false, dnIn := false,
    dnOut := false, upOut := false, done := false, restarts := [], lockout := false, faultDown := false, absentSince := none,
    brownOut := false, vaoLost := true, vaoMv := 0, button := none, held3 := false, stuck := false, waitButton := false,
    maintenance := false, ppsOut := false, ppsLocked := false, ppsPhase := 0, ppsAt := 0, pendingHold := none, watching := false }

/-- R2: slot A holds the signed production image, active and confirmed. What its header declares is the image's own and the manual
gives no value: its size (12 MiB, as R418 takes for an example), its security version 0 and the number 0 for its digest are
DESIGN CHOICE (log entry 1). -/
def factoryImage : ImageInfo :=
  { version := Config.imageVersionA, size := 12 * 1024 * 1024, headerOk := true, signatureOk := true, security := 0, formats := 1, digest := 0 }

def Ledger.reset : Ledger :=
  { st := .read, array := [], toggle := false, error := false, byReset := false, sectors := [], badReserve := [], withdrawn := [],
    band := 0, bandSince := 0, rind := [], torn := [], rindHead := 0, rindAt := none, markAt := none, queue := [], dropped := false, eraseEnded := none,
    activations := [{ kind := 3, slotB := false, now := false, sequence := 1, version := Config.imageVersionA,
                      size := 12 * 1024 * 1024, digest := 0, boots := 0, confirmed := true }],
    slotA := { st := .complete, image := some factoryImage, declared := 12 * 1024 * 1024, received := 12 * 1024 * 1024, bytes := [] },
    slotB := { st := .erased, image := none, declared := 0, received := 0, bytes := [] },
    running := false, trial := false, chosen := false, loadTries := 0, expiries := 0, fuses := 0, jtagLast := .idcode }

def Log.reset : Log :=
  { ports := [], ring := [], next := 1, windows := [], tokens := List.replicate 17 100, portDrops := List.replicate 17 0,
    tableDrops := List.replicate 17 0, overwrites := List.replicate 17 0, ringDrops := List.replicate 17 0, lost := List.replicate 17 0,
    dropFlag := List.replicate 17 false, mask := 0x00003E01, noDram := false }

def Units.reset : Units :=
  { engines := engineReset, slices := List.replicate 16 .reset, ports := List.replicate 16 .reset, links := List.replicate 8 .reset,
    cores := List.replicate 16 .reset, dramUnits := List.replicate 16 .reset, flashUnits := List.replicate 48 .reset, fed := [],
    fenceWait := [], portDowns := [], engineCorr := [], coreFailing := [] }

/-- R2, R389: the device as it leaves the factory, unpowered: VAO absent, SV in reset. VAO_POWER_ON is the first thing
that happens to it. -/
def State.reset : State :=
  { pending := [], out := [], fresh := 0, wire := .reset, cmd := .reset, cxl := .reset, epochs := .reset, regions := .reset,
    ppu := .reset, curd := .reset, deckle := .reset, vat := .reset, ream := .reset, couch := .reset, felt := .reset, sal := .reset,
    cipher := .reset, cave := .reset, power := .reset, ledger := .reset, log := .reset, units := .reset }

end Sys2Proof.Machine
end

