-- ==== Sys2Proof/Machine/Operands.lean ====
section
/-! DEFINITION. Operand forms: little-endian fields, CRC-32C, unit fields, parameter table images and their fields, packet layout. -/

namespace Sys2Proof.Machine

/-! ### Times in ns -/

def second : Nat := 1000000000
def day : Nat := 86400 * second

/-! ### Bytes -/

/-- R4: n in `k` bytes, least significant first. -/
def le : Nat → Nat → List Byte
  | 0, _ => []
  | k + 1, n => BitVec.ofNat 8 n :: le k (n / 256)

/-- R4: the number that bytes spell, least significant first. -/
def ofLe : List Byte → Nat
  | [] => 0
  | b :: bs => b.toNat + 256 * ofLe bs

/-- A signed value in `k` bytes, two's complement. -/
def leInt (k : Nat) (i : Int) : List Byte := le k (i % (256 ^ k : Nat)).toNat

/-- The field of `k` bytes at offset `o`; bytes beyond the end read as zero. -/
def field (bs : List Byte) (o k : Nat) : Nat := ofLe ((bs.drop o).take k)

/-- A field read as two's complement. -/
def sfield (bs : List Byte) (o k : Nat) : Int :=
  let n := field bs o k
  if 2 ^ (8 * k - 1) ≤ n then (n : Int) - (2 ^ (8 * k) : Nat) else n

/-- The position of the first nonzero byte among `k` bytes at offset `o` (R284 step 7). -/
def firstNonzero (bs : List Byte) (o : Nat) : Nat → Option Nat
  | 0 => none
  | k + 1 => if bs.getD o 0 ≠ 0 then some o else firstNonzero bs (o + 1) k

/-- R6: one bit of the reflected Castagnoli polynomial. -/
def crcBit (c : U32) : U32 := if c.getLsbD 0 then (c >>> 1) ^^^ 0x82F63B78 else c >>> 1

def crcByte (c : U32) (b : Byte) : U32 :=
  crcBit (crcBit (crcBit (crcBit (crcBit (crcBit (crcBit (crcBit (c ^^^ b.setWidth 32))))))))

/-- R6: CRC-32C. -/
def crc32c (bs : List Byte) : U32 := ~~~ (bs.foldl crcByte 0xFFFFFFFF)

/-! ### Unit fields -/

/-- R24, R297: a Unit ID. -/
def unitWord (cls index : Nat) : U16 := BitVec.ofNat 16 (cls * 4096 + index)

def unitCls : UnitId → Nat
  | .engine _ => 1 | .slice _ => 2 | .dram _ => 3 | .flash _ => 4 | .port _ => 5 | .felt _ => 6 | .core _ => 7
  | .sensor _ => 8 | .rail _ => 9

def unitIndex : UnitId → Nat
  | .engine i | .slice i | .dram i | .flash i | .port i | .felt i | .core i | .sensor i | .rail i => i

/-- R297: the unit index is the class's index. -/
def unitIdWord (u : UnitId) : U16 := unitWord (unitCls u) (unitIndex u)

/-- R24, R297: what a unit field names, or the status it is refused with; `off` is the field's offset from header byte 0. The class stands in
the field's second byte; that a reserved class answers the offset of its first byte is DESIGN CHOICE (log entry 168). -/
def unitField (w : U16) (off : Nat) : Except (Status × Nat) UnitId :=
  let c := w.toNat / 4096
  let i := w.toNat % 4096
  let pick (n : Nat) (u : UnitId) : Except (Status × Nat) UnitId := if i < n then .ok u else .error (.range, off)
  match c with
  | 1 => pick 160 (.engine i)
  | 2 => pick 16 (.slice i)
  | 3 => pick 16 (.dram i)
  | 4 => pick 48 (.flash i)
  | 5 => pick 16 (.port i)
  | 6 => pick 8 (.felt i)
  | 7 => pick 16 (.core i)
  | 8 => pick 110 (.sensor i)
  | 9 => pick 16 (.rail i)
  | _ => .error (.reservedField, off)

/-! ### Status and header encodings -/

/-- R294: status codes. -/
def Status.code : Status → Nat
  | .ok => 0x0000 | .accepted => 0x0001 | .partial_ => 0x0002 | .undefinedOpcode => 0x0010 | .reservedField => 0x0011
  | .badLength => 0x0012 | .badCrc => 0x0013 | .version => 0x0014 | .truncated => 0x0015 | .notReady => 0x0020
  | .notOwner => 0x0021 | .sealed => 0x0022 | .busy => 0x0023 | .noSpace => 0x0030 | .range => 0x0031 | .conflict => 0x0032
  | .energyLimit => 0x0040 | .thermalLimit => 0x0041 | .twinDown => 0x0050 | .keyExhausted => 0x0060
  | .mediaError => 0x0070 | .poisoned => 0x0071 | .internal => 0x00F0

/-- R277, R278: a packet of header and body; the CRC is taken with its field zero. -/
def packetBytes (flags : Byte) (opcode : U16) (tag : U32) (body : List Byte) : List Byte :=
  let head := [0x02, flags] ++ le 2 opcode.toNat ++ le 4 tag.toNat ++ le 4 body.length
  let crc := crc32c (head ++ [0, 0, 0, 0] ++ body)
  head ++ le 4 crc.toNat ++ body

/-- R278: the bytes of a reply. -/
def Reply.bytes (r : Reply) : List Byte :=
  packetBytes (BitVec.ofNat 8 (1 + (if r.more then 2 else 0) + (if r.urgent then 4 else 0))) r.opcode r.tag
    (le 2 r.status.code ++ le 2 r.detail ++ r.params)

/-- R278: the bytes of the reply to a packet whose header failed a check: bytes 2 to 7 as received. -/
def headerReplyBytes (echo : List Byte) (st : Status) (detail : Nat) : List Byte :=
  packetBytes 1 (BitVec.ofNat 16 (field echo 0 2)) (BitVec.ofNat 32 (field echo 2 4)) (le 2 st.code ++ le 2 detail)

/-! ### Parameter tables -/

/-- R329: fixed lengths by table ID. -/
def tableLength : Nat → Nat
  | 1 => 32 | 2 => 76 | 3 => 28 | 4 => 80 | 5 => 28 | 6 => 20 | 7 => 24 | 8 => 28 | 9 => 2476 | 10 => 28 | 11 => 20
  | 12 => 204 | 13 => 32 | 14 => 28 | 15 => 28 | _ => 0

/-- R325: a body in its frame, with its CRC. -/
def tableFrame (id : Nat) (body : List Byte) : List Byte :=
  let front := [0x01, 0x00, BitVec.ofNat 8 id, 0x00] ++ le 4 (body.length + 12) ++ body
  front ++ le 4 (crc32c front).toNat

/-- R331: "As trained at power-up": bit k for HP(2k) and HP(2k+1). -/
def trainedJoin (s : State) : Nat := (s.cxl.joined.map fun p => 2 ^ (p / 2)).sum

/-- R387: one entry of the default rail map. -/
def defaultRail (e : Nat) : List Byte :=
  let b := BitVec.ofNat 8 e
  [b, b, b, if e < 8 then 0 else 3, 0, 0] ++ le 2 (if e = 0 then 0 else if e < 8 then 5 else 10) ++ le 2 300 ++ [0, 0]

/-- R156: GiB of DRAM on the channels ONLINE. -/
def vatGib (s : State) : Nat :=
  (s.vat.ch.map fun c => if c.st = .online then (c.dimms.map fun d => d.count * d.gibPerDimm).getD 0 else 0).sum

/-- R156: the default directory cache area, in units of 16 GiB. -/
def defaultArea (s : State) : Nat := min 16 (vatGib s / 32 / 16)

/-- R331 to R345: the body of a table at its defaults. -/
def defaultBody (s : State) : Nat → List Byte
  | 1 => [BitVec.ofNat 8 (trainedJoin s), 0, 0xFF, 0xFF] ++ le 2 500 ++ le 2 60 ++ le 4 0 ++ [0, 1, 3, 0] ++ le 4 0
  | 2 => (List.range 16).flatMap fun h =>
      [if h % 2 = 1 && s.cxl.joined.contains (h - 1) then 0 else 1, 0] ++ le 2 10
  | 3 => [0, 2, 0, 5] ++ le 2 8 ++ le 2 24 ++ le 2 16 ++ le 2 64 ++ le 2 (defaultArea s) ++ [0, 0]
  | 4 => List.replicate 64 0xFF ++ [3, 1, 7, 4]
  | 5 => [0, 1, 8, 1] ++ le 2 8 ++ [50, 75] ++ le 4 262144 ++ le 2 64 ++ [0, 0]
  | 6 => le 4 1000 ++ le 4 0
  | 7 => [0xFF, 5, 1, 5] ++ le 2 8 ++ le 2 4 ++ [0, 0, 0, 0]
  | 8 => le 4 2500000 ++ le 4 0x00300000 ++ le 2 1000 ++ le 2 3435 ++ [1, 0] ++ le 2 1000
  | 9 => match s.sal.id with
      | some p => Config.genericChemistry p.chemistry
      | none => 1 :: List.replicate 2463 0
  | 10 => le 4 2048 ++ [10, 90] ++ le 2 220 ++ le 2 47 ++ le 2 83 ++ le 2 0 ++ [98, 0]
  | 11 => le 2 0 ++ le 2 1000 ++ le 2 3435 ++ [0, 0]
  | 12 => (List.range 16).flatMap defaultRail
  | 13 => List.replicate 16 0 ++ [40, 0, 0, 0]
  | 14 => le 4 0x00003E01 ++ le 2 100 ++ le 2 100 ++ le 4 4096 ++ le 4 0
  | 15 => le 8 0 ++ [1, 0, 0, 0] ++ le 4 0
  | _ => []

/-- R328: the image in force. -/
def tableImage (s : State) (id : Nat) : List Byte :=
  match s.cmd.tables.getD (id - 1) none with
  | some image => image
  | none => tableFrame id (defaultBody s id)

/-- R328: a field of the table in force, at its image offset (8 or above). -/
def tableField (s : State) (id off width : Nat) : Nat :=
  match s.cmd.tables.getD (id - 1) none with
  | some image => field image off width
  | none => field (defaultBody s id) (off - 8) width

/-! ### Fields of the tables in force, under the names of their rules -/

/-- R331: the join mask joins HP(2k) and HP(2k+1). -/
def joinedPair (s : State) (port : Nat) : Bool := (tableField s 1 8 1).testBit (port / 2)
def portEnabled (s : State) (port : Nat) : Bool :=
  (tableField s 1 10 2).testBit (if joinedPair s port then port / 2 * 2 else port)
def mctpPortEnabled (s : State) (port : Nat) : Bool := (tableField s 1 22 1).testBit port
def ethernetOn (s : State) : Bool := tableField s 1 21 1 = 1
def ipv4Address (s : State) : U32 := BitVec.ofNat 32 (tableField s 1 16 4)
/-- R332: LDs of a head. -/
def ldCount (s : State) (head : Nat) : Nat := tableField s 2 (8 + 4 * head) 1
def releaseTimeoutSeconds (s : State) (head : Nat) : Nat := tableField s 2 (10 + 4 * head) 2
/-- R333. -/
def runBinReduced (s : State) : Bool := tableField s 3 8 1 = 1
def mappingMode (s : State) : Nat := tableField s 3 9 1
def allBankRefresh (s : State) : Bool := tableField s 3 10 1 = 1
def disturbThreshold (s : State) : Nat := 256 * tableField s 3 12 2
def rowRepairThreshold (s : State) : Nat := tableField s 3 16 2
def deviceMarkThreshold (s : State) : Nat := tableField s 3 18 2
def areaUnits (s : State) : Nat := tableField s 3 20 2
def migrationPercent (s : State) : Nat := 10 * tableField s 3 11 1
/-- R334. -/
def carrierOf (s : State) (channel : Nat) : Nat :=
  let c := tableField s 4 (8 + channel) 1
  if c < 16 then c else 16 + channel
def carrierNtc (s : State) (carrier : Nat) : Nat := if carrier < 16 then tableField s 4 (56 + carrier) 1 else 255
def retrySteps (s : State) : Nat := tableField s 4 72 1
def suspendEnabled (s : State) : Bool := tableField s 4 73 1 = 1
/-- R181, R334: the patrol interval in ns. -/
def patrolInterval (s : State) : Nat := tableField s 4 74 1 * 86400000000000
def reclaimPercent (s : State) : Nat := tableField s 4 75 1
/-- R335. -/
def storeDetector (s : State) : Bool := tableField s 5 9 1 = 1
def storeThreshold (s : State) : Nat := tableField s 5 10 1
def twinFallback (s : State) : Bool := tableField s 5 11 1 = 1
def streamWindowPages (s : State) : Nat := tableField s 5 12 2 * 2048
def pinLimitPercent (s : State) : Nat := tableField s 5 14 1
def dirtyCeilingPercent (s : State) : Nat := tableField s 5 15 1
def freeTarget (s : State) : Nat := tableField s 5 16 4
def prefetchDepth (s : State) : Nat := tableField s 5 20 2
/-- R336. -/
def autoCloseMicros (s : State) : Nat := tableField s 6 8 4
/-- R337. -/
def linksEnabled (s : State) : Nat := tableField s 7 8 1
def takeoverOnCommit (s : State) : Bool := tableField s 7 10 1 = 1
def resyncShare (s : State) : Nat := 10 * tableField s 7 11 1
def lagBytes (s : State) : Nat := tableField s 7 12 2 * 8 * 1024 * 1024
def lagHalfMs (s : State) : Nat := tableField s 7 14 2
def timeMasterSetting (s : State) : Nat := tableField s 7 16 1
/-- R338. -/
def shuntNano (s : State) : Nat := tableField s 8 8 4
def dividerN (s : State) : Nat := tableField s 8 12 4
def probeLoadFitted (s : State) : Bool := tableField s 8 20 1 = 1
def busThreshold (s : State) : Nat := tableField s 8 22 2
/-- R340. -/
def bCapBytes (s : State) : Nat := tableField s 10 8 4 * gib
def reserveHalfPercent (s : State) : Nat := tableField s 10 12 1
def onsetHundredths (s : State) : Nat := tableField s 10 13 1
def holdTenths (s : State) : Nat := tableField s 10 14 2
def pDimmTenths (s : State) : Nat := tableField s 10 16 2
def pNandHundredths (s : State) : Nat := tableField s 10 18 2
def pOtherWatts (s : State) : Nat := tableField s 10 20 2
def etaHundredths (s : State) : Nat := tableField s 10 22 1
/-- R341. -/
def ntcEnabled (s : State) (input : Nat) : Bool := (tableField s 11 8 2).testBit input
/-- R342. -/
def railPosition (s : State) (e : Nat) : Nat := tableField s 12 (8 + 12 * e) 1
def railPg (s : State) (e : Nat) : Nat := tableField s 12 (9 + 12 * e) 1
def railSense (s : State) (e : Nat) : Nat := tableField s 12 (10 + 12 * e) 1
def railDomain (s : State) (e : Nat) : Nat := tableField s 12 (11 + 12 * e) 1
def railIndex (s : State) (e : Nat) : Nat := tableField s 12 (12 + 12 * e) 1
def railHeld (s : State) (e : Nat) : Bool := tableField s 12 (13 + 12 * e) 1 = 1
/-- R343. -/
def pairContext (s : State) : List Byte := (List.range 16).map fun i => BitVec.ofNat 8 (tableField s 13 (8 + i) 1)
def usageLimit (s : State) : Nat := 2 ^ tableField s 13 24 1
/-- R344. -/
def rateLimit (s : State) : Nat := tableField s 14 14 2
def traceDefaultKib (s : State) : Nat := tableField s 14 16 4
/-- R345. -/
def utcOffset (s : State) : Nat := tableField s 15 8 8
def ppsInputMode (s : State) : Nat := tableField s 15 16 1
def ppsDelay (s : State) : Int := (BitVec.ofNat 32 (tableField s 15 20 4)).toInt
def ppsOutputOn (s : State) : Bool := tableField s 15 17 1 = 1

end Sys2Proof.Machine
end

