-- ==== Sys2Proof/Machine/Flags.lean ====
section
/-! DEFINITION. What is computed from the state: ready and state codes, D, A, H, the Couch rate, power and capacity, the bound, frame counts, pins and status outputs. -/

namespace Sys2Proof.Machine

/-! ### Codes (R304) -/

/-- R304: the ready state as GET_READY_STATE encodes it, COMMITTED before all. -/
def readyCode (s : State) : Nat :=
  if s.couch.orch = .committed then 5 else
  match s.cmd.ready with
  | .below => 0 | .core => 1 | .lift => 2 | .service => 3 | .maintenance => 4 | .recovery => 4

def orchCode : Orch → Nat
  | .serving => 0 | .armed => 1 | .committed => 2 | .lifting => 3 | .down => 3

def energyCode : Energy → Nat
  | .absent => 0 | .degraded => 1 | .normal => 2

def pairCode : Pair → Nat
  | .detached => 0 | .linking => 1 | .attached => 2 | .twinDown => 3

def sealCode : Seal → Nat
  | .notSealed => 0 | .sealed => 1 | .unsealed => 2

def dramCode : DramSt → Nat
  | .absent => 0 | .training => 1 | .online => 2 | .vacating => 3 | .offline => 4 | .failed => 5

def flashCode : FlashSt → Nat
  | .absent => 0 | .present => 1 | .adding => 2 | .online => 3 | .draining => 4 | .drained => 5 | .failed => 6

def roleCode : Role → Nat
  | .ream => 0 | .tier => 1 | .port => 2 | .felt => 3 | .couch => 4 | .management => 5 | .service => 6 | .spare => 7 | .fenced => 8

def mirrorCode : MirrorSt → Nat
  | .notMirrored => 0 | .inSync => 1 | .lagging => 2 | .resync => 3 | .diverged => 4

def modeCode : Mode → Nat
  | .wb => 0 | .wt => 1 | .off => 2

/-- R95: the stricter of two modes. -/
def stricter (a b : Mode) : Mode := if modeCode a < modeCode b then b else a

/-- R309: byte 28 of REGION_QUERY; of several operations it reports the earliest (log entry 133). -/
def opnCode : List RegionOpn → Nat
  | [] => 0 | .shrink :: _ => 1 | .resync :: _ => 2 | .d0fill :: _ => 3 | .flush :: _ => 4

/-! ### Members of lists -/

def dramAt (s : State) (c : Nat) : Dram := s.vat.ch.getD c .reset
def flashAt (s : State) (c : Nat) : Flash := s.ream.ch.getD c .reset
def linkAt (s : State) (t : Nat) : Link := s.felt.links.getD t .reset
def sensorAt (s : State) (n : Nat) : Sensor := s.cave.sensors.getD n .reset
def engineAt (s : State) (e : Nat) : Engine :=
  s.units.engines.getD e { role := .fenced, instance_ := 255, unit := .reset, failing := false, resuming := false, work := [] }
def regionOf (s : State) (n : Nat) : Option Region := s.regions.list.find? (·.num = n)
def sessionOn (s : State) (ch : Chan) : Option Session := s.cmd.sessions.find? (·.ch = ch)
def sessionNum (s : State) (n : Nat) : Option Session := s.cmd.sessions.find? (·.num = n)
def ldOf (s : State) (head ld : Nat) : Option Ld := s.cxl.lds.find? fun l => l.head = head && l.ld = ld

/-! ### Region flags (R74) -/

def flagMirror (f : U32) : Nat := f.toNat % 4
def flagCipher (f : U32) : Bool := f.getLsbD 2
def flagStream (f : U32) : Bool := f.getLsbD 3
def flagClass (f : U32) : Nat := f.toNat / 16 % 4
def flagWeight (f : U32) : Nat := f.toNat / 64 % 4
def isMirrored (r : Region) : Bool := flagMirror r.flags ≠ 0

/-- The pages of a region's runs. -/
def runHasExtent (runs : List (Nat × Nat)) (e : Nat) : Bool := runs.any fun (f, n) => f ≤ e && e < f + n

/-- R67, R69: the region that owns an extent, and whether it is free. -/
def regionOfExtent (s : State) (e : Nat) : Option Region := s.regions.list.find? fun r => runHasExtent r.runs e
def regionOfPage (s : State) (page : Nat) : Option Region := regionOfExtent s (page / 512)
def runPages (runs : List (Nat × Nat)) : Nat := (runs.map fun (_, n) => 512 * n).sum

/-- R309: the page at a page index within the region, in region order. -/
def pageAt : List (Nat × Nat) → Nat → Option Nat
  | [], _ => none
  | (f, n) :: rest, k => if k < 512 * n then some (512 * f + k) else pageAt rest (k - 512 * n)

/-- The index within the region of a page. -/
def pageIndex : List (Nat × Nat) → Nat → Option Nat
  | [], _ => none
  | (f, n) :: rest, p =>
    if 512 * f ≤ p && p < 512 * (f + n) then some (p - 512 * f) else (pageIndex rest p).map (· + 512 * n)

/-! ### Capacity -/

/-- R67: A, the sum of the sizes of all regions, allocations of changes not yet in force included. -/
def allocated (s : State) : Nat :=
  (s.regions.list.map (·.size)).sum + (s.regions.reserved.map fun (_, n) => n * extentBytes).sum

/-- R162, R182, R186: the home share of a channel, 2/3 of raw up to 3 TiB, less that of failed targets and the extents lost
to bad blocks. -/
def homeShare (c : Flash) : Nat :=
  match c.targets with
  | some t => min (t.rawMib * 1024 * 1024) (3 * tib) * 2 / 3 * (t.targets - c.deadTargets.length) / max 1 t.targets - c.lost * extentBytes
  | none => 0

def groupChannels (g : Nat) : List Nat := (List.range 12).map (12 * g + ·)
def groupOnline (s : State) (g : Nat) : List Nat := (groupChannels g).filter fun c => (flashAt s c).st = .online

def minOf : List Nat → Nat
  | [] => 0
  | x :: xs => xs.foldl min x

/-- R163: what each channel of group g contributes to H. -/
def groupShare (s : State) (g : Nat) : Nat :=
  let on := groupOnline s g
  if 4 ≤ on.length then minOf (on.map fun c => homeShare (flashAt s c)) else 0

/-- R68: the home capacity H, a whole number of extents. -/
def homeCapacity (s : State) : Nat :=
  ((List.range 4).map fun g => (groupOnline s g).length * groupShare s g).sum / extentBytes * extentBytes

/-! ### Frames (R106, R128, R157) -/

/-- R128: present locations of a channel. -/
def channelLocations (c : Dram) : Nat := (c.dimms.map fun d => d.count * d.gibPerDimm * 262144).getD 0

/-- R157: frames of a channel: its locations less its share of the directory cache area, which are the highest. -/
def channelFrames (c : Dram) : Nat := channelLocations c - c.share

/-- R128: logical ranks of a channel. -/
def channelRanks (c : Dram) : Nat := max 1 ((c.dimms.map fun d => d.count * d.ranks).getD 1)

/-- R128 to R130: where a location lies. -/
structure Place where
  group : Nat
  bank : Nat
  chunk : Nat
  rank : Nat
  row : Nat
  deriving DecidableEq, Repr

/-- R128, R130: the fields of an in-channel index under the channel's mapping mode. -/
def placeOf (c : Dram) (i : Nat) : Place :=
  let n := channelRanks c
  let row := i / 128 / n
  let g := i % 8
  let b := i / 8 % 4
  let r := i / 128 % n
  { group := if c.mapping = 0 then g else g ^^^ (row % 8), bank := if c.mapping = 0 then b else b ^^^ (row / 8 % 4), chunk := i / 32 % 4,
    rank := if c.mapping = 2 then r ^^^ (row / 32 % 16 % n) else r, row := row }

/-- R129: the bank of a subchannel that holds a location, and its row, as numbers. -/
def bankOf (sub : Nat) (p : Place) : Nat := sub * 1024 + p.rank * 32 + p.bank * 8 + p.group
def rowOf (p : Place) : Nat := (p.rank * 32 + p.bank * 8 + p.group) * 131072 + p.row

/-- R148, R151, R152, R157: location i of a channel is vacated or withheld: of a rank out of use, a row under repair, a bank
vacated for hPPR, or of what the directory cache area grows into. -/
def locationWithheld (_s : State) (c : Dram) (i : Nat) : Bool :=
  let p := placeOf c i
  c.ranksOut.contains p.rank || c.withheld.contains (rowOf p) || (c.repair.any fun x => x.2.1 = 2 && x.1 / 131072 = rowOf p / 131072) ||
    (c.share < c.shareTo && channelLocations c - c.shareTo ≤ i)

/-- Locations of a channel's frames that are withheld. -/
def withheldCount (s : State) (c : Dram) : Nat :=
  if c.ranksOut.isEmpty && c.withheld.isEmpty && c.repair.isEmpty && c.shareTo ≤ c.share then 0
  else ((List.range (channelFrames c)).filter (locationWithheld s c)).length

/-- R106: the frame count. -/
def frameCount (s : State) : Nat := (s.vat.ch.map fun c => if c.st = .online || c.st = .vacating then channelFrames c else 0).sum

def frameOf (s : State) (page : Nat) : Option Frame := s.ppu.frames.find? (·.page = page)
def validFrame (s : State) (page : Nat) : Option Frame := s.ppu.frames.find? fun f => f.page = page && f.valid
def frameChannel (no : Nat) : Nat := no % 16

/-- R138, R152, R153: a channel takes fills: ONLINE and not RESTRICTED. -/
def channelTakesFills (c : Dram) : Bool := c.st = .online && c.band ≠ .restricted

/-- R242: frames that the Lift index occupies, taken before the free pool forms: entries of 16 bytes. -/
def indexFrames (s : State) : Nat := (16 * s.ream.index.length + 4095) / 4096

/-- R108, R138, R152, R242: frames in the pool of FREE frames. -/
def freeFrames (s : State) : Nat :=
  ((List.range 16).map fun k =>
    let c := s.vat.ch.getD k .reset
    let taken := (s.ppu.frames.filter fun f => frameChannel f.no = k && !locationWithheld s c (f.no / 16)).length
    let traced := (((s.cmd.trace.map (·.frames)).getD []).filter fun n => n % 16 = k).length
    if channelTakesFills c then channelFrames c - withheldCount s c - taken - traced else 0).sum - indexFrames s

def entryOf (s : State) (page : Nat) : Option DirEntry := s.ppu.dir.find? (·.page = page)

/-- R113, R309: a D0 region whose pins are in force. -/
def d0Region (r : Region) : Bool := flagClass r.flags = 0 && r.d0InForce

/-- R113: pinned pages: every page of the D0 regions in force, and the pages of other regions that a TIER_PIN covers. -/
def pinnedPages (s : State) : Nat :=
  (s.regions.list.map fun r => if d0Region r then r.size / pageBytes else 0).sum +
    (s.ppu.dir.filter fun e => e.pinned && !((s.regions.list.find? (·.num = e.region)).map d0Region).getD false).length

/-- R109: frames of pages that are DIRTY or charged. -/
def dirtyFrames (s : State) : Nat := (s.ppu.dir.filter fun e => e.frame.isSome && (e.charged || e.st = .dirty)).length
def dirtyCeiling (s : State) : Nat := frameCount s * dirtyCeilingPercent s / 100
/-- R113: the pin limit in frames. -/
def pinLimit (s : State) : Nat := frameCount s * pinLimitPercent s / 100

/-! ### Dirty accounting (R48, R223) -/

/-- R48, R58: charged pages: data pages, directory blocks, the root log tail, and the staging area in whole pages (log entry 140). -/
def chargedPages (s : State) : Nat :=
  (s.ppu.dir.filter (·.charged)).length + s.ppu.dirtyBlocks.length + (s.regions.rootTail.length + 255) / 256 + (s.felt.staged.length + 63) / 64

/-- R48, R225, R262: write credits held by ports and by the Felt unit, the credits of accepted writes included. -/
def heldCredits (s : State) : Nat := s.deckle.pool.sum + s.deckle.inUse.sum + s.felt.credits.sum

/-- R48: D in bytes. -/
def dirtyBytes (s : State) : Nat := pageBytes * (chargedPages s + heldCredits s)

/-! ### The Couch channel set, power and capacity (R218 to R221) -/

/-- R183: tenths of the Couch rate factor of a carrier band. -/
def couchFactor : CarrierBand → Nat
  | .belowM10 => 0 | .m10to0 => 8 | .home => 10 | .above70 => 9 | .above85 => 0

/-- R219: what makes a channel fit for the Couch set, its group aside. -/
def couchFit (c : Flash) : Bool := c.st = .online && couchFactor c.band ≠ 0 && c.reserveReady

/-- R50, R87, R219: a channel leaves the Couch set at once, and joins it at a recompute. -/
def couchEligible (c : Flash) : Bool := couchFit c && c.joined

def couchGroup (s : State) (g : Nat) : List Nat := (groupChannels g).filter fun c => couchEligible (flashAt s c)

/-- R219: the Couch channel set. -/
def couchSet (s : State) : List Nat :=
  ((List.range 4).map fun g => if 4 ≤ (couchGroup s g).length then couchGroup s g else []).flatten

/-- R219: w, the smallest number of set channels in any contributing group. -/
def couchWidth (s : State) : Nat :=
  minOf (((List.range 4).map fun g => (couchGroup s g).length).filter (4 ≤ ·))

/-- R160, R174, R186: r_ch in bytes per second. -/
def couchChannelRate (c : Flash) : Nat :=
  let luns := (c.targets.map fun t => (t.targets - c.deadTargets.length) * t.luns).getD 0
  (if 4 ≤ luns then 2500000000 else 625000000 * luns) / (if c.slow then 2 else 1)

/-- R219: Couch/Lift engines in service, each driving two channels. -/
def couchEngines (s : State) : Nat := (s.units.engines.filter fun e => e.role = .couch && e.unit.st = .inService).length

/-- R219: rate_raw, bytes per second. -/
def rateRaw (s : State) : Nat :=
  min (((couchSet s).map fun c => couchChannelRate (flashAt s c) * couchFactor (flashAt s c).band / 10).sum)
    (couchEngines s * 5000000000)

/-- R219: rate_raw × (w − 1)/w × 256/257, the rate of which m is the factor. -/
def rateData (s : State) : Nat :=
  let w := couchWidth s
  rateRaw s * (w - 1) * 256 / (w * 257)

/-- R219: rate_plan, bytes per second; m in units of 0.0001. -/
def ratePlan (s : State) : Nat :=
  let w := couchWidth s
  rateRaw s * (w - 1) * 256 * s.deckle.m / (w * 257 * 10000)

/-- R218: DIMMs on channels ONLINE or VACATING. -/
def couchDimms (s : State) : Nat :=
  (s.vat.ch.map fun c => if c.st = .online || c.st = .vacating then (c.dimms.map (·.count)).getD 0 else 0).sum

/-- R218: P in mW, fractions of a milliwatt dropped (log entry 8). -/
def couchPower (s : State) : Nat :=
  let n := (couchSet s).length
  (38000 + 625 * n + couchDimms s * pDimmTenths s * 100 + n * pNandHundredths s * 10 + pOtherWatts s * 1000) * 100 / etaHundredths s

/-- R198: the pack is vouched for: present, with a usable identity block. The first probe's two conditions stand in `vouched`. -/
def vouched (s : State) : Bool :=
  s.sal.present && !s.sal.unread && (s.sal.id.map (·.usable)).getD false && s.sal.firstProbe && s.sal.ocvOk

/-- R191: full scale, the pack's rated energy, in mJ. -/
def fullScale (s : State) : Nat := (s.sal.id.map fun p => p.ratedJ * 1000).getD 0

/-- R221: E_res in mJ. -/
def eRes (s : State) : Nat := fullScale s * reserveHalfPercent s / 200

/-- R221: P divided by the cutoff voltage exceeds the maximum discharge current (mW/mV = A; the current in 10 mA). -/
def packCurrentExceeded (s : State) : Bool :=
  match s.sal.id with
  | some p => p.maxCurrent * p.cutoffMv < couchPower s * 100
  | none => false

/-- R173, R222: SLC bytes of the Couch reserve of a channel, 1/16 of raw in SLC mode at a third. -/
def reserveSlc (c : Flash) : Nat := (c.targets.map fun t => min (t.rawMib * 1024 * 1024) (3 * tib) / 48).getD 0

/-- R162: bytes of a block in TLC mode. -/
def blockBytes (t : Targets) : Nat := t.pagesPerBlock * t.pageBytes

/-- R162: bytes of a block in SLC mode, a third of its bytes in TLC mode. -/
def slcBlock (c : Flash) : Nat := (c.targets.map fun t => t.pagesPerBlock * t.pageBytes / 3).getD 0

/-- R173: SLC bytes that a generation's image holds at stripe width w. -/
def generationSlc (w pages : Nat) : Nat := if w ≤ 1 then 0 else pages * pageBytes * w * 257 / ((w - 1) * 256)

/-- R173: the free image capacity in bytes, of reserve blocks erased and not awaiting erase. -/
def imageCapacity (s : State) : Nat :=
  let w := couchWidth s
  let total := ((couchSet s).map fun c => reserveSlc (flashAt s c)).sum
  let waiting := ((couchSet s).map fun c => ((flashAt s c).blocks.filter fun b => b.erasing && (b.seg = .image || b.seg = .summary)).length * slcBlock (flashAt s c)).sum
  let used := (s.ream.generations.map fun g => generationSlc g.width g.pages.length).sum + s.ream.rehearsal + waiting
  if w = 0 then 0 else (total - used) * (w - 1) * 256 / (w * 257)

/-- R221: bytes that the time and the energy allow, and the term that sets t_avail: 0 T_hold, 1 energy. -/
def timeLimited (s : State) : Nat × Nat :=
  let p := couchPower s
  let e := s.sal.eLb - eRes s
  let t := holdTenths s
  if t * p ≤ 10 * e then (ratePlan s * (t - 1) / 10, 0)
  else if 10 * e ≤ p then (0, 1)
  else (ratePlan s * (10 * e - p) / (10 * p), 1)

/-- R221, R317: the Couch capacity C and its term. -/
def couchCapacity (s : State) : Nat × Nat :=
  if ¬ vouched s then (0, 5)
  else if couchSet s = [] then (0, 4)
  else if packCurrentExceeded s then (0, 3)
  else if s.sal.eLb ≤ eRes s then (0, 5)
  else
    let (tl, term) := timeLimited s
    if s.ream.imageCapacity < tl then (s.ream.imageCapacity, 2) else (tl, term)

/-- R222: condition 4 of R30 fails, or the energy state is ABSENT: the stage path. -/
def onStagePath (s : State) : Bool := s.sal.eLb ≤ eRes s || s.sal.state = .absent

/-- R49: B_profile, until CONFIG_SEAL. -/
def bProfile (s : State) : Option Nat := if s.cmd.safe then some (64 * gib) else none

/-- R49: k_energy × C. -/
def energyShare (s : State) : Nat :=
  let c := (couchCapacity s).1
  match s.sal.state with
  | .normal => c | .degraded => c / 2 | .absent => 0

/-- R49, R222, R317: the dirty bound B and its term. -/
def dirtyBound (s : State) : Nat × Nat :=
  if onStagePath s then (0, 3)
  else
    let profile := (bProfile s).getD (bCapBytes s)
    let e := energyShare s
    if bCapBytes s ≤ profile && bCapBytes s ≤ e then (bCapBytes s, 0)
    else if profile ≤ e then (profile, 1)
    else (e, 2)

/-- R49, R50: the bound in force: a fall applies at once, a rise at the next recompute. -/
def boundNow (s : State) : Nat := min s.deckle.bound (dirtyBound s).1

/-- R222: the stage path in force: entered at once, left at the next recompute. -/
def stagePathNow (s : State) : Bool := s.deckle.stagePath || onStagePath s

/-- R51, R224: the pressure x in units of 0.0001. With B = 0 it is at least 1, since D has reached B; beyond that a quotient by 0 is free
(log entry 20). -/
def pressure (s : State) : Nat :=
  let b := boundNow s
  let d := dirtyBytes s
  let f := dirtyFrames s
  max (if b = 0 then 10000 + Config.pressureOverZero d else d * 10000 / b)
    (if dirtyCeiling s = 0 then Config.pressureOverZero f else f * 10000 / dirtyCeiling s)

/-- R224: the throttle onset in units of 0.0001. -/
def onset (s : State) : Nat := onsetHundredths s * 100

/-- R224: the rate of new credits at a pressure, bytes per second; none is unrestricted. -/
def grantRate (s : State) (x : Nat) : Option Nat :=
  if x < onset s then none else if 10000 ≤ x then some 0
  else some (2 * s.deckle.rateClean * (10000 - x) / (10000 - onset s))

/-- R225, R263: the pair pressure; the twin's counts in units of 0.001. -/
def pairPressure (s : State) : Nat := if s.felt.pair = .attached then max (pressure s) (s.felt.twinPressure * 10) else pressure s

/-- R162: raw bytes of a channel that are used. -/
def rawBytes (c : Flash) : Nat := (c.targets.map fun t => min (t.rawMib * 1024 * 1024) (3 * tib)).getD 0

/-- R162, R163, R169: stripe data width k of a group's home stripes, at most 11 and at least 3. -/
def groupWidth (s : State) (g : Nat) : Nat := max 4 (groupOnline s g).length

/-! ### The stage (R171, R222) -/

/-- R222: channel c can take stage pages: ONLINE, stages formatted; `warm` also asks that it lies in the Couch window. -/
def stageChannel (s : State) (needWindow : Bool) (c : Nat) : Bool :=
  let f := flashAt s c
  f.st = .online && f.stageReady && (!needWindow || couchFactor f.band ≠ 0)

/-- R222: at least one pair (c, (c + 12) mod 48). -/
def stagePair (s : State) (needWindow : Bool) : Bool :=
  (List.range 48).any fun c => stageChannel s needWindow c && stageChannel s needWindow ((c + 12) % 48)

/-- R162, R168: pages of a block in its cell mode: a third of them in SLC mode. -/
def slcSeg : Seg → Bool
  | .stage | .image | .summary | .chanMeta => true
  | .home | .directory | .rootLog | .regionMeta => false
def segPages (t : Targets) (seg : Seg) : Nat := if slcSeg seg then t.pagesPerBlock / 3 else t.pagesPerBlock

/-- R168: the slots of a block before its summary slots, the header slot among them: a summary slot covers 256. -/
def dataEnd (t : Targets) (seg : Seg) : Nat := 4 * segPages t seg - (4 * segPages t seg + 255) / 257

/-- R167, R168, R171: whole pages of a stage block that hold neither the header slot nor summary slots. -/
def stageBlockPages (c : Flash) : Nat := (c.targets.map fun t => dataEnd t .stage / 4 - 1).getD 0

/-- R162: blocks of a channel's stage, 1/128 of raw. -/
def stageBlocksOf (c : Flash) : Nat := (c.targets.map fun t => rawBytes c / 128 / blockBytes t).getD 0

/-- R162, R171: 16 KiB SLC pages of the stages, each page stored on two channels. -/
def stageTotalPages (s : State) : Nat :=
  (s.ream.ch.map fun f => if f.st = .online && f.stageReady then stageBlocksOf f * stageBlockPages f else 0).sum / 2

/-- R171, R179: stage pages that are erased. -/
def stageFreePages (s : State) : Nat := stageTotalPages s - (s.ream.stageBlocks.map (·.pages)).sum

/-- R171, R222: channel c and channel (c + 12) modulo 48 can take stage pages. -/
def stageFit (s : State) (needWindow : Bool) (c : Nat) : Bool := stageChannel s needWindow c && stageChannel s needWindow ((c + 12) % 48)

/-- R171: a stage block with an erased page. -/
def stageOpen (s : State) (needWindow : Bool) : Option StageBlock := s.ream.stageBlocks.find? fun b => decide (b.pages < b.limit) && stageFit s needWindow b.channel

/-- R162, R171: a channel holds fewer stage blocks than its stage has. -/
def stageHasBlock (s : State) (c : Nat) : Bool :=
  decide ((s.ream.stageBlocks.filter fun b => b.channel = c || (b.channel + 12) % 48 = c).length < stageBlocksOf (flashAt s c)) && stageBlockPages (flashAt s c) ≠ 0

/-- R171: the lowest channel c whose pair has an erased stage block (log entry 160). -/
def stageNew (s : State) (needWindow : Bool) : Option Nat :=
  (List.range 48).find? fun c => stageFit s needWindow c && stageHasBlock s c && stageHasBlock s ((c + 12) % 48)

/-- R171: the stage has no erased page left. -/
def stageExhausted (s : State) : Bool := (stageOpen s false).isNone && (stageNew s false).isNone

/-! ### Locations (R164) -/

def locChannel (l : BitVec 40) : Nat := l.toNat / 2 ^ 33 % 64
def locTarget (l : BitVec 40) : Nat := l.toNat / 2 ^ 30 % 8
def locLun (l : BitVec 40) : Nat := l.toNat / 2 ^ 28 % 4
def locBlock (l : BitVec 40) : Nat := l.toNat / 2 ^ 16 % 4096
def locPage (l : BitVec 40) : Nat := l.toNat / 16 % 4096
def locPlane (l : BitVec 40) : Nat := l.toNat / 4 % 4
def locSlot (l : BitVec 40) : Nat := l.toNat % 4

/-- R164: the block of a location: its channel's bits aside, slot and page zero. -/
def blockId (l : BitVec 40) : Nat := (l.toNat % 2 ^ 33 / 65536 * 65536 + locPlane l * 4) / 4

/-- R164, R177: the LUN of a location, its channel's and target's number included. -/
def lunOf (l : BitVec 40) : Nat := l.toNat / 2 ^ 28

/-- R164: the numbers of a channel's targets: chip enable in the low two bits, volume above; where fewer are populated than its chip enables
and volumes allow, the lowest (log entry 161). -/
def targetNumbers (t : Targets) : List Nat := ((List.range 8).filter fun n => decide (n % 4 < t.chipEnables) && decide (n / 4 < t.volumesPerCe)).take t.targets

/-- R164: every field lies inside the geometry, the reserved bit is 0, and the slot is not the header slot. -/
def validLoc (s : State) (l : BitVec 40) : Bool :=
  l.toNat < 2 ^ 39 && locChannel l < 48 && match (flashAt s (locChannel l)).targets with
    | some t => (targetNumbers t).contains (locTarget l) && locLun l < t.luns && locBlock l < t.blocksPerPlane && locPage l < t.pagesPerBlock &&
        locPlane l < t.planes && !(locSlot l = 0 && locPage l = 0)
    | none => false

/-- R164: a location that addresses no slot: its reserved bit, its channel, or a field beyond the target's geometry. -/
def locBad (s : State) (l : BitVec 40) : Bool :=
  l ≠ 0 && (decide (2 ^ 39 ≤ l.toNat) || decide (48 ≤ locChannel l) || ((flashAt s (locChannel l)).targets.isSome && !validLoc s l))

/-- R91, R162, R169, R179: the home area's erased and invalid space is below 3 % of its raw size: what is neither stage nor reserve nor bad,
less the valid slots and directory pages with their parity. -/
def belowFreeFloor (s : State) : Bool :=
  let on := s.ream.ch.filter fun c => c.st = .online || c.st = .draining
  let raw := (on.map fun c => rawBytes c * 119 / 128).sum
  let bad := (on.map fun c => (c.targets.map fun t => (c.blocks.filter (·.bad)).length * blockBytes t).getD 0).sum
  let held (g : Nat) : Nat :=
    let slots := (s.ream.slots.filter fun x => x.generation = 0 && locChannel x.loc / 12 = g).length + (s.ream.root.filter fun x => x.2.1 ≠ 0 && locChannel x.2.1 / 12 = g).length
    slots * pageBytes * groupWidth s g / (groupWidth s g - 1)
  raw != 0 && (raw - bad - ((List.range 4).map held).sum) * 100 < raw * 3

/-! ### Outputs -/

/-- R446: ALERT_N is asserted. -/
def alertAsserted (s : State) : Bool :=
  (s.log.ring.any fun r => !r.acked && s.log.mask.getLsbD r.occ.cls) || s.deckle.atRisk || s.deckle.overcommitted ||
    s.log.noDram || s.cmd.ready = .recovery

/-- R421: READY.CORE has been reached. -/
def aboveCore (s : State) : Bool := s.cmd.ready ≠ .below

/-- What an output pin drives: a level, or a square wave of 1 kHz or 1 Hz, 50 % duty. -/
inductive Drive where
  | low | high | square1k | square1
  deriving DecidableEq, Repr

/-- R421, R461: READY_N. -/
def readyN (s : State) : Drive :=
  if s.couch.orch = .committed then .high
  else match s.cmd.ready with
    | .below => .high
    | .core | .lift => .square1k
    | .service => .low
    | .maintenance | .recovery => .square1

/-- R421, R429: the CXL mailbox is ready; in loader recovery the ROM answers over SMBus alone. -/
def mailboxReady (s : State) : Bool := s.cmd.ready ≠ .below && s.cmd.ready ≠ .recovery

/-- R421: the CXL media status is ready. -/
def mediaReady (s : State) : Bool := s.cmd.ready = .service

/-- R457, R461: SP_IND0 to SP_IND3: ready state, energy state, pair state, fault lock-out; low when good, 1 Hz when mixed or pending, high
below READY.CORE. Which states are mixed is DESIGN CHOICE, log entry 151. -/
def spInd (s : State) (n : Nat) : Drive :=
  if !aboveCore s then .high
  else match n with
    | 0 => if s.cmd.ready = .service then .low else .square1
    | 1 => match s.sal.state with | .normal => .low | .degraded => .square1 | .absent => .high
    | 2 => match s.felt.pair with | .attached => .low | .linking => .square1 | .detached | .twinDown => .high
    | _ => if s.power.lockout then .high else if s.power.restarts.isEmpty then .low else .square1

/-- R457: the SPI expansion port's chip selects are high and its clock low: no diagnostic session stands. -/
def spiIdle (s : State) : Bool := s.cmd.sessions.all fun x => x.kind ≠ .diagnostic


/-- R95: the forced mode. -/
def forcedMode (c : Curd) : Mode := if c.forcing = 0 then .wb else .wt
def effectiveTarget (c : Curd) : Mode := stricter c.configured (forcedMode c)

/-- R302, R289: the owner holds every right; a data session is held to its identity. -/
def isOwner (s : State) (x : Session) : Bool := s.cmd.owner = x.num && x.num ≠ 0

/-- R304, R354: the low 64 bits of the serial number. -/
def ownSerial : Nat := Config.serial.toNat % 2 ^ 64

/-- R265: this device holds the region's token, or the region has none. -/
def holdsToken (r : Region) : Bool := !isMirrored r || r.holder.toNat = ownSerial

def accessOf (r : Region) (head ld : Nat) : Access :=
  ((r.grants.find? fun g => g.head = head && g.ld = ld).map (·.access)).getD .none

/-- R297: the session may name the region. -/
def mayName (s : State) (x : Session) (r : Region) : Bool :=
  isOwner s x || match x.identity with
    | some (h, l) => accessOf r h l ≠ .none
    | none => false

end Sys2Proof.Machine
end

