-- ==== Sys2Proof/Machine/Ops.lean ====
section
/-! DEFINITION. Named operations over the state: updates of its parts, output, events, Rind records, and members of its lists. -/

namespace Sys2Proof.Machine

/-! ### Updates -/

/-- Update of the Wire part alone. -/
def State.onWire (s : State) (f : Wire → Wire) : State := { s with wire := f s.wire }
/-- Update of the Cmd part alone. -/
def State.onCmd (s : State) (f : Cmd → Cmd) : State := { s with cmd := f s.cmd }
/-- Update of the Cxl part alone. -/
def State.onCxl (s : State) (f : Cxl → Cxl) : State := { s with cxl := f s.cxl }
/-- Update of the Epochs part alone. -/
def State.onEpochs (s : State) (f : Epochs → Epochs) : State := { s with epochs := f s.epochs }
/-- Update of the Regions part alone. -/
def State.onRegions (s : State) (f : Regions → Regions) : State := { s with regions := f s.regions }
/-- Update of the Ppu part alone. -/
def State.onPpu (s : State) (f : Ppu → Ppu) : State := { s with ppu := f s.ppu }
/-- Update of the Curd part alone. -/
def State.onCurd (s : State) (f : Curd → Curd) : State := { s with curd := f s.curd }
/-- Update of the Deckle part alone. -/
def State.onDeckle (s : State) (f : Deckle → Deckle) : State := { s with deckle := f s.deckle }
/-- Update of the Vat part alone. -/
def State.onVat (s : State) (f : Vat → Vat) : State := { s with vat := f s.vat }
/-- Update of the Ream part alone. -/
def State.onReam (s : State) (f : Ream → Ream) : State := { s with ream := f s.ream }
/-- Update of the Couch part alone. -/
def State.onCouch (s : State) (f : Couch → Couch) : State := { s with couch := f s.couch }
/-- Update of the Felt part alone. -/
def State.onFelt (s : State) (f : Felt → Felt) : State := { s with felt := f s.felt }
/-- Update of the Sal part alone. -/
def State.onSal (s : State) (f : Sal → Sal) : State := { s with sal := f s.sal }
/-- Update of the Cipher part alone. -/
def State.onCipher (s : State) (f : Cipher → Cipher) : State := { s with cipher := f s.cipher }
/-- Update of the Cave part alone. -/
def State.onCave (s : State) (f : Cave → Cave) : State := { s with cave := f s.cave }
/-- Update of the Power part alone. -/
def State.onPower (s : State) (f : Power → Power) : State := { s with power := f s.power }
/-- Update of the Ledger part alone. -/
def State.onLedger (s : State) (f : Ledger → Ledger) : State := { s with ledger := f s.ledger }
/-- Update of the Log part alone. -/
def State.onLog (s : State) (f : Log → Log) : State := { s with log := f s.log }
/-- Update of the Units part alone. -/
def State.onUnits (s : State) (f : Units → Units) : State := { s with units := f s.units }

/-- One thing put out. -/
def State.emit (s : State) (o : Out) : State := { s with out := s.out ++ [o] }

/-- A free value drawn: the counter that names it moves on. -/
def State.draw (s : State) : State := { s with fresh := s.fresh + 1 }

/-- The present time of the timebase (R410). -/
def State.now (s : State) : Nat := s.power.now

/-- The timebase's step toward TM_PPS_IN: 1 ns in 1 ms at most (DESIGN CHOICE, log entry 121). -/
def ppsStep (s : State) : Int :=
  if !s.power.ppsLocked || s.power.ppsPhase = 0 || s.power.now < s.power.ppsAt + 1000000 then 0 else if 0 < s.power.ppsPhase then -1 else 1

/-- With VAO up the timebase counts one nanosecond (R29, R410; log entry 7); one that follows TM_PPS_IN or the twin counts two or none where
it is slewed (R260, R345). -/
def tick (s : State) : State :=
  if !s.power.vao then s
  else
    let d := ppsStep s
    (s.onPower fun p => { p with now := (p.now + 1 + s.felt.slew + d).toNat, ppsPhase := p.ppsPhase + d, ppsAt := if d = 0 then p.ppsAt else p.now }).onFelt fun f =>
      { f with slew := 0 }

/-- Apply updates one after another. -/
def State.each {α : Type} (s : State) (l : List α) (f : State → α → State) : State := l.foldl f s

/-- Apply an update where a condition holds. -/
def State.onlyIf (s : State) (c : Bool) (f : State → State) : State := if c then f s else s

/-! ### Lists -/

def addNew {α : Type} [BEq α] (l : List α) (a : α) : List α := if l.contains a then l else l ++ [a]

/-- The first number from i at which p holds, within fuel. -/
def findFrom (p : Nat → Bool) : Nat → Nat → Option Nat
  | 0, _ => none
  | f + 1, i => if p i then some i else findFrom p f (i + 1)

/-- Insert by rising key; an entry of the same key is replaced. -/
def insertBy {α : Type} (key : α → Nat) (a : α) : List α → List α
  | [] => [a]
  | b :: bs => if key a < key b then a :: b :: bs else if key a = key b then a :: bs else b :: insertBy key a bs

/-- Saturating 32-bit count. -/
def sat32 (n : Nat) : Nat := min n 0xFFFFFFFF

/-! ### Islands on the Wire (R13) -/

/-- R13: an island leaves every routing table, barrier tree and multicast group and is powered off; a close that runs
completes first. -/
def unroute (s : State) (i : Island) : State :=
  s.onWire fun w =>
    if s.epochs.running.isSome then { w with offWait := addNew w.offWait i } else { w with unrouted := addNew w.unrouted i }

/-- R13: an island is powered and routed again. -/
def reroute (s : State) (i : Island) : State :=
  s.onWire fun w => { w with unrouted := w.unrouted.filter (· ≠ i), offWait := w.offWait.filter (· ≠ i) }

/-- R13: the close has ended: the islands that waited for it are powered off. -/
def applyOffWait (s : State) : State :=
  s.onWire fun w => { w with unrouted := w.offWait.foldl addNew w.unrouted, offWait := [] }

/-- R10: an island is powered off while the condition that the rule gives for it holds, and powered while it does not (log entry 31). -/
def settleIsland (s : State) (i : Island) (off : Bool) : State :=
  if !off then reroute s i else if s.wire.unrouted.contains i || s.wire.offWait.contains i then s else unroute s i

/-- The step at which an island runs below its nominal clock (R10), 0 at the nominal clock. -/
def clockOf (s : State) (i : Island) : Nat := ((s.wire.clock.find? (·.1 = i)).map (·.2)).getD 0

/-- R10, R12: islands change to a frequency step; one whose clock differs takes no message until its change is done. -/
def changeClock (s : State) (islands : List Island) (step : Nat) : State :=
  let changes := islands.filter fun i => clockOf s i ≠ step
  s.onWire fun w => { w with clock := (w.clock.filter fun x => !islands.contains x.1) ++ (if step = 0 then [] else islands.map fun i => (i, step)),
                             changing := changes.foldl addNew w.changing }

def setDram (s : State) (c : Nat) (f : Dram → Dram) : State := s.onVat fun v => { v with ch := v.ch.modify c f }
def setFlash (s : State) (c : Nat) (f : Flash → Flash) : State := s.onReam fun r => { r with ch := r.ch.modify c f }
def setLink (s : State) (t : Nat) (f : Link → Link) : State := s.onFelt fun x => { x with links := x.links.modify t f }
def setSensor (s : State) (n : Nat) (f : Sensor → Sensor) : State := s.onCave fun x => { x with sensors := x.sensors.modify n f }
def setRail (s : State) (e : Nat) (f : Rail → Rail) : State := s.onPower fun p => { p with rails := p.rails.modify e f }
def setEngine (s : State) (e : Nat) (f : Engine → Engine) : State := s.onUnits fun u => { u with engines := u.engines.modify e f }
def setRegion (s : State) (n : Nat) (f : Region → Region) : State :=
  s.onRegions fun r => { r with list := r.list.map fun x => if x.num = n then f x else x }
def setSession (s : State) (n : Nat) (f : Session → Session) : State :=
  s.onCmd fun c => { c with sessions := c.sessions.map fun x => if x.num = n then f x else x }
def setLd (s : State) (head ld : Nat) (f : Ld → Ld) : State :=
  let blank : Ld := { head := head, ld := ld, decoders := [], held := [], releases := [], logs := [[], [], [], []],
                      overflow := [0, 0, 0, 0], policy := 0, nextHandle := 1 }
  s.onCxl fun c =>
    let lds := if (c.lds.any fun l => l.head = head && l.ld = ld) then c.lds.map fun l => if l.head = head && l.ld = ld then f l else l
      else c.lds ++ [f blank]
    { c with lds := lds }

/-- The record that R450 keeps of a unit. -/
def unitAt (s : State) : UnitId → Unit_
  | .engine i => (engineAt s i).unit
  | .slice i => s.units.slices.getD i .reset
  | .dram i => s.units.dramUnits.getD i .reset
  | .flash i => s.units.flashUnits.getD i .reset
  | .port i => s.units.ports.getD i .reset
  | .felt i => s.units.links.getD i .reset
  | .core i => s.units.cores.getD i .reset
  | .sensor _ => .reset
  | .rail _ => .reset

def setUnit (s : State) (u : UnitId) (f : Unit_ → Unit_) : State :=
  match u with
  | .engine i => setEngine s i fun e => { e with unit := f e.unit }
  | .slice i => s.onUnits fun x => { x with slices := x.slices.modify i f }
  | .dram i => s.onUnits fun x => { x with dramUnits := x.dramUnits.modify i f }
  | .flash i => s.onUnits fun x => { x with flashUnits := x.flashUnits.modify i f }
  | .port i => s.onUnits fun x => { x with ports := x.ports.modify i f }
  | .felt i => s.onUnits fun x => { x with links := x.links.modify i f }
  | .core i => s.onUnits fun x => { x with cores := x.cores.modify i f }
  | .sensor _ => s
  | .rail _ => s

/-- R449: the unit's correctable or uncorrectable count goes up, saturating. -/
def countError (s : State) (u : UnitId) (uncorrectable : Bool) : State :=
  setUnit s u fun x => if uncorrectable then { x with uncorr := sat32 (x.uncorr + 1) } else { x with corr := sat32 (x.corr + 1) }

/-! ### Events (R439 to R441) -/

/-- R441: the island whose event port takes an event: that of the unit concerned, or SV. -/
def eventIsland (o : Occurrence) : Island :=
  let i := o.unit.toNat % 4096
  match o.unit.toNat / 4096 with
  | 1 => .en (i / 16) | 2 => .cu i | 3 => .mc i | 4 => .fc i | 5 => .hp i | 6 => .tw i | 7 => .cx | _ => .sv

/-- R441: an event is posted at its island's port of 16; a full port drops it and counts the drop for its class. -/
def postEvent (s : State) (o : Occurrence) : State :=
  s.onLog fun l =>
    if (l.ports.filter fun p => p.island = eventIsland o).length < 16 then
      { l with ports := l.ports ++ [{ island := eventIsland o, occ := o, time := s.power.now }] }
    else { l with portDrops := l.portDrops.modify o.cls (sat32 <| · + 1), lost := l.lost.modify o.cls (sat32 <| · + 1),
                  dropFlag := l.dropFlag.set o.cls true }

/-- An event with the fields that most events use; severity 0 I, 1 W, 2 F, 3 fatal. -/
def State.event (s : State) (cls code severity : Nat) (unit : U16 := 0) (region : Nat := 0xFFFF) (address detail : Nat := 0) : State :=
  postEvent s { cls := cls, severity := severity, code := code, unit := unit, head := 255, ld := 255, region := region,
                address := address, detail := detail, completion := false, injected := false }

/-- An event that names an identity. -/
def State.eventFor (s : State) (cls code severity head ld region address : Nat) : State :=
  postEvent s { cls := cls, severity := severity, code := code, unit := unitWord 5 head, head := head, ld := ld, region := region,
                address := address, detail := 0, completion := false, injected := false }

/-- R440: the detail of a state change: old, new and cause, a byte each. -/
def changeDetail (old new cause : Nat) : Nat := old + 256 * new + 65536 * cause

/-! ### Injections (R451) -/

/-- R451: an injection of a kind runs on the unit. -/
def injecting (s : State) (u : UnitId) (kind : Nat) : Bool := s.cmd.injections.any fun i => i.unit = u && i.kind = kind

/-- R451: one injection is applied; after the last the injection has ended. -/
def spendInjection (s : State) (u : UnitId) (kind : Nat) : State :=
  s.onCmd fun c => { c with injections := (c.injections.map fun i => if i.unit = u && i.kind = kind then { i with left := i.left - 1 } else i).filter (·.left ≠ 0) }

/-- R451: the events posted after the first `n` carry flag [3]. -/
def markInjected (n : Nat) (s : State) : State :=
  s.onLog fun l => { l with ports := l.ports.take n ++ (l.ports.drop n).map fun p => { p with occ := { p.occ with injected := true } } }

/-- R451: an error of a unit that a running injection of its kind caused uses that injection up, and marks its events. -/
def withInjection (s : State) (u : UnitId) (kind : Nat) (f : State → State) : State :=
  if injecting s u kind then markInjected s.log.ports.length (f (spendInjection s u kind)) else f s

/-! ### Felt messages -/

/-- R254: whether a message is received into the DATA pool, and its length in units of 64 B, header included. -/
def feltSize : FeltMsg → Bool × Nat
  | .mirrorWrite _ _ _ _ _ _ _ | .twinReadData _ _ => (true, 2)
  | .pageCopy _ _ _ _ _ => (true, 80)
  | .regionList _ entries => (false, (36 + 40 * entries.length) / 64 + 1)
  | _ => (false, 1)

/-- R261, R264: messages that keep their order among themselves: those of a page, and the end marker behind an epoch's writes. Of the
others none waits for one of these. -/
def keepsOrder : FeltMsg → Bool
  | .mirrorWrite _ _ _ _ _ _ _ | .pageCopy _ _ _ _ _ | .pageZero _ _ _ _ | .epochEnd _ _ _ | .twinReadData _ _ => true
  | _ => false

/-- R252, R254, R264: the messages that may leave, with `room` flits of retry buffer and the credits of the two pools, and those that
wait; `held` and `heldFree` say that one that keeps its order, or another, already waits. -/
def leaving : List FeltMsg → Nat → Nat → Nat → Bool → Bool → List FeltMsg × List FeltMsg
  | [], _, _, _, _, _ => ([], [])
  | m :: ms, room, data, ctl, held, heldFree =>
    let (isData, n) := feltSize m
    if room = 0 || (if keepsOrder m then held else heldFree) || (if isData then data else ctl) < n then
      let (a, b) := leaving ms room data ctl (held || keepsOrder m) (heldFree || !keepsOrder m)
      (a, m :: b)
    else
      let (a, b) := leaving ms (room - 1) (if isData then data - n else data) (if isData then ctl else ctl - n) held heldFree
      (m :: a, b)

/-- R272: a mirror write waits to be sent. -/
def mirrorsWait (f : Felt) : Bool :=
  f.links.any fun l => (l.queue.drop (l.queue.length - l.unsent)).any fun m => match m with | .mirrorWrite _ _ _ _ _ _ _ => true | _ => false

/-- R272: what the links carry while mirror messages wait, in all and of page copies. -/
def countShare (f : Felt) (msgs : List FeltMsg) : Felt :=
  let size (m : FeltMsg) : Nat := (feltSize m).2
  let copy (m : FeltMsg) : Bool := match m with | .pageCopy _ _ _ _ _ => true | _ => false
  if mirrorsWait f then { f with pairUnits := f.pairUnits + (msgs.map size).sum, copyUnits := f.copyUnits + ((msgs.filter copy).map size).sum }
  else { f with pairUnits := 0, copyUnits := 0 }

/-- R251, R252, R254: messages leave an up link while its retry buffer has room and their pool has credits, a flit each (log entry 35). -/
def pump (s : State) (t : Nat) : State :=
  let l := linkAt s t
  if l.st ≠ .up then s
  else
    let sent := l.queue.length - l.unsent
    let (msgs, rest) := leaving (l.queue.drop sent) (256 - l.retryBuf.length) l.dataCredits l.ctlCredits false false
    let k := msgs.length
    let cost (data : Bool) : Nat := (msgs.map fun m => if (feltSize m).1 = data then (feltSize m).2 else 0).sum
    let s := setLink s t fun l =>
      { l with queue := l.queue.take sent ++ msgs ++ rest, unsent := rest.length, txSeq := (l.txSeq + k) % 4096, flits := l.flits + k,
               retryBuf := l.retryBuf ++ (List.range k).map fun i => (l.txSeq + i) % 4096,
               dataCredits := l.dataCredits - cost true, ctlCredits := l.ctlCredits - cost false }
    (s.each msgs fun s m => s.emit (.felt t m)).onFelt fun f => countShare f msgs

/-- A message is sent on a link, or queues behind its fast retrain (R261). -/
def sendFelt (s : State) (t : Nat) (m : FeltMsg) : State :=
  pump (setLink s t fun l => { l with queue := l.queue ++ [m], unsent := l.unsent + 1 }) t

/-- R261: the links in the mapping, ascending. -/
def mappedLinks (s : State) : List Nat := (List.range 8).filter fun t => (linkAt s t).mapped

/-- R261: the link of a page's mirror messages. -/
def linkOfPage (s : State) (page : Nat) : Nat :=
  let m := mappedLinks s
  m.getD (page % m.length) 0

/-- R253: the next message tag of a link; 0xFFFF marks an empty entry and is no tag (R254). -/
def takeTag (s : State) (t : Nat) : U16 × State :=
  let n := (linkAt s t).nextTag
  (BitVec.ofNat 16 n, setLink s t fun l => { l with nextTag := if n + 1 = 0xFFFF then 0 else n + 1 })

/-- A control record on every up link. -/
def sendAll (s : State) (m : FeltMsg) : State :=
  s.each ((List.range 8).filter fun t => (linkAt s t).st = .up) fun s t => sendFelt s t m

/-- A control record on the lowest up link. -/
def sendOne (s : State) (m : FeltMsg) : State :=
  match (List.range 8).find? fun t => (linkAt s t).st = .up with
  | some t => sendFelt s t m
  | none => s

/-! ### The Rind log (R403 to R409) -/

/-- R408: the dirty shutdown count is that of the newest valid record. -/
def dirtyShutdowns (s : State) : Nat := (s.ledger.rind.getLast?.map (·.dirtyCount)).getD 0

/-- R404: the next record sequence; that of the first record of an empty ring is 1 (DESIGN CHOICE, log entry 169). -/
def nextRindSequence (s : State) : Nat := (s.ledger.rind.getLast?.map (·.sequence + 1)).getD 1

def enableWord (s : State) : U16 :=
  BitVec.ofNat 16 (((List.range 16).map fun e => if (s.power.rails.getD e { enabled := false, good := false, failed := false }).enabled then 2 ^ e else 0).sum)

/-- R404: flags [2] and [3] of a record: during start-up, during the Lift. -/
def rindPhaseFlags (s : State) : U8 :=
  match s.power.seq with
  | .rails _ | .settle | .booting => 4
  | .running => if s.cmd.ready = .core then 8 else 0
  | _ => 0

/-- R236, R404: the newest unfolded generation, or 0. -/
def newestGeneration (s : State) : Nat := (s.ream.generations.getLast?.map (·.num)).getD 0

/-- R412, R417: the sectors of the Rind ring that stand. -/
def rindSectors (l : Ledger) : List Nat := ((List.range 128).map (768 + ·)).filter fun n => !(l.withdrawn.contains n)

/-- R403, R417: the slots of the ring: 1,024 for each of its sectors. -/
def rindSlots (l : Ledger) : Nat := 1024 * (rindSectors l).length

/-- R403: the sector in which a slot lies. -/
def rindSector (l : Ledger) (slot : Nat) : Option Nat := (rindSectors l)[slot / 1024 % max 1 (rindSectors l).length]?

/-- R417: a copy of an area of eight sectors stands while one of them is left. -/
def copyStands (l : Ledger) (first : Nat) : Bool := (List.range 8).any fun k => !(l.withdrawn.contains (first + k))

/-- R404, R407: a record of the event; the sector after the head's is erased when the head enters a new one (R406), and a
record that finds no erased slot is dropped. -/
def rindWrite (s : State) (type gen detail : Nat) (rail : Nat := 255) (extra : U8 := 0) (addDirty : Nat := 0) : State :=
  let r : Rind :=
    { type := type, flags := extra ||| rindPhaseFlags s ||| (if s.ledger.dropped then 2 else 0), rail := rail, energy := s.sal.state,
      time := s.power.now, generation := gen, sequence := nextRindSequence s, slot := s.ledger.rindHead, epoch := s.epochs.closed,
      dirtyCount := dirtyShutdowns s + addDirty, pg := s.power.pg, sns := s.power.sns, en := enableWord s, detail := detail,
      mark := 0xFFFFFFFF }
  s.onLedger fun l =>
    let h := l.rindHead
    if rindSlots l = 0 || (h % 1024 = 0 && l.eraseEnded.isSome && l.eraseEnded = rindSector l h) then { l with dropped := true }
    else
      let oldest := (h / 1024 + 2) * 1024 - rindSlots l
      { l with rind := (l.rind ++ [r]).filter fun x => decide (oldest ≤ x.slot), torn := l.torn.filter fun n => decide (oldest ≤ n),
               rindHead := h + 1, rindAt := some s.power.now, dropped := false }

/-- R405: the completion mark of the newest record of a type is programmed. -/
def rindComplete (s : State) (type : Nat) : State :=
  s.onLedger fun l =>
    let marked := (l.rind.reverse.foldl (init := (([] : List Rind), false)) fun (acc, done) r =>
      if !done && r.type = type then ({ r with mark := 0x0000FFFF } :: acc, true) else (r :: acc, done)).1
    { l with rind := marked, markAt := ((l.rind.filter (·.type = type)).getLast?).map fun r => (s.power.now, r.sequence) }

end Sys2Proof.Machine
end

