-- ==== Sys2Proof/Machine/CaveOps.lean ====
section
/-! DEFINITION. The Cave's readings and judgements: used readings, the cross-check, filters, dwell and the band limits (R369 to R385). Temperatures in 0.1 °C. -/

namespace Sys2Proof.Machine

/-! ### Sensors (R369, R372, R374) -/

def onDie (n : Nat) : Bool := n < 64
def hubSensor (n : Nat) : Bool := 64 ≤ n && n < 96
def ntcSensor (n : Nat) : Bool := 96 ≤ n && n < 108

/-- R369: the hub's slot holds a DIMM; an NTC input is enabled. -/
def sensorPresent (s : State) (n : Nat) : Bool :=
  if onDie n then true
  else if hubSensor n then
    let d := dramAt s ((n - 64) / 2)
    ((d.dimms.map (·.count)).getD 0 ≠ 0 && (n % 2) < (d.dimms.map (·.count)).getD 0)
  else if ntcSensor n then ntcEnabled s (n - 96)
  else n < 110 && s.sal.present

/-- R371, R373, R374: not excluded, not failed. -/
def sensorKept (c : Sensor) : Bool := !c.crossed && !c.commanded && !c.failed

/-- R371 to R374: usable: present, kept, with a reading. -/
def usable (s : State) (n : Nat) : Bool := sensorPresent s n && sensorKept (sensorAt s n) && (sensorAt s n).reading.isSome

/-- R372. -/
def neighbours (n : Nat) : List Nat :=
  if onDie n then
    (if 8 ≤ n then [n - 8] else []) ++ (if n < 56 then [n + 8] else []) ++ (if n % 8 ≠ 0 then [n - 1] else []) ++ (if n % 8 ≠ 7 then [n + 1] else [])
  else if hubSensor n then
    (if 66 ≤ n then [n - 2] else []) ++ (if n < 94 then [n + 2] else []) ++ [if n % 2 = 0 then n + 1 else n - 1]
  else []

def insertInt (x : Int) : List Int → List Int
  | [] => [x]
  | y :: ys => if x ≤ y then x :: y :: ys else y :: insertInt x ys

/-- R373: the median; with an even count the mean of the two middle values, rounded half up (R370). -/
def median (l : List Int) : Int :=
  let d := l.foldr insertInt []
  let n := d.length
  if n % 2 = 1 then d.getD (n / 2) 0 else (d.getD (n / 2 - 1) 0 + d.getD (n / 2) 0 + 1) / 2

/-- R373: readings of the usable neighbours. -/
def neighbourReadings (s : State) (n : Nat) : List Int :=
  ((neighbours n).filter (usable s)).filterMap fun k => (sensorAt s k).reading

def maxInt : List Int → Option Int
  | [] => none
  | x :: xs => some (xs.foldl max x)

/-- R371, R373: the used reading of a sensor that stands on its own or on its neighbours. -/
def ownReading (s : State) (n : Nat) : Option Int :=
  if usable s n then (sensorAt s n).reading
  else if ¬ sensorPresent s n then none
  else if sensorKept (sensorAt s n) then none      -- no sample yet
  else
    let near := neighbourReadings s n
    if 2 ≤ near.length then some (median near) else none

/-- R377: Tj, the hottest used on-die reading. -/
def tjOf (s : State) : Option Int := maxInt ((List.range 64).filterMap (ownReading s))

/-- R371, R373, R384: the used reading. -/
def usedReading (s : State) (n : Nat) : Option Int :=
  match ownReading s n with
  | some t => some t
  | none => if onDie n && !sensorKept (sensorAt s n) then tjOf s else none

/-- R374, R377: on-die sensors that are neither excluded nor failed; one that has given no sample yet counts (DESIGN CHOICE, log entry 171). -/
def usableOnDie (s : State) : Nat := ((List.range 64).filter fun n => sensorKept (sensorAt s n)).length

/-! ### The filter and the cross-check (R370, R373) -/

/-- R370: the mean of at most the last 16 samples, rounded half up to 0.1 °C. -/
def mean (l : List Int) : Int :=
  let n : Int := l.length
  (2 * l.sum + n) / (2 * n)

/-- R376: readings of the last second, and the newest one a second old. -/
def trimHistory (now span : Nat) (l : List (Nat × Int)) : List (Nat × Int) :=
  let fresh := l.filter fun x => now < x.1 + span
  match (l.filter fun x => x.1 + span ≤ now).getLast? with
  | some x => x :: fresh
  | none => fresh

/-- R370: a value enters a sensor's filter. SPD hub readings are used as they are. -/
def feed (s : State) (n : Nat) (value raw : Int) : State :=
  setSensor s n fun c =>
    let f := if hubSensor n then [value] else (value :: c.filter).take 16
    { c with filter := f, reading := some (mean f), raw := some raw, history := trimHistory s.now second c.history ++ [(s.now, mean f)] }

/-- R371: valid readings. -/
def validTemp (t : Int) : Bool := -400 ≤ t && t ≤ 1250

/-- R373: one sample of a sensor, cross-checked where two neighbours are usable. -/
def takeSample (s : State) (n : Nat) (temp : Int) : State :=
  let c := sensorAt s n
  let near := neighbourReadings s n
  let m := median near
  if near.length < 2 then feed (setSensor s n fun c => { c with deviating := 0, agreeing := 0 }) n temp temp
  else if c.crossed then
    -- the raw samples are filtered apart while excluded; they enter no reading in use
    let s := feed s n temp temp
    let r := ((sensorAt s n).reading).getD temp
    let close := m - 30 ≤ r && r ≤ m + 30
    if !close || 3 ≤ c.exclusions then setSensor s n fun c => { c with agreeing := 0 }
    else
      let since := if c.agreeing = 0 then s.now + 1 else c.agreeing
      if since + second / 2 ≤ s.now + 1 then setSensor s n fun c => { c with crossed := false, agreeing := 0, deviating := 0 }
      else setSensor s n fun c => { c with agreeing := since }
  else if m - 60 ≤ temp && temp ≤ m + 60 then feed (setSensor s n fun c => { c with deviating := 0 }) n temp temp
  else
    let s := feed (setSensor s n fun c => { c with deviating := c.deviating + 1 }) n m temp
    if (sensorAt s n).deviating < 3 then s
    else
      let s := setSensor s n fun c => { c with crossed := true, deviating := 0, agreeing := 0, exclusions := c.exclusions + 1 }
      s.event 11 2 1 (unitWord 8 n) (detail := (temp % 65536).toNat)

/-- R371: a sample of a sensor that has failed counts toward its half second of valid readings, and enters nothing else. -/
def recovering (s : State) (n : Nat) : State :=
  let c := sensorAt s n
  let since := if c.agreeing = 0 then s.now + 1 else c.agreeing
  if since + second / 2 ≤ s.now + 1 then setSensor s n fun c => { c with failed := false, agreeing := 0 }
  else setSensor s n fun c => { c with agreeing := since }

/-- R371: the sensor has failed. -/
def failSensor (s : State) (n : Nat) : State := setSensor s n fun c => { c with failed := true, agreeing := 0, deviating := 0 }

/-- R371: one conversion result. -/
def convert (s : State) (n : Nat) (temp : Int) : State :=
  if !validTemp temp then failSensor s n
  else if (sensorAt s n).failed then recovering s n
  else takeSample s n temp

/-! ### Dwell (R375) -/

def dwell : Nat := 250000000

/-- R375: a history with one more reading. -/
def addReading (now : Nat) (l : List (Nat × Int)) (v : Int) : List (Nat × Int) := trimHistory now dwell l ++ [(now, v)]

/-- R375: the condition is met by the current reading and by 90 % of those of a full window of 250 ms. -/
def held (now : Nat) (l : List (Nat × Int)) (cond : Int → Bool) : Bool :=
  let inside := l.filter fun x => now ≤ x.1 + dwell
  match l.getLast? with
  | some x => cond x.2 && (l.any fun y => y.1 + dwell ≤ now) && 9 * inside.length ≤ 10 * (inside.filter fun y => cond y.2).length
  | none => false

/-! ### Limits of the bands -/

/-- R377: the Tj band to which a history moves from a band, one band away at most but for CRITICAL. -/
def tjNext (now : Nat) (l : List (Nat × Int)) : TjBand → TjBand
  | .normal => if held now l (1150 ≤ ·) then .critical else if held now l (1000 ≤ ·) then .warn else .normal
  | .warn => if held now l (1150 ≤ ·) then .critical else if held now l (1050 ≤ ·) then .throttle
    else if held now l (· ≤ 980) then .normal else .warn
  | .throttle => if held now l (1150 ≤ ·) then .critical else if held now l (· ≤ 1030) then .warn else .throttle
  | .critical => .critical

/-- R380: the band of a DRAM channel. -/
def dimmNext (now : Nat) (l : List (Nat × Int)) : DimmBand → DimmBand
  | .normal => if held now l (950 < ·) then .restricted else if held now l (850 < ·) then .hot else .normal
  | .hot => if held now l (950 < ·) then .restricted else if held now l (· ≤ 830) then .normal else .hot
  | .restricted => if held now l (· ≤ 830) then .normal else if held now l (· ≤ 930) then .hot else .restricted

/-- R381: the band of a carrier; a band farther from normal is entered at its own limit. -/
def carrierNext (now : Nat) (l : List (Nat × Int)) : CarrierBand → CarrierBand
  | .home => if held now l (850 < ·) then .above85 else if held now l (700 < ·) then .above70
    else if held now l (· < -100) then .belowM10 else if held now l (· < 0) then .m10to0 else .home
  | .above70 => if held now l (850 < ·) then .above85 else if held now l (· ≤ 680) then .home else .above70
  | .above85 => if held now l (· ≤ 680) then .home else if held now l (· ≤ 830) then .above70 else .above85
  | .m10to0 => if held now l (· < -100) then .belowM10 else if held now l (20 ≤ ·) then .home else .m10to0
  | .belowM10 => if held now l (20 ≤ ·) then .home else if held now l (-80 ≤ ·) then .m10to0 else .belowM10

/-- R382: the side of the charging window. -/
def windowNext (now : Nat) (l : List (Nat × Int)) (w : Nat) : Nat :=
  if held now l (· < 50) then 1 else if held now l (450 < ·) then 2
  else if w = 1 && held now l (70 ≤ ·) then 0 else if w = 2 && held now l (· ≤ 430) then 0 else w

/-- R382, R213: the learning window. -/
def learnNext (now : Nat) (l : List (Nat × Int)) (inside : Bool) : Bool :=
  if inside then !held now l (fun t => t < 150 || 350 < t) else held now l (fun t => 170 ≤ t && t ≤ 330)

/-! ### Codes (R385) -/

def tjCode : TjBand → Nat
  | .normal => 0 | .warn => 1 | .throttle => 2 | .critical => 3

def dimmCode : DimmBand → Nat
  | .normal => 0 | .hot => 1 | .restricted => 2

def carrierCode : CarrierBand → Nat
  | .belowM10 => 0 | .m10to0 => 1 | .home => 2 | .above70 => 3 | .above85 => 4

/-- R385: the band that a reading alone meets. -/
def tjAlone (t : Int) : Nat := if 1150 ≤ t then 3 else if 1050 ≤ t then 2 else if 1000 ≤ t then 1 else 0
def carrierAlone (t : Int) : Nat := if t < -100 then 0 else if t < 0 then 1 else if t ≤ 700 then 2 else if t ≤ 850 then 3 else 4

end Sys2Proof.Machine
end

