-- ==== Sys2Proof/Machine/Keys.lean ====
section
/-! DEFINITION. AES-256-CMAC (R3: FIPS 197, SP 800-38B), the SP 800-108 KDF over it, and the keys that it derives (R350 to R354, R363, R364). -/

namespace Sys2Proof.Machine

/-! ### AES-256 (FIPS 197). Bytes are numbers below 256; a state is its 16 bytes, column by column -/

/-- The S-box, byte x at bits 8x. -/
def sboxTable : Nat :=
  (0x16bb54b00f2d99416842e6bf0d89a18cdf2855cee9871e9b948ed9691198f8e19e1dc186b95735610ef6034866b53e708a8bbd4b1f74dde8c6b4a61c2e2578ba
    * 2 ^ 512 + 0x08ae7a65eaf4566ca94ed58d6d37c8e779e4959162acd3c25c2406490a3a32e0db0b5ede14b8ee4688902a22dc4f816073195d643d7ea7c41744975fec130ccd) * 2 ^ 1024 +
  (0xd2f3ff1021dab6bcf5389d928f40a351a89f3c507f02f94585334d43fbaaefd0cf584c4a39becb6a5bb1fc20ed00d153842fe329b3d63b52a05a6e1b1a2c8309
    * 2 ^ 512 + 0x75b227ebe28012079a059618c323c7041531d871f1e5a534ccf73f362693fdb7c072a49cafa2d4adf04759fa7dc982ca76abd7fe2b670130c56f6bf27b777c63)

def subByte (x : Nat) : Nat := (sboxTable >>> (8 * x)) % 256

/-- Multiplication by x in the field. -/
def xtime (x : Nat) : Nat := if 128 ≤ x then (2 * x) ^^^ 0x11B else 2 * x

def xorBytes (a b : List Nat) : List Nat := a.zipWith (· ^^^ ·) b

/-- SubBytes and ShiftRows. -/
def subShift (s : List Nat) : List Nat := (List.range 16).map fun i => subByte (s.getD ((i + 4 * (i % 4)) % 16) 0)

def mixColumn (c : List Nat) : List Nat :=
  let b (i : Nat) : Nat := c.getD (i % 4) 0
  (List.range 4).map fun i => xtime (b i) ^^^ xtime (b (i + 1)) ^^^ b (i + 1) ^^^ b (i + 2) ^^^ b (i + 3)

def mixColumns (s : List Nat) : List Nat := (List.range 4).flatMap fun c => mixColumn ((s.drop (4 * c)).take 4)

/-- The key schedule: words are appended until 60 stand. -/
def expandWords : Nat → List (List Nat) → List (List Nat)
  | 0, ws => ws
  | n + 1, ws =>
    let i := ws.length
    let last := ws.getLastD []
    let t := if i % 8 = 0 then xorBytes (((last.drop 1) ++ last.take 1).map subByte) [2 ^ (i / 8 - 1), 0, 0, 0]
      else if i % 8 = 4 then last.map subByte else last
    expandWords n (ws ++ [xorBytes (ws.getD (i - 8) []) t])

/-- The 15 round keys. -/
def roundKeys (key : List Nat) : List (List Nat) :=
  let ws := expandWords 52 ((List.range 8).map fun i => (key.drop (4 * i)).take 4)
  (List.range 15).map fun r => ((ws.drop (4 * r)).take 4).flatten

/-- One block enciphered under the round keys. -/
def aesBlock (rks : List (List Nat)) (block : List Nat) : List Nat :=
  let s := ((rks.drop 1).take 13).foldl (fun s k => xorBytes (mixColumns (subShift s)) k) (xorBytes block (rks.getD 0 []))
  xorBytes (subShift s) (rks.getD 14 [])

/-! ### CMAC (SP 800-38B) -/

/-- A block as a number, most significant byte first, and back. -/
def blockValue (b : List Nat) : Nat := b.foldl (fun v x => 256 * v + x) 0
def valueBlock (v : Nat) : List Nat := (List.range 16).map fun i => v / 256 ^ (15 - i) % 256

/-- The subkeys: doubling in the field of 2^128. -/
def doubled (v : Nat) : Nat := if 2 ^ 127 ≤ v then (2 * v % 2 ^ 128) ^^^ 0x87 else 2 * v

/-- The chain over all blocks but the last, then the last one masked by its subkey; `n` whole blocks stand before it. -/
def cmacChain (rks : List (List Nat)) (k1 k2 : Nat) : Nat → List Nat → List Nat → List Nat
  | 0, c, m =>
    let last := if m.length = 16 then xorBytes m (valueBlock k1)
      else xorBytes (m ++ [0x80] ++ List.replicate (15 - m.length) 0) (valueBlock k2)
    aesBlock rks (xorBytes c last)
  | n + 1, c, m => cmacChain rks k1 k2 n (aesBlock rks (xorBytes c (m.take 16))) (m.drop 16)

/-- R353: AES-256-CMAC. Byte 0 of the key is the first of its 32 (R351), the low bits of the number. -/
def cmac (key : BitVec 256) (m : List Byte) : BitVec 128 :=
  let rks := roundKeys ((le 32 key.toNat).map (·.toNat))
  let k1 := doubled (blockValue (aesBlock rks (List.replicate 16 0)))
  BitVec.ofNat 128 (blockValue (cmacChain rks k1 (doubled k1) ((m.length - 1) / 16) (List.replicate 16 0) (m.map (·.toNat))))

/-! ### Key derivation (R353, R354) -/

/-- R350, R352, R367: a usable starter key. -/
def starterKey (s : State) : Option (BitVec 256) :=
  if s.cipher.engineOk then s.cipher.banks.findSome? fun b => match b with | .valid k => some k | _ => none else none

/-- n in k bytes, most significant first. -/
def be (k n : Nat) : List Byte := (le k n).reverse

/-- R353: the SP 800-108 KDF in counter mode, PRF AES-256-CMAC, of L bits. -/
def kdf (key : BitVec 256) (label context : List Byte) (l : Nat) : List Byte :=
  ((List.range (l / 128)).flatMap fun i => be 16 (cmac key (be 4 (i + 1) ++ label ++ [0] ++ context ++ be 4 l)).toNat)

/-- ASCII "TPX-" and four further characters. -/
def labelBytes (a b c d : Byte) : List Byte := [0x54, 0x50, 0x58, 0x2D, a, b, c, d]

/-- R354: the data key and tweak key of a region, key slot and generation. -/
def dataKey (key : BitVec 256) (region slot generation creationEpoch : Nat) : List Byte :=
  kdf key (labelBytes 0x58 0x54 0x53 0x31) (le 2 region ++ le 2 slot ++ le 4 generation ++ le 8 creationEpoch ++ le 8 ownSerial) 512

/-- R354: the stage key of a stage block. -/
def stageKey (key : BitVec 256) (sequence : Nat) : List Byte := kdf key (labelBytes 0x53 0x54 0x47 0x31) (le 8 ownSerial ++ le 8 sequence) 512

/-- R354, R363, R364: the key of one link direction; an all-zero starter key when none is provisioned (R352). -/
def feltKey (s : State) (session link transmitter index : Nat) : List Byte :=
  kdf ((starterKey s).getD 0) (labelBytes 0x46 0x4C 0x54 0x31) (pairContext s ++ le 4 session ++ le 1 link ++ [0, 0, 0] ++ le 8 transmitter ++ le 4 index) 256

/-- R354: the check value of a starter key. -/
def checkValue (key : BitVec 256) : List Byte := (kdf key (labelBytes 0x43 0x48 0x4B 0x31) (List.replicate 16 0) 128).take 4

/-! ### XTS-AES-256 (IEEE 1619, R355) -/

/-- The next tweak block: multiplication by x, the block's first byte the least significant. -/
def nextTweak (v : Nat) : Nat := if 2 ^ 127 ≤ v then (2 * v % 2 ^ 128) ^^^ 0x87 else 2 * v

/-- The blocks of a data unit under tweaks that follow on. -/
def xtsBlocks (rks : List (List Nat)) : Nat → Nat → List Nat → List Nat
  | 0, _, _ => []
  | n + 1, v, m =>
    let t := (le 16 v).map (·.toNat)
    xorBytes (aesBlock rks (xorBytes (m.take 16) t)) t ++ xtsBlocks rks n (nextTweak v) (m.drop 16)

/-- R355: a data unit of whole blocks enciphered: data key, then tweak key, of 32 bytes each. -/
def xtsEncipher (keys : List Byte) (tweak : Nat) (m : List Byte) : List Byte :=
  let bytes (l : List Byte) : List Nat := l.map (·.toNat)
  let first := aesBlock (roundKeys (bytes (keys.drop 32))) (bytes (le 16 tweak))
  (xtsBlocks (roundKeys (bytes (keys.take 32))) (m.length / 16) (ofLe (first.map (BitVec.ofNat 8))) (bytes m)).map (BitVec.ofNat 8)

/-- R363: the key indices of a link direction whose keys are held: that of the flit count, and the next from its halfway point on. -/
def keyIndices (flits : Nat) : List Nat :=
  let k := flits / 2 ^ 32
  if 2 ^ 31 ≤ flits % 2 ^ 32 then [k, k + 1] else [k]

/-- R363: the keys of a link's own direction that stand in its TW island. -/
def linkKeys (s : State) (t : Nat) : List (List Byte) :=
  let l := s.felt.links.getD t .reset
  (keyIndices l.flits).map (feltKey s l.session t ownSerial)

end Sys2Proof.Machine
end

