-- ==== Sys2Proof/Machine/Packets.lean ====
section
/-! DEFINITION. What every Kolnyx opcode shares: replies, the checks of R284 from step 8 on, authority and ready state, long operations. -/

namespace Sys2Proof.Machine

/-! ### Channels and replies -/

def blankChannel (s : State) (ch : Chan) : Channel :=
  { ch := ch, rx := [], scan := false, counters := [0, 0, 0, 0, 0, 0], discarded := 0, replies := [], held := [], lastUse := s.cmd.uses }

def channelOf (s : State) (ch : Chan) : Channel := (s.cmd.channels.find? (·.ch = ch)).getD (blankChannel s ch)

/-- The channel's record, made if the channel has none. -/
def setChannel (s : State) (ch : Chan) (f : Channel → Channel) : State :=
  s.onCmd fun c =>
    let has := c.channels.any (·.ch = ch)
    let list := if has then c.channels.map fun x => if x.ch = ch then f x else x else c.channels ++ [f (blankChannel s ch)]
    { c with channels := list }

/-- R280: the reply queue of a mailbox channel holds 256 KiB. -/
def replyQueueFull (s : State) : Chan → Bool
  | .mailbox h l => 262144 ≤ (channelOf s (.mailbox h l)).replies.length
  | _ => false

/-- R281, R282: bytes cut into segments of at most `room` bytes. -/
def segmentsOf (room : Nat) : Nat → List Byte → List (List Byte)
  | 0, _ => []
  | n + 1, bytes => if bytes.isEmpty then [] else bytes.take room :: segmentsOf room n (bytes.drop room)

/-- R280 to R282: the segments in which one reply packet leaves: MCTP takes messages of up to 4,096 segment bytes, and each packet begins a new
datagram of up to 1,472. A mailbox channel has none: KOLNYX_READ fetches the bytes. -/
def channelSegments (ch : Chan) (bytes : List Byte) : List Out :=
  match ch with
  | .mailbox _ _ => []
  | .udp _ _ => (segmentsOf 1472 bytes.length bytes).map (.segment ch)
  | .smbus _ _ | .vdm _ _ => (segmentsOf 4096 bytes.length bytes).map (.segment ch)

/-- What one reply packet puts out: the packet, and the segments that carry it. -/
def replyOut (ch : Chan) (p : Reply) : List Out := .reply ch p :: channelSegments ch p.bytes

/-- R280: the bytes of one reply packet leave on their channel; those of a mailbox channel enter its reply queue. -/
def sendBytes (s : State) (ch : Chan) (bytes : List Byte) : State :=
  let s := { s with out := s.out ++ channelSegments ch bytes }
  match ch with
  | .mailbox _ _ => setChannel s ch fun c => { c with replies := c.replies ++ bytes }
  | .udp _ _ | .smbus _ _ | .vdm _ _ => s

/-- R278, R280 to R282: one reply packet leaves on its channel. -/
def sendReply (s : State) (ch : Chan) (p : Reply) : State := sendBytes (s.emit (.reply ch p)) ch p.bytes

/-- R278: parameter bytes of one reply packet beside the 4-byte status word. -/
def replyRoom : Nat := 65532

/-- R287: a reply longer than one packet, in consecutive packets with more-follows on all but the last. -/
def sendParts (s : State) (r : Req) (op : U16) (st : Status) (detail : Nat) (more : Bool) : Nat → List Byte → State
  | 0, bs => sendReply s r.ch { opcode := op, tag := r.tag, more := more, urgent := r.urgent, status := st, detail := detail, params := bs }
  | n + 1, bs =>
    let s := sendReply s r.ch { opcode := op, tag := r.tag, more := true, urgent := r.urgent, status := st, detail := detail, params := bs.take replyRoom }
    sendParts s r op st detail more n (bs.drop replyRoom)

/-- R291: the request no longer counts as outstanding. -/
def settle (s : State) (r : Req) : State :=
  s.onCmd fun c => { c with sessions := c.sessions.map fun x => if x.ch = r.ch then { x with outstanding := x.outstanding.erase r.tag } else x }

/-- The reply of a request: its parts, and the end of the request. After ACCEPTED the exchange goes on, so more-follows is set (R287, R293);
it has no parameters (log entry 153). -/
def reply (s : State) (r : Req) (op : U16) (st : Status) (detail : Nat) (params : List Byte) : State :=
  sendParts (settle s r) r op st detail (st = .accepted) ((params.length - 1) / replyRoom) params

/-- R287: the answer to a chain element that more elements follow. -/
def replyMore (s : State) (r : Req) (op : U16) : State := sendParts (settle s r) r op .ok 0 true 0 []

def ok (s : State) (r : Req) (op : U16) (params : List Byte) : State := reply s r op .ok 0 params

/-- R295: the counter of a status, in the order of R295. -/
def counterIndex : Status → Option Nat
  | .undefinedOpcode => some 0 | .reservedField => some 1 | .badLength => some 2 | .badCrc => some 3 | .version => some 4
  | .truncated => some 5 | _ => none

/-- R295: a failure is counted on the session, or on the channel while it holds none. -/
def countFailure (s : State) (ch : Chan) (st : Status) : State :=
  match counterIndex st with
  | none => s
  | some i =>
    match sessionOn s ch with
    | some x => setSession s x.num fun x => { x with counters := x.counters.modify i (sat32 <| · + 1) }
    | none => setChannel s ch fun c => { c with counters := c.counters.modify i (sat32 <| · + 1) }

/-- A refusal: the status and its detail, with nothing else done. -/
def refuse (s : State) (r : Req) (op : U16) (st : Status) (detail : Nat) : State :=
  reply (countFailure s r.ch st) r op st detail []

/-- R284: a refusal of a packet before it is a request of its session: no session state changes. -/
def reject (s : State) (r : Req) (op : U16) (st : Status) (detail : Nat) : State :=
  sendParts (countFailure s r.ch st) r op st detail false 0 []

/-! ### Steps 8 to 10 of R284 -/

/-- R298: who may issue an opcode. -/
inductive Issuer where
  | anyone | session | owner
  deriving DecidableEq, Repr

/-- R300: the row of the ready-state table. -/
inductive Column where
  | always       -- first row
  | notCouch     -- second row
  | fromLift     -- third row
  | service      -- fourth row
  | sealedOnly   -- CONFIG_UNSEAL
  deriving DecidableEq, Repr

/-- R300, R304: the ready state allows the row. -/
def columnAllows (s : State) : Column → Bool
  | .always => readyCode s ≠ 0
  | .notCouch => readyCode s ≠ 0 && readyCode s ≠ 5
  | .fromLift => readyCode s = 2 || readyCode s = 3
  | .service => readyCode s = 3
  | .sealedOnly => readyCode s = 3 && s.cmd.sealSt = .sealed

/-- The session that stands for a channel without one. -/
def noSession (ch : Chan) : Session :=
  { num := 0, ch := ch, kind := .data, identity := none, counters := [0, 0, 0, 0, 0, 0], outstanding := [], chain := none, pins := [],
    prefetches := [] }

/-- R291: the packet starts: its place among the packets that have arrived is given up; one that stands in no queue has
arrived now and takes the next arrival number. -/
def takeArrived (s : State) (r : Req) (op : U16) : State :=
  s.onCmd fun c =>
    let waits := c.arrived.any fun a => a.ch = r.ch && a.tag = r.tag && a.opcode = op
    if waits then { c with arrived := c.arrived.eraseP fun a => a.ch = r.ch && a.tag = r.tag && a.opcode = op }
    else { c with arrivals := c.arrivals + 1 }

/-- R292: the opcodes that change no state, for which the urgent flag takes effect. -/
def urgentOpcodes : List Nat :=
  [0x0001, 0x0004, 0x0005, 0x0102, 0x0205, 0x0402, 0x0503, 0x0601, 0x0605, 0x0701, 0x0801, 0x0802, 0x0903, 0x0A01, 0x0C05]

/-- R292: the packet starts ahead of those without the flag. -/
def startsFirst (a : Arrived) : Bool := a.urgent && urgentOpcodes.contains a.opcode.toNat

/-- R291, R292: a packet that waits may start: an urgent one behind the urgent ones that arrived before it, any other when no urgent one
waits and none of its own channel arrived before it. -/
def mayStart (s : State) (r : Req) (op : U16) : Bool :=
  let mine (a : Arrived) : Bool := a.ch = r.ch && a.tag = r.tag && a.opcode = op
  match s.cmd.arrived.find? mine with
  | none => true
  | some a =>
    let before := s.cmd.arrived.takeWhile (!mine ·)
    if startsFirst a then !before.any startsFirst else !s.cmd.arrived.any startsFirst && !before.any (·.ch = r.ch)

/-- R277: the host tag is that of a request of the session outstanding or running. -/
def tagInUse (s : State) (x : Session) (tag : U32) : Bool :=
  x.outstanding.contains tag || s.cmd.longOps.any fun o => o.session = x.num && o.tag = tag

/-- R429: the opcodes that the ROM accepts in loader recovery, over SMBus alone. -/
def recoveryAccepts (s : State) (op : U16) : Bool :=
  s.cmd.ready ≠ .recovery || [0x0001, 0x0002, 0x0003, 0x0004, 0x0005, 0x0006, 0x0C01, 0x0C02, 0x0C03, 0x0C05].contains op.toNat
def recoveryChannel (s : State) : Chan → Bool
  | .smbus _ _ => true
  | _ => s.cmd.ready ≠ .recovery

/-- R284 steps 8 to 10: the session, the host tag, authority, the ready state; then the opcode's own part. `step7` is what
the parameters' reserved values answer (step 7). Before READY.CORE nothing answers (R279), and while a mailbox channel's
reply queue is full no packet of it starts (R280). Packets start in the order of R291 and R292. -/
def command (s : State) (r : Req) (op : U16) (step7 : Option (Status × Nat)) (who : Issuer) (col : Column)
    (body : State → Session → State) : State :=
  if readyCode s = 0 || replyQueueFull s r.ch || !recoveryChannel s r.ch || !mayStart s r op then s
  else
    let s := takeArrived s r op
    match step7 with
    | some (st, d) => reject s r op st d
    | none =>
      match sessionOn s r.ch with
      | none =>
        if who ≠ .anyone then reject s r op .notOwner 1
        else if !columnAllows s col || !recoveryAccepts s op then reject s r op .notReady (readyCode s)
        else body s (noSession r.ch)
      | some x =>
        if tagInUse s x r.tag then reject s r op .conflict 1
        else if 32 ≤ x.outstanding.length then reject s r op .busy 0
        else if who = .owner && !isOwner s x then reject s r op .notOwner 2
        else if !columnAllows s col || !recoveryAccepts s op then reject s r op .notReady (readyCode s)
        else body s x

/-- R296: the first check that fails. -/
def firstOf : List (Bool × Status × Nat) → Option (Status × Nat)
  | [] => none
  | (bad, st, d) :: rest => if bad then some (st, d) else firstOf rest

/-- The opcode's refusals in their order, then its effect. -/
def checked (s : State) (r : Req) (op : U16) (checks : List (Bool × Status × Nat)) (effect : State → State) : State :=
  match firstOf checks with
  | some (st, d) => refuse s r op st d
  | none => effect s

/-- R297: a region field that holds a reserved value, at an offset from header byte 0. -/
def regionReserved (n : U16) (off : Nat) : Option (Status × Nat) :=
  if n = 0 || n = 0xFFFF then some (.reservedField, off) else none

/-- R297: the region exists and the session may name it; `off` is the field's offset from header byte 0. -/
def withRegion (s : State) (r : Req) (op : U16) (x : Session) (n : U16) (off : Nat) (body : Region → State) : State :=
  match regionOf s n.toNat with
  | none => refuse s r op .range off
  | some g => if mayName s x g then body g else refuse s r op .notOwner 3

/-! ### Replies that wait, and long operations -/

/-- R291: the request stays outstanding until its reply. -/
def defer (s : State) (x : Session) (r : Req) : State :=
  setSession s x.num fun x => { x with outstanding := addNew x.outstanding r.tag }

/-- R293: at most 16 long operations. -/
def longFull (s : State) : Bool := 16 ≤ s.cmd.longOps.length

/-- R293: ACCEPTED, and the operation runs; refused with BUSY 2 beyond 16. -/
def startLong (s : State) (r : Req) (op : U16) (x : Session) (kind : LongKind) (total unit : Nat) (effect : State → State) : State :=
  if longFull s then refuse s r op .busy 2
  else
    let o : LongOp := { kind := kind, session := x.num, ch := r.ch, opcode := op, tag := r.tag, done := 0, total := total, unit := unit }
    reply (effect (s.onCmd fun c => { c with longOps := c.longOps ++ [o] })) r op .accepted 0 []

/-- R440: the detail of a completion report. -/
def completionDetail (o : LongOp) (st : Status) (detail : Nat) : Nat :=
  o.opcode.toNat + 2 ^ 16 * st.code + 2 ^ 32 * detail + 2 ^ 48 * o.session + 2 ^ 64 * o.tag.toNat

/-- R293: the channel that a report goes to: of the issuing session, else of the owner, else none. -/
def reportChannel (s : State) (o : LongOp) : Option Chan :=
  match sessionNum s o.session with
  | some x => some x.ch
  | none => (sessionNum s s.cmd.owner).map (·.ch)

/-- R293: the operation ends: its completion report and its event. The detail of OK is the count of poisoned pages that it moved (R437;
log entry 134). -/
def endLong (s : State) (o : LongOp) (st : Status) (detail : Nat) (params : List Byte) : State :=
  let detail := if st = .ok then min 0xFFFF (detail + o.poisoned) else detail
  let s := s.onCmd fun c => { c with longOps := c.longOps.erase o }
  let s := postEvent s { cls := 15, severity := if st = .ok then 0 else 1, code := 1, unit := 0, head := 255, ld := 255, region := 0xFFFF,
                         address := 0, detail := completionDetail o st detail, completion := true, injected := false }
  match reportChannel s o with
  | some ch =>
    let s := s.onCmd fun c => { c with channels := c.channels.map fun x => if x.ch = ch then { x with held := x.held.filter fun p => !(p.tag = o.tag && p.opcode = o.opcode) } else x }
    sendParts s { ch := ch, tag := o.tag, urgent := false } o.opcode st detail false ((params.length - 1) / replyRoom) params
  | none => s

/-- The long operation of a kind, where one runs, ends. -/
def endLongOf (s : State) (p : LongKind → Bool) (st : Status) (detail : Nat) (params : List Byte) : State :=
  match s.cmd.longOps.find? fun o => p o.kind with
  | some o => endLong s o st detail params
  | none => s

def longRuns (s : State) (p : LongKind → Bool) : Bool := s.cmd.longOps.any fun o => p o.kind

/-- Progress of a long operation. -/
def progressLong (s : State) (p : LongKind → Bool) (done : Nat) (poisoned : Nat := 0) : State :=
  s.onCmd fun c => { c with longOps := c.longOps.map fun o => if p o.kind then { o with done := o.done + done, poisoned := o.poisoned + poisoned } else o }

/-- The answer to a change that has taken effect (R75). -/
def answerJoined (s : State) (q : Option (Req × U16 × Nat)) (st : Status) (detail : Nat) (params : List Byte) : State :=
  match q with
  | some (r, op, n) => if (sessionNum s n).isSome then reply s r op st detail params else s
  | none => s

end Sys2Proof.Machine
end

