-- ==== Sys2Proof/Machine/Dram.lean ====
section
/-! DEFINITION. The scheduling of a DRAM channel: its bins and timing sets, banks, row tracking, and the queues of its subchannels (R127, R129, R132 to R140, R146). -/

namespace Sys2Proof.Machine

/-! ### Rates and timing sets (R127, R137) -/

/-- R127: the data rate of the full bin in MT/s; a channel that is UNSUPPORTED does not count. -/
def fullBin (s : State) : Nat :=
  let ds := (s.vat.ch.filter fun c => !(c.st = .failed && c.cause = 1)).filterMap (·.dimms)
  (ds.map (·.maxRate)).foldl min (if ds.any (·.count = 2) then 5200 else 5600)

/-- R127: the data rate of a bin. -/
def binRate (s : State) (reduced : Bool) : Nat := if reduced then 4400 else fullBin s

/-- R127: the MC island clock in MHz. -/
def mcClock (c : Dram) : Nat := c.rate / 4

/-- R137: the timing set of a bin and band: 0 A, 1 B, 2 C, 3 D. -/
def timingSet (reduced : Bool) (band : DimmBand) : Nat := (if reduced then 2 else 0) + (if band = .normal then 0 else 1)

/-- R137: the refresh interval of a timing set in ns. -/
def refreshInterval (timing : Nat) : Nat := if timing % 2 = 0 then 3900 else 1950

/-! ### Banks (R129, R135, R140) -/

def blankBank (id : Nat) : Bank :=
  { id := id, openRow := none, lastRow := 0, predictor := 0, judged := true, hits := 0, postponed := 0, pulledIn := 0, tracker := [], neighbour := 0,
    told := false, acts := 0, rfms := 0 }

def bankAt (c : Dram) (id : Nat) : Bank := (c.banks.find? (·.id = id)).getD (blankBank id)

def setBank (s : State) (channel : Nat) (b : Bank) : State := setDram s channel fun c => { c with banks := insertBy (·.id) b c.banks }

/-- R129: where a line lies: channel, bank, row and column. -/
structure LinePlace where
  channel : Nat
  bank : Nat
  row : Nat
  column : Nat
  deriving DecidableEq, Repr

/-- R129: the column of a line: C[10:9] the chunk, C[8:4] the line's five upper bits, C[3:0] zero. -/
def columnOf (chunk line : Nat) : Nat := chunk * 512 + line / 2 % 32 * 16

/-- R128, R129: a line of location `no` on its channel. -/
def placeLine (s : State) (no line : Nat) : LinePlace :=
  let p := placeOf (dramAt s (no % 16)) (no / 16)
  { channel := no % 16, bank := bankOf (line % 2) p, row := p.row, column := columnOf p.chunk (line % 64) }

/-- The place of a line on the frame of its page. -/
def lineBank (s : State) (line : Nat) : Option LinePlace := (frameOf s (line / 64)).map fun f => placeLine s f.no line

/-- R140: an activation is counted; of 16 entries the least counted one gives way (log entry 23). -/
def activate (tracker : List (Nat × Nat)) (row : Nat) : List (Nat × Nat) :=
  if tracker.any (·.1 = row) then tracker.map fun x => if x.1 = row then (row, x.2 + 1) else x
  else if tracker.length < 16 then tracker ++ [(row, 1)]
  else
    let low := minOf (tracker.map (·.2))
    match tracker.find? (·.2 = low) with
    | some v => tracker.erase v ++ [(row, low + 1)]
    | none => tracker

/-- R129: a queued request of the bank, to the row or, without one, to any. -/
def bankWanted (s : State) (channel bank : Nat) (row : Option Nat) : Bool :=
  (dramAt s channel).queue.any fun d => match lineBank s d.line with
    | some p => p.channel = channel && p.bank = bank && (row.isNone || row = some p.row)
    | none => false

/-- R135: the counter after the column command that follows: the same row or another. -/
def predictNext (b : Bank) (row : Nat) : Nat :=
  if b.judged then b.predictor else if b.lastRow = row then min 3 (b.predictor + 1) else b.predictor - 1

/-- R140: the RFM threshold that the channel's DIMMs state, 0 for none. -/
def rfmThreshold (c : Dram) : Nat := (c.dimms.map (·.rfm)).getD 0

/-- R135, R140: the bank after a column command to a row: the counter learns, an activation is counted, a row at the threshold has
its neighbours refreshed and its entry cleared, and RFM follows at its own threshold. `hold` keeps the row open. -/
def columnBank (s : State) (c : Dram) (b : Bank) (row : Nat) (hold : Bool) : Bank :=
  let opened := b.openRow ≠ some row
  let predictor := predictNext b row
  let tracker := if opened then activate b.tracker row else b.tracker
  let hot := tracker.any fun x => x.1 = row && disturbThreshold s ≤ x.2
  let acts := if opened then b.acts + 1 else b.acts
  let rfm := rfmThreshold c ≠ 0 && decide (rfmThreshold c ≤ acts)
  { b with lastRow := row, predictor := predictor, judged := false, hits := if opened then 0 else b.hits + 1,
           tracker := if hot then tracker.filter (·.1 ≠ row) else tracker, neighbour := if hot then b.neighbour + 1 else b.neighbour,
           acts := if rfm then 0 else acts, rfms := if rfm then b.rfms + 1 else b.rfms,
           openRow := if hold || 2 ≤ predictor then some row else none }

/-- R140: one event when a bank has issued more than 64 neighbour refreshes in a window, at most one per channel and second. -/
def neighbourEvent (s : State) (channel : Nat) (b : Bank) : State :=
  let quiet := match (dramAt s channel).neighbourLogged with | some t => s.now < t + 1000000000 | none => false
  if 64 < b.neighbour && !b.told && !quiet then
    let s := setBank s channel { b with told := true }
    setDram (s.event 4 7 1 (unitWord 3 channel) (detail := b.neighbour)) channel fun c => { c with neighbourLogged := some s.now }
  else s

/-- R133, R135, R138, R140: column commands of a channel to a row: those of one burst, or of as many as count within the limit of R138. -/
def columnCommand (s : State) (channel bank row : Nat) (hold : Bool) (bursts : Nat := 1) : State :=
  let c := dramAt s channel
  let b := bankAt c bank
  let n := columnBank s c b row (hold || bankWanted s channel bank (some row))
  let s := setDram (setBank s channel n) channel fun c =>
    { c with columns := (c.columns.filter fun x => decide (s.now < x.2 + 1000)) ++ List.replicate bursts (bank / 1024, s.now),
             neighbours := c.neighbours + (n.neighbour - b.neighbour) }
  neighbourEvent s channel n

/-- R129, R135, R138: a whole page of a location is read or written: 32 bursts to one row of each subchannel, the row kept open until all
have issued; one activation each. CCH commands do not count within the limit. -/
def pageCommand (s : State) (no : Nat) (bursts : Nat := 32) : State :=
  let p := placeOf (dramAt s (no % 16)) (no / 16)
  columnCommand (columnCommand s (no % 16) (bankOf 0 p) p.row false bursts) (no % 16) (bankOf 1 p) p.row false bursts

/-- R135: a request for a row arrives at its bank: after a command to another row the counter falls, and an open row that no queued request
targets closes. -/
def rowRequested (s : State) (line : Nat) : State :=
  match lineBank s line with
  | none => s
  | some p =>
    let b := bankAt (dramAt s p.channel) p.bank
    if b.lastRow = p.row || b.judged && b.openRow.isNone then s
    else
      let stays := b.openRow = some p.row || bankWanted s p.channel p.bank b.openRow
      setBank s p.channel { b with judged := true, predictor := if b.judged then b.predictor else b.predictor - 1,
                                   openRow := if stays then b.openRow else none }

/-! ### The queues (R132 to R134, R138) -/

def inQueue (s : State) (channel sub : Nat) (write : Bool) : List DramReq :=
  (dramAt s channel).queue.filter fun d => d.write = write && d.line % 2 = sub

/-- R132: a read finds space in its subchannel's queue of 64. -/
def readRoom (s : State) (line : Nat) : Bool :=
  match frameOf s (line / 64) with
  | some f => decide ((inQueue s (frameChannel f.no) (line % 2) false).length < 64)
  | none => false

def queuedWrite (s : State) (line : Nat) : Bool :=
  match frameOf s (line / 64) with
  | some f => (dramAt s (frameChannel f.no)).queue.any fun d => d.line = line && d.write
  | none => false

/-- R133: writes are issued from 48 entries down to 16. -/
def watermark (s : State) (channel sub : Nat) : State :=
  let n := (inQueue s channel sub true).length
  setDram s channel fun c => { c with writing := if 48 ≤ n then addNew c.writing sub else if n ≤ 16 then c.writing.filter (· ≠ sub) else c.writing }

/-- R132, R134, R146: a write of a line joins its queued write, which needs no read once it is whole, or queues; those beyond 64 wait in the Wire's class buffer, in order. -/
def queueWrite (s : State) (line : Nat) (l : Line) (rmw : Bool) : State :=
  match frameOf s (line / 64) with
  | none => s
  | some f =>
    let c := frameChannel f.no
    let s := setDram (rowRequested s line) c fun d =>
      { d with queue := if d.queue.any fun x => x.line = line && x.write then
            d.queue.map fun x => if x.line = line && x.write then { x with data := l, rmw := x.rmw && rmw } else x
          else d.queue ++ [{ line := line, write := true, curd := false, data := l, rmw := rmw, since := s.now }] }
    watermark s c (line % 2)

/-- R133 step 1: the Couch's own reads wait on the channel. -/
def cchWaits (s : State) (channel : Nat) : Bool :=
  s.wire.cchFirst && s.couch.todo.any fun p => ((frameOf s p).map fun f => decide (frameChannel f.no = channel)).getD false

/-- R127, R138: issue slots of a subchannel in 1 µs: one burst of 16 takes 16 transfers. -/
def issueSlots (c : Dram) : Nat := c.rate / 16

/-- R138: the 50 % limit of the RESTRICTED band is reached. -/
def slotLimit (s : State) (channel sub : Nat) : Bool :=
  let c := dramAt s channel
  c.band = .restricted && decide (issueSlots c ≤ 2 * (c.columns.filter fun x => x.1 = sub && decide (s.now < x.2 + 1000)).length)

/-- R133 step 3: the request hits its bank's open row, which has not served 16 hits while an older request waits for another
row of the bank. -/
def rowHit (s : State) (channel : Nat) (older : List DramReq) (d : DramReq) : Bool :=
  match lineBank s d.line with
  | none => false
  | some p =>
    let b := bankAt (dramAt s channel) p.bank
    let waits := older.any fun o => match lineBank s o.line with | some q => q.bank = p.bank && q.row ≠ p.row | none => false
    b.openRow = some p.row && !(waits && decide (16 ≤ b.hits))

/-- The first row hit of a queue, oldest first. -/
def firstHit (s : State) (channel : Nat) (seen : List DramReq) : List DramReq → Option DramReq
  | [] => none
  | d :: rest => if rowHit s channel seen d then some d else firstHit s channel (seen ++ [d]) rest

/-- R133 steps 2 to 4: the next request of a direction's queue: one older than 1 µs, a row hit, or the oldest. -/
def nextOf (s : State) (channel : Nat) (l : List DramReq) : Option DramReq :=
  match l with
  | [] => none
  | d :: _ => if decide (d.since + 1000 < s.now) then some d else match firstHit s channel [] l with | some h => some h | none => some d

/-- R133: whether the subchannel issues writes now. -/
def issuesWrites (s : State) (channel sub : Nat) : Bool :=
  (dramAt s channel).writing.contains sub || (inQueue s channel sub false).isEmpty

/-- R132, R133, R138, R143, R147: the request that the subchannel serves next in a direction; a partial write is read first (R146).
The age rule of step 2 orders the requests of the direction that is chosen, and a write older than 1 µs goes before other writes only:
whether it goes before reads the rule does not say (DESIGN CHOICE, log entry 157). While the frequency changes, those that came before it go on. -/
def nextRequest (s : State) (channel sub : Nat) (write : Bool) : Option DramReq :=
  let c := dramAt s channel
  if c.held || (c.st ≠ .online && c.st ≠ .vacating) || cchWaits s channel || slotLimit s channel sub || issuesWrites s channel sub ≠ write then none
  else nextOf s channel (((inQueue s channel sub write).take 64).filter fun d => !c.changing || decide (d.since < c.changeAt))

/-! ### Refresh (R137, R139, R140) -/

/-- R139: banks that a refresh covers: its own, or every bank of its rank and subchannel under the all-bank command. -/
def refreshed (s : State) (bank : Nat) (b : Bank) : Bool := if allBankRefresh s then b.id / 32 = bank / 32 else b.id = bank

/-- R139: requests are queued for what the refresh covers. -/
def refreshBusy (s : State) (channel bank : Nat) : Bool :=
  (dramAt s channel).queue.any fun d => match lineBank s d.line with
    | some p => p.channel = channel && refreshed s bank (blankBank p.bank)
    | none => false

/-- R133, R139: a read of the Couch waits in what the refresh covers. -/
def refreshCch (s : State) (channel bank : Nat) : Bool :=
  s.wire.cchFirst && s.couch.todo.any fun p => match frameOf s p with
    | some f => frameChannel f.no = channel && [0, 1].any fun sub => refreshed s bank (blankBank (placeLine s f.no sub).bank)
    | none => false

/-- R139: a refresh interval of one bank: postponed while requests are queued, up to 4 (5 while CCH commands wait), unless one
was pulled in; an idle bank issues it, with those postponed, and pulls the next in. -/
def refreshBank (busy cch : Bool) (b : Bank) : Bank :=
  let limit := if cch then 5 else 4
  if busy then
    if 0 < b.pulledIn then { b with pulledIn := b.pulledIn - 1 }
    else if b.postponed < limit then { b with postponed := b.postponed + 1 }
    else { b with openRow := none }
  else { b with postponed := 0, openRow := none, pulledIn := min 4 (b.pulledIn + 1) }

/-- REFRESH_INTERVAL_TICK (R137, R139, R231): a refresh interval ends; the timing set follows bin and band at this boundary. A rank in self-refresh
takes no refresh command. -/
def execRefreshIntervalTick (channel bank : Nat) (s : State) : Res State :=
  let c := dramAt s channel
  if c.st ≠ .online && c.st ≠ .vacating || c.asleep.contains (bank % 1024 / 32) then .next s
  else
    let cch := refreshCch s channel bank
    let busy := refreshBusy s channel bank || cch
    let s := setBank s channel (bankAt c bank)
    .next (setDram s channel fun c => { c with timing := timingSet c.reduced c.band,
                                               banks := c.banks.map fun b => if refreshed s bank b then refreshBank busy cch b else b })

/-- REFRESH_WINDOW_EXPIRY (R140): the trackers of the channel are cleared. -/
def execRefreshWindowExpiry (channel : Nat) (s : State) : Res State :=
  .next (setDram s channel fun c => { c with banks := c.banks.map fun b => { b with tracker := [], neighbour := 0, told := false, rfms := 0 } })

/-- ROW_IDLE_TIMEOUT (R135): no other row was requested for 150 ns: the counter rises, also behind an auto-precharge; the row closes unless a
queued request targets it. -/
def execRowIdleTimeout (channel bank : Nat) (s : State) : Res State :=
  let b := bankAt (dramAt s channel) bank
  match b.openRow with
  | some row =>
    if bankWanted s channel bank (some row) then .next s
    else .next (setBank s channel { b with openRow := none, judged := true, predictor := if b.judged then b.predictor else min 3 (b.predictor + 1) })
  | none => .next (if b.judged then s else setBank s channel { b with judged := true, predictor := min 3 (b.predictor + 1) })

end Sys2Proof.Machine
end

