-- ==== Sys2Proof/Machine/Pages.lean ====
section
/-! DEFINITION. Pages, frames and lines: the directory, the Vat frames, the Curd's sets and eviction buffers, and the charge of dirty pages (R70 to R72, R93 to R117, R242, R479). -/

namespace Sys2Proof.Machine

/-! ### Lines and pages of data -/

def zeroLine : Line := { data := 0, poison := false }
def poisonLine : Line := { data := 0, poison := true }

/-- The line at an index of a page's data; unlisted lines are good zeros. -/
def lineIn (d : PageData) (i : Nat) : Line := ((d.find? (·.1 = i)).map (·.2)).getD zeroLine

/-- A line written into a page's data, kept in its canonical form. -/
def putLine (d : PageData) (i : Nat) (l : Line) : PageData :=
  if l = zeroLine then d.filter (·.1 ≠ i) else insertBy (·.1) (i, l) d

/-- R106: the poison fill of a LOST page. -/
def poisonPage : PageData := (List.range 64).map fun i => (i, poisonLine)

/-- R44: the bytes that the enables select, byte 0 in bits 7 to 0. -/
def enableMask (be : BitVec 64) : LineData :=
  (List.range 64).foldl (fun m k => if be.getLsbD k then m ||| ((0xFF : LineData) <<< (8 * k)) else m) 0

/-- All 64 byte enables set. -/
def fullLine (be : BitVec 64) : Bool := be = BitVec.allOnes 64

/-- R44, R94, R437: a write merged into a line: a poisoned write poisons it, a whole line without poison clears poison, a
partial write keeps it. -/
def mergeLine (l : Line) (data : LineData) (be : BitVec 64) (poison : Bool) : Line :=
  let m := enableMask be
  { data := (l.data &&& ~~~m) ||| (data &&& m), poison := poison || (l.poison && !fullLine be) }

/-! ### The directory -/

/-- R71, R172: the entry of a page that has none listed: ZERO in an allocated extent, FREE in a free one. -/
def blankEntry (s : State) (page : Nat) : DirEntry :=
  let own := regionOfPage s page
  { page := page, region := (own.map (·.num)).getD 0, st := if own.isSome then .zero else .free, prev := .free, wrote := false, pinned := (own.map d0Region).getD false,
    keyGen := 0, loc := 0, frame := none, epoch := 0, charged := false, unresolved := false }

def entry (s : State) (page : Nat) : DirEntry := (entryOf s page).getD (blankEntry s page)

/-- The directory block that holds a page's entry: that of its extent (R111). -/
def blockOf (page : Nat) : Nat := page / 512

/-- An entry written with no charge of its block: a Lift resolution or a fault-in (R111, R242). -/
def putQuiet (s : State) (e : DirEntry) : State :=
  s.onPpu fun p => { p with dir := if e = blankEntry s e.page then p.dir.filter (·.page ≠ e.page) else insertBy (·.page) e p.dir }

/-- R111: an entry changed; its block is charged as a page of region 0x0000 from its first change. -/
def putEntry (s : State) (e : DirEntry) : State :=
  (putQuiet s e).onPpu fun p => { p with dirtyBlocks := addNew p.dirtyBlocks (blockOf e.page) }

/-- R98, R477: the directory epoch is raised to that of a write, unless it is later. -/
def raiseEpoch (old new : U32) : U32 := if laterSerial old new then old else new

/-! ### Resolution against the Lift index (R242) -/

/-- R242: the newest index entry of a page that applies to a directory epoch. -/
def indexOf (s : State) (page : Nat) (epoch : U32) : Option (BitVec 40 × U32 × Bool × Nat) :=
  match s.ream.index.find? (·.1 = page) with
  | some (_, loc, e, poison, g) => if notLaterSerial epoch e then some (loc, e, poison, g) else none
  | none => none

def stagedLines (s : State) (page : Nat) : List StageRec := s.ream.stage.filter fun r => r.valid && r.line / 64 = page
def isStaged (s : State) (page : Nat) : Bool := s.ream.stage.any fun r => r.valid && r.line / 64 = page

/-- R171, R479: the later record of a line prevails; the staged lines merged over a page. -/
def mergeStaged (s : State) (page : Nat) (d : PageData) : PageData :=
  (stagedLines s page).foldl (fun d r => putLine d (r.line % 64) r.data) d

/-- R242: the table of resolution; none for LOST. -/
def resolvedEntry (s : State) (e : DirEntry) : DirEntry :=
  let e := { e with frame := none, unresolved := false, charged := false, wrote := false }
  match e.st, indexOf s e.page e.epoch with
  | .free, _ => e
  | .reserved, _ => { e with st := .lost, loc := 0 }
  | .couched, some (loc, _) => { e with loc := loc }
  | .couched, none => e
  | _, some (loc, ep, _) => { e with st := .couched, loc := loc, epoch := ep }
  | .zero, none => e
  | .home, none => e
  | .lost, none => e
  | .clean, none => if e.loc = 0 then { e with st := .zero } else { e with st := .home }
  | .dirty, none => { e with st := .lost, loc := 0 }
  | .moving, none => { e with st := .home }

/-- R242: a page's entry as it stands, or as its block will resolve. -/
def foundEntry (s : State) (page : Nat) : DirEntry :=
  let e := entry s page
  if e.unresolved then resolvedEntry s e else e

/-- R70, R164: an entry as found with a reserved state, or that names no region, or a location beyond the geometry, is treated as LOST. -/
def entryBad (s : State) (e : DirEntry) : Bool :=
  e.st = .reserved || e.st ≠ .free && (e.region = 0 || 0xFFFF ≤ e.region || locBad s e.loc)

/-- R70, R242: an entry resolved; one that becomes LOST brings an event, which is the directory error event too (log entry 141). -/
def resolvePage (s : State) (e : DirEntry) : State :=
  let n := if entryBad s e then { resolvedEntry s e with st := .lost, loc := 0 } else resolvedEntry s e
  let s := if n.st = .lost && e.st ≠ .lost then s.event 5 4 2 0 n.region (n.page * pageBytes) 0 else s
  putQuiet s n

/-- R242: a directory block loaded for the first time is resolved. -/
def resolveBlock (s : State) (page : Nat) : State :=
  s.each (s.ppu.dir.filter fun e => e.unresolved && blockOf e.page = blockOf page) resolvePage

/-! ### The directory's caches (R111, R149) -/

/-- R149, R172: locations of a channel's share that hold the two copies of the directory root, 8 bytes for each directory page. -/
def rootLocations (s : State) : Nat :=
  let pages := allocated s / (256 * pageBytes)
  (2 * ((pages * 8 + 4095) / 4096) + s.vat.setCount - 1) / max 1 s.vat.setCount

/-- R149, R172: slots for blocks in a channel's share. -/
def blockSlots (s : State) (c : Nat) : Nat := (min (dramAt s c).share (dramAt s c).shareTo - rootLocations s) / 2

/-- R149: the first of the two locations of slot j of a channel's share of the cache area. -/
def slotLocation (s : State) (c j : Nat) : Nat :=
  let d := dramAt s c
  (channelLocations d - min d.share d.shareTo + 2 * j) * 16 + c

/-- R149: a slot of a channel's share that no block uses, of another bank than a location where one is given. -/
def freeSlot (s : State) (c : Nat) (other : Option Nat) : Option Nat :=
  let d := dramAt s c
  let bank (no : Nat) : Nat := (placeOf d (no / 16)).bank
  let good (no : Nat) : Bool := !locationWithheld s d (no / 16) && !locationWithheld s d (no / 16 + 1) && !(s.ppu.blocks.any fun b => b.2.1 = no || b.2.2 = no) && other.all fun o => decide (o ≠ no) && decide (bank o ≠ bank no)
  (findFrom (fun j => good (slotLocation s c j)) (blockSlots s c) 0).map (slotLocation s c)

/-- R149: places for the two copies of a block: on channels c and c XOR 8, or on one channel in different banks while one of the two is
not ONLINE. The first channel tried is the extent's number modulo 16 (log entry 130). -/
def blockPlace (s : State) (extent : Nat) : Option (Nat × Nat) :=
  let has (c : Nat) : Bool := (dramAt s c).st = .online && decide (1 ≤ blockSlots s c)
  (((List.range 16).map fun k => (extent + k) % 16).filter has).findSome? fun c =>
    match freeSlot s c none with
    | none => none
    | some a => (if has (c ^^^ 8) then freeSlot s (c ^^^ 8) none else freeSlot s c (some a)).map fun b => (a, b)

/-- R67: extents of the DPA space. -/
def extentCount : Nat := 50331648

/-- R111, R223: the page numbers that rows give the directory's own pages: a block's, and the root log tail's (log entry 16). -/
def directoryBase : Nat := 24 * 1024 * 1024 * 1024
def rootTailPage : Nat := directoryBase + extentCount

/-- R111, R172, R242: where a block stands on the Ream: in the newest generation that saved it, or where the root says; none for one that has
never been written. -/
def blockHome (s : State) (extent : Nat) : Option (BitVec 40) :=
  match s.ream.generations.reverse.findSome? fun g => (g.pages.find? (·.1 = directoryBase + extent)).map (·.2.1) with
  | some l => some l
  | none => ((s.ream.root.find? (·.1 = 2 * extent)).map (·.2.1)).filter (· ≠ 0)

/-- R112: the background zeroing, or a first load, has zeroed the slot. -/
def slotZeroed (s : State) (no : Nat) : Bool :=
  let d := dramAt s (no % 16)
  decide ((no / 16 + min d.share d.shareTo - channelLocations d) / 2 < d.zeroTo) || s.ppu.zeroed.contains no

/-- R112: the two locations of a slot are written. -/
def writeLocations (s : State) (no : Nat) : State := pageCommand (pageCommand s no) (no + 16)

/-- R112: a slot is zeroed before its first block is loaded. -/
def zeroSlot (s : State) (no : Nat) : State :=
  if slotZeroed s no then s else (writeLocations s no).onPpu fun p => { p with zeroed := addNew p.zeroed no }

/-- R112: start-up zeroes the cache area in the background, a slot of the first ONLINE channel that has one left at a time (log entry 130). -/
def zeroNext (s : State) : State :=
  match (List.range 16).find? fun c => (dramAt s c).st = .online && decide ((dramAt s c).zeroTo < blockSlots s c) with
  | none => s
  | some c =>
    let no := slotLocation s c (dramAt s c).zeroTo
    let s := if s.ppu.zeroed.contains no || s.ppu.blocks.any (fun b => b.2.1 = no || b.2.2 = no) then s.onPpu fun p => { p with zeroed := p.zeroed.filter (· ≠ no) }
      else writeLocations s no
    setDram s c fun d => { d with zeroTo := d.zeroTo + 1 }

/-- R111, R112, R149: a block is written whole in the slots of its two copies. -/
def writeBlock (s : State) (at_ : Nat × Nat) : State :=
  writeLocations (writeLocations (zeroSlot (zeroSlot s at_.1) at_.2) at_.1) at_.2

/-- R111: the least recently used block that is clean. -/
def oldestClean (s : State) : Option (Nat × Nat × Nat) := s.ppu.blocks.reverse.find? fun b => !s.ppu.dirtyBlocks.contains b.1

/-- R111, R112, R149: the block of an extent comes into the cache area, written whole, in place of the least recently used clean one
when the area is full; a block that is there is the newest. -/
def loadBlock (s : State) (extent : Nat) : State :=
  match s.ppu.blocks.find? (·.1 = extent) with
  | some b => s.onPpu fun p => { p with blocks := b :: p.blocks.erase b }
  | none =>
    match blockPlace s extent with
    | some at_ => (writeBlock s at_).onPpu fun p => { p with blocks := (extent, at_) :: p.blocks }
    | none => match oldestClean s with
      | some b => (writeBlock s b.2).onPpu fun p => { p with blocks := (extent, b.2) :: p.blocks.erase b }
      | none => s

/-- R149: a copy of the block has one of its two locations where a condition holds. -/
def blockOn (b : Nat × Nat × Nat) (p : Nat → Bool) : Bool := p b.2.1 || p (b.2.1 + 16) || p b.2.2 || p (b.2.2 + 16)

/-- R152, R154, R157: the blocks with a copy in locations that leave the cache area: clean ones are dropped, dirty ones are
rewritten to what remains of it, in place of the least recently used clean one where it is full. -/
def leaveBlocks (s : State) (gone : Nat → Bool) : State :=
  let leaving := s.ppu.blocks.filter fun b => blockOn b gone
  let clean (b : Nat × Nat × Nat) : Bool := !s.ppu.dirtyBlocks.contains b.1
  let s := s.onPpu fun p => { p with blocks := p.blocks.filter fun b => !(leaving.contains b && clean b) }
  s.each (leaving.filter fun b => !clean b) fun s b =>
    match blockPlace s b.1 with
    | some at_ => s.onPpu fun p => { p with blocks := p.blocks.map fun x => if x = b then (b.1, at_) else x }
    | none => match oldestClean s with
      | some v => s.onPpu fun p => { p with blocks := (p.blocks.erase v).map fun x => if x = b then (b.1, v.2) else x }
      | none => s

/-- R111: the set of 8 entries of a page in PX (log entry 130). -/
def pxSet (page : Nat) : Nat := page % 131072

/-- R111: the entry comes into PX in place of its set's least recently used one. -/
def pxTouch (px : List Nat) (page : Nat) : List Nat :=
  let rest := px.filter (· ≠ page)
  let mates := rest.filter fun p => pxSet p = pxSet page
  page :: (if mates.length < 8 then rest else rest.filter fun p => !(mates.drop 7).contains p)

/-- R111: the page's block must be read from the Ream before its entry is used: it has a copy there, it is not in the area, and the area
can take it. -/
def blockAbsent (s : State) (page : Nat) : Bool :=
  !(s.ppu.blocks.any (·.1 = blockOf page)) && (blockHome s (blockOf page)).isSome && ((blockPlace s (blockOf page)).isSome || (oldestClean s).isSome)

/-- R111: the block is read, as a demand fetch of its page of region 0x0000. -/
def fetchBlock (s : State) (extent : Nat) : State :=
  let page := directoryBase + extent
  if s.ppu.fetches.any (·.page = page) then s
  else
    let f : Fetch := { page := page, prefetch := false, kept := true, issued := s.now, cch := s.couch.orch = .committed, reserve := s.ream.generations.any fun g => g.pages.any (·.1 = page) }
    s.onPpu fun p => { p with fetches := p.fetches ++ [f] }

/-- R111, R177: the LUN that a page, or a directory block, is fetched from. -/
def pageLun (s : State) (page : Nat) : Nat :=
  lunOf (if directoryBase ≤ page then (blockHome s (page - directoryBase)).getD 0 else (entry s page).loc)

/-- R111: a page's block and its entry are looked up. -/
def touchDirectory (s : State) (page : Nat) : State :=
  (loadBlock (resolveBlock s page) (blockOf page)).onPpu fun p => { p with px := pxTouch p.px page }

/-! ### Frames -/

/-- A location that no page may take: withheld, or held by a trace (R448). -/
def locationOut (s : State) (no : Nat) : Bool :=
  locationWithheld s (dramAt s (no % 16)) (no / 16) || ((s.cmd.trace.map fun t => t.frames.contains no).getD false)

/-- R108: a frame of the free pool: the lowest free location of the channels that take fills (log entry 14). -/
def freeOnChannel (s : State) (c : Nat) : Option Nat :=
  let d := dramAt s c
  if channelTakesFills d then
    (findFrom (fun i => !(s.ppu.frames.any (·.no = 16 * i + c)) && !locationOut s (16 * i + c)) (channelFrames d) 0).map (16 * · + c)
  else none

def freeFrame (s : State) : Option Nat :=
  if indexFrames s ≠ 0 && freeFrames s = 0 then none else ((List.range 16).filterMap (freeOnChannel s)).foldl (fun best n => match best with | none => some n | some b => some (min b n)) none

def putFrame (s : State) (f : Frame) : State := s.onPpu fun p => { p with frames := insertBy (·.no) f p.frames }
def setFrame (s : State) (page : Nat) (g : Frame → Frame) : State :=
  s.onPpu fun p => { p with frames := p.frames.map fun f => if f.page = page then g f else f }
def dropFrame (s : State) (page : Nat) : State := s.onPpu fun p => { p with frames := p.frames.filter (·.page ≠ page) }

/-- R106: the page takes a frame in FILLING, or keeps the one it has; none when no frame is free (R109). -/
def assignFrame (s : State) (page : Nat) : Option (Nat × State) :=
  match frameOf s page with
  | some f => some (f.no, s)
  | none => match freeFrame s with
    | some n => some (n, putFrame s { no := n, valid := false, referenced := true, page := page, data := [] })
    | none => none

/-- R106: a frame becomes VALID with data of all 64 lines; lines written since a page was staged stand over it (R479). -/
def fillFrame (s : State) (page : Nat) (d : PageData) : State :=
  let s := match frameOf s page with | some f => pageCommand s f.no | none => s
  setFrame s page fun f => { f with valid := true, data := mergeStaged s page d }

/-- The line of a page as its VALID frame holds it. -/
def frameLine (f : Frame) (line : Nat) : Line := lineIn f.data (line % 64)

/-- R106, R132: a line written to its VALID frame, the write queued on the frame's channel; `rmw` for a partial write (R146). -/
def writeFrame (s : State) (line : Nat) (l : Line) (rmw : Bool) : State :=
  match validFrame s (line / 64) with
  | some _ =>
    let s := setFrame s (line / 64) fun f => { f with data := putLine f.data (line % 64) l, referenced := true }
    queueWrite s line l rmw
  | none => s

/-- R147: the error classes that events of the DRAM name. -/
inductive DramClass where
  | correctable | erasure | uncorrectable | poison | repair | device
  deriving DecidableEq, Repr

def DramClass.code : DramClass → Nat
  | .correctable => 0 | .erasure => 1 | .uncorrectable => 2 | .poison => 3 | .repair => 4 | .device => 5

/-- R147: the upper 64 bits of the detail of an event that names a place: subchannel, logical rank, bank group, bank, row, column,
device (15 for none) and class, from the lowest bit up (log entry 135). -/
def placeWord (s : State) (no line device : Nat) (cls : DramClass) : Nat :=
  let p := placeOf (dramAt s (no % 16)) (no / 16)
  line % 2 + 2 * p.rank + 2 ^ 5 * p.group + 2 ^ 8 * p.bank + 2 ^ 10 * p.row + 2 ^ 27 * columnOf p.chunk (line % 64) + 2 ^ 38 * (device % 16) + 2 ^ 42 * cls.code

/-- R147: an event of an access to a line of location `no`. -/
def dramEvent (s : State) (code severity no line device : Nat) (cls : DramClass) (region primary : Nat) : State :=
  s.event 4 code severity (unitWord 3 (no % 16)) region (line * 64) (primary + 2 ^ 64 * placeWord s no line device cls)

/-- R145, R146, R147: the line is written back with the poison encoding; a queued write of the whole line stands over it, a partial one
keeps the poison. -/
def poisonFrameLine (s : State) (channel line : Nat) : State :=
  match (dramAt s channel).queue.find? fun d => d.line = line && d.write with
  | none => setFrame s (line / 64) fun f => { f with data := putLine f.data (line % 64) poisonLine }
  | some w =>
    if !w.rmw then s
    else
      let l : Line := { w.data with poison := true }
      let s := setDram s channel fun c => { c with queue := c.queue.map fun d => if d = w then { d with data := l } else d }
      setFrame s (line / 64) fun f => { f with data := putLine f.data (line % 64) l }

/-- A request of the page is queued in a channel. -/
def pageQueued (s : State) (page : Nat) : Bool := s.vat.ch.any fun c => c.queue.any fun d => d.line / 64 = page

/-- R132, R134: a read of a line queued on its frame's channel, which returns the line as it stands in the order of acceptance. -/
def queueRead (s : State) (line : Nat) (curd : Bool) : State :=
  match frameOf s (line / 64) with
  | some f =>
    let d : DramReq := { line := line, write := false, curd := curd, data := frameLine f line, rmw := false, since := s.now }
    setDram (rowRequested s line) (frameChannel f.no) fun c => { c with queue := c.queue ++ [d] }
  | none => s

/-! ### Charges and credits (R48, R98, R225) -/

/-- R48: the page is charged, and DIRTY; its epoch is raised. -/
def chargePage (s : State) (page : Nat) (epoch : U32) : State :=
  let e := entry s page
  let st := match e.st with | .moving => .moving | _ => .dirty
  putEntry s { e with st := st, wrote := e.wrote || e.st = .moving, epoch := raiseEpoch e.epoch epoch, charged := true }

/-- R224, R225, R262: a credit that covered a write is consumed by the charge, or goes back to its port's pool, which a port keeps only while
grants are unrestricted; a Felt unit's credit (holders 16 to 23 are the links) ends. -/
def consumeCredit (s : State) (port : Nat) : State :=
  if port < 16 then s.onDeckle fun d => { d with inUse := d.inUse.modify port (· - 1) }
  else s.onFelt fun f => { f with credits := f.credits.modify (port - 16) (· - 1) }
def returnCredit (s : State) (port : Nat) : State :=
  if port < 16 then s.onDeckle fun d => { d with inUse := d.inUse.modify port (· - 1), pool := if d.grant.isNone then d.pool.modify port (· + 1) else d.pool }
  else s.onFelt fun f => { f with credits := f.credits.modify (port - 16) (· - 1) }

/-- R98: the PPU charges a page for a write of an epoch that a credit of a port covers, or returns the credit. -/
def chargeFor (s : State) (page : Nat) (epoch : U32) (port : Nat) (credit : Bool) : State :=
  let was := (entry s page).charged
  let s := chargePage s page epoch
  if ¬ credit then s else if was then returnCredit s port else consumeCredit s port

/-- R71: the charge of a page is dropped. -/
def dropCharge (s : State) (page : Nat) : State :=
  if (entry s page).charged then putEntry s { entry s page with charged := false } else s

/-! ### Zero-allocate, poison fill, fetch -/

/-- R106: a ZERO page's frame of zeros. -/
def zeroAllocate (s : State) (page : Nat) : Option State :=
  (assignFrame s page).map fun (n, s) => putEntry (fillFrame s page []) { entry s page with frame := some n }

/-- R71, R106: the poison-filled frame of a LOST page. -/
def poisonAllocate (s : State) (page : Nat) : Option State :=
  (assignFrame s page).map fun (n, s) => putEntry (fillFrame s page poisonPage) { entry s page with frame := some n }

/-- R107, R115, R243: a fetch of a page from the Ream starts; the page is MOVING. A demand raises a prefetch. -/
def startFetch (s : State) (page : Nat) (prefetch : Bool) : State :=
  if s.ppu.recovering.contains page then s
  else if s.ppu.fetches.any (·.page = page) then
    s.onPpu fun p => { p with fetches := p.fetches.map fun f => if f.page = page then { f with prefetch := f.prefetch && prefetch } else f }
  else
    let e := entry s page
    let (fr, s) := match assignFrame s page with | some (n, s) => (some n, s) | none => (none, s)
    let s := s.onPpu fun p => { p with fetches := p.fetches ++ [{ page := page, prefetch := prefetch, kept := false, reserve := e.st = .couched, issued := s.now, cch := s.couch.orch = .committed }] }
    match e.st with
    | .home => putEntry s { e with st := .moving, prev := .home, frame := fr }
    | .couched => putQuiet s { e with st := .moving, prev := .couched, frame := fr }
    | _ => putQuiet s { e with frame := fr }

/-- R114: a pin's fetch, which the free pool does not drop. -/
def startKept (s : State) (page : Nat) : State :=
  (startFetch s page true).onPpu fun p => { p with fetches := p.fetches.map fun f => if f.page = page then { f with kept := true } else f }

/-- The page has a copy on the Ream and no VALID frame: it needs a fetch. -/
def needsFetch (e : DirEntry) : Bool := e.loc ≠ 0

/-- R479: a staged page with no frame and no Ream copy takes one of zeros and its staged lines. -/
def formStaged (s : State) (page : Nat) : State :=
  let e := entry s page
  if isStaged s page && (frameOf s page).isNone && e.loc = 0 then
    match assignFrame s page with
    | some (n, s) => if e.st = .lost then putEntry (fillFrame s page poisonPage) { e with st := .dirty, frame := some n, charged := true }
      else putEntry (fillFrame s page []) { e with st := if e.st = .zero then .clean else e.st, frame := some n }
    | none => s
  else s

/-! ### The Curd's sets (R93) -/

/-- R93: the owning slice, the exclusive-OR of the ten 4-bit fields of a[45:6]. -/
def sliceOf (line : Nat) : Nat := (List.range 10).foldl (fun x k => x ^^^ (line / 16 ^ k % 16)) 0

/-- R93: set a[22:10] XOR a[35:23]. -/
def setOf (line : Nat) : Nat := (line / 16 % 8192) ^^^ (line / 131072 % 8192)

def setKey (line : Nat) : Nat := sliceOf line * 8192 + setOf line

/-- R93: the tree bits of a set; a bit points to the less recently used half. -/
def treeOf (c : Curd) (key : Nat) : BitVec 15 := ((c.plru.find? (·.1 = key)).map (·.2)).getD 0

/-- The tree after a way is used (`last` false) or is made the least recently used (`last` true). -/
def treeTouch (t : BitVec 15) (way : Nat) (last : Bool) : BitVec 15 :=
  let at_ (t : BitVec 15) (node : Nat) (right : Bool) : BitVec 15 :=
    let bit : BitVec 15 := 1 <<< node
    if (if last then right else !right) then t ||| bit else t &&& ~~~bit
  let b3 := way / 8 % 2 = 1
  let b2 := way / 4 % 2 = 1
  let b1 := way / 2 % 2 = 1
  let b0 := way % 2 = 1
  let t := at_ t 0 b3
  let t := at_ t (1 + way / 8) b2
  let t := at_ t (3 + way / 4) b1
  at_ t (7 + way / 2) b0

/-- R93: the way that the tree points to. -/
def treeVictim (t : BitVec 15) : Nat :=
  let a := if t.getLsbD 0 then 1 else 0
  let b := 2 * a + if t.getLsbD (1 + a) then 1 else 0
  let c := 2 * b + if t.getLsbD (3 + b) then 1 else 0
  2 * c + if t.getLsbD (7 + c) then 1 else 0

def touchWay (s : State) (line way : Nat) (last : Bool) : State :=
  s.onCurd fun c => { c with plru := insertBy (·.1) (setKey line, treeTouch (treeOf c (setKey line)) way last) c.plru }

def curdLine (s : State) (line : Nat) : Option CurdLine := s.curd.lines.find? (·.addr = line)
/-- R103: the newest entry of a line in its slice's eviction buffer. -/
def evictOf (s : State) (line : Nat) : Option Evict := s.curd.evicts.reverse.find? (·.addr = line)
def setLine (s : State) (line : Nat) (f : CurdLine → CurdLine) : State :=
  s.onCurd fun c => { c with lines := c.lines.map fun l => if l.addr = line then f l else l }
def dropLine (s : State) (line : Nat) : State := s.onCurd fun c => { c with lines := c.lines.filter (·.addr ≠ line) }

/-- R102, R104: a victim passes through its slice's eviction buffer of 64 entries. -/
def evictRoom (s : State) (slice : Nat) : Bool := (s.curd.evicts.filter fun e => sliceOf e.addr = slice).length < 64

/-- Entries of a list of slices and times that are younger than a span. -/
def recent (s : State) (span : Nat) (l : List (Nat × Nat)) : List (Nat × Nat) := l.filter fun x => decide (s.now < x.2 + span)

/-- R449: a correction of a slice is counted; more than 1,000 in 1 s are logged, at most once a second. -/
def sliceCorrected (s : State) (i : Nat) : State :=
  let s := (countError s (.slice i) false).onCurd fun c => { c with corrected := recent s 1000000000 c.corrected ++ [(i, s.now)],
                                                                    corrLogged := recent s 1000000000 c.corrLogged }
  let n := (s.curd.corrected.filter (·.1 = i)).length
  if 1000 < n && !(s.curd.corrLogged.any (·.1 = i)) then
    (s.event 3 1 1 (unitWord 2 i) (detail := n)).onCurd fun c => { c with corrLogged := c.corrLogged ++ [(i, s.now)] }
  else s

/-- R94, R449: the cell number of a line's place in its slice. -/
def cellOf (line way : Nat) : Nat := way * 8192 + setOf line

/-- R94, R449: an access of a line that stands on a stuck cell of its slice: corrected and counted. -/
def stuckAccess (s : State) (line way : Nat) : State :=
  if s.curd.stuckCells.contains (sliceOf line, cellOf line way) then sliceCorrected s (sliceOf line) else s

/-- R94: the same for a line that stands in its set, and for none. -/
def stuckLine (s : State) (line : Nat) : State := match curdLine s line with | some c => stuckAccess s line c.way | none => s

def pushVictim (s : State) (v : CurdLine) : State :=
  let e : Evict := { addr := v.addr, dirty := v.st = .dirty, data := v.data, epoch := v.epoch, offered := false }
  (stuckAccess s v.addr v.way).onCurd fun c => { c with lines := c.lines.filter (·.addr ≠ v.addr), evicts := c.evicts ++ [e] }

/-- R93, R94, R104: a way for a line: a free one, or that of the pseudo-LRU victim, which is offered to the Vat. None while
the slice's eviction buffer is full, or while the victim is FILLING (log entry 15). -/
def takeWay (s : State) (line : Nat) : Option (Nat × State) :=
  let mates := s.curd.lines.filter fun l => setKey l.addr = setKey line
  if ¬ evictRoom s (sliceOf line) then none
  else match (List.range 16).find? fun w => !(mates.any (·.way = w)) with
    | some w => some (w, s)
    | none => match mates.find? (·.way = treeVictim (treeOf s.curd (setKey line))) with
      | some v => if v.st = .filling then none else some (v.way, pushVictim s v)
      | none => none

/-- R93: a line of a STREAM region enters its set at the least-recently-used position. -/
def streamPage (s : State) (page : Nat) : Bool := ((regionOfPage s page).map fun r => flagStream r.flags).getD false

def allocateLine (s : State) (line : Nat) (st : LineSt) (data : Line) (epoch : U32) : Option State :=
  match curdLine s line with
  | some l => some (touchWay (setLine s line fun l => { l with st := st, data := data, epoch := epoch }) line l.way false)
  | none => (takeWay s line).map fun (w, s) =>
      touchWay (s.onCurd fun c => { c with lines := c.lines ++ [{ addr := line, way := w, st := st, data := data, epoch := epoch }] })
        line w (streamPage s (line / 64))

/-- R95, R121, R123: the mode in which a line is served: a bypassed slice works as OFF; while the slices drain toward OFF they
serve as in WT, and the ports bypass them afterwards. -/
def modeOf (s : State) (line : Nat) : Mode :=
  let u := s.units.slices.getD (sliceOf line) .reset
  if s.curd.off || s.curd.powering then .off
  else if u.st ≠ .inService then (if s.units.fenceWait.contains (.slice (sliceOf line)) then .wt else .off)
  else if s.curd.draining = some .off then .wt
  else s.curd.effective

/-- R94, R108: every Curd line of a page is invalidated without write-back. -/
def invalidatePage (s : State) (page : Nat) : State :=
  s.onCurd fun c => { c with lines := c.lines.filter (·.addr / 64 ≠ page), evicts := c.evicts.filter (·.addr / 64 ≠ page) }

/-- R98: the directory epoch after lines of these epochs. -/
def raiseAll (old : U32) (l : List U32) : U32 := l.foldl raiseEpoch old

/-- R98, R110: the dirty Curd lines of a page, gathered into its frame, become CLEAN; the directory epoch is never older than any of
them. An entry of the eviction buffer that still has to write its line holds the gathered line too. -/
def gatherPage (s : State) (page : Nat) : State :=
  let dirty := s.curd.lines.filter fun l => l.addr / 64 = page && l.st = .dirty
  let late := s.curd.evicts.filter fun e => e.addr / 64 = page && e.dirty
  let merge (d : PageData) : PageData :=
    dirty.foldl (fun d l => putLine d (l.addr % 64) l.data) (late.foldl (fun d e => putLine d (e.addr % 64) e.data) d)
  let s := setFrame (s.each dirty fun s l => stuckAccess s l.addr l.way) page fun f => { f with data := merge f.data }
  let s := if dirty.isEmpty && late.isEmpty then s
    else putEntry s { entry s page with epoch := raiseAll (raiseAll (entry s page).epoch (late.map (·.epoch))) (dirty.map (·.epoch)) }
  let newest (e : Evict) : Line := ((dirty.find? (·.addr = e.addr)).map (·.data)).getD (((late.reverse.find? (·.addr = e.addr)).map (·.data)).getD e.data)
  s.onCurd fun c => { c with lines := c.lines.map fun l => if l.addr / 64 = page && l.st = .dirty then { l with st := .clean } else l,
                             evicts := c.evicts.map fun e => if e.addr / 64 = page && e.dirty then { e with data := newest e } else e }

/-- The newest data of a line that the device holds in the Curd, its eviction buffers or a VALID frame. -/
def heldLine (s : State) (line : Nat) : Option Line :=
  match curdLine s line with
  | some l => if l.st = .filling then (validFrame s (line / 64)).map (frameLine · line) else some l.data
  | none => match evictOf s line with
    | some e => some e.data
    | none => (validFrame s (line / 64)).map (frameLine · line)

/-- The page number of an image slot whose page is no more: that of no page. -/
def deadPage : Nat := 2 ^ 40

/-- R48, R71, R85: an extent that is freed: its pages' frames, lines, charges and entries go, on the media too; dirty data is dropped,
and the credits of charges that have not arrived go with it. -/
def freeExtent (s : State) (e : Nat) : State :=
  let other (p : Nat) : Bool := p / 512 ≠ e
  let s := s.each (s.ppu.charges.filter fun m => !other m.page) fun s m => consumeCredit s m.port
  let s := s.onCurd fun c => { c with lines := c.lines.filter (other <| ·.addr / 64), evicts := c.evicts.filter (other <| ·.addr / 64) }
  let s := s.onReam fun r => { r with stage := r.stage.filter (other <| ·.line / 64), slots := r.slots.filter (other <| ·.page),
                                      index := r.index.filter (other <| ·.1), dirCopy := r.dirCopy.filter (other <| ·.page),
                                      generations := r.generations.map fun g => { g with pages := g.pages.map fun x => if other x.1 then x else (deadPage, x.2) } }
  s.onPpu fun p => { p with dir := p.dir.filter (other <| ·.page), frames := p.frames.filter (other <| ·.page),
                            fetches := p.fetches.filter (other <| ·.page), moves := p.moves.filter (other <| ·.page),
                            charges := p.charges.filter (other <| ·.page), blocks := p.blocks.filter (·.1 ≠ e),
                            px := p.px.filter (other ·), dirtyBlocks := p.dirtyBlocks.filter (· ≠ e), stageIndex := p.stageIndex.filter (other ·) }

/-- R172: the root with one record of its log: an entry of 0 is none. -/
def rootWith (root : List (Nat × BitVec 40 × Nat)) (x : Nat × BitVec 40 × Nat) : List (Nat × BitVec 40 × Nat) :=
  if x.2.1 = 0 then root.filter (·.1 ≠ x.1) else insertBy (·.1) x root

/-- R172: a change of the root: each entry is one record of the root log. -/
def logRoot (s : State) (records : List (Nat × BitVec 40 × Nat)) : State :=
  (s.onReam fun r => { r with root := records.foldl rootWith r.root }).onRegions fun r => { r with rootTail := r.rootTail ++ records }

/-- R172: a record of the root log: the directory page number, then the entry. -/
def rootRecord (x : Nat × BitVec 40 × Nat) : List Byte := le 8 x.1 ++ le 5 x.2.1.toNat ++ le 3 x.2.2

/-- R172: `n` records of the tail are on the media: 256 fill a slot; after 4 GiB of root log a full checkpoint is written. -/
def writeTail (s : State) (n : Nat) : State :=
  let done := s.regions.rootTail.take n
  let bytes := s.ream.rootLog + (done.flatMap rootRecord).length
  (s.onReam fun r => { r with rootMedia := done.foldl rootWith r.rootMedia, rootLog := if bytes < 4 * gib then bytes else 0 }).onRegions fun r =>
    { r with rootTail := r.rootTail.drop n }

/-- R71, R172: an extent that is allocated: its block comes into the cache area clean, and the root entries of its directory
pages are set to 0, a change of the root log. -/
def allocateExtent (s : State) (e : Nat) : State :=
  let s := loadBlock s e
  logRoot (s.onReam fun r => { r with dirCopy := r.dirCopy.filter fun x => x.page / 512 ≠ e }) [(2 * e, 0, 0), (2 * e + 1, 0, 0)]

/-- The extents of runs. -/
def extentsOf (runs : List (Nat × Nat)) : List Nat := runs.flatMap fun (f, n) => (List.range n).map (f + ·)

/-! ### LOST -/

/-- R113: a session's pin covers the page. -/
def pinCovers (s : State) (page : Nat) : Bool :=
  s.cmd.sessions.any fun x => x.pins.any fun p =>
    match regionOf s p.region with
    | some r => match pageIndex r.runs page with
      | some k => p.offset ≤ k * 4096 && k * 4096 < p.offset + p.length
      | none => false
    | none => false

/-- R437: no copy of a directory page is left: every page that it covers is LOST, and a fatal event gives their count. -/
def loseDirectory (s : State) (pages : List Nat) : State :=
  let lost := pages.filter fun p => (regionOfPage s p).isSome
  let s := s.each lost fun s p =>
    let s := s.onPpu fun k => { k with fetches := k.fetches.filter (·.page ≠ p), moves := k.moves.filter (·.page ≠ p) }
    putEntry (dropFrame (invalidatePage s p) p) { blankEntry s p with st := .lost, pinned := (blankEntry s p).pinned || pinCovers s p }
  if lost.isEmpty then s else s.event 0 10 3 (detail := lost.length)

/-- R172: the pages that a directory page covers: half the pages of an extent. -/
def directoryCovers (dirPage : Nat) : List Nat := (List.range 256).map (256 * dirPage + ·)

/-- R71, R120, R154: every line of the page is DIRTY in the Curd, held in an eviction buffer, or staged. -/
def coveredLine (s : State) (staged : Bool) (line : Nat) : Bool :=
  (staged && s.ream.stage.any fun r => r.valid && r.line = line) || (s.curd.lines.any fun l => l.addr = line && l.st = .dirty) ||
    (s.curd.evicts.any fun e => e.addr = line && e.dirty)

/-- R71, R120, R479: a page becomes LOST; lines that are DIRTY in the Curd or an eviction buffer, and staged lines, are kept
over a poison-filled frame, and the page then ends DIRTY and charged. With no free frame those lines wait where they are. -/
def losePage (s : State) (page : Nat) : State :=
  let e := entry s page
  let whole := (List.range 64).all fun i => coveredLine s true (page * 64 + i)
  let s := if whole then s else s.event 5 4 2 0 e.region (page * pageBytes) page
  let kept := (s.curd.lines.any fun l => l.addr / 64 = page && l.st = .dirty) || (s.curd.evicts.any fun l => l.addr / 64 = page && l.dirty)
  if kept || isStaged s page then
    match assignFrame (putEntry s { e with st := .lost, loc := 0, keyGen := 0 }) page with
    | some (n, s) => gatherPage (putEntry (fillFrame s page poisonPage)
        { e with st := if whole && !kept then .clean else .dirty, loc := 0, keyGen := 0, frame := some n, charged := kept || !whole || e.charged, wrote := false }) page
    | none => putEntry s { e with st := if !whole then .lost else if kept then .dirty else .clean, loc := 0, keyGen := 0, frame := none, wrote := false, charged := e.charged || kept }
  else
    let s := s.onCurd fun c => { c with lines := c.lines.filter fun l => l.addr / 64 ≠ page || l.st = .filling }
    putEntry (dropFrame s page) { e with st := .lost, loc := 0, keyGen := 0, frame := none, charged := false, wrote := false }

/-! ### Modes and drains (R95, R97, R121) -/

/-- R121 step 2: DIRTY lines of the slices named leave their sets CLEAN through the eviction buffers, as far as these have room. -/
def walkSlices (s : State) (which : Nat → Bool) : State :=
  s.each (s.curd.lines.filter fun l => l.st = .dirty && which (sliceOf l.addr)) fun s l =>
    if evictRoom s (sliceOf l.addr) && !(s.curd.evicts.any (·.addr = l.addr)) then
      let e : Evict := { addr := l.addr, dirty := true, data := l.data, epoch := l.epoch, offered := false }
      (setLine (stuckAccess s l.addr l.way) l.addr fun x => { x with st := .clean }).onCurd fun c => { c with evicts := c.evicts ++ [e] }
    else s

/-- R121, R123: the walk of a drain that runs, of every slice or of those being fenced. -/
def walkDrain (s : State) : State :=
  if s.curd.draining.isSome then walkSlices s fun _ => true
  else if s.units.fenceWait.isEmpty then s else walkSlices s fun i => s.units.fenceWait.contains (.slice i)

/-- R95, R97, R121, R122: the effective mode follows the stricter of the configured and the forced mode: a stricter one by a
drain, a less strict one at once, from OFF after the slices are powered up; a running drain finishes first. -/
def retarget (s : State) : State :=
  let t := effectiveTarget s.curd
  let now_ := s.curd.effective
  if s.curd.draining.isSome || t = now_ then s
  else if modeCode now_ < modeCode t then walkDrain (s.onCurd fun c => { c with effective := t, draining := some t })
  else
    let s := if s.curd.off then s.each (((List.range 16).filter fun i => (unitAt s (.slice i)).st = .inService).map Island.cu) reroute else s
    s.onCurd fun c => { c with effective := t, off := false, powering := c.powering || c.off }

/-- R95, R312: a forcing condition begins or ends: bit 0 start-up, 1 recovery, 2 test, 3 injection, 4 rehearsal. -/
def force (s : State) (bit : Nat) : State := retarget (s.onCurd fun c => { c with forcing := c.forcing ||| (1 : BitVec 5) <<< bit })
def unforce (s : State) (bit : Nat) : State := retarget (s.onCurd fun c => { c with forcing := c.forcing &&& ~~~ ((1 : BitVec 5) <<< bit) })

/-- R95, R451: when the last injection on a slice has ended, it forces WT no longer. -/
def settleForce (s : State) : State :=
  let runs := s.cmd.injections.any fun i => match i.unit with | .slice _ => true | _ => false
  if !runs && s.curd.forcing.getLsbD 3 then unforce s 3 else s

/-! ### Fences and errors of slices (R94, R123, R438, R449 to R451) -/

/-- R450: a fence ends every injection on the unit. -/
def endInjections (s : State) (u : UnitId) : State :=
  settleForce (s.onCmd fun c => { c with injections := c.injections.filter (·.unit ≠ u) })

/-- R121, R123: no dirty line of a slice is left in its sets or its buffer. -/
def sliceDrained (s : State) (i : Nat) : Bool :=
  !(s.curd.lines.any fun l => sliceOf l.addr = i && l.st ≠ .clean) && !(s.curd.evicts.any fun e => sliceOf e.addr = i && e.dirty)

/-- R10, R123: a slice that has drained is bypassed, and its island powered off. -/
def bypassSlices (s : State) : State :=
  s.each s.units.fenceWait fun s u => match u with
    | .slice i => if sliceDrained s i then
        (unroute (s.onUnits fun x => { x with fenceWait := x.fenceWait.filter (· ≠ .slice i) }) (.cu i)).onCurd fun c =>
          { c with lines := c.lines.filter fun l => sliceOf l.addr ≠ i, evicts := c.evicts.filter fun e => sliceOf e.addr ≠ i }
      else s
    | _ => s

/-- R123: a slice serves nothing new and drains; it is bypassed when its last dirty line is gone. -/
def fenceSlice (s : State) (i : Nat) : State :=
  let s := setUnit (endInjections s (.slice i)) (.slice i) fun u => { u with st := .fenced }
  let s := s.onUnits fun u => { u with fenceWait := addNew u.fenceWait (.slice i) }
  bypassSlices (walkDrain s)

/-- R123, R449: a slice fences itself, and logs the event of its class. -/
def failSlice (s : State) (i : Nat) : State :=
  if (unitAt s (.slice i)).st ≠ .inService then s else (fenceSlice s i).event 3 4 2 (unitWord 2 i) (detail := i)

/-- R438, R449: an uncorrectable error of a slice is counted; the eighth in 24 h fences it. -/
def sliceSpoiled (s : State) (i : Nat) : State :=
  let s := (countError s (.slice i) true).onCurd fun c => { c with spoiled := recent s 86400000000000 c.spoiled ++ [(i, s.now)] }
  if 8 ≤ (s.curd.spoiled.filter (·.1 = i)).length then failSlice s i else s

/-- R449: a cell is entered in its slice's table of 64; the 65th distinct one fences the slice. -/
def stickCell (s : State) (i cell : Nat) : State :=
  if s.curd.stuckCells.contains (i, cell) then s
  else if (s.curd.stuckCells.filter (·.1 = i)).length < 64 then s.onCurd fun c => { c with stuckCells := c.stuckCells ++ [(i, cell)] }
  else failSlice s i

/-- R438: a Curd line that fails SEC-DED: CLEAN it is invalidated, DIRTY it is poisoned; a dirty line that has left its set is poisoned in
the eviction buffer. -/
def poisonDirty (s : State) (line : Nat) : State :=
  match curdLine s line with
  | some l => match l.st with
    | .filling => s
    | .clean => sliceSpoiled (dropLine s line) (sliceOf line)
    | .dirty => sliceSpoiled (setLine s line fun x => { x with data := { x.data with poison := true } }) (sliceOf line)
  | none => sliceSpoiled (s.onCurd fun c => { c with evicts := c.evicts.map fun e =>
      if e.addr = line && e.dirty then { e with data := { e.data with poison := true } } else e }) (sliceOf line)

/-- R438, R440: the same, with the event of a line that is poisoned. -/
def spoilLine (s : State) (line : Nat) : State :=
  let dirty := ((curdLine s line).map fun l => decide (l.st = .dirty)).getD false
  let s := poisonDirty s line
  if dirty then s.event 3 3 2 (unitWord 2 (sliceOf line)) (entry s (line / 64)).region (line * 64) (line * 64) else s

/-- R121, R451: an injection at the line's DPA meets the slice's read of it; it waits until a running drain has ended. -/
def readInjected (s : State) (line : Nat) : State :=
  let i := sliceOf line
  let u := UnitId.slice i
  let due (k : Nat) : Bool := s.curd.draining.isNone && s.cmd.injections.any fun j => j.unit = u && j.kind = k && j.dpa / 64 = line
  if (curdLine s line).isNone then s
  else if due 0 then settleForce (withInjection s u 0 fun s => sliceCorrected s i)
  else if due 1 then settleForce (withInjection s u 1 fun s => spoilLine s line)
  else if due 2 then settleForce (withInjection s u 2 fun s => setLine s line fun x => { x with data := { x.data with poison := true } })
  else s

end Sys2Proof.Machine
end

