-- ==== Sys2Proof/Machine/RegionOps.lean ====
section
/-! DEFINITION. Regions: the extent allocator, key slots, pins, offers, and what each change does at its epoch boundary (R69 to R86, R113, R114, R265, R357 to R360). -/

namespace Sys2Proof.Machine

/-! ### The allocator (R69) -/

/-- The gaps between sorted runs, from extent `at_` on. -/
def gaps : Nat → List (Nat × Nat) → List (Nat × Nat)
  | at_, [] => if at_ < extentCount then [(at_, extentCount - at_)] else []
  | at_, (f, n) :: rest => if at_ < f then (at_, f - at_) :: gaps (f + n) rest else gaps (f + n) rest

/-- Runs of every region and of every allocation not yet in force. -/
def usedRuns (s : State) : List (Nat × Nat) := s.regions.list.flatMap (·.runs) ++ s.regions.reserved

/-- R69: the free list. -/
def freeRuns (s : State) : List (Nat × Nat) := gaps 0 ((usedRuns s).foldl (fun l r => insertBy (·.1) r l) [])

/-- Insert by falling size; of equal sizes the lower address stands first. -/
def insertLarge (r : Nat × Nat) : List (Nat × Nat) → List (Nat × Nat)
  | [] => [r]
  | x :: xs => if x.2 < r.2 then r :: x :: xs else x :: insertLarge r xs

/-- R69: the largest free runs until the request is met. -/
def takeRuns : Nat → List (Nat × Nat) → List (Nat × Nat)
  | 0, _ => []
  | _, [] => []
  | n, (f, k) :: rest => if n ≤ k then [(f, n)] else (f, k) :: takeRuns (n - k) rest

/-- R69: the runs for a request of n extents. -/
def chooseRuns (s : State) (n : Nat) : List (Nat × Nat) :=
  let free := freeRuns s
  match free.find? fun r => n ≤ r.2 with
  | some (f, _) => [(f, n)]
  | none => takeRuns n (free.foldl (fun l r => insertLarge r l) [])

/-- R69: the refusals of a request of n extents for a region that has `has` runs: capacity first. -/
def allocationError (s : State) (n has : Nat) : Option Nat :=
  if homeCapacity s < allocated s + n * extentBytes then some 2
  else if 64 < has + (chooseRuns s n).length then some 1
  else none

def reserveRuns (s : State) (runs : List (Nat × Nat)) : State := s.onRegions fun r => { r with reserved := r.reserved ++ runs }
def unreserve (s : State) (runs : List (Nat × Nat)) : State :=
  s.onRegions fun r => { r with reserved := r.reserved.filter fun x => !runs.contains x }

/-- The changes that wait for an epoch boundary or for the follower. -/
def waitingChanges (s : State) : List Change :=
  ((s.epochs.running.map fun c => c.joined.map (·.change)).getD []) ++ ((s.epochs.queued.map fun q => q.map (·.change)).getD []) ++
    s.felt.opReqs.map (·.2.change)

/-- The region that a change acts on. -/
def changeRegion : Change → Nat
  | .create n _ _ _ | .destroy n | .grow n _ _ | .shrinkDone n _ | .setFlags n _ | .grant n _ _ _ | .bindKey n _ | .snapshotBegin n
  | .snapshotEnd n | .handover n _ | .force n | .takeover n | .insync n => n
  | .watermark | .gpf _ | .detach | .align _ | .sealGrants => 0

/-- R73: the lowest number that is free. -/
def freeRegionNumber (s : State) : Option Nat :=
  let taken := s.regions.list.map (·.num) ++ (waitingChanges s).map changeRegion ++ s.felt.reservedOps.map (·.1)
  findFrom (fun n => !taken.contains n) 65534 1

/-- R86: an operation on a region begins, or ends. -/
def opBegun (r : Region) (o : RegionOpn) : Region := { r with opns := addNew r.opns o }
def opEnded (r : Region) (o : RegionOpn) : Region := { r with opns := r.opns.filter (· ≠ o) }

/-- R86: a shrink, a mirror resynchronisation or a D0 fill runs on the region: every command that names it but REGION_QUERY waits. -/
def regionHeld (r : Region) : Bool := r.opns.any (· ≠ .flush)

/-- R86, R291: the region is occupied by an earlier command. -/
def regionBusy (s : State) (r : Region) : Bool := !r.opns.isEmpty || (waitingChanges s).any fun c => changeRegion c = r.num

/-! ### Key slots (R352, R357 to R360) -/

def slotOfRegion (s : State) (n : Nat) : Option KeySlot := s.cipher.slots.find? fun k => k.region = n && !k.retired
def keySlotAt (s : State) (n : Nat) : Option KeySlot := s.cipher.slots.find? (·.slot = n)
def setKeySlot (s : State) (n : Nat) (f : KeySlot → KeySlot) : State :=
  s.onCipher fun c => { c with slots := c.slots.map fun k => if k.slot = n then f k else k }

/-- R365: a request joins the queue of a key slot, or of stage keys. -/
def queueCipher (s : State) (slot : Option Nat) (gen level : Nat) : State :=
  s.onCipher fun c => { c with requests := c.requests ++ [{ slot := slot, gen := gen, level := level, since := s.now }] }

/-- R357: the lowest FREE slot. -/
def freeKeySlot (s : State) : Option Nat := findFrom (fun n => !(s.cipher.slots.any (·.slot = n))) 1024 0

/-- R357, R360, R365: the keys of a slot's generation are derived, and those of the one before kept; the engine gives none without a
starter key (R352). -/
def deriveKeys (s : State) (k : KeySlot) : KeySlot :=
  match starterKey s with
  | none => { k with keys := [] }
  | some key =>
    let epoch := ((s.regions.list.find? (·.num = k.region)).map (·.creationEpoch)).getD 0
    { k with keys := k.keys.filter (·.1 + 1 = k.generation) ++ [(k.generation, dataKey key k.region k.slot k.generation epoch)] }

/-- R357: a slot is bound to a region, generation 1. -/
def bindSlot (s : State) (slot region : Nat) : State :=
  let k : KeySlot :=
    { slot := slot, region := region, retired := false, generation := 1, usage := 0, sweep := false, exhausted := false, inflight := 0,
      recorded := 0, keys := [] }
  s.onCipher fun c => { c with slots := insertBy (·.slot) (deriveKeys s k) c.slots }

/-- R361, R365: after the Lift the keys of both live generations are derived again, and usage goes on from its record plus L/64. -/
def restoreKeys (s : State) : State :=
  s.onCipher fun c => { c with slots := c.slots.map fun k =>
    let older := if k.sweep then (deriveKeys s { k with generation := k.generation - 1, keys := [] }).keys else []
    { deriveKeys s { k with keys := older } with usage := k.recorded + usageLimit s / 64 } }

/-- R358: cipher turned on: the lowest FREE slot is bound, or the region stays unkeyed and an event is logged. -/
def keyRegion (s : State) (region : Nat) : State :=
  if (slotOfRegion s region).isSome then s
  else match starterKey s, freeKeySlot s with
    | some _, some k => bindSlot s k region
    | _, _ => s.event 8 3 1 (region := region) (detail := region)

/-- R358: a region with cipher on and no bound slot. -/
def unkeyed (s : State) (r : Region) : Bool := flagCipher r.flags && (slotOfRegion s r.num).isNone

/-- R357: a live slot of a key slot's generation: a Ream slot that is the Ream location of a page. -/
def liveGeneration (s : State) (slot gen : Nat) : Bool :=
  s.ream.slots.any fun x => x.cipher && x.keySlot = slot && x.keyGen = gen && (entry s x.page).loc = x.loc

def liveAny (s : State) (slot : Nat) : Bool :=
  s.ream.slots.any fun x => x.cipher && x.keySlot = slot && (entry s x.page).loc = x.loc

/-- R357: the slot of a destroyed region becomes RETIRED; a running sweep ends. -/
def retireSlot (s : State) (slot : Nat) : State := setKeySlot s slot fun k => { k with retired := true, sweep := false, exhausted := false }

/-- R360: at an epoch boundary a slot at its limit, with no live slot and no request of the generation before, rolls. -/
def rollKeys (s : State) : State :=
  s.each s.cipher.slots fun s k =>
    if !k.retired && usageLimit s ≤ k.usage && k.generation < 0xFFFFFFFF && !liveGeneration s k.slot (k.generation - 1) &&
        !(s.cipher.requests.any fun q => q.slot = some k.slot && q.gen + 1 = k.generation) then
      setKeySlot s k.slot fun k => deriveKeys s { k with generation := k.generation + 1, usage := 0, recorded := 0, sweep := true, exhausted := false }
    else s

/-! ### Pins (R113, R114) -/

/-- The pages of a range of a region. -/
def rangePages (r : Region) (offset length : Nat) : List Nat :=
  (List.range ((offset + length + 4095) / 4096 - offset / 4096)).filterMap fun k => pageAt r.runs (offset / 4096 + k)

/-- R113: directory bit [4] is the OR of the D0 region and the pins that cover the page. -/
def repin (s : State) (page : Nat) : State :=
  let d0 := ((regionOfPage s page).map d0Region).getD false
  let want := d0 || pinCovers s page
  let e := entry s page
  if e.pinned = want then s else putEntry s { e with pinned := want }

/-- R113: pages are pinned; those not resident are fetched in the background. A ZERO page has nothing to fetch. -/
def pinPage (s : State) (page : Nat) : State :=
  let s := repin (resolveBlock s page) page
  if (validFrame s page).isNone && needsFetch (entry s page) then startKept s page else s

/-- R113: frames that pins would occupy: pages pinned now and the new ones. -/
def pinWould (s : State) (pages : List Nat) : Nat := pinnedPages s + (pages.filter fun p => !(entry s p).pinned).length

def regionPages (r : Region) : List Nat := rangePages r 0 r.size

/-- R114, R309: pages of a region that wait for their fetch. -/
def notResident (s : State) (r : Region) : List Nat := (regionPages r).filter fun p => (validFrame s p).isNone && needsFetch (entry s p)

/-- R76: every page of the region is pinned; the fill runs until all are resident. -/
def pinRegion (s : State) (num : Nat) : State :=
  match regionOf s num with
  | none => s
  | some r =>
    let s := setRegion s num fun r => { r with d0InForce := true }
    let s := s.each (regionPages r) pinPage
    setRegion s num fun r => if (notResident s r).isEmpty then r else opBegun r .d0fill

/-- R76: the region's pins are released; pins of TIER_PIN stay. -/
def unpinRegion (s : State) (num : Nat) : State :=
  match regionOf s num with
  | none => s
  | some r =>
    let s := setRegion s num fun r => { opEnded r .d0fill with d0InForce := false }
    s.each (regionPages r) repin

/-- R114, R312: a session's pins end. -/
def endPins (s : State) (num : Nat) (which : Pin → Bool) : State :=
  match sessionNum s num with
  | none => s
  | some x =>
    let gone := x.pins.filter which
    let s := setSession s num fun x => { x with pins := x.pins.filter fun p => !which p }
    s.each gone fun s p => match regionOf s p.region with
      | some r => s.each (rangePages r p.offset p.length) repin
      | none => s

/-! ### Identities, offers and held runs (R77 to R81) -/

/-- R77, R80: the identity is defined in HEADS and its link is up. -/
def identityUp (s : State) (head ld : Nat) : Bool := s.cxl.linkUp.contains head && ld < ldCount s head

/-- R79: DC extents that a change waiting for its boundary will bring to an identity; a growth whose runs the region has already brings none. -/
def extentsWaiting (s : State) (head ld : Nat) : Change → Nat
  | .grant n h l a => match regionOf s n with
    | some r => if h = head && l = ld && a ≠ .none && accessOf r head ld = .none then r.runs.length else 0
    | none => 0
  | .grow n _ runs => match regionOf s n with
    | some r => if accessOf r head ld = .none || runs.all r.runs.contains then 0 else runs.length
    | none => 0
  | _ => 0

/-- R79: DC extents of an identity: one per run of each region granted to it, of each release that runs, and of what waits for an
epoch boundary. -/
def dcExtents (s : State) (head ld : Nat) : Nat :=
  (s.regions.list.map fun r => if accessOf r head ld = .none then 0 else r.runs.length).sum +
    ((ldOf s head ld).map fun d => (d.releases.map (·.runs.length)).sum).getD 0 + ((waitingChanges s).map (extentsWaiting s head ld)).sum

/-- R80: the runs of the region that the identity holds. -/
def heldOf (s : State) (head ld num : Nat) : List (Nat × Nat) :=
  ((ldOf s head ld).map fun d => (d.held.filter (·.1 = num)).map (·.2)).getD []

/-- R79: a region granted to several identities is offered as shareable. -/
def shareable (s : State) (num : Nat) : Bool := ((regionOf s num).map fun r => decide (1 < r.grants.length)).getD false

/-- R80, R92: runs are offered as Add Capacity, read-only where the grant or R92 requires; the identity then holds them. -/
def offerRuns (s : State) (num head ld : Nat) (access : Access) (runs : List (Nat × Nat)) : State :=
  if access = .none || !identityUp s head ld || runs.isEmpty then s
  else (setLd s head ld fun d => { d with held := d.held ++ runs.map fun r => (num, r) }).emit
    (.addCapacity head ld num runs (access = .readOnly || s.regions.readOnly) (shareable s num))


/-- R84: the size to which a running shrink brings a region. -/
def shrinkSize (s : State) (num : Nat) : Option Nat :=
  s.cmd.longOps.findSome? fun o => match o.kind with | .shrink n z => if n = num then some z else none | _ => none

/-- R84: the runs that remain of a region of a smaller size. -/
def keepRuns : List (Nat × Nat) → Nat → List (Nat × Nat)
  | [], _ => []
  | _, 0 => []
  | (f, n) :: rest, k => if k ≤ n then [(f, k)] else (f, n) :: keepRuns rest (k - n)

/-- R80, R84: the runs of a region that are offered: what a running shrink takes away is offered no more. -/
def offeredRuns (s : State) (r : Region) : List (Nat × Nat) :=
  match shrinkSize s r.num with | some z => keepRuns r.runs (z / extentBytes) | none => r.runs

/-- R80: the runs of a region that an identity has access to and does not hold. -/
def offerRest (s : State) (r : Region) (head ld : Nat) : State :=
  offerRuns s r.num head ld (accessOf r head ld) ((offeredRuns s r).filter fun x => !(heldOf s head ld r.num).contains x)

/-- R80: every run of every region granted to the identity. -/
def offerIdentity (s : State) (head ld : Nat) : State := s.each s.regions.list fun s r => offerRest s r head ld

/-- R81: a release starts; the identity keeps its access until it completes. -/
def startRelease (s : State) (num head ld : Nat) (runs : List (Nat × Nat)) (why : ReleaseFor) (access : Access) : State :=
  (setLd s head ld fun d => { d with releases := d.releases ++ [{ region := num, runs := runs, why := why, access := access }] }).emit
    (.releaseCapacity head ld num runs false)

/-! ### What a change does when the next epoch begins, and when its close has completed (R75) -/

/-- R265: the initial token of a region that becomes mirrored here: this device holds it, generation 1 (log entry 18). -/
def firstToken (r : Region) : Region :=
  if r.generation = 0 then { r with holder := BitVec.ofNat 64 ownSerial, generation := 1 } else r

/-- R74, R76, R270: the mirror state after a change of the mirror mode. -/
def mirrorChange (s : State) (r : Region) (flags : U32) : Region :=
  if flagMirror flags = 0 then { r with mirror := .notMirrored, holder := 0, generation := 0, ec := 0 }
  else if isMirrored r then r
  else if s.felt.pair = .attached then firstToken { opBegun r .resync with mirror := .resync, ec := 0 }
  else firstToken { r with mirror := .lagging, ec := 0 }

/-- R272: the pages that a resynchronisation copies: every page of the region whose directory epoch is later than E_c, and those that
the follower reports as later (log entry 120). -/
def resyncPages (s : State) (r : Region) : List (Nat × Nat) :=
  ((regionPages r).zipIdx.filter fun (p, k) => laterSerial (foundEntry s p).epoch (lo32 r.ec) || Config.followerLater s.fresh r.num k).map fun (_, k) => (r.num, k)

/-- R271, R272: a resynchronisation starts. -/
def startResync (s : State) (num : Nat) : State :=
  match regionOf s num with
  | none => s
  | some r =>
    let s := setRegion s num fun r => { opBegun r .resync with mirror := .resync }
    (s.onFelt fun f => { f with resyncTodo := f.resyncTodo.filter (·.1 ≠ num) ++ (if holdsToken r then resyncPages s r else []) }).draw

/-- R76: the flags word of a region changes. -/
def applyFlags (s : State) (num : Nat) (flags : U32) : State :=
  match regionOf s num with
  | none => s
  | some r =>
    let s := setRegion s num fun r => { mirrorChange s r flags with flags := flags, metaDirty := true }
    let s := if !isMirrored r && flagMirror flags ≠ 0 && s.felt.pair = .attached then startResync s num else s
    let s := if flagCipher flags && !flagCipher r.flags then keyRegion s num else s
    if flagClass flags = 0 && flagClass r.flags ≠ 0 then pinRegion s num
    else if flagClass flags ≠ 0 && flagClass r.flags = 0 then unpinRegion s num else s

/-- R80: the recorded access of an identity. -/
def setGrant (s : State) (num head ld : Nat) (access : Access) : State :=
  setRegion s num fun r =>
    let rest := r.grants.filter fun g => !(g.head = head && g.ld = ld)
    { r with grants := if access = .none then rest else rest ++ [{ head := head, ld := ld, access := access }], metaDirty := true }

/-- R266: a region's token moves. -/
def takeToken (s : State) (num : Nat) (holder : Nat) (generation : U32) : State :=
  setRegion s num fun r => { r with holder := BitVec.ofNat 64 holder, generation := generation, metaDirty := true }

/-- R113, R114: the pages of a D0 region fit under the pin limit. -/
def d0Fits (s : State) (extraBytes : Nat) : Bool := pinnedPages s + extraBytes / pageBytes ≤ pinLimit s

/-- R114: a pin-limit event names a D0 region that does not fit and is served as D1. -/
def pinLimitEvent (s : State) (num : Nat) : State := s.event 13 2 1 (region := num) (detail := num)

/-- R73, R83, R358: the region of a create, in force with no grants and every page ZERO. -/
def createRegion (s : State) (num size : Nat) (flags : U32) (runs : List (Nat × Nat)) (epoch : Nat) : State :=
  let r : Region :=
    { num := num, flags := flags, size := size, runs := runs, grants := [], creationEpoch := epoch, mirror := .notMirrored, holder := 0,
      generation := 0, ec := 0, opns := [], d0InForce := flagClass flags = 0 && d0Fits s size, deadlineMisses := 0, twinServed := 0, snapshot := 0, streams := [],
      lastMiss := 0, missRun := 0, metaDirty := false }
  let r := if flagMirror flags = 0 then r
    else firstToken { r with mirror := if s.felt.pair = .attached then .inSync else .lagging }
  let s := (unreserve s runs).onRegions fun x => { x with list := insertBy (·.num) r x.list }
  let s := s.each (extentsOf runs) allocateExtent
  let s := if flagClass flags = 0 && !r.d0InForce then pinLimitEvent s num else s
  if flagCipher flags then keyRegion s num else s

/-- R82, R85: an extent is freed; a read of it that still waits finds no region there, and returns zeros. -/
def releaseExtent (s : State) (e : Nat) : State :=
  let s := s.each (s.cxl.reqs.filter fun q => !q.write && q.line / 32768 = e) fun s q =>
    (s.onCxl fun c => { c with reqs := c.reqs.filter (·.age ≠ q.age) }).emit (.readData q.port q.ld q.hostTag zeroLine)
  freeExtent s e

/-- R85: the region is gone: its extents FREE, its pins retired, its key slot RETIRED, its long operations ended. -/
def destroyRegion (s : State) (num : Nat) : State :=
  match regionOf s num with
  | none => s
  | some r =>
    let s := s.onCmd fun c => { c with sessions := c.sessions.map fun x => { x with pins := x.pins.filter (·.region ≠ num) } }
    let s := s.each (extentsOf r.runs) releaseExtent
    let s := match slotOfRegion s num with | some k => retireSlot s k.slot | none => s
    let s := s.onFelt fun f => { f with resyncTodo := f.resyncTodo.filter (·.1 ≠ num), resyncOut := f.resyncOut.filter (·.1 ≠ num),
                                        staged := f.staged.filter (·.region ≠ num) }
    s.onRegions fun x => { x with list := x.list.filter (·.num ≠ num) }

/-- The extents that a shrink removes, as runs. -/
def cutRuns : List (Nat × Nat) → Nat → List (Nat × Nat)
  | [], _ => []
  | (f, n) :: rest, k => if n ≤ k then cutRuns rest (k - n) else (if k = 0 then (f, n) else (f + k, n - k)) :: cutRuns rest 0

/-- R84: the removed pages are freed, their dirty data discarded. -/
def shrinkRegion (s : State) (num size : Nat) : State :=
  match regionOf s num with
  | none => s
  | some r =>
    let s := s.each (extentsOf (cutRuns r.runs (size / extentBytes))) releaseExtent
    setRegion s num fun r => { opEnded r .shrink with size := size, runs := keepRuns r.runs (size / extentBytes), metaDirty := true }

/-- R84: new runs in force, offered to every identity that the region is granted to. -/
def growRegion (s : State) (num size : Nat) (runs : List (Nat × Nat)) : State :=
  let s := unreserve s runs
  let s := setRegion s num fun r => { r with size := size, runs := r.runs ++ runs, metaDirty := true }
  let s := s.each (extentsOf runs) allocateExtent
  let s := match regionOf s num with
    | some r => if !d0Region r then s else if pinnedPages s ≤ pinLimit s then pinRegion s num else pinLimitEvent (unpinRegion s num) num
    | none => s
  match regionOf s num with
  | some r => s.each r.grants fun s g => offerRuns s num g.head g.ld g.access runs
  | none => s

/-- R75: what is in force for the writes of the next epoch when the close of `epoch` begins. A destroy and the end of a shrink free
their extents only when the writes up to `epoch` have reached their places; accesses of the next epoch no longer find them
(`regionGone`). -/
def applyStart (s : State) (epoch : Nat) (c : Change) : State :=
  match c with
  | .setFlags n f => applyFlags s n f
  | .grant n h l a => if a = .none then s else setGrant s n h l a
  | .sealGrants => s.onRegions fun r => { r with readOnly := false }
  | .force n => match regionOf s n with | some r => (takeToken s n ownSerial (r.generation + 1)).event 7 7 2 (region := n) | none => s
  | .takeover n => match regionOf s n with | some r => (takeToken s n ownSerial (r.generation + 1)).onFelt fun f => { f with tookOver := addNew f.tookOver n } | none => s
  | .handover n toTwin => match regionOf s n with
    | some r => if toTwin then takeToken s n s.felt.twinSerial.toNat (r.generation + 1) else s
    | none => s
  | .create n size flags runs => createRegion s n size flags runs epoch
  | .grow n size runs => growRegion s n size runs
  | .destroy _ | .shrinkDone _ _ | .bindKey _ _ | .snapshotBegin _ | .snapshotEnd _ | .watermark | .gpf _
  | .detach | .align _ | .insync _ => s

/-- R75: the page belongs to what a running close destroys or a shrink frees: later accesses find no region there. -/
def regionGone (s : State) (r : Region) (page : Nat) : Bool :=
  ((s.epochs.running.map (·.joined)).getD []).any fun j => match j.change with
    | .destroy n => n = r.num
    | .shrinkDone n size => n = r.num && size / pageBytes ≤ (pageIndex r.runs page).getD 0
    | _ => false

end Sys2Proof.Machine
end

