-- ==== Sys2Proof/Machine/Access.lean ====
section
/-! DEFINITION. How an accepted host request, or a mirrored write of the twin, is served and completed (R43 to R45, R94 to R107, R115 to R120, R171, R479). -/

namespace Sys2Proof.Machine

/-! ### Completion -/

def dropReq (s : State) (age : Nat) : State := s.onCxl fun c => { c with reqs := c.reqs.filter (·.age ≠ age) }
def keepReq (s : State) (q : HostReq) : State := s.onCxl fun c => { c with reqs := insertBy (·.age) q c.reqs }

/-- The request waits. -/
def park (s : State) (q : HostReq) (st : ReqSt) : State := keepReq s { q with st := st }

/-- R27: a unit turns the request away; it is issued again with its age. -/
def turnAway (s : State) (q : HostReq) (u : Refuser) : State := keepReq s { q with st := .retry, refuser := some u }

/-- R27, R94, R104: the line's slice turns the request away. -/
def sliceRetry (s : State) (q : HostReq) : State := turnAway s q (.slice (sliceOf q.line))

/-- R118: the deadline of a region's reads in ns; the non-resident pages of a D0 region are served as D1. -/
def deadlineOf (r : Region) : Option Nat :=
  match flagClass r.flags with | 0 => some 20000 | 1 => some 20000 | 2 => some 200000 | _ => none

/-- R118, R120: a read to which a deadline applies is counted when it completes after it; the deadline is that of the class in force
when it was accepted (R76). -/
def countDeadline (s : State) (q : HostReq) : State :=
  match q.deadline with
  | some d => if q.late && decide (q.accepted + d < s.now) then setRegion s q.region fun r => { r with deadlineMisses := r.deadlineMisses + 1 } else s
  | none => s

/-- R118: the read has found no valid line and no VALID frame. -/
def lateRead (s : State) (q : HostReq) : HostReq := { q with late := q.late || (validFrame s (q.line / 64)).isNone }

/-- R43, R447: a read returns its line; poison returned to a host is logged. A read of the device's own (a scrub's recovery, R150)
returns nothing. -/
def answerRead (s : State) (q : HostReq) (l : Line) : State :=
  let s := dropReq s q.age
  if 16 ≤ q.port then s
  else
    let s := countDeadline (s.emit (.readData q.port q.ld q.hostTag l)) q
    if l.poison then s.eventFor 6 4 2 q.port q.ld q.region (q.line * 64) else s

/-- R105: the last line of a ZERO_LINES is placed: the command is answered. -/
def zeroDone (s : State) (mark : Nat) : State :=
  if s.cxl.reqs.any (·.hostTag = mark) then s
  else match s.cmd.zeros.find? (·.1 = mark) with
    | some z =>
      let s := s.onCmd fun c => { c with zeros := c.zeros.filter (·.1 ≠ mark) }
      match z.2.2 with
      | some q => answerJoined s (some q) .ok 0 []
      | none => endLongOf s (· = z.2.1) .ok 0 []
    | none => s

/-- R43, R262: a write completes: to its host, or by an acknowledgement to the twin (holders 16 to 23 are the
Felt links; a staged ASYNC write was acknowledged when it was staged, and carries the tag 0xFFFF, which is no tag; the lines of a
ZERO_LINES carry its mark, above every tag). -/
def answerWrite (s : State) (q : HostReq) : State :=
  let s := dropReq s q.age
  if q.port < 16 then s.emit (.writeDone q.port q.ld q.hostTag)
  else if 0x10000 ≤ q.hostTag then zeroDone s q.hostTag
  else if q.hostTag = 0xFFFF then s
  else sendFelt s (q.port - 16) (.mirrorAck [BitVec.ofNat 16 q.hostTag])

/-- R43: the local place of a write is reached; it completes once the twin's acknowledgement is in as well. -/
def localPlaced (s : State) (q : HostReq) : State :=
  if q.needAck then park s { q with localDone := true } .mirror else answerWrite s q

/-! ### The twin fall-back (R119) -/

/-- R119 conditions 2 to 4. -/
def twinMayServe (s : State) (q : HostReq) : Bool :=
  match regionOf s q.region with
  | none => false
  | some r => twinFallback s && s.felt.pair = .attached && r.mirror = .inSync && q.deadline.isSome && !q.twinAsked &&
      (flagMirror r.flags = 1 || (flagMirror r.flags = 2 && notLaterSerial (entry s (q.line / 64)).epoch (lo32 s.epochs.mirrored)))

/-- R119: the twin read leaves on the page's link. -/
def askTwin (s : State) (q : HostReq) : State :=
  let page := q.line / 64
  match regionOf s q.region with
  | none => s
  | some r =>
    let t := linkOfPage s page
    let (tag, s) := takeTag s t
    let k := (pageIndex r.runs page).getD 0
    sendFelt (keepReq s { q with twinAsked := true, mirrorTag := tag }) t (.twinRead r.num (k * 64 + q.line % 64) tag)

/-- R175: the typical time of a fetch in ns: home or SLC slot, cipher off or on, at 3600 or 1800 MT/s. -/
def fetchTime (s : State) (page : Nat) : Nat :=
  let e := entry s page
  let x := s.ream.slots.find? (·.loc = e.loc)
  let slc := (x.map fun x => decide (x.generation ≠ 0)).getD false
  let slow := (flashAt s (locChannel e.loc)).slow
  (if slow then (if slc then 9700 else 14700) else (if slc then 7500 else 12500)) + if (x.map (·.cipher)).getD false then 200 else 0

/-- R177: the earliest deadline of the reads of class D1 or D2 that wait for a page's fetch. -/
def pageDeadline (s : State) (page : Nat) : Option Nat :=
  (s.cxl.reqs.filter fun q => !q.write && (q.line / 64 = page || (directoryBase ≤ page && q.st = .block && blockOf (q.line / 64) = page - directoryBase))).foldl (fun b q => match q.deadline, b with
    | some d, some x => some (min (q.accepted + d) x) | some d, none => some (q.accepted + d) | none, x => x) none

/-- R177: place of a fetch in its LUN's order: first CCH reads (R229), then those that have waited more than 5 ms, then demand reads by deadline, demand
reads of class D3, and prefetches, the oldest first. -/
def fetchRank (s : State) (f : Fetch) : Nat × Nat × Nat :=
  if f.cch then (0, 0, f.issued)
  else if f.issued + 5000000 < s.now then (1, 0, f.issued)
  else if f.prefetch then (7, 0, f.issued)
  else match pageDeadline s f.page with
    | some d => (2, d, f.issued)
    | none => (3, 0, f.issued)

def rankBefore (a b : Nat × Nat × Nat) : Bool := a.1 < b.1 || (a.1 = b.1 && (a.2.1 < b.2.1 || (a.2.1 = b.2.1 && a.2.2 < b.2.2)))

/-- R119, R175: the PPU's estimate: the typical times of the fetches that its LUN issues before it (R177), and of this one; of an erase that runs there the
manual gives no typical time (log entry 19). -/
def estimateOf (s : State) (page : Nat) : Nat :=
  let lun := pageLun s page
  let mine : Fetch := (s.ppu.fetches.find? (·.page = page)).getD { page := page, prefetch := false, kept := false, reserve := false, issued := s.now }
  let ahead := s.ppu.fetches.filter fun f => f.page ≠ page && pageLun s f.page = lun && rankBefore (fetchRank s f) (fetchRank s mine)
  let erases := (flashAt s (lun / 32)).blocks.any fun b => b.erasing && b.id / 2 ^ 26 = lun % 32
  (ahead.map fun f => fetchTime s f.page).sum + fetchTime s page + if erases then Config.fetchEstimate s.fresh else 0

/-- R119: at the issue of the fetch the estimate decides (log entry 19). -/
def estimateTwin (s : State) (q : HostReq) : State :=
  match q.deadline with
  | none => s
  | some d => if twinMayServe s q && decide (q.accepted + d < s.now + estimateOf s (q.line / 64) + 3000) then askTwin s.draw q else s.draw

/-! ### Prefetch and streams (R115, R116) -/

/-- R115, R116: pages ahead of a miss or of an access point are fetched below every demand fetch. The rule drops pages queued by
TIER_PREFETCH while the free pool is below half its target; that read-ahead stops then too is DESIGN CHOICE, log entry 154. -/
def fetchAhead (s : State) (r : Region) (first : Nat) (depth : Nat) (ascending : Bool) : State :=
  if freeFrames s < freeTarget s / 2 then s
  else s.each (List.range depth) fun s k =>
    let i : Int := if ascending then first + 1 + k else (first : Int) - 1 - k
    if i < 0 then s
    else match pageAt r.runs i.toNat with
      | some p => if (frameOf s p).isNone && needsFetch (entry s p) then startFetch s p true else s
      | none => s

/-- R115: the depth after `run` consecutive misses: 8 at the second, doubled at each further one, up to the limit. -/
def prefetchAhead (s : State) (run : Nat) : Nat := if run < 2 then 0 else min (prefetchDepth s) (8 * 2 ^ (run - 2))

/-- R115: a page miss of a region that is not a STREAM region; a further miss of the same page is none. A run of 0 is that of a
region without a miss. -/
def noteMiss (s : State) (r : Region) (k : Nat) : State :=
  let seen := r.missRun ≠ 0
  let up := seen && k = r.lastMiss + 1
  let down := seen && k + 1 = r.lastMiss
  let run : Int := if up then (if 0 < r.missRun then r.missRun + 1 else 2) else if down then (if r.missRun < 0 then r.missRun - 1 else -2) else 1
  if seen && k = r.lastMiss then s
  else
    let s := setRegion s r.num fun r => { r with lastMiss := k, missRun := run }
    if up || down then fetchAhead s r k (prefetchAhead s run.natAbs) (0 < run) else s

/-- R116: where the trailing edge would stand: W/8 behind the access point, against the direction. -/
def trailGoal (s : State) (point : Nat) (ascending : Bool) : Int :=
  let back : Int := (streamWindowPages s / 8 : Nat)
  if ascending then (point : Int) - back else (point : Int) + back

/-- R117: page indices of the region's dirty pages. -/
def dirtyIndices (s : State) (r : Region) : List Int :=
  (s.ppu.dir.filter fun e => e.region = r.num && (e.charged || e.st = .dirty)).filterMap fun e => (pageIndex r.runs e.page).map Int.ofNat

/-- R117: the trailing edge: it has gone on from where it stood until a dirty page, or to its goal. -/
def trailOf (s : State) (r : Region) (t : Stream) : Int :=
  let goal := trailGoal s t.point t.ascending
  if t.ascending then ((dirtyIndices s r).filter fun k => decide (t.trail ≤ k) && decide (k < goal)).foldl min goal
  else ((dirtyIndices s r).filter fun k => decide (k ≤ t.trail) && decide (goal < k)).foldl max goal

/-- R116, R117: the leading edge: 7W/8 ahead of the access point, and no more than W from the trailing edge. -/
def leadOf (s : State) (r : Region) (t : Stream) : Int :=
  let w : Int := (streamWindowPages s : Nat)
  let ahead : Int := (7 * streamWindowPages s / 8 : Nat)
  if t.ascending then min ((t.point : Int) + ahead) (trailOf s r t + w) else max ((t.point : Int) - ahead) (trailOf s r t - w)

/-- R116: the window of a stream. -/
def inWindow (s : State) (r : Region) (t : Stream) (k : Nat) : Bool :=
  if t.ascending then decide (trailOf s r t ≤ k) && decide ((k : Int) ≤ leadOf s r t)
  else decide (leadOf s r t ≤ k) && decide ((k : Int) ≤ trailOf s r t)

def outsideWindows (s : State) (r : Region) (k : Nat) : Bool := !(r.streams.any fun t => inWindow s r t k)

/-- R117: a dirty page that a trailing edge waits on. -/
def edgeHeld (s : State) (r : Region) (k : Nat) : Bool :=
  r.streams.any fun t => trailOf s r t ≠ trailGoal s t.point t.ascending && trailOf s r t = (k : Int)

/-- R116: a stream after an access. A new stream has one access point, from which no direction follows: it is ascending until its
second (DESIGN CHOICE, log entry 131). -/
def moveStream (s : State) (r : Region) (k n : Nat) : Option Stream → Stream
  | none => { point := k, ascending := true, trail := trailGoal s k true, advanced := n }
  | some t =>
    let up := if t.point = k then t.ascending else t.point < k
    { point := k, ascending := up, trail := if up = t.ascending then trailOf s r t else trailGoal s k up, advanced := n }

/-- R116: an access within 2 W of a stream's access point advances it, the first of the region's list when it is within reach of
several (DESIGN CHOICE, log entry 131); any other opens a stream in place of the least recently advanced of 4. Pages up to the
leading edge are fetched (R117). -/
def streamAccess (s : State) (r : Region) (k : Nat) : State :=
  if !flagStream r.flags then s
  else
    let w := streamWindowPages s
    let near (t : Stream) : Bool := t.point ≤ k + 2 * w && k ≤ t.point + 2 * w
    let n := s.ppu.uses + 1
    let s := s.onPpu fun p => { p with uses := n }
    let old := r.streams.find? near
    let moved := moveStream s r k n old
    let others := match old with
      | some t => r.streams.filter (· ≠ t)
      | none => if r.streams.length < 4 then r.streams
        else let low := minOf (r.streams.map (·.advanced)); r.streams.filter (·.advanced ≠ low)
    let s := setRegion s r.num fun r => { r with streams := others ++ [moved] }
    fetchAhead s r k (if moved.ascending then leadOf s r moved - k else k - leadOf s r moved).toNat moved.ascending

/-- R116: what an accepted access of a page tells the PPU. -/
def notePage (s : State) (q : HostReq) : State :=
  match regionOf s q.region with
  | some r => match pageIndex r.runs (q.line / 64) with
    | some k => streamAccess s r k
    | none => s
  | none => s

def notePageMiss (s : State) (q : HostReq) : State :=
  match regionOf s q.region with
  | some r => match pageIndex r.runs (q.line / 64) with
    | some k => if flagStream r.flags then s else noteMiss s r k
    | none => s
  | none => s

/-! ### Reads (R100) -/

/-- The newest staged data of a line (R479). -/
def stagedLine (s : State) (line : Nat) : Option Line := ((s.ream.stage.filter fun r => r.valid && r.line = line).getLast?).map (·.data)

/-- R111, R118: the request waits for the Ream read of its page's directory block. -/
def waitBlock (s : State) (q : HostReq) : State := park (fetchBlock s (blockOf (q.line / 64))) (lateRead s q) .block

/-- A read that misses, and must wait for the page's fetch. -/
def waitFetch (s : State) (q : HostReq) : State :=
  let issued := s.ppu.fetches.any (·.page = q.line / 64)
  let q := lateRead s q
  let s := notePageMiss (startFetch s (q.line / 64) false) q
  let s := park s q .fetch
  if issued then s else estimateTwin s { q with st := .fetch }

/-- R96, R100, R132, R134: a read of a VALID frame: filled through the slice in WB mode; a full queue answers with a retry response,
and a line that is queued to be written is answered from there. -/
def readFrame (s : State) (q : HostReq) (f : Frame) (wb : Bool) : State :=
  let fromWrite := queuedWrite s q.line
  if !fromWrite && !readRoom s q.line then turnAway s q (.dram (frameChannel f.no) (q.line % 2))
  else if wb then
    match allocateLine s q.line .filling zeroLine 0 with
    | some s => park (if fromWrite then s else queueRead s q.line true) q .line
    | none => sliceRetry s q
  else if fromWrite then answerRead s q (frameLine f q.line)
  else park (queueRead s q.line false) q .dramRead

/-- R100, R118: a read whose page has no VALID frame. -/
def readUnframed (s : State) (q : HostReq) (wb : Bool) : State :=
  let line := q.line
  match (entry s (line / 64)).st with
  | .zero => answerRead s { q with st := .line } zeroLine
  | .lost => answerRead s { q with st := .line } ((stagedLine s line).getD poisonLine)
  | _ =>
    if wb then
      match allocateLine s line .filling zeroLine 0 with
      | some s => waitFetch s q
      | none => sliceRetry s (lateRead s q)
    else waitFetch s q

/-- R100, R96: a read that reaches the slice or, bypassed, the PPU. -/
def serveRead (s : State) (q : HostReq) : State :=
  let line := q.line
  let page := line / 64
  let mode := modeOf s line
  let s := if mode = .off then s else readInjected s line
  let hit : Option CurdLine := if mode = .off then none else curdLine s line
  match hit with
  | some l => if l.st = .filling then park s (lateRead s q) .line
      else answerRead (touchWay (stuckAccess s line l.way) line l.way false) { q with st := .line } l.data
  | none =>
    match if mode = .off then none else evictOf s line with
    | some e => answerRead s { q with st := .line } e.data
    | none =>
      if blockAbsent s page then waitBlock s q
      else
        let s := touchDirectory s page
        let s := if (entry s page).st = .lost then s else formStaged s page
        match validFrame s page with
        | some f => readFrame s q f (mode = .wb)
        | none => readUnframed s q (mode = .wb)

/-! ### Writes -/

/-- R98: the slice's charge message for a line that became DIRTY from INVALID or CLEAN. -/
def sendCharge (s : State) (q : HostReq) : State :=
  s.onPpu fun p => { p with charges := p.charges ++ [{ page := q.line / 64, epoch := lo32 q.epoch, port := q.port }] }

/-- R98: the credit of a write that found its line DIRTY goes back to the pool. -/
def releaseCredit (s : State) (q : HostReq) : State := if q.credit then returnCredit s q.port else s

/-- R101: a marked write extends a tracker of its port past the threshold. -/
def storeMarked (t : Tracker) (threshold : Nat) : Bool := threshold < t.run

/-- R101: the port's streaming-store detector sees a full-line write. -/
def trackStore (s : State) (port line : Nat) : Bool × State :=
  let mine := s.curd.trackers.filter (·.1 = port)
  let extends_ (t : Tracker) : Bool := match t.ascending with
    | none => line = t.last + 1 || line + 1 = t.last
    | some true => line = t.last + 1
    | some false => line + 1 = t.last
  match mine.find? fun x => extends_ x.2 with
  | some (_, t) =>
    let t' : Tracker := { last := line, ascending := some (line = t.last + 1), run := t.run + 1, stamp := s.curd.trackers.length }
    (storeMarked t' (storeThreshold s), s.onCurd fun c => { c with trackers := c.trackers.filter (· ≠ (port, t)) ++ [(port, t')] })
  | none =>
    let t' : Tracker := { last := line, ascending := none, run := 1, stamp := 0 }
    let drop := if mine.length < 16 then [] else mine.take 1
    (false, s.onCurd fun c => { c with trackers := c.trackers.filter (fun x => !drop.contains x) ++ [(port, t')] })

/-- R94, R98, R103: a write that finds its line's data: the line is DIRTY in the slice; the message goes if it was not. -/
def dirtyLine (s : State) (q : HostReq) (base : Line) (was : LineSt) : Option State :=
  let l := mergeLine base q.data q.be q.poison
  let ep := match curdLine s q.line with
    | some c => if c.st = .dirty then raiseEpoch c.epoch (lo32 q.epoch) else lo32 q.epoch
    | none => lo32 q.epoch
  let s := stuckLine s q.line
  (allocateLine s q.line .dirty l ep).map fun s => if was = .dirty then releaseCredit s q else sendCharge s q

/-- R103: a clean entry of the line is cancelled; a dirty one writes its frame before the newer data, which it then holds too. -/
def updateEvict (s : State) (line : Nat) (l : Line) : State :=
  s.onCurd fun c => { c with evicts := (c.evicts.filter fun e => e.addr ≠ line || e.dirty).map fun e => if e.addr = line then { e with data := l } else e }

/-- R96, R146: a write to a page whose frame holds data: to the frame, the page charged; a valid line is updated and CLEAN. It
completes when the DRAM channel has the line. -/
def writeThrough (s : State) (q : HostReq) : State :=
  let base := (heldLine s q.line).getD zeroLine
  let l := mergeLine base q.data q.be q.poison
  let s := setLine (stuckLine s q.line) q.line fun c => if c.st = .filling then c else { c with data := l, st := .clean }
  let s := updateEvict s q.line l
  let s := writeFrame s q.line l (!fullLine q.be && (curdLine s q.line).isNone)
  let s := chargeFor s (q.line / 64) (lo32 q.epoch) q.port q.credit
  park s q .dramWrite

/-- R171: records of a 16 KiB stage page: 56 in each of four slots. -/
def stagePageRecords : Nat := 224

/-- R171: a record of a write's line, which holds `l` now, is gathered into a stage page; a frame that holds the page takes the line too
(R479). -/
def stageLine (s : State) (q : HostReq) (l : Line) : State :=
  let page := q.line / 64
  let s := s.onReam fun r =>
    { r with stage := r.stage ++ [{ line := q.line, data := l, epoch := q.epoch, order := r.stageOrder, valid := true, programmed := false }],
             stageOrder := r.stageOrder + 1, gathering := true }
  let open_ := (s.ream.stage.filter (!·.programmed)).length - s.ream.stageClosed
  let s := if stagePageRecords ≤ open_ then s.onReam fun r => { r with stageClosed := r.stageClosed + stagePageRecords, gathering := false } else s
  let s := (queueCipher s none 0 3).onPpu fun p => { p with stageIndex := addNew p.stageIndex page }
  let s := setLine s q.line fun c => if c.st = .filling then c else { c with data := l }
  let s := updateEvict s q.line l
  let s := setFrame s page fun f => if f.valid then { f with data := putLine f.data (q.line % 64) l } else f
  park (releaseCredit s q) q .stage

/-- R44, R171: the write merged into its line, which is staged. -/
def stageWrite (s : State) (q : HostReq) (base : Line) : State := stageLine s q (mergeLine base q.data q.be q.poison)

/-- R479: the base of a staged line: what the device holds of it, zeros of a ZERO page, which takes its frame, or poison of a
LOST one; none while a fetch must bring it. -/
def stageBase (s : State) (q : HostReq) : Option (Line × State) :=
  let page := q.line / 64
  match heldLine s q.line with
  | some l => some (l, s)
  | none =>
    match (entry s page).st with
    | .zero => (assignFrame s page).map fun (n, s) =>
        (zeroLine, putEntry (fillFrame s page []) { entry s page with st := .clean, frame := some n })
    | .lost => some ((stagedLine s q.line).getD poisonLine, s)
    | _ => if fullLine q.be then some (zeroLine, s) else none

/-- R54, R138, R222: the write must stand in a stage: the stage path is in force, or the page's frame lies on a RESTRICTED channel. -/
def mustStage (s : State) (page : Nat) : Bool :=
  stagePathNow s || ((frameOf s page).map fun f => decide ((dramAt s (frameChannel f.no)).band = .restricted)).getD false

/-- R94: the line is FILLING: accesses of it wait in the slice (R45). -/
def lineFilling (s : State) (line : Nat) : Bool := ((curdLine s line).map fun l => decide (l.st = .filling)).getD false

/-- R171, R222, R479: a write on the stage path. -/
def serveStage (s : State) (q : HostReq) : State :=
  let page := q.line / 64
  if lineFilling s q.line then park s q .line
  else if blockAbsent s page then waitBlock s q
  else
    let s := touchDirectory s page
    let s := if (entry s page).st = .lost then s else formStaged s page
    match stageBase s q with
    | some (base, s) =>
      let e := entry s page
      let s := if (frameOf s page).isNone && needsFetch e then startFetch s page false else s
      stageWrite s q base
    | none => park (startFetch s page false) q .frame

/-- R96, R100: a write in WT or OFF mode, or one that bypasses the slice. -/
def serveThrough (s : State) (q : HostReq) : State :=
  let page := q.line / 64
  if lineFilling s q.line then park s q .line
  else if blockAbsent s page then waitBlock s q
  else
    let s := touchDirectory s page
    let s := if (entry s page).st = .lost then s else formStaged s page
    match validFrame s page with
    | some _ => writeThrough s q
    | none =>
      match (entry s page).st with
      | .zero => match zeroAllocate s page with | some s => writeThrough s q | none => park s q .frame
      | .lost => match poisonAllocate s page with | some s => writeThrough s q | none => park s q .frame
      | _ => park (notePageMiss (startFetch s page false) q) q .frame

/-- R100: a WB write whose line is in neither the sets nor the eviction buffer as dirty. -/
def missWrite (s : State) (q : HostReq) : State :=
  let page := q.line / 64
  let retry := sliceRetry s q
  let done (base : Line) : State := match dirtyLine s q base .clean with | some s => localPlaced s q | none => retry
  if fullLine q.be then done zeroLine
  else if blockAbsent s page then waitBlock s q
  else
    let s := touchDirectory s page
    let s := if (entry s page).st = .lost then s else formStaged s page
    match validFrame s page with
    | some f => readFrame s q f true
    | none =>
      match (entry s page).st with
      | .zero => match dirtyLine s q zeroLine .clean with | some s => localPlaced s q | none => sliceRetry s q
      | .lost => match dirtyLine s q ((stagedLine s q.line).getD poisonLine) .clean with | some s => localPlaced s q | none => sliceRetry s q
      | _ => match allocateLine s q.line .filling zeroLine 0 with
        | some s => park (notePageMiss (startFetch s page false) q) q .line
        | none => sliceRetry s q

/-- R101: a write that misses: a marked one goes to the frame where that is VALID, or is zero-allocated first. -/
def missMarked (s : State) (q : HostReq) : State :=
  let page := q.line / 64
  let z := (entry (touchDirectory s page) page).st = .zero
  if q.marked && blockAbsent s page then waitBlock s q
  else if q.marked && ((validFrame s page).isSome || z) then serveThrough s q else missWrite s q

/-- R94, R100, R103: a write in WB mode. -/
def serveBack (s : State) (q : HostReq) : State :=
  match curdLine s q.line with
  | some l =>
    if l.st = .filling then park s q .line
    else match dirtyLine s q l.data l.st with | some s => localPlaced s q | none => sliceRetry s q
  | none =>
    match evictOf s q.line with
    | some e =>
      if e.dirty then match dirtyLine s q e.data .clean with | some s => localPlaced s q | none => sliceRetry s q
      else missMarked (s.onCurd fun c => { c with evicts := c.evicts.filter (·.addr ≠ q.line) }) q
    | none => missMarked s q

/-- A write accepted at its place (R43, R53, R54, R96). -/
def serveWrite (s : State) (q : HostReq) : State :=
  if mustStage s (q.line / 64) then serveStage s q
  else if modeOf s q.line = .wb then serveBack s q
  else serveThrough s q

/-- R45: an earlier accepted write of the line has not reached its place. -/
def behindWrite (s : State) (q : HostReq) : Bool :=
  s.cxl.reqs.any fun o => o.write && o.line = q.line && decide (o.age < q.age) && (o.st = .retry || o.st = .frame || o.st = .block)

/-- R27, R45: accesses of one line are served in the order of their acceptance. -/
def serve (s : State) (q : HostReq) : State :=
  if behindWrite s q then sliceRetry s q else if q.write then serveWrite s q else serveRead s q

/-- R101, R116: an access as its port accepts it: the port's detector and the region's streams see it, and it is served. -/
def acceptReq (s : State) (q : HostReq) : State :=
  if q.write && fullLine q.be && q.port < 16 && storeDetector s then
    let (marked, s) := trackStore s q.port q.line
    serve (notePage s q) { q with marked := marked }
  else serve (notePage s q) q

/-! ### Fills -/

/-- R94, R96: waiting accesses of a line are taken in the order of their acceptance: writes merge, reads are answered. Outside WB
mode a write goes through to the frame, and the line stays CLEAN; on the stage path it completes in a stage (R43, R54). -/
def fillReqs (s : State) (line : Nat) : List HostReq → Line → Bool → State
  | [], _, _ => s
  | q :: rest, l, dirty =>
    if q.write then
      let l' := mergeLine l q.data q.be q.poison
      if mustStage s (line / 64) then fillReqs (stageWrite s q l) line rest l' dirty
      else if modeOf s line ≠ .wb && (validFrame s (line / 64)).isSome then fillReqs (writeThrough s q) line rest l' dirty
      else
        let s := setLine s line fun c => { c with st := .dirty, data := l', epoch := if dirty then raiseEpoch c.epoch (lo32 q.epoch) else lo32 q.epoch }
        let s := if dirty then releaseCredit s q else sendCharge s q
        fillReqs (localPlaced s q) line rest l' true
    else fillReqs (answerRead s q l) line rest l dirty

def waitingOn (s : State) (line : Nat) : List HostReq :=
  s.cxl.reqs.filter fun q => q.line = line && (q.st = .line || (!q.write && q.st = .fetch))

/-- R94: fill data arrives at a FILLING line. -/
def fillLine (s : State) (line : Nat) (l : Line) : State :=
  match curdLine s line with
  | some c =>
    if c.st = .filling then
      let s := setLine s line fun c => { c with st := .clean, data := l }
      fillReqs s line (waitingOn s line) l false
    else s
  | none => s

/-- R111: a directory block has come, or is lost: what waited for it is served in the order of acceptance. -/
def wakeBlock (s : State) (extent : Nat) : State :=
  s.each (s.cxl.reqs.filter fun q => q.st = .block && blockOf (q.line / 64) = extent) fun s q => serve (dropReq s q.age) q

/-- R96, R106: requests that waited for a page's frame are taken up again, in the order of their acceptance. -/
def wakeFrame (s : State) (page : Nat) : State :=
  let ready := s.cxl.reqs.filter fun q => q.line / 64 = page && (q.st = .frame || (q.st = .fetch && !q.write && (curdLine s q.line).isNone))
  s.each ready fun s q =>
    if q.write then serve (dropReq s q.age) q
    else match validFrame s page with
      | some f => answerRead s q (frameLine f q.line)
      | none => s

/-- R98, R102, R107: the page's frame is VALID: dirty victims held for it are written to it, its directory epoch raised, its FILLING
lines are filled and its waiting requests go on. While the frame is FILLING they are held. -/
def pageArrived (s : State) (page : Nat) : State :=
  match validFrame s page with
  | none => s
  | some _ =>
    let held := s.curd.evicts.filter fun e => e.addr / 64 = page && e.dirty && e.offered
    let s := s.each held fun s e => chargePage (writeFrame s e.addr e.data false) page e.epoch
    let s := match validFrame s page with
      | some f => s.each (s.curd.lines.filter fun c => c.addr / 64 = page && c.st = .filling) fun s c => fillLine s c.addr (frameLine f c.addr)
      | none => s
    wakeFrame s page

/-! ### Mirroring (R261 to R264) -/

/-- R264: the lag of the ASYNC regions: its bytes and the age of its oldest write. -/
def lagAtBound (s : State) : Bool :=
  lagBytes s ≤ (s.felt.lag.map (·.2.1)).sum || s.felt.lag.any fun (_, _, t) => t + lagHalfMs s * 500000 ≤ s.now

/-- R262, R264, R270: the region's mirror messages are sent: this device holds the token, the pair is ATTACHED, and the region
is IN_SYNC or RESYNC. -/
def mirrors (s : State) (r : Region) : Bool :=
  isMirrored r && holdsToken r && s.felt.pair = .attached && (r.mirror = .inSync || r.mirror = .resync) && s.couch.orch ≠ .committed

/-- R262, R264: the completion of a write to a mirrored region waits for the twin's acknowledgement. -/
def needsAck (s : State) (r : Region) : Bool := r.mirror = .inSync && (flagMirror r.flags ≠ 2 || lagAtBound s)

/-- R59, R262, R264: the mirror message of a write, and whether its completion waits for the acknowledgement; bytes of an ASYNC region count
toward the close that they request, sent or not. -/
def mirrorWrite (s : State) (r : Region) (q : HostReq) : State × HostReq :=
  let s := if flagMirror r.flags = 2 then s.onEpochs fun e => { e with asyncBytes := e.asyncBytes + 64 } else s
  if !mirrors s r then (s, q)
  else
    let page := q.line / 64
    let t := linkOfPage s page
    let (tag, s) := takeTag s t
    let k := (pageIndex r.runs page).getD 0
    let s := sendFelt s t (.mirrorWrite r.num (lo32 q.epoch) (k * 64 + q.line % 64) tag q.data q.be q.poison)
    let async := flagMirror r.flags = 2
    let need := needsAck s r
    let s := if !async then s
      else
        let count := ((s.felt.sentAsync.find? fun x => x.1 = q.epoch && x.2.1 = t).map (·.2.2)).getD 0
        let lag := s.felt.lag.find? (·.1 = q.epoch)
        s.onFelt fun f => { f with
          sentAsync := (f.sentAsync.filter fun x => !(x.1 = q.epoch && x.2.1 = t)) ++ [(q.epoch, t, count + 1)],
          lag := f.lag.filter (·.1 ≠ q.epoch) ++ [(q.epoch, (lag.map (·.2.1)).getD 0 + 64, (lag.map (·.2.2)).getD s.now)] }
    (s, { q with needAck := need, mirrorTag := tag })

/-- R262, R264, R58: a write of the twin placed in this device's own domain, under its own mode and energy state; the
holder 16 + link covers it with the Felt unit's credit. -/
def placeMirror (s : State) (link : Nat) (tag : U16) (page line region : Nat) (data : LineData) (be : BitVec 64) (poison : Bool) (epoch : Nat) : State :=
  let q : HostReq :=
    { age := s.cxl.nextAge, write := true, port := 16 + link, ld := 0, hostTag := tag.toNat, line := page * 64 + line, data := data, be := be,
      poison := poison, epoch := epoch, region := region, accepted := s.now, st := .line, credit := true, needAck := false, localDone := false,
      twinAsked := false, mirrorTag := tag, deadline := none, late := false, marked := false }
  let s := (s.onCxl fun c => { c with nextAge := c.nextAge + 1 }).onFelt fun f => { f with credits := f.credits.modify link (· + 1) }
  acceptReq s q

end Sys2Proof.Machine
end

