-- ==== Sys2Proof/Machine/Epochs.lean ====
section
/-! DEFINITION. Sessions' ends, releases of capacity, epoch closes and what joins them; WATERMARK, SNAPSHOT, FLUSH_REGION and GPF (R34 to R36, R56 to R64, R75, R81, R259, R289, R290, R313, R314). -/

namespace Sys2Proof.Machine

/-! ### The end of a session (R289, R290) -/

/-- R290: the session's queued requests complete with NOT_READY; its pins, prefetches and chain end; the owner's end leaves
ownership vacant. -/
def endSession (s : State) (num : Nat) (handed : Bool) : State :=
  match sessionNum s num with
  | none => s
  | some x =>
    let waiting := s.cmd.arrived.filter (·.ch = x.ch)
    let s := s.onCmd fun c => { c with arrived := c.arrived.filter (·.ch ≠ x.ch) }
    let s := s.each waiting fun s a =>
      sendReply s a.ch { opcode := a.opcode, tag := a.tag, more := false, urgent := a.urgent, status := .notReady, detail := readyCode s, params := [] }
    let s := endPins s num fun _ => true
    let own := s.cmd.owner = num
    let s := s.onCmd fun c => { c with sessions := c.sessions.filter (·.num ≠ num), owner := if own then 0 else c.owner }
    if own && !handed then s.event 15 2 1 (detail := num) else s

/-- R289: the owner's session closes: the named session is the owner before the reply is sent. A session that is no longer open
makes the close fail. -/
def handOver (s : State) (r : Req) (succ num : Nat) : State :=
  if (sessionNum s succ).isNone then refuse s r 0x0003 .range 16
  else
    let s := (endSession s num true).onCmd fun c => { c with owner := succ }
    sendReply s r.ch { opcode := 0x0003, tag := r.tag, more := false, urgent := r.urgent, status := .ok, detail := 0, params := [] }

/-- R289: every command of the session that has started has replied. -/
def sessionSettled (s : State) (num : Nat) (tag : U32) : Bool :=
  ((sessionNum s num).map fun x => (x.outstanding.filter (· ≠ tag)).isEmpty).getD true

/-- R289: hand-overs whose owner has no started command left. -/
def finishCloses (s : State) : State :=
  s.each s.cmd.closing fun s c =>
    let drop (s : State) : State := s.onCmd fun x => { x with closing := x.closing.filter (· ≠ c) }
    if (sessionNum s c.2.2).isNone then drop s
    else if sessionSettled s c.2.2 c.1.tag then handOver (drop s) c.1 c.2.1.toNat c.2.2 else s

/-! ### Region changes and closes (R34 to R36, R75) -/

/-- R34 phase 1: the next epoch begins; changes that its writes are served under take effect. -/
def startClose (s : State) (joined : List Joined) (couch peer : Bool) : State :=
  let c : Close := { epoch := s.epochs.current, joined := joined, started := s.now, localDone := false, peerDone := peer, couch := couch }
  let s := s.onEpochs fun e => { e with running := some c, current := e.current + 1, began := s.now, asyncBytes := 0 }
  s.each joined fun s j => match j.change with
    | .bindKey n k => bindSlot s k n
    | ch => applyStart s c.epoch ch

/-- R36: a close is requested: it starts, or the requests join the queued close. -/
def requestClose (s : State) (joined : List Joined) : State :=
  match s.epochs.running with
  | none => startClose s joined false false
  | some _ => s.onEpochs fun e => { e with queued := some (e.queued.getD [] ++ joined) }

/-- R75, R265: a change of a region; for a mirrored region of an attached pair the follower is asked first. -/
def requestChange (s : State) (num : Nat) (op : Option RegionOpKind) (j : Joined) : State :=
  match op with
  | some k =>
    if s.felt.pair = .attached then
      sendOne (s.onFelt fun f => { f with ops := f.ops ++ [(num, k, none)], opReqs := f.opReqs ++ [(num, j)] }) (.regionOp num k)
    else requestClose s [j]
  | none => requestClose s [j]

/-! ### Releases (R81, R84) -/

/-- R84: the runs of a region that an identity holds and a shrink to a size touches. -/
def touchedRuns (s : State) (r : Region) (head ld size : Nat) : List (Nat × Nat) :=
  let cut := cutRuns r.runs (size / extentBytes)
  (heldOf s head ld r.num).filter fun (f, n) => cut.any fun (g, m) => f < g + m && g < f + n

/-- R84: the shrink goes on when no release of it runs: at the next epoch boundary the pages are freed. -/
def continueShrink (s : State) (num : Nat) : State :=
  let busy := s.cxl.lds.any fun d => d.releases.any fun r => r.region = num && r.why = .shrink
  if busy then s
  else match shrinkSize s num with
    | some size =>
      let mirrored := ((regionOf s num).map isMirrored).getD false
      requestChange s num (if mirrored then some (.resize size) else none) { change := .shrinkDone num size, req := none }
    | none => s

/-- R80, R84: what the identity is granted and no longer holds is offered: what remains of a run that a shrink splits, and the runs of a
grant made while the release ran. -/
def offerAgain (s : State) (num head ld : Nat) : State := match regionOf s num with | some r => offerRest s r head ld | none => s

/-- R81: a release completes. -/
def completeRelease (s : State) (head ld : Nat) (x : Release) : State :=
  let s := setLd s head ld fun d => { d with releases := d.releases.filter (· ≠ x), held := d.held.filter fun h => !(h.1 = x.region && x.runs.contains h.2) }
  match x.why with
  | .grantNone => endLongOf (offerAgain s x.region head ld) (fun k => k = .release x.region head ld) .ok 0 []
  | .shrink => continueShrink (offerAgain s x.region head ld) x.region

/-- Every run that the release names. -/
def releaseAll (s : State) (head ld : Nat) : State :=
  match ldOf s head ld with
  | some d => s.each d.releases fun s x => completeRelease s head ld x
  | none => s

/-- R78, R80, R81: the LD's decoders, extents and releases end with its link. -/
def endLd (s : State) (head ld : Nat) : State :=
  let s := releaseAll s head ld
  if (ldOf s head ld).isSome then setLd s head ld fun d => { d with decoders := [], held := [] } else s

/-! ### The boundary of a close -/

/-- R269: E_c of a mirrored region at the moment the pair parts. -/
def commonEpoch (s : State) (r : Region) : Nat := if flagMirror r.flags = 2 then s.epochs.mirrored else s.epochs.closed

/-- R268, R270: an IN_SYNC region becomes LAGGING with E_c; one in RESYNC goes back with its own. -/
def lagRegions (s : State) : State :=
  (s.onRegions fun x => { x with list := x.list.map fun r =>
    match r.mirror with
    | .inSync => { r with mirror := .lagging, ec := commonEpoch s r, metaDirty := true }
    | .resync => { opEnded r .resync with mirror := .lagging, metaDirty := true }
    | .notMirrored | .lagging | .diverged => r }).onFelt fun f => { f with resyncTodo := [], resyncOut := [] }

/-- R258: the pair is DETACHED and its links are held down. -/
def holdLinks (s : State) : State :=
  s.onFelt fun f => { f with pair := .detached, bursts := [], hellos := [], parts := [],
                             links := f.links.map fun l => { l with st := .held, mapped := false, retryBuf := [], queue := [], unsent := 0 } }

/-- R265: what the follower applies at the boundary of the holder's close. -/
def applyFollower (s : State) (num : Nat) (op : RegionOpKind) (runs : List (Nat × Nat)) (epoch : Nat) : State :=
  let theirs (s : State) : State := setRegion s num fun r => { r with holder := s.felt.twinSerial, generation := if r.generation = 0 then 1 else r.generation }
  match op with
  | .create size flags => theirs (createRegion s num size flags runs epoch)
  | .resize size => match regionOf s num with
    | some r => if r.size < size then growRegion s num size runs else shrinkRegion s num size
    | none => s
  | .destroy => destroyRegion s num
  | .setFlags flags => if flagMirror flags = 0 then applyFlags s num flags else theirs (applyFlags s num flags)
  | .answer _ => s

/-! ### The twin parts (R258, R268) -/

/-- R479: the line stands in a stage record. -/
def isStagedLine (s : State) (line : Nat) : Bool := s.ream.stage.any fun r => r.valid && r.line = line

/-- R43, R53, R262: the twin's acknowledgement is no longer awaited; where the stage path has come into force since the write reached its
place, the line is staged first. -/
def twinDone (s : State) (q : HostReq) : State :=
  let p := { q with needAck := false }
  if !q.localDone then keepReq s p
  else match if mustStage s (q.line / 64) && !isStagedLine s q.line then heldLine s q.line else none with
    | some l => stageLine s { p with credit := false } l
    | none => answerWrite s p

/-- R264: the epochs of staged ASYNC writes up to one are placed, oldest first, in the order of their arrival. -/
def applyStaged (s : State) (upTo : Nat) : State :=
  let due := (s.felt.staged.filter (·.epoch ≤ upTo)).foldl (fun l w => insertLast w l) []
  let s := s.onFelt fun f => { f with staged := f.staged.filter fun w => upTo < w.epoch, applied := max f.applied upTo }
  s.each due fun s w => match regionOf s w.region with
    | some r => match pageAt r.runs (w.line / 64) with
      | some p => placeMirror s w.origin 0xFFFF p (w.line % 64) w.region w.data w.be w.poison w.epoch
      | none => s
    | none => s
where
  /-- Stable insertion by rising epoch. -/
  insertLast (w : StagedAsync) : List StagedAsync → List StagedAsync
    | [] => [w]
    | x :: xs => if w.epoch < x.epoch then w :: x :: xs else x :: insertLast w xs

/-- R264: every origin link's end marker of the epoch is there, with its count of staged writes; no earlier epoch is open. -/
def epochReady (s : State) (e : Nat) : Bool :=
  let ends := s.felt.ends.filter (·.1 = e)
  let count (o : Nat) : Nat := (s.felt.staged.filter fun w => w.epoch = e && w.origin = o).length
  !ends.isEmpty && (ends.all fun x => count x.2.1 = x.2.2) &&
    ((s.felt.staged.filter (·.epoch = e)).all fun w => ends.any fun x => x.2.1 = w.origin) &&
    !(s.felt.staged.any (·.epoch < e)) && !(s.felt.ends.any (·.1 < e))

/-- R264: an epoch is applied, and EPOCH_APPLIED returned. -/
def applyEpoch (s : State) (e : Nat) : State :=
  let s := applyStaged s e
  sendOne (s.onFelt fun f => { f with ends := f.ends.filter (e < ·.1) }) (.epochApplied e)

/-- R264: the epochs that are complete, oldest first. -/
def applyReady (s : State) : State :=
  let order := (s.felt.ends.map (·.1)).foldl (fun l e => insertBy id e l) []
  s.each order fun s e => if epochReady s e then applyEpoch s e else s

/-- The request that waits for a DRAM read takes its line; a line of the Curd goes to its slice (CURD_FILL_ARRIVAL). -/
def deliver (s : State) (d : DramReq) (l : Line) : State :=
  if d.curd || d.write then s
  else match s.cxl.reqs.find? fun q => q.line = d.line && q.st = .dramRead with
    | some q => answerRead s q l
    | none => s

/-- R146: the partial write whose burst has been read goes on to its write. -/
def writeHalf (s : State) (d : DramReq) (poison : Bool) : State :=
  match frameOf s (d.line / 64) with
  | none => s
  | some f => setDram s (frameChannel f.no) fun c => { c with queue := { d with rmw := false, data := { d.data with poison := d.data.poison || poison } } :: c.queue }

/-- R147: the line of an uncorrectable access is poisoned, with its event, and its requester takes poison. -/
def spoilAccess (s : State) (d : DramReq) : State :=
  match frameOf s (d.line / 64) with
  | none => deliver s d poisonLine
  | some f =>
    let s := dramEvent s 5 2 f.no d.line 15 .uncorrectable (entry s (d.line / 64)).region (d.line * 64)
    if d.write then
      setFrame (writeHalf s d true) (d.line / 64) fun f => { f with data := putLine f.data (d.line % 64) { d.data with poison := true } }
    else deliver (poisonFrameLine s (frameChannel f.no) d.line) d poisonLine

/-- R146, R147: the twin's line is written back, unless a write of it is queued, and the request that waits goes on. -/
def recovered (s : State) (d : DramReq) (l : Line) : State :=
  match frameOf s (d.line / 64) with
  | none => deliver s d l
  | some f =>
    let s := dramEvent s 4 1 f.no d.line 15 .uncorrectable (entry s (d.line / 64)).region (d.line * 64)
    if d.write then writeHalf s d false
    else deliver (if queuedWrite s d.line then s else writeFrame s d.line l false) d l

/-- R147: the line is read from the twin over Felt; the access waits. -/
def recoverLine (s : State) (d : DramReq) : State :=
  let page := d.line / 64
  match regionOfPage s page with
  | none => spoilAccess s d
  | some r =>
    let t := linkOfPage s page
    let (tag, s) := takeTag s t
    let s := s.onVat fun v => { v with recoveries := v.recoveries ++ [(tag, d)] }
    sendFelt s t (.twinRead r.num ((pageIndex r.runs page).getD 0 * 64 + d.line % 64) tag)

/-- R147: an access that waits for the twin ends, with the twin's line or without. -/
def endRecovery (s : State) (x : U16 × DramReq) (l : Option Line) : State :=
  let s := s.onVat fun v => { v with recoveries := v.recoveries.erase x }
  match l with
  | some l => recovered s x.2 l
  | none => spoilAccess s x.2

/-- R119: the twin does not serve the read: its fetch does. -/
def twinFails (s : State) (q : HostReq) : State := keepReq s { q with mirrorTag := 0xFFFF }

/-- R65, R268: every write that waits for the twin completes on local durability. -/
def completeLocally (s : State) : State := s.each (s.cxl.reqs.filter fun q => q.write && q.needAck) twinDone

/-- R268: requests that wait on the twin fall back. -/
def fallBack (s : State) : State :=
  let s := s.each (s.cxl.reqs.filter fun q => !q.write && q.twinAsked && q.mirrorTag ≠ 0xFFFF) twinFails
  let s := s.each s.vat.recoveries fun s x => endRecovery s x none
  let lost := s.ppu.recovering
  (s.onPpu fun p => { p with recovering := [] }).each lost losePage

/-- R265, R268: changes that waited for the twin go on alone; a hand-over that had begun is undone. -/
def proceedAlone (s : State) : State :=
  let waiting := s.felt.opReqs
  let taken := s.felt.reservedOps
  let s := s.onFelt fun f => { f with opReqs := [], ops := [], reservedOps := [] }
  let s := s.each taken fun s x => unreserve s x.2.2
  s.each waiting fun s x => match x.2.change with
    | .handover n toTwin =>
      let s := match regionOf s n with
        | some r => if toTwin then takeToken s n ownSerial (r.generation - 1) else s
        | none => s
      answerJoined s x.2.req .twinDown 0 []
    | .detach => answerJoined s x.2.req .ok 0 []
    | _ => requestClose s [x.2]

/-- R268, R269: what both ends of a pair do when it parts: staged epochs that are complete are applied, the others are
discarded; regions lag; waiting requests go on here. -/
def partPair (s : State) (st : Pair) : State :=
  let s := lagRegions (applyReady s)
  let s := s.onFelt fun f =>
    { f with pair := st, staged := [], ends := [], bursts := [], parts := [], lag := [], sentAsync := [], hellos := [], copied := [], offsetSince := none,
             links := f.links.map fun l => { l with queue := [], unsent := 0, retryBuf := [], replayed := [], mapped := false,
                                                    st := if l.st = .up || l.st = .trained || l.st = .fastRetrain then .fullTrain else l.st } }
  proceedAlone (fallBack (completeLocally s))

/-- R258: the orderly end of the pair, once the twin has applied every ASYNC epoch. -/
def finishDetach (s : State) (q : Option (Req × U16 × Nat)) : State :=
  answerJoined (holdLinks (partPair (sendAll s .detach) .detached)) q .ok 0 []

/-- R75, R85, R314: what a change does when the close of epoch E has completed, and its reply. -/
def applyEnd (s : State) (e : Nat) (j : Joined) : State :=
  match j.change with
  | .create n _ _ runs => answerJoined s j.req .ok 0 (le 2 n ++ le 2 runs.length)
  | .destroy n => answerJoined (destroyRegion s n) j.req .ok 0 []
  | .grow _ _ _ => answerJoined s j.req .ok 0 []
  | .shrinkDone n size => endLongOf (shrinkRegion s n size) (fun k => k = .shrink n size) .ok 0 []
  | .setFlags n _ =>
    let long := longRuns s fun k => k = .mirrorOn n || k = .d0fill n
    let s := answerJoined s j.req (if long then .accepted else .ok) 0 []
    match regionOf s n with
    | some r => if r.opns.contains .d0fill then s else endLongOf s (fun k => k = .d0fill n) .ok 0 []
    | none => s
  | .grant n h l a =>
    match regionOf s n with
    | none => answerJoined s j.req .ok 0 []
    | some r =>
      let old := accessOf r h l
      let held := heldOf s h l n
      if a ≠ .none then
        answerJoined (offerRest s r h l) j.req .ok 0 []
      else if held.isEmpty then
        let s := s.onCmd fun c => { c with longOps := c.longOps.filter fun o => o.kind ≠ .release n h l }
        answerJoined (setGrant s n h l .none) j.req .ok 0 []
      else
        startRelease (answerJoined (setGrant s n h l .none) j.req .accepted 0 []) n h l held .grantNone old
  | .bindKey _ _ => answerJoined s j.req .ok 0 (le 4 1)
  | .snapshotBegin n => answerJoined (setRegion s n fun r => { r with snapshot := e, metaDirty := true }) j.req .ok 0 (le 8 e)
  | .snapshotEnd n =>
    let s := s.onCmd fun c => { c with longOps := c.longOps.map fun o =>
      match o.kind with | .snapshot r eb _ => if r = n then { o with kind := .snapshot r eb e } else o | _ => o }
    answerJoined s j.req .accepted 0 []
  | .watermark => answerJoined s j.req .ok 0 (le 8 e)
  | .gpf h => s.emit (.gpfDone h)
  | .handover n toTwin =>
    match regionOf s n with
    | some r =>
      if s.felt.pair = .attached then
        sendOne (s.onFelt fun f => { f with opReqs := f.opReqs ++ [(n, j)] }) (.tokenOp n .offer (if toTwin then r.generation else r.generation + 1))
      else
        let s := if toTwin then takeToken s n ownSerial (r.generation - 1) else s
        answerJoined s j.req .twinDown 0 []
    | none => answerJoined s j.req .ok 0 []
  | .force _ => answerJoined s j.req .ok 0 []
  | .takeover _ => s
  | .detach => if s.felt.lag.isEmpty then finishDetach s j.req else s.onFelt fun f => { f with opReqs := f.opReqs ++ [(0, j)] }
  | .align m => s.onEpochs fun x => { x with current := max x.current (m + 1), began := s.now }
  | .insync n =>
    let s := setRegion s n fun r => if r.mirror = .resync then { opEnded r .resync with mirror := .inSync, metaDirty := true } else r
    endLongOf s (fun k => k = .resync n || k = .mirrorOn n) .ok 0 []
  | .sealGrants => s

/-- R34 phase 2: every write of an epoch up to E has reached its place. -/
def drained (s : State) (e : Nat) : Bool := !(s.cxl.reqs.any fun q => q.write && q.st ≠ .credit && q.epoch ≤ e)

/-- R259: the close exchanges CLOSE with the twin: an attached pair, neither the close that aligns the epochs nor the Couch's own. -/
def pairWide (s : State) (c : Close) : Bool :=
  s.felt.pair = .attached && !c.couch && !(c.joined.any fun j => match j.change with | .align _ => true | _ => false)

/-- R264: the end markers of the closed epoch, on each link that carried ASYNC writes of it. -/
def sendEnds (s : State) (e : Nat) : State :=
  let mine := s.felt.sentAsync.filter (·.1 = e)
  let s := s.onFelt fun f => { f with sentAsync := f.sentAsync.filter (·.1 ≠ e) }
  if s.felt.pair = .attached then s.each mine fun s x => sendFelt s x.2.1 (.epochEnd e x.2.1 x.2.2) else s

/-- R270: at the follower the last page has been acknowledged when a pair-wide close finds none copied since the one before (log
entry 36). -/
def followerInSync (s : State) : State :=
  let s := s.each s.regions.list fun s r =>
    if r.mirror = .resync && !holdsToken r && !s.felt.copied.contains r.num && !(s.felt.bursts.any (·.region = r.num)) then
      endLongOf (setRegion s r.num fun r => { opEnded r .resync with mirror := .inSync, metaDirty := true })
        (fun k => k = .resync r.num || k = .mirrorOn r.num) .ok 0 []
    else s
  s.onFelt fun f => { f with copied := [] }

/-- R270: every page of the region has been copied and acknowledged: a pair-wide close makes it IN_SYNC. -/
def checkResync (s : State) (num : Nat) : State :=
  match regionOf s num with
  | some r =>
    if r.mirror = .resync && holdsToken r && s.felt.pair = .attached && !(s.felt.resyncTodo.any (·.1 = num)) && !(s.felt.resyncOut.any (·.1 = num)) &&
        !(waitingChanges s).contains (.insync num) then
      requestClose s [{ change := .insync num, req := none }]
    else s
  | none => s

/-- R13, R57: the close of an epoch completes; key slots at their limit roll (R360); the queued close starts (R36). -/
def finishClose (s : State) (c : Close) : State :=
  let s := s.onEpochs fun e =>
    { e with closed := max e.closed c.epoch, running := none, duration := s.now - c.started,
             mirrored := if s.felt.pair = .attached && s.felt.lag.isEmpty then max e.mirrored c.epoch else e.mirrored }
  let s := sendEnds (applyOffWait s) c.epoch
  let s := s.each c.joined fun s j => applyEnd s c.epoch j
  let follow := s.felt.reservedOps
  let s := if pairWide s c then (s.onFelt fun f => { f with reservedOps := [] }).each follow fun s x => applyFollower s x.1 x.2.1 x.2.2 c.epoch else s
  let s := if pairWide s c then followerInSync s else s
  let s := s.onRegions fun x => { x with list := x.list.map fun r => { r with metaDirty := false } }
  let s := if c.couch then s else rollKeys s
  let s := match s.epochs.queued with
    | some q => requestClose (s.onEpochs fun e => { e with queued := none }) q
    | none => s
  if c.couch then s else s.each s.regions.list fun s r => checkResync s r.num

/-- EPOCH_CLOSE_COMPLETE (R34, R57, R259): the running close ends, once its writes are drained and, pair-wide, the twin's CLOSE is in. -/
def execEpochCloseComplete (s : State) : Res State :=
  match s.epochs.running with
  | none => .next s
  | some c =>
    if !drained s c.epoch then .next s
    else if pairWide s c then
      let s := if c.localDone then s else sendAll (s.onEpochs fun e => { e with running := some { c with localDone := true } }) (.close c.epoch)
      if c.peerDone then .next (finishCloses (finishClose s c)) else .next s
    else .next (finishCloses (finishClose s c))

/-- R59: automatic closes run from READY.LIFT on, until the Couch commits. -/
def closesRun (s : State) : Bool := (s.cmd.ready = .lift || s.cmd.ready = .service) && s.couch.orch ≠ .committed && s.couch.orch ≠ .down

/-- AUTO_CLOSE_INTERVAL_EXPIRY (R59). -/
def execAutoCloseIntervalExpiry (s : State) : Res State := .next (if closesRun s then requestClose s [] else s)

/-! ### Group 0x04 and GPF -/

/-- R313: a reserved byte 2 or 3 cannot stand in the operands; the region field's reserved values can. -/
def closeQueued (s : State) : Bool := s.epochs.queued.isSome

/-- WATERMARK_CLOSE (R314): answered when the close it asked for completes. -/
def execWatermarkClose (r : Req) (s : State) : Res State :=
  .next <| command s r 0x0401 none .session .fromLift fun s x =>
    checked s r 0x0401 [(closeQueued s, .busy, 4)] fun s => requestClose (defer s x r) [{ change := .watermark, req := some (r, 0x0401, x.num) }]

/-- WATERMARK_QUERY (R313). -/
def execWatermarkQuery (r : Req) (s : State) : Res State :=
  .next <| command s r 0x0402 none .session .fromLift fun s _ =>
    let e := s.epochs
    ok s r 0x0402 (le 8 e.current ++ le 8 e.closed ++ le 8 (if e.paired then e.mirrored else 0) ++ le 1 (if e.running.isSome then 1 else 0) ++
      le 1 (if e.queued.isSome then 1 else 0) ++ [0, 0] ++ le 4 (min e.duration 0xFFFFFFFF))

/-- R64: the pages of a region that a flush has to clean, those whose charge message is on its way included. -/
def dirtyPages (s : State) (num : Nat) : List Nat :=
  let waiting := (s.ppu.charges.map (·.page)).filter fun p => (regionOfPage s p).map (·.num) = some num
  waiting.foldl addNew ((s.ppu.dir.filter fun e => e.region = num && (e.charged || e.st = .dirty)).map (·.page))

/-- R64, R360: a flush ends when no page of the region is dirty, or when its key slot is exhausted. -/
def checkFlush (s : State) (num : Nat) : State :=
  if !longRuns s (· = .flush num) then s
  else
    let finish (st : Status) (d : Nat) : State :=
      endLongOf (setRegion s num fun r => opEnded r .flush) (· = .flush num) st d []
    if (dirtyPages s num).isEmpty && !(s.ppu.moves.any fun m => m.kind = .clean && (entry s m.page).region = num) then finish .ok 0
    else match slotOfRegion s num with
      | some k => if k.exhausted then finish .keyExhausted k.slot else s
      | none => s

/-- FLUSH_REGION (R64, R314). -/
def execFlushRegion (r : Req) (region : U16) (s : State) : Res State :=
  .next <| command s r 0x0403 (regionReserved region 16) .session .fromLift fun s x =>
    withRegion s r 0x0403 x region 16 fun g =>
      checked s r 0x0403 [(regionBusy s g, .busy, 3)] fun s =>
        let n := (dirtyPages s g.num).length
        let s := startLong s r 0x0403 x (.flush g.num) n 1 fun s => setRegion s g.num fun g => opBegun g .flush
        checkFlush s g.num

/-- SNAPSHOT_BEGIN (R314). -/
def execSnapshotBegin (r : Req) (region : U16) (s : State) : Res State :=
  .next <| command s r 0x0404 (regionReserved region 16) .session .service fun s x =>
    withRegion s r 0x0404 x region 16 fun g =>
      checked s r 0x0404 [(regionHeld g, .busy, 3), (g.snapshot ≠ 0, .conflict, 2), (closeQueued s, .busy, 4)] fun s =>
        requestClose (defer s x r) [{ change := .snapshotBegin g.num, req := some (r, 0x0404, x.num) }]

/-- SNAPSHOT_END (R314): ACCEPTED after the close; the scan reports at SNAPSHOT_SCAN_COMPLETE. -/
def execSnapshotEnd (r : Req) (region : U16) (s : State) : Res State :=
  .next <| command s r 0x0405 (regionReserved region 16) .session .service fun s x =>
    withRegion s r 0x0405 x region 16 fun g =>
      let open_ := g.snapshot ≠ 0 && !(longRuns s fun k => match k with | .snapshot n _ _ => n = g.num | _ => false)
      checked s r 0x0405 [(regionHeld g, .busy, 3), (!open_, .conflict, 2), (closeQueued s, .busy, 4), (longFull s, .busy, 2)] fun s =>
        let o : LongOp := { kind := .snapshot g.num g.snapshot 0, session := x.num, ch := r.ch, opcode := 0x0405, tag := r.tag, done := 0,
                            total := g.size / pageBytes, unit := 1 }
        requestClose ((defer s x r).onCmd fun c => { c with longOps := c.longOps ++ [o] }) [{ change := .snapshotEnd g.num, req := some (r, 0x0405, x.num) }]

/-- R314: runs of pages, as pairs of first page within the region and count. -/
def pageRuns : List Nat → List (Nat × Nat)
  | [] => []
  | k :: ks => match pageRuns ks with
    | (f, n) :: rest => if k + 1 = f then (k, n + 1) :: rest else (k, 1) :: (f, n) :: rest
    | [] => [(k, 1)]

/-- R314: the pages that a snapshot lists: epoch later than E_b and not later than E_e, in serial order; when the two lie
2^31 or more apart, every page that is not ZERO. -/
def snapshotPages (s : State) (g : Region) (eb ee : Nat) : List Nat :=
  ((regionPages g).zipIdx.filter fun (p, _) =>
    let e := foundEntry s p
    if 2 ^ 31 ≤ ee - eb then e.st ≠ .zero
    else laterSerial e.epoch (lo32 eb) && notLaterSerial e.epoch (lo32 ee)).map (·.2)

/-- SNAPSHOT_SCAN_COMPLETE (R314): the completion report lists the runs, and the record is cleared. -/
def execSnapshotScanComplete (region : U16) (s : State) : Res State :=
  let n := region.toNat
  match regionOf s n, s.cmd.longOps.findSome? fun o => match o.kind with | .snapshot r eb ee => if r = n && ee ≠ 0 then some (eb, ee) else none | _ => none with
  | some g, some (eb, ee) =>
    let runs := pageRuns (snapshotPages s g eb ee)
    let s := setRegion s n fun g => { g with snapshot := 0 }
    .next (endLongOf s (fun k => k = .snapshot n eb ee) (if 2 ^ 31 ≤ ee - eb then .partial_ else .ok) 0
      (runs.flatMap fun (f, k) => le 8 f ++ le 4 k ++ le 4 0))
  | _, _ => .next s

/-- GPF_PHASE2_REQUEST (R36, R62): joins the queued close; after the commit it completes with the Couch's own close. -/
def execGpfPhase2Request (head : Nat) (s : State) : Res State :=
  let j : Joined := { change := .gpf head, req := none }
  if s.couch.orch = .committed then
    match s.epochs.running with
    | some c => .next (s.onEpochs fun e => { e with running := some { c with joined := c.joined ++ [j] } })
    | none => .next (s.emit (.gpfDone head))
  else .next (requestClose s [j])

/-! ### Dynamic capacity on the host's side -/

/-- DC_RELEASE_RESPONSE (R81): the host acknowledges runs of a release; at the last one it completes. -/
def execDcReleaseResponse (head ld region : Nat) (runs : List (Nat × Nat)) (s : State) : Res State :=
  match (ldOf s head ld).bind fun d => d.releases.find? (·.region = region) with
  | none => .next s
  | some x =>
    let left := x.runs.filter fun k => !runs.contains k
    if left.isEmpty then .next (completeRelease s head ld x)
    else .next (setLd s head ld fun d =>
      { d with releases := d.releases.map fun y => if y = x then { x with runs := left } else y,
               held := d.held.filter fun h => !(h.1 = region && x.runs.contains h.2 && runs.contains h.2) })

/-- RELEASE_TIMEOUT (R81): what is left is released by force, an event is logged, and the release completes. -/
def execReleaseTimeout (head ld region : Nat) (s : State) : Res State :=
  match (ldOf s head ld).bind fun d => d.releases.find? (·.region = region) with
  | none => .next s
  | some x =>
    let s := s.emit (.releaseCapacity head ld region x.runs true)
    let s := s.eventFor 13 5 1 head ld region 0
    .next (completeRelease s head ld x)

end Sys2Proof.Machine
end

