-- ==== Sys2Proof/Machine/HostIO.lean ====
section
/-! DEFINITION. CXL: host reads and writes, HDM decoders, the FM API, dynamic capacity lists, links (R43 to R47, R77 to R82, R225, R263). -/

namespace Sys2Proof.Machine

/-! ### Decoding and classification (R78, R82) -/

/-- R78: the DPA that a committed decoder of the identity maps an address to. -/
def decodeHpa (s : State) (head ld hpa : Nat) : Option Nat :=
  match (ldOf s head ld).bind fun d => d.decoders.find? fun x => x.committed && x.hpaBase ≤ hpa && hpa < x.hpaBase + x.size with
  | some x => some (x.dpaBase + (hpa - x.hpaBase))
  | none => none

/-- R81: the access that an identity has: its grant, or what it keeps while its release runs. -/
def liveAccess (s : State) (r : Region) (head ld : Nat) : Access :=
  match accessOf r head ld with
  | .none => (((ldOf s head ld).bind fun d => d.releases.find? fun x => x.region = r.num && x.why = .grantNone).map (·.access)).getD .none
  | a => a

/-- R81, R84: the page lies in what a shrink removes, and the identity's release of it has completed. -/
def releasedByShrink (s : State) (r : Region) (head ld page : Nat) : Bool :=
  match shrinkSize s r.num with
  | some size => size / pageBytes ≤ (pageIndex r.runs page).getD 0 &&
      !(((ldOf s head ld).map fun d => d.releases.any fun x => x.region = r.num && x.why = .shrink).getD false)
  | none => false

/-- R82: the row that an access falls under. -/
inductive Row where
  | unmapped
  | violation (region : Nat)
  | readOnly (region : Region)
  | unkeyed (region : Region)
  | granted (region : Region)
  deriving DecidableEq, Repr

/-- R47, R265, R270: the region is served read-only whatever its grants. -/
def regionReadOnly (s : State) (r : Region) : Bool := s.regions.readOnly || !holdsToken r || r.mirror = .diverged

def classify (s : State) (head ld : Nat) (dpa : Option Nat) : Row :=
  match dpa with
  | none => .unmapped
  | some d => match regionOfPage s (d / pageBytes) with
    | none => .unmapped
    | some r =>
      let a := liveAccess s r head ld
      if regionGone s r (d / pageBytes) then .unmapped
      else if a = .none || releasedByShrink s r head ld (d / pageBytes) then .violation r.num
      else if unkeyed s r then .unkeyed r
      else if a = .readOnly || regionReadOnly s r then .readOnly r
      else .granted r

/-- R31, R38, R229: the port takes requests: its link is up and not in reset, and the Couch has not committed. -/
def portOpen (s : State) (head : Nat) : Bool :=
  s.cxl.linkUp.contains head && !s.cmd.resetPorts.contains head && (unitAt s (.port head)).st = .inService && s.couch.orch ≠ .committed && s.couch.orch ≠ .down

/-- R30, R34: requests of a port accepted and not completed. -/
def outstandingWrites (s : State) (port : Nat) : Nat := (s.cxl.reqs.filter fun q => q.write && q.port = port).length

/-! ### Write credit (R51, R171, R222 to R225, R263) -/

/-- R225: writes waiting for credit on a port; to mirrored regions alone, if asked. -/
def waitingWrites (s : State) (port : Nat) (mirrored : Bool) : Nat :=
  (s.cxl.waiting.filter fun w => w.1 = port && (!mirrored || w.2.2.2)).length

def allWaiting (s : State) (mirrored : Bool) : Nat := (s.cxl.waiting.filter fun w => !mirrored || w.2.2.2).length

/-- R225: a port's part of a grant rate in bytes per 10 ms, the present write counted among those that wait. -/
def portShare (s : State) (g port : Nat) (mirrored : Bool) : Nat :=
  max (g * (waitingWrites s port mirrored + 1) / (allWaiting s mirrored + 1)) (g / 32) / 100

/-- R225: a grant of one credit stays within a rate: the port's part of it and the whole. -/
def withinRate (s : State) (g port : Nat) (spent : List Nat) (mirrored : Bool) : Bool :=
  spent.getD port 0 + pageBytes ≤ portShare s g port mirrored && spent.sum + pageBytes ≤ g / 100

/-- R225: a credit in the port's pool covers the write. -/
def usePool (s : State) (port : Nat) : State :=
  s.onDeckle fun d => { d with pool := d.pool.modify port (· - 1), inUse := d.inUse.modify port (· + 1) }

/-- R225: a new credit covers the write, counted against the rates of this interval. -/
def newCredit (s : State) (port : Nat) (mirrored : Bool) : State :=
  s.onDeckle fun d => { d with inUse := d.inUse.modify port (· + 1), spent := d.spent.modify port (· + pageBytes),
                               spentM := if mirrored then d.spentM.modify port (· + pageBytes) else d.spentM }

/-- R51, R91, R171, R225, R263: write credit for one write, or none. -/
def creditFor (s : State) (port : Nat) (mirrored : Bool) : Option State :=
  let x := pressure s
  let xm := pairPressure s
  if stageExhausted s || (s.deckle.overcommitted && belowFreeFloor s) || (mirrored && 10000 ≤ xm) then none
  else if 0 < s.deckle.pool.getD port 0 then some (usePool s port)
  else if 256 ≤ s.deckle.inUse.getD port 0 || boundNow s < dirtyBytes s + pageBytes then none
  else
    let free := match grantRate s x with
      | none => true
      | some g => withinRate s g port s.deckle.spent false
    let freeM := !mirrored || match grantRate s xm with
      | none => true
      | some g => withinRate s g port s.deckle.spentM true
    if free && freeM then some (newCredit s port mirrored) else none

/-- R171, R222: the stage can take a write. -/
def stageReady (s : State) : Bool := stagePair s true && !stageExhausted s

/-- Whether a write is accepted, and with which credit. -/
def admitWrite (s : State) (port page : Nat) (mirrored : Bool) : Option (Bool × State) :=
  if 2048 ≤ outstandingWrites s port then none
  else if stagePathNow s then (if stageReady s then some (false, s) else none)
  else if mustStage s page && !stageReady s then none
  else (creditFor s port mirrored).map fun s => (true, s)

/-- R225: a write that was not accepted waits outside the device; one that was no longer does. -/
def stopWaiting (s : State) (head ld tag : Nat) : State :=
  s.onCxl fun c => { c with waiting := c.waiting.filter fun w => !(w.1 = head && w.2.1 = ld && w.2.2.1 = tag) }

def startWaiting (s : State) (head ld tag : Nat) (mirrored : Bool) : State :=
  (stopWaiting s head ld tag).onCxl fun c => { c with waiting := c.waiting ++ [(head, ld, tag, mirrored)] }

/-! ### CXL_MEM_READ and CXL_MEM_WRITE -/

def takeAge (s : State) : State := s.onCxl fun c => { c with nextAge := c.nextAge + 1 }

/-- CXL_MEM_READ (R82, R100). -/
def execCxlMemRead (head ld hostTag hpa : Nat) (s : State) : Res State :=
  if !portOpen s head then .next (s.emit (.noCredit head))
  else
    let dpa := decodeHpa s head ld hpa
    let line := dpa.getD 0 / 64
    let read (s : State) (r : Region) : State :=
      acceptReq (takeAge s)
        { age := s.cxl.nextAge, write := false, port := head, ld := ld, hostTag := hostTag, line := line, data := 0, be := 0, poison := false,
          epoch := s.epochs.current, region := r.num, accepted := s.now, st := .line, credit := false, needAck := false, localDone := false,
          twinAsked := false, mirrorTag := 0xFFFF, deadline := deadlineOf r, late := false, marked := false }
    match classify s head ld dpa with
    | .unmapped => .next ((s.emit (.readData head ld hostTag zeroLine)).eventFor 6 1 1 head ld 0xFFFF (dpa.getD 0))
    | .violation n => .next ((s.emit (.readData head ld hostTag zeroLine)).eventFor 6 2 1 head ld n (dpa.getD 0))
    | .readOnly r | .unkeyed r | .granted r => .next (read s r)

/-- R47: a write is discarded, its completion returned. -/
def discardWrite (s : State) (head ld hostTag code region dpa : Nat) : State :=
  ((stopWaiting s head ld hostTag).emit (.writeDone head ld hostTag)).eventFor 6 code 1 head ld region dpa

/-- R59: ASYNC bytes of one epoch that request a close, also while one runs. -/
def asyncLimit : Nat := 64 * 1024 * 1024

/-- R59: the write that reaches the limit requests a close. -/
def asyncClose (s : State) (before : Nat) : State :=
  if before < asyncLimit && asyncLimit ≤ s.epochs.asyncBytes then requestClose s [] else s

/-- CXL_MEM_WRITE (R43, R59, R82, R225): accepted with write credit, tagged with the current epoch, mirrored and placed. -/
def execCxlMemWrite (head ld hostTag hpa : Nat) (data : LineData) (be : BitVec 64) (poison : Bool) (s : State) : Res State :=
  if !portOpen s head then .next (s.emit (.noCredit head))
  else
    let dpa := decodeHpa s head ld hpa
    let d := dpa.getD 0
    match classify s head ld dpa with
    | .unmapped => .next (discardWrite s head ld hostTag 1 0xFFFF d)
    | .violation n => .next (discardWrite s head ld hostTag 2 n d)
    | .readOnly r => .next (discardWrite s head ld hostTag 3 r.num d)
    | .unkeyed r => .next (discardWrite s head ld hostTag 5 r.num d)
    | .granted r =>
      match admitWrite s head (d / pageBytes) (isMirrored r) with
      | none => .next ((startWaiting s head ld hostTag (isMirrored r)).emit (.noCredit head))
      | some (credit, s) =>
        let q : HostReq :=
          { age := s.cxl.nextAge, write := true, port := head, ld := ld, hostTag := hostTag, line := d / 64, data := data, be := be,
            poison := poison, epoch := s.epochs.current, region := r.num, accepted := s.now, st := .line, credit := credit, needAck := false,
            localDone := false, twinAsked := false, mirrorTag := 0xFFFF, deadline := none, late := false, marked := false }
        let before := s.epochs.asyncBytes
        let (s, q) := mirrorWrite (stopWaiting (takeAge s) head ld hostTag) r q
        let s := acceptReq s q
        .next (asyncClose s before)

/-- R27: an older request of the page, or one that the same unit turned away, waits to be served again. -/
def olderRetry (s : State) (q : HostReq) : Bool :=
  s.cxl.reqs.any fun o => o.st = .retry && (o.line / 64 = q.line / 64 || o.refuser = q.refuser) && decide (o.age < q.age)

/-- RETRY_RESPONSE (R27): the request is reissued with its age; requests of one page, and those that one unit turned away, are served in the order of their age. -/
def execRetryResponse (age : Nat) (s : State) : Res State :=
  match s.cxl.reqs.find? fun q => q.age = age && q.st = .retry with
  | some q => if olderRetry s q then .next s else .next (serve (dropReq s age) q)
  | none => .next s

/-- WRITE_CREDIT_IDLE_TIMEOUT (R48, R225): credits held 10 µs without a write are returned. -/
def execWriteCreditIdleTimeout (port : Nat) (s : State) : Res State :=
  .next (s.onDeckle fun d => { d with pool := d.pool.set port 0 })

/-- STREAM_TRACKER_TIMEOUT (R101): a tracker of the port closes. -/
def execStreamTrackerTimeout (port tracker : Nat) (s : State) : Res State :=
  .next (s.onCurd fun c => { c with trackers := c.trackers.filter fun x => !(some x = (c.trackers.filter (·.1 = port))[tracker]?) })

/-- DEADLINE_MARGIN_EXPIRY (R119): the fetch has not completed in time; the twin is asked. -/
def execDeadlineMarginExpiry (age : Nat) (s : State) : Res State :=
  match s.cxl.reqs.find? fun q => q.age = age && !q.write && q.st = .fetch with
  | some q => .next (if twinMayServe s q then askTwin s q else s)
  | none => .next s

/-! ### Decoders, the FM API and lists -/

/-- HDM_DECODER_COMMIT (R78): committed, or Error Not Committed. -/
def execHdmDecoderCommit (head ld index hpaBase dpaBase size ways : Nat) (s : State) : Res State :=
  let good := ways = 1 && hpaBase % hdmGranule = 0 && dpaBase % hdmGranule = 0 && size % hdmGranule = 0 && dpaBase + size ≤ dpaSpace
  let d : Decoder := { index := index, hpaBase := hpaBase, dpaBase := dpaBase, size := size, committed := good }
  .next ((setLd s head ld fun l => { l with decoders := insertBy (·.index) d l.decoders }).emit (.decoderResult head ld index good))

/-- GET_LD_INFO (R77): the head's count of LDs. -/
def execGetLdInfo (head : Nat) (s : State) : Res State := .next (s.emit (.ldInfo head (ldCount s head)))

/-- GET_LD_ALLOCATIONS (R77): the binding that HEADS fixes. -/
def execGetLdAllocations (head : Nat) (s : State) : Res State := .next (s.emit (.ldAllocations head (List.range (ldCount s head))))

/-- SET_LD_ALLOCATIONS (R77): Unsupported. -/
def execSetLdAllocations (head : Nat) (s : State) : Res State := .next (s.emit (.unsupported head))

/-- GET_DC_EXTENT_LIST (R79): the runs that the LD holds, one extent each. -/
def execGetDcExtentList (head ld : Nat) (s : State) : Res State :=
  .next (s.emit (.extentList head ld (((ldOf s head ld).map (·.held)).getD [])))

/-- SET_SHUTDOWN_STATE (R63): recorded in the Rind log, with no other effect. -/
def execSetShutdownState (_head _ld : Nat) (state : U8) (s : State) : Res State :=
  .next (rindWrite s 0x0A 0 state.toNat)

/-! ### Links -/

/-- R77, R331: the LDs that a head's link brings. -/
def headLds (s : State) (head : Nat) : List Nat := List.range (ldCount s head)

/-- R10, R331: the islands of a head's link: both of a joined pair. -/
def portIslands (s : State) (port : Nat) : List Island := if s.cxl.joined.contains port then [.hp port, .hp (port + 1)] else [.hp port]

/-- HOST_LINK_UP (R77, R80): the head is there; each of its identities is offered what is granted to it. The link of a fenced
port or of one that PORTS disables is held down (R331, R449). -/
def execHostLinkUp (port : Nat) (joined : Bool) (s : State) : Res State :=
  if !aboveCore s || (s.units.ports.getD port .reset).st ≠ .inService || !portEnabled s port || s.cxl.linkUp.contains port ||
      (port % 2 = 1 && s.cxl.joined.contains (port - 1)) then .next s
  else
    let s := s.onCxl fun c => { c with linkUp := c.linkUp ++ [port],
                                       joined := if joined && port % 2 = 0 then addNew c.joined port else c.joined.filter (· ≠ port) }
    let s := s.each (portIslands s port) fun s i => settleIsland s i false
    .next (s.each (headLds s port) fun s l => offerIdentity s port l)

/-- R280: the sessions of mailbox channels of a head end with its link, and the channels' streams with them. -/
def endMailboxes (s : State) (head : Nat) (only : Option Nat) : State :=
  let hit (ch : Chan) : Bool := match ch with | .mailbox h l => h = head && (only = none || only = some l) | _ => false
  let s := s.each (s.cmd.sessions.filter fun x => hit x.ch) fun s x => endSession s x.num false
  s.onCmd fun c => { c with channels := c.channels.filter fun x => !hit x.ch }

/-- R10, R78, R80, R280: what ends with a head's link; its islands are powered off. -/
def linkEnds (s : State) (port : Nat) : State :=
  let s := s.onCxl fun c => { c with linkUp := c.linkUp.filter (· ≠ port), waiting := c.waiting.filter (·.1 ≠ port) }
  let s := s.each ((s.cxl.lds.filter (·.head = port)).map (·.ld)) fun s l => endLd s port l
  (endMailboxes s port none).each (portIslands s port) fun s i => settleIsland s i true

/-- R13, R449: a fenced port's link is held down, and its island powered off, off every routing table. -/
def closePort (s : State) (i : Nat) : State := unroute (if s.cxl.linkUp.contains i then linkEnds s i else s) (.hp i)

/-- R38, R449: a host port is fenced: it takes no more requests, and closes when its accepted writes have completed. -/
def fencePort (s : State) (i : Nat) : State :=
  let s := setUnit (endInjections s (.port i)) (.port i) fun u => { u with st := .fenced }
  if outstandingWrites s i = 0 then closePort s i else s

/-- R38, R449: fenced ports whose accepted writes have completed close. -/
def finishFences (s : State) : State :=
  s.each ((List.range 16).filter fun i => (unitAt s (.port i)).st ≠ .inService && s.cxl.linkUp.contains i && outstandingWrites s i = 0) closePort

/-- HOST_LINK_DOWN (R78, R81, R280, R449): the sixteenth link-down in 60 s fences the port. -/
def execHostLinkDown (port : Nat) (s : State) : Res State :=
  if !s.cxl.linkUp.contains port then .next s
  else
    let s := linkEnds s port
    let s := s.onUnits fun u => { u with portDowns := (u.portDowns ++ [(port, s.now)]).filter fun d => s.now ≤ d.2 + 60000000000 }
    if 16 ≤ (s.units.portDowns.filter (·.1 = port)).length then
      .next (fencePort s port)
    else .next s

end Sys2Proof.Machine
end

