-- ==== Sys2Proof/Machine/Media.lean ====
section
/-! DEFINITION. Ream locations, blocks and slots: how a location decodes, where a page may be written, what a write of a slot does (R164 to R170, R178 to R183, R356, R359). -/

namespace Sys2Proof.Machine

def blockAt (s : State) (channel id : Nat) : Option Block := (flashAt s channel).blocks.find? (·.id = id)

/-! ### Areas and stripes (R162, R167 to R169, R181) -/

/-- R164, R168: the place of a slot in its block. -/
def slotIndex (l : BitVec 40) : Nat := 4 * locPage l + locSlot l

/-- R164: the place of a block in its LUN. -/
def lunOrdinal (t : Targets) (id : Nat) : Nat := id / 2 ^ 14 % 4096 * t.planes + id % 4

/-- R162: the first two good blocks of LUN 0 of a target are channel metadata. -/
def metaBlock (f : Flash) (t : Targets) (id : Nat) : Bool :=
  decide (id / 2 ^ 26 % 4 = 0) && decide (lunOrdinal t id - (f.blocks.filter fun b => b.bad && b.id / 2 ^ 26 = id / 2 ^ 26 && b.id < id).length < 2)

/-- R162: the block lies beyond 3 TiB of the channel's raw capacity. -/
def beyondRaw (t : Targets) (id : Nat) : Bool :=
  let place := ((targetNumbers t).findIdx (· = id / 2 ^ 28 % 8) * t.luns + id / 2 ^ 26 % 4) * (t.blocksPerPlane * t.planes) + lunOrdinal t id
  decide (3 * tib < (place + 1) * blockBytes t)

def reserveSeg : Seg → Bool
  | .image | .summary => true
  | .home | .directory | .rootLog | .stage | .regionMeta | .chanMeta => false

/-- R162, R181: another block of the channel may be opened for a use: no area has fixed blocks, each has its size; bad blocks are
over-provisioning's (log entry 163). -/
def areaRoom (f : Flash) (t : Targets) (seg : Seg) : Bool :=
  let count (p : Block → Bool) : Nat := (f.blocks.filter p).length
  let reserve := rawBytes f / 16 / blockBytes t
  if reserveSeg seg then decide (count (fun b => b.sequence ≠ 0 && !b.bad && reserveSeg b.seg) < reserve)
  else decide (count (fun b => b.bad || b.sequence ≠ 0 && !reserveSeg b.seg) + reserve + stageBlocksOf f + 2 * t.targets < rawBytes f / blockBytes t)

/-- R169: home data, directory pages and the root log lie in stripes of a group; a stage block is duplicated, and an image is striped in the
order of its pages (R235). -/
def striped : Seg → Bool
  | .home | .directory | .rootLog => true
  | .stage | .image | .summary | .regionMeta | .chanMeta => false

def stripeAt (s : State) (channel id : Nat) : Option Stripe := s.ream.stripes.find? (·.members.contains (channel, id))

/-- R162, R169, R180: an erased block that a stripe may take. -/
def blockFree (s : State) (channel id : Nat) : Bool :=
  match (flashAt s channel).targets with
  | some t => !metaBlock (flashAt s channel) t id && !beyondRaw t id && (stripeAt s channel id).isNone && ((blockAt s channel id).map fun b => decide (b.sequence = 0) && !b.bad).getD true
  | none => false

/-- R164: the block at a place of a LUN. -/
def blockNumber (t : Targets) (lun n : Nat) : Nat := lun * 2 ^ 26 + n / max 1 t.planes * 2 ^ 14 + n % max 1 t.planes

/-- R180, R181: a free block of a LUN: one that has never been erased, else the least erased. -/
def replacement (s : State) (channel lun : Nat) : Option Nat :=
  let f := flashAt s channel
  match f.targets with
  | none => none
  | some t =>
    let fresh (n : Nat) : Bool := (blockAt s channel (blockNumber t lun n)).isNone && blockFree s channel (blockNumber t lun n)
    match findFrom fresh (t.blocksPerPlane * t.planes) 0 with
    | some n => some (blockNumber t lun n)
    | none =>
      let used := f.blocks.filter fun b => b.id / 2 ^ 26 = lun && blockFree s channel b.id
      (used.find? fun b => b.erases = minOf (used.map (·.erases))).map (·.id)

/-- R169, R180: the block of a channel at a stripe's position: a bad one is replaced by another of its LUN. -/
def memberAt (s : State) (channel id : Nat) : Option (Nat × Nat) :=
  if blockFree s channel id then some (channel, id)
  else if ((blockAt s channel id).map (·.bad)).getD false then (replacement s channel (id / 2 ^ 26)).map fun n => (channel, n)
  else none

/-- R169: the stripe that opens at a location: the group's ONLINE channels, whose number fixes its width; none at a location that would be
its parity's, which the stripe sequence modulo the width gives (R167). -/
def newStripe (s : State) (l : BitVec 40) (seg : Seg) : Option Stripe :=
  let g := locChannel l / 12
  let members := (groupOnline s g).filterMap fun c => memberAt s c (blockId l)
  let seq := s.ream.stripeSeq.getD g 0
  let parity := members.getD (seq % members.length) (48, 0)
  if members.length = (groupOnline s g).length && decide (4 ≤ members.length) && members.contains (locChannel l, blockId l) && parity ≠ (locChannel l, blockId l) then
    some { group := g, seg := seg, seq := seq, width := members.length, parity := parity, members := members, closed := false }
  else none

/-- R169: a slot of a stripe's data members may be written at a location. -/
def stripeTakes (s : State) (l : BitVec 40) (seg : Seg) : Bool :=
  match stripeAt s (locChannel l) (blockId l) with
  | some p => p.seg = seg && !p.closed && p.parity ≠ (locChannel l, blockId l)
  | none => (newStripe s l seg).isSome

/-- R181: the lowest erase count of the erased blocks of a location's LUN; a block that is not listed has never been erased. -/
def lowestErased (s : State) (l : BitVec 40) : Nat :=
  let f := flashAt s (locChannel l)
  let here := f.blocks.filter fun b => b.id / 2 ^ 26 = lunOf l % 32
  let total := (f.targets.map fun t => t.planes * t.blocksPerPlane).getD 0
  if here.length < total then 0 else minOf ((here.filter fun b => b.sequence = 0 && !b.bad).map (·.erases))

/-- R162, R168: a slot of the block's data, in a block that is neither channel metadata nor beyond the raw capacity. -/
def placeGood (s : State) (l : BitVec 40) (seg : Seg) : Bool :=
  match (flashAt s (locChannel l)).targets with
  | some t => decide (slotIndex l < dataEnd t seg) && !metaBlock (flashAt s (locChannel l)) t (blockId l) && !beyondRaw t (blockId l)
  | none => false

/-- R162, R181: a block that is erased may be opened for a use: its area has room, and it is the LUN's least erased, unless its stripe has
taken it. -/
def mayOpen (s : State) (l : BitVec 40) (seg : Seg) (erases : Nat) : Bool :=
  let f := flashAt s (locChannel l)
  (stripeAt s (locChannel l) (blockId l)).isSome || (f.targets.map fun t => areaRoom f t seg).getD false && decide (erases ≤ lowestErased s l)

/-- R162, R164, R168, R169, R180, R181, R184: a location that a new page may take: in the geometry, of its area, behind what its block holds, in a
block that is neither bad nor of another use. -/
def freeLoc (s : State) (l : BitVec 40) (seg : Seg) : Bool :=
  validLoc s l && placeGood s l seg && !(s.ream.slots.any (·.loc = l)) && !((flashAt s (locChannel l)).deadTargets.contains (locTarget l)) &&
    (!striped seg || stripeTakes s l seg) &&
    match blockAt s (locChannel l) (blockId l) with
    | some b => b.sequence = 0 && !b.bad && mayOpen s l seg b.erases || b.sequence ≠ 0 && b.seg = seg && !b.bad && !b.erasing && !b.closed && decide (b.used ≤ slotIndex l)
    | none => mayOpen s l seg 0

/-- R183: the carrier lies inside the home window. -/
def homeWindow (c : Flash) : Bool := c.band = .home

/-- R183: an operation begun at a time runs inside the home window: the carrier lies in it, or has left it since. -/
def windowSince (c : Flash) (since : Nat) : Bool := homeWindow c || (c.leftHome.map fun t => decide (since ≤ t)).getD false

/-- R89, R169, R178, R183: programs begun at a time go to ONLINE channels of groups with at least 4, inside the home window. -/
def progTarget (s : State) (l : BitVec 40) (seg : Seg) (since : Nat) : Bool :=
  freeLoc s l seg && (flashAt s (locChannel l)).st = .online && windowSince (flashAt s (locChannel l)) since &&
    4 ≤ (groupOnline s (locChannel l / 12)).length

/-- A target of cleaning and moves that begin now. -/
def homeTarget (s : State) (l : BitVec 40) : Bool := progTarget s l .home s.now

/-- A target of a directory block's two pages. -/
def dirTarget (s : State) (l : BitVec 40) : Bool := progTarget s l .directory s.now && progTarget s (l + 1) .directory s.now && locSlot l ≠ 3

/-! ### Segment headers (R167) -/

def segCode : Seg → Nat
  | .home => 1 | .directory => 2 | .rootLog => 3 | .stage => 4 | .image => 5 | .summary => 6 | .regionMeta => 7 | .chanMeta => 8

/-- R6, R167: the 64 bytes of a segment header. -/
def headerBytes (b : Block) (poison : Bool) (region key first last channel width index time : Nat) : List Byte :=
  let body := le 2 1 ++ le 1 (segCode b.seg) ++ le 1 ((if b.closed then 1 else 0) + if poison then 2 else 0) ++ le 2 region ++ le 2 key ++ le 8 b.sequence ++
    le 8 first ++ le 8 last ++ le 4 b.generation ++ le 1 channel ++ le 1 width ++ le 2 index ++ le 8 time ++ le 8 ownSerial ++ le 4 0
  body ++ le 4 (crc32c body).toNat

/-- R6, R167: a header that its CRC validates. -/
def headerGood (h : List Byte) : Bool := h.length = 64 && ofLe (h.drop 60) = (crc32c (h.take 60)).toNat

def headerFirst (h : List Byte) : Nat := field h 16 8
def headerLast (h : List Byte) : Nat := field h 24 8

/-- R167: bytes of the header slot: the header, and its copy at byte 2,048. -/
def headerSlot (b : Block) : List Byte := b.header ++ List.replicate 1984 0 ++ b.copy ++ List.replicate 1984 0

/-- R167: the header of a block as its header slot gives it: the first of the two copies whose CRC holds. -/
def headerRead (b : Block) : Option (List Byte) := if headerGood b.header then some b.header else if headerGood b.copy then some b.copy else none

/-- R167: a header of a format version, a segment type or flags that the running image does not read. -/
def headerUnread (h : List Byte) : Bool := field h 0 2 ≠ 1 || field h 2 1 = 0 || decide (8 < field h 2 1) || decide (4 ≤ field h 3 1)

/-- R167: the two copies are programmed. -/
def withHeader (b : Block) (h : List Byte) : Block := { b with header := h, copy := h }

/-- R167, R169: the width of a block's stripe, and the position of its channel. -/
def stripeOf (s : State) (channel id : Nat) (seg : Seg) : Nat × Nat :=
  match stripeAt s channel id with
  | some p => (p.width, p.members.findIdx (· = (channel, id)))
  | none =>
    let mates := if reserveSeg seg then couchGroup s (channel / 12) else groupOnline s (channel / 12)
    (if seg = .stage then 2 else mates.length, (mates.findIdx? (· = channel)).getD 0)

/-- R167: the header of a block that takes a slot of a region, key word and epoch: of mixed ones it names none. -/
def stampBlock (s : State) (channel : Nat) (region key epoch : Nat) (poison : Bool) (b : Block) : Block :=
  let (w, i) := stripeOf s channel b.id b.seg
  let h := b.header
  withHeader b <|
    if h.isEmpty then headerBytes b poison region key epoch epoch channel w i s.now
    else headerBytes b (poison || 2 ≤ field h 3 1) (if field h 4 2 = region then region else 0xFFFF) (if field h 6 2 = key then key else 0)
      (min (headerFirst h) epoch) (max (headerLast h) epoch) channel (field h 37 1) (field h 38 2) (field h 40 8)

/-- R6, R167: the header of a block that closes. -/
def closedHeader (h : List Byte) : List Byte :=
  let body := h.take 3 ++ [h.getD 3 0 ||| 1] ++ (h.take 60).drop 4
  if h.isEmpty then h else body ++ le 4 (crc32c body).toNat

/-- R167, R179: a block is closed. -/
def closeBlock (now : Nat) (b : Block) : Block :=
  if b.closed then b else withHeader { b with closed := true, closedAt := now } (closedHeader b.header)

/-- An erased block. -/
def blankBlock (id : Nat) : Block :=
  { id := id, seg := .home, closed := false, sequence := 0, generation := 0, erasing := false, bad := false, suspect := [], erases := 0, eraseSince := 0, suspends := 0, closedAt := 0,
    header := [] }

/-- R183, R381: the reading of a carrier's mapped input, where that is enabled, kept and not failed. -/
def mappedReading (s : State) (carrier : Nat) : Option Int :=
  let k := carrierNtc s carrier
  if k < 12 then usedReading s (96 + k) else none

/-- R183, R381: a carrier's temperature: its own, else the hottest mapped one, else 25.0 °C assumed. -/
def carrierTemp (s : State) (carrier : Nat) : Option Int :=
  match mappedReading s carrier with
  | some t => some t
  | none => maxInt ((List.range 16).filterMap (mappedReading s))

def flashTemp (s : State) (channel : Nat) : Int := (carrierTemp s (carrierOf s channel)).getD 250

/-- R167: a block is listed, and opened for a use with the channel's next sequence, unless it is open. -/
def listBlock (s : State) (channel id : Nat) (seg : Seg) (generation : Nat) : State :=
  setFlash s channel fun c =>
    let list := if c.blocks.any (·.id = id) then c.blocks else c.blocks ++ [blankBlock id]
    let opens := !(c.blocks.any fun b => b.id = id && b.sequence ≠ 0)
    { c with nextSeq := if opens then c.nextSeq + 1 else c.nextSeq,
             blocks := list.map fun b => if b.id = id && opens then { b with seg := seg, sequence := c.nextSeq, generation := generation, closed := false, header := [], copy := [], used := 0 } else b }

/-- R167, R183: the header follows the tag of a slot that has been programmed, and the temperature is recorded. -/
def stampAt (s : State) (channel id slot region key epoch : Nat) (poison : Bool) : State :=
  setFlash s channel fun c => { c with blocks := c.blocks.map fun b =>
    if b.id = id then { stampBlock s channel region key epoch poison b with temp := flashTemp s channel, used := max b.used (slot + 1) } else b }

/-- R169: the stripe of a location that opens, with its parity block. -/
def openStripe (s : State) (l : BitVec 40) (seg : Seg) : State :=
  if !striped seg || (stripeAt s (locChannel l) (blockId l)).isSome then s
  else match newStripe s l seg with
    | none => s
    | some p =>
      let s := s.onReam fun r => { r with stripes := r.stripes ++ [p], stripeSeq := r.stripeSeq.modify p.group (· + 1) }
      stampAt (listBlock s p.parity.1 p.parity.2 seg 0) p.parity.1 p.parity.2 0 0xFFFF 0 s.epochs.current false

/-- R168, R169: with its last data slot a block closes; with its last data block a stripe closes, parity included. -/
def closeFull (s : State) (l : BitVec 40) (seg : Seg) : State :=
  let c := locChannel l
  let close (s : State) (m : Nat × Nat) : State := setFlash s m.1 fun f => { f with blocks := f.blocks.map fun b => if b.id = m.2 then closeBlock s.now b else b }
  if !((flashAt s c).targets.map fun t => decide (slotIndex l + 1 = dataEnd t seg)).getD false then s
  else
    let s := close s (c, blockId l)
    match stripeAt s c (blockId l) with
    | none => s
    | some p =>
      let full := p.members.all fun m => m = p.parity || ((blockAt s m.1 m.2).map (·.closed)).getD false
      if full then (close s p.parity).onReam fun r => { r with stripes := r.stripes.map fun x => if x = p then { x with closed := true } else x } else s

/-- R167 to R169: the block of a written slot, and its stripe, open with their first slot, and close with their last. -/
def openBlock (s : State) (l : BitVec 40) (seg : Seg) (generation region key epoch : Nat) (poison : Bool) : State :=
  let c := locChannel l
  closeFull (stampAt (listBlock (openStripe s l seg) c (blockId l) seg generation) c (blockId l) (slotIndex l) region key epoch poison) l seg

def slotAt (s : State) (l : BitVec 40) : Option Slot := s.ream.slots.find? (·.loc = l)

/-- R477: the 64-bit epoch that a 32-bit one names, later or earlier than the current epoch in serial-number order. -/
def wideEpoch (s : State) (e : U32) : Nat :=
  let n := s.epochs.current + (e - lo32 s.epochs.current).toNat
  if s.epochs.current + 2 ^ 31 ≤ n && 2 ^ 32 ≤ n then n - 2 ^ 32 else n

/-- R166: bits of the key word. -/
def keyBits (k : Nat × Nat × Bool) : Nat := k.1 + 1024 * (k.2.1 % 4) + if k.2.2 then 4096 else 0

/-- R166, R359: the key word of a new slot of a region: key slot, generation, cipher on. -/
def keyWord (s : State) (region : Nat) : Nat × Nat × Bool :=
  match regionOf s region with
  | some r => match slotOfRegion s region with
    | some k => if flagCipher r.flags then (k.slot, k.generation, true) else (0, 0, false)
    | none => (0, 0, false)
  | none => (0, 0, false)

/-! ### Slots at rest (R165, R166, R355) -/

/-- The 4,096 bytes of a page. -/
def pageImage (d : PageData) : List Byte := (List.range 64).flatMap fun i => le 64 (lineIn d i).data.toNat

/-- R166, R436: the line poison mask. -/
def poisonMask (d : PageData) : Nat := (d.map fun x => if x.2.poison then 2 ^ x.1 else 0).sum

/-- R165, R355: the data of a slot as the codeword stores it: of a region with cipher on the ciphertext, with the page number as tweak. -/
def storedBytes (s : State) (x : Slot) : List Byte :=
  if x.cipher then xtsEncipher (((keySlotAt s x.keySlot).bind fun k => (k.keys.find? (·.1 = x.keyGen)).map (·.2)).getD []) x.page (pageImage x.data) else pageImage x.data

/-- R166: the 64 bytes of a slot tag. -/
def tagBytes (s : State) (x : Slot) : List Byte :=
  let mask := poisonMask x.data
  let body := le 6 x.page ++ le 2 x.region ++ le 8 x.epoch ++ le 2 (keyBits (x.keySlot, x.keyGen, x.cipher)) ++ le 1 (if mask = 0 then 0 else 1) ++ [0] ++
    le 4 x.generation ++ le 8 mask ++ List.replicate 24 0 ++ le 4 (crc32c (storedBytes s x)).toNat
  body ++ le 4 (crc32c body).toNat

/-- R166: a data slot's tag, its CRCs checked, with no reserved value. -/
def tagAccepted (tag : List Byte) : Bool :=
  tag.length = 64 && field tag 60 4 = (crc32c (tag.take 60)).toNat && decide (field tag 0 6 ≤ 0x5FFFFFFFF) && field tag 6 2 ≠ 0xFFFF &&
    decide (field tag 16 2 < 2 ^ 13) && decide (field tag 18 1 < 4) && (field tag 24 8 ≠ 0) == (field tag 18 1 % 2 = 1)

/-- R168: the summary entry of a slot. -/
def summaryEntry (x : Slot) : List Byte :=
  le 6 x.page ++ le 2 x.region ++ le 4 x.epoch ++ le 2 (keyBits (x.keySlot, x.keyGen, x.cipher)) ++ le 1 (if poisonMask x.data = 0 then 0 else 1) ++ [0]

/-- R165, R166: a slot written. A home slot that held the page before is invalid; a reserve slot stands until its generation
is erased. -/
def writeSlot (s : State) (x : Slot) (old : BitVec 40) : State :=
  let s := openBlock s x.loc (if x.generation = 0 then .home else .image) x.generation x.region (keyBits (x.keySlot, x.keyGen, x.cipher)) x.epoch (x.data.any (·.2.poison))
  s.onReam fun r =>
    { r with slots := (r.slots.filter fun y => y.loc ≠ x.loc && !(y.loc = old && y.generation = 0)) ++ [x] }

/-- R356: a slot copied with its tag unchanged to another location. -/
def copySlot (s : State) (old new : BitVec 40) : State :=
  match slotAt s old with
  | some x => writeSlot s { x with loc := new, generation := 0 } old
  | none => s

/-- R360, R365: a cipher request of the page's key slot is in flight, at a priority; its end is CIPHER_PASS_COMPLETE. A fetch takes its
deciphering pass within REAM_FETCH_COMPLETE, in the order of fetches (log entry 146). -/
def cipherRequest (s : State) (region level : Nat) : State :=
  match slotOfRegion s region with
  | some k => if (keyWord s region).2.2 then setKeySlot (queueCipher s (some k.slot) k.generation level) k.slot fun k => { k with inflight := k.inflight + 1 } else s
  | none => s

/-! ### The Deckle (R49, R51, R91, R219 to R224) -/

/-- R99, R108: the page holds a dirty or FILLING line, its charge message is on its way, or a request of it is queued in its channel. -/
def pageBusy (s : State) (page : Nat) : Bool :=
  (s.curd.lines.any fun l => l.addr / 64 = page && l.st ≠ .clean) || (s.curd.evicts.any fun e => e.addr / 64 = page && e.dirty) ||
    (s.ppu.charges.any (·.page = page)) || pageQueued s page

/-- R51, R171, R225, R312: write credit for a line that the device writes itself (holder: log entry 21), or none. -/
def ownCredit (s : State) : Option (Bool × State) :=
  if stagePathNow s then (if stageReady s then some (false, s) else none)
  else if stageExhausted s || (s.deckle.overcommitted && belowFreeFloor s) || 10000 ≤ pressure s || boundNow s < dirtyBytes s + pageBytes then none
  else some (true, s.onFelt fun f => { f with credits := f.credits.modify 0 (· + 1) })

/-- R105, R312: a line of a ZERO_LINES is accepted once credit covers it, tagged with the epoch, mirrored and placed as a host's write. -/
def acceptZero (s : State) (q : HostReq) : State :=
  match ownCredit s, regionOf s q.region with
  | some (credit, t), some g =>
    let before := t.epochs.asyncBytes
    let (t, q) := mirrorWrite (dropReq t q.age) g { q with epoch := t.epochs.current, accepted := t.now, credit := credit, st := .line }
    asyncClose (serve t q) before
  | _, _ => s

/-- R312: the lines of ZERO_LINES that wait for credit, oldest first. -/
def wakeCredit (s : State) : State := s.each (s.cxl.reqs.filter (·.st = .credit)) acceptZero

/-- R224: cleaning demand in units of 0.0001. -/
def demandOf (s : State) (x : Nat) : Nat :=
  if x < 5000 then 0 else if x < onset s then (x - 5000) * 10000 / (onset s - 5000) else 10000

/-- R114, R115: queued pages are dropped while the free pool is below half its target; the fetches of pins are not prefetches. -/
def dropPrefetches (s : State) : State :=
  if freeTarget s / 2 ≤ freeFrames s then s
  else
    let drop (f : Fetch) : Bool := f.prefetch && !f.kept && !pageBusy s f.page && !(entry s f.page).charged
    let gone := s.ppu.fetches.filter drop
    let s := s.onPpu fun p => { p with fetches := p.fetches.filter fun f => !drop f }
    let s := s.each gone fun s f =>
      let s := if (validFrame s f.page).isNone then dropFrame s f.page else s
      let e := entry s f.page
      putQuiet s { e with st := if e.st = .moving then e.prev else e.st, frame := none }
    s.onCmd fun c => { c with sessions := c.sessions.map fun x => { x with prefetches := [] } }

/-- R51, R91, R221, R224, R225: what follows from the bound: demand, grants, and the events of risk, overcommit and pack current. -/
def deckleJudge (s : State) : State :=
  let x := pressure s
  let c := s.deckle.capacity
  let s := s.onDeckle fun d => { d with demand := demandOf s x, grant := grantRate s x, grantM := grantRate s (pairPressure s) }
  let risk := c < dirtyBytes s
  let s := if risk && !s.deckle.atRisk then s.event 9 2 2 (detail := dirtyBytes s - c) else s
  let over_ := homeCapacity s < allocated s
  let s := if over_ && !s.deckle.overcommitted then s.event 13 1 2 (detail := allocated s - homeCapacity s) else s
  let pack := (s.sal.id.map (·.packId)).getD 0
  let s := if packCurrentExceeded s && s.deckle.packCurrentLogged ≠ pack then
      (s.event 9 3 1 (detail := couchPower s)).onDeckle fun d => { d with packCurrentLogged := pack } else s
  wakeCredit (dropPrefetches (s.onDeckle fun d => { d with atRisk := risk, overcommitted := over_ }))

/-- R49, R50, R219, R221: the bound as its inputs stand now, rises included; channels that have become fit join the Couch set. -/
def deckleBound (s : State) : State :=
  let s := s.onReam fun r => { r with ch := r.ch.map fun c => { c with joined := couchFit c } }
  let s := s.onReam fun r => { r with imageCapacity := imageCapacity s }
  let (c, ct) := couchCapacity s
  let (b, bt) := dirtyBound s
  deckleJudge (s.onDeckle fun d => { d with capacity := c, cTerm := ct, bound := b, bTerm := bt, stagePath := onStagePath s })

/-- R50, R51, R91: an immediate event: what falls applies now, what rises waits for the next 10 ms. -/
def deckleImmediate (s : State) : State :=
  let s := s.onReam fun r => { r with ch := r.ch.map fun c => { c with joined := c.joined && couchFit c } }
  let s := s.onReam fun r => { r with imageCapacity := min r.imageCapacity (imageCapacity s) }
  let (c, ct) := couchCapacity s
  let (b, bt) := dirtyBound s
  deckleJudge (s.onDeckle fun d =>
    { d with capacity := min d.capacity c, cTerm := if c < d.capacity then ct else d.cTerm, bound := min d.bound b,
             bTerm := if b < d.bound then bt else d.bTerm, stagePath := d.stagePath || onStagePath s })

/-- R49, R224: one recompute of every 10 ms, with the cleaning rate of the last. -/
def deckleRecompute (s : State) : State :=
  deckleBound (s.onDeckle fun d => { d with rateClean := d.cleaned * 100, cleaned := 0, spent := List.replicate 16 0, spentM := List.replicate 16 0 })

/-! ### Grown bad blocks (R180, R182) -/

/-- R180: valid slots of a block: the Ream locations of pages. -/
def validSlots (s : State) (channel id : Nat) : List Slot :=
  s.ream.slots.filter fun x => locChannel x.loc = channel && blockId x.loc = id && (entry s x.page).loc = x.loc

/-- R172, R180: slots of a block that are in use: of pages, and of directory pages. -/
def liveSlots (s : State) (channel id : Nat) : Nat :=
  (validSlots s channel id).length + (s.ream.root.filter fun x => x.2.1 ≠ 0 && locChannel x.2.1 = channel && blockId x.2.1 = id).length

/-- R170, R179: no slot that a stripe's parity covers is in use: the parity of the others would be lost with any of its blocks. -/
def stripeIdle (s : State) (channel id : Nat) : Bool :=
  match stripeAt s channel id with
  | some p => p.members.all fun m => liveSlots s m.1 m.2 = 0
  | none => liveSlots s channel id = 0

/-- R169: an erased block leaves its stripe. -/
def leaveStripe (s : State) (channel id : Nat) : State :=
  s.onReam fun r => { r with stripes := (r.stripes.map fun p => { p with members := p.members.filter (· ≠ (channel, id)) }).filter fun p => !p.members.isEmpty }

/-- R170, R184: the stripes that are open at a commit are abandoned. -/
def abandonStripes (s : State) : State :=
  s.onReam fun r => { r with stripes := r.stripes.map fun p => { p with closed := true },
                             ch := r.ch.map fun c => { c with blocks := c.blocks.map fun b => if striped b.seg && b.sequence ≠ 0 then closeBlock s.now b else b } }

/-- R138: the channel of a location may read a page: the limit of the RESTRICTED band is not reached. -/
def moveSlots (s : State) (no : Nat) : Bool := !slotLimit s (no % 16) 0 && !slotLimit s (no % 16) 1

/-- R72: a page enters MOVING. A vacate does not change D (R152): the entry is written with no charge of its block. -/
def startMove (s : State) (page : Nat) (kind : MoveKind) (data : PageData) (target : BitVec 40) : State :=
  let e := entry s page
  (if kind = .vacate then putQuiet else putEntry) (s.onPpu fun p => { p with moves := p.moves ++ [{ page := page, kind := kind, data := data, epoch := e.epoch, target := target, since := s.now, order := s.ream.stageOrder }] })
    { e with prev := e.st, st := .moving, wrote := false }

/-- R27, R72: a clean or a move of a page in MOVING gets a retry response. -/
def retryMove (s : State) (page : Nat) (kind : MoveKind) (loc : BitVec 40) : State :=
  (s.onPpu fun p => { p with retried := addNew p.retried { page := page, kind := kind, loc := loc } }).emit (.retryResponse page)

/-- R72, R179, R180: the moves of a block's valid slots start; those of pages in MOVING get a retry response. -/
def startMoves (s : State) (channel id : Nat) (kind : MoveKind) : State :=
  s.each (validSlots s channel id) fun s x => if (entry s x.page).st = .moving then retryMove s x.page kind x.loc else startMove s x.page kind x.data 0

/-- R170, R229: cleaning and moves run: no Couch has committed. -/
def cleaningRuns (s : State) : Bool := s.couch.orch = .serving || s.couch.orch = .armed

/-- R71, R89: the next page of a DRAINING channel whose move starts: the lowest that is HOME or CLEAN. A DIRTY page is cleaned to another
channel (R110), a COUCHED one is folded. -/
def drainCandidate (s : State) (channel : Nat) : Option Nat :=
  (s.ppu.dir.find? fun e => e.loc ≠ 0 && locChannel e.loc = channel && !e.charged && (e.st = .home || e.st = .clean)).map (·.page)

/-- R71, R87, R89: on each DRAINING channel one page is MOVING at a time (log entry 71). -/
def beginDrain (s : State) (channel : Nat) : State :=
  let runs := s.ppu.moves.any fun m => m.kind = .drain && locChannel (entry s m.page).loc = channel
  if (flashAt s channel).st ≠ .draining || s.cmd.safe || !cleaningRuns s || runs then s
  else
    let s := s.each ((s.ppu.dir.filter fun e => e.unresolved && e.loc ≠ 0 && locChannel e.loc = channel).map (·.page)) resolveBlock
    match drainCandidate s channel with
    | some page => startMove s page .drain ((slotAt s (entry s page).loc).map (·.data) |>.getD []) 0
    | none => s

def beginDrains (s : State) : State := s.each (List.range 48) beginDrain

/-! ### Vacating locations of a DRAM channel (R152) -/

/-- R148, R151, R153, R157: a location that is vacated: of a VACATING channel, or withheld. -/
def leaves (s : State) (no : Nat) : Bool :=
  (dramAt s (no % 16)).st = .vacating || locationWithheld s (dramAt s (no % 16)) (no / 16)

/-- R152, R154: the frame of a clean, unpinned and uncharged page is released as under R108. -/
def releaseClean (s : State) (page : Nat) : State :=
  let s := invalidatePage (dropFrame s page) page
  let e := entry s page
  putEntry s { e with st := if e.loc = 0 then .zero else .home, frame := none }

/-- R152: what is released where it stands, when no request of it is queued. -/
def released (s : State) (f : Frame) : Bool :=
  let e := entry s f.page
  f.valid && e.st = .clean && !e.charged && !e.pinned && !isStaged s f.page

/-- R152: of the frames on a channel that leave, those of clean, unpinned, uncharged pages are released; of the others one is copied at
a time (log entry 71), until a Couch commits (R153). -/
def vacateStep (s : State) (c : Nat) : State :=
  let here := s.ppu.frames.filter fun f => f.no % 16 = c && leaves s f.no
  let s := s.each (here.filter fun f => released s f && !pageQueued s f.page) fun s f => releaseClean s f.page
  let runs := s.ppu.moves.any fun m => m.kind = .vacate && here.any (·.page = m.page)
  if runs || !cleaningRuns s then s
  else match here.find? fun f => f.valid && !released s f && (entry s f.page).st ≠ .moving && moveSlots s f.no with
    | some f => startMove (pageCommand s f.no) f.page .vacate [] 0
    | none => s

/-- R437: a page with a poisoned line. -/
def poisonedData (d : PageData) : Nat := if d.any (·.2.poison) then 1 else 0

/-- R437: the page as its frame, or its Ream copy, holds it has a poisoned line. -/
def pagePoisoned (s : State) (page : Nat) : Nat :=
  match validFrame s page with
  | some f => poisonedData f.data
  | none => ((slotAt s (entry s page).loc).map fun x => poisonedData x.data).getD 0

/-- The moves that channels of the Ream and the Vat wait for begin. -/
def beginMoves (s : State) : State := (beginDrains s).each (List.range 16) vacateStep

/-- R152: a free frame on another ONLINE channel. -/
def frameElsewhere (s : State) (c : Nat) : Option Nat :=
  (((List.range 16).filter (· ≠ c)).filterMap (freeOnChannel s)).foldl (fun best n => match best with | none => some n | some b => some (min b n)) none

/-- R152: the least time in ns in which a page is read within the migration rate: 32 bursts of each subchannel. -/
def migrationTime (s : State) (c : Nat) : Nat := 3200000 / max 1 (issueSlots (dramAt s c) * migrationPercent s)

/-! ### The order of LUN operations (R161, R177) -/

/-- R173, R177: the block's erase is queued. -/
def queueErase (now : Nat) (b : Block) : Block := { b with erasing := true, eraseSince := now, suspends := 0 }

/-- R161: an operation on the LUN of a location has ended: one issued after an overrun has succeeded. -/
def targetAnswers (s : State) (l : BitVec 40) (kind : NandKind := .program) : State :=
  setFlash s (locChannel l) fun f => { f with overruns := f.overruns.filter (· ≠ { target := locTarget l, lun := locLun l, kind := kind }) }

/-- R177: no fetch from the same LUN goes before this one. -/
def fetchFirst (s : State) (f : Fetch) : Bool :=
  s.ppu.fetches.all fun g => g.page = f.page || pageLun s g.page ≠ pageLun s f.page || !rankBefore (fetchRank s g) (fetchRank s f)

/-- R177: the block of a LUN whose erase was issued before a fetch and still runs. -/
def eraseBefore (s : State) (lun : Nat) (f : Fetch) : Option Block :=
  let c := flashAt s (lun / 32)
  let limit := (c.targets.map (·.eraseNs)).getD 0
  c.blocks.find? fun b => b.erasing && !b.bad && b.id / 2 ^ 26 = lun % 32 && b.eraseSince ≤ f.issued && s.now < b.eraseSince + limit &&
    (!s.couch.eraseHold || decide (b.eraseSince < s.couch.heldAt)) && (validSlots s (lun / 32) b.id).isEmpty

/-- R175, R177: the erase may be suspended for the fetch: a level-2 read that would miss its deadline, suspend declared and enabled, and
at most twice. -/
def maySuspend (s : State) (lun : Nat) (f : Fetch) (b : Block) : Bool :=
  match (flashAt s (lun / 32)).targets, pageDeadline s f.page with
  | some t, some d => t.suspend && suspendEnabled s && b.suspends < 2 && !f.prefetch && decide (d < b.eraseSince + t.eraseNs + 12500)
  | _, _ => false

/-- R177: the fetch, where its LUN has issued it; an erase that it suspends counts it. -/
def fetchIssued (s : State) (f : Fetch) : Option State :=
  let lun := pageLun s f.page
  if !fetchFirst s f then none
  else match eraseBefore s lun f with
    | none => some s
    | some b =>
      if maySuspend s lun f b then
        some (setFlash s (lun / 32) fun c => { c with blocks := c.blocks.map fun x => if x = b then { x with suspends := x.suspends + 1 } else x })
      else none

/-- R177: a demand read of the LUN that was issued no later than a program or erase goes before it. -/
def readsWait (s : State) (lun since : Nat) : Bool :=
  s.ppu.fetches.any fun f => !f.prefetch && pageLun s f.page = lun && f.issued ≤ since

/-- R162, R163, R182: extents by which a channel's home share falls: what its bad blocks leave of its over-provisioning, a larger channel's
excess in it and a narrower stripe's parity not, below its part of the free floor. -/
def lostShare (s : State) (channel : Nat) : Nat :=
  let c := { flashAt s channel with lost := 0 }
  match c.targets with
  | none => 0
  | some t =>
    let raw := rawBytes c
    let own := homeShare c
    let share := minOf (own :: ((groupOnline s (channel / 12)).filter (· ≠ channel)).map fun k => homeShare (flashAt s k))
    let taken := share + share / 256
    let spare := raw - taken - taken / (groupWidth s (channel / 12) - 1) - raw / 128 - raw / 16 - 2 * t.targets * blockBytes t
    let need := (c.blocks.filter (·.bad)).length * blockBytes t + raw * 119 / 128 * 3 / 100
    if need ≤ spare then 0 else (own - share + (need - spare) + extentBytes - 1) / extentBytes

/-- R180: an open stripe goes on in a replacement block of the same LUN. -/
def replaceMember (s : State) (channel id : Nat) : State :=
  match stripeAt s channel id, replacement s channel (id / 2 ^ 26) with
  | some p, some n =>
    let swap (m : Nat × Nat) : Nat × Nat := if m = (channel, id) then (channel, n) else m
    if p.closed then s
    else s.onReam fun r => { r with stripes := r.stripes.map fun x => if x = p then { x with parity := swap x.parity, members := x.members.map swap } else x }
  | _, _ => s

/-- R91, R180, R182: a block becomes a grown bad block: its valid slots are moved and it is used no more; the home capacity is judged. -/
def growBad (s : State) (channel id : Nat) : State :=
  let s := setFlash s channel fun c =>
    let list := if c.blocks.any (·.id = id) then c.blocks
      else c.blocks ++ [{ blankBlock id with closed := true, sequence := c.nextSeq }]
    { c with blocks := list.map fun b => if b.id = id then { closeBlock s.now b with bad := true, erasing := false } else b }
  let s := replaceMember s channel id
  let s := s.event 5 5 1 (unitWord 4 channel) (detail := id)
  let s := deckleImmediate (setFlash s channel fun c => { c with lost := lostShare s channel })
  startMoves s channel id .relocate

/-! ### Rebuild from parity (R169, R176, R187) -/

/-- R87, R186: a block can be read: its channel is in service, and its target answers. -/
def blockReadable (s : State) (m : Nat × Nat) : Bool :=
  let f := flashAt s m.1
  (f.st = .online || f.st = .draining) && !f.deadTargets.contains (m.2 / 2 ^ 28 % 8)

/-- R169, R187, R235: the other slots of the location's stripe can be read; of an image the other channels of its group that hold blocks. -/
def recoverable (s : State) (l : BitVec 40) : Bool :=
  match stripeAt s (locChannel l) (blockId l) with
  | some p => p.members.all fun m => m = (locChannel l, blockId l) || blockReadable s m
  | none => (groupChannels (locChannel l / 12)).all fun c => c = locChannel l || (flashAt s c).blocks.isEmpty || blockReadable s (c, blockId l)

/-- R187: a rebuilt slot goes to a stripe of its channel's group, or of another where that has fewer than 4 ONLINE channels (R169). -/
def rebuildTarget (s : State) (old new : BitVec 40) : Bool :=
  homeTarget s new && (locChannel new / 12 = locChannel old / 12 || decide ((groupOnline s (locChannel old / 12)).length < 4))

/-! ### Channel states (R87) -/

/-- R87, R440: the state of a flash channel changes; the event carries the old state, the new one and the cause. -/
def flashState (s : State) (channel : Nat) (st : FlashSt) (cause : Nat) : State :=
  let old := (flashAt s channel).st
  let s := setFlash s channel fun c => { c with st := st, cause := if st = .failed then cause else 0 }
  let s := settleIsland s (.fc channel) (st = .absent || st = .drained)
  if old = st then s
  else s.event 5 2 (if st = .failed then 2 else 0) (unitWord 4 channel) (detail := changeDetail (flashCode old) (flashCode st) cause)

end Sys2Proof.Machine
end

