-- ==== Sys2Proof/Machine/CurdPpu.lean ====
section
/-! DEFINITION. The Curd's modes and drains, evictions, page charges, fetches, cleaning, reclaim and moves; the Deckle's recompute; TIER_PIN to ZERO_LINES (R93 to R123, R221 to R225, R311, R312). -/

namespace Sys2Proof.Machine

/-! ### Drains (R121 to R123) -/

/-- R312: the reply of CACHE_CONTROL. -/
def cacheReply (s : State) : List Byte :=
  [BitVec.ofNat 8 (modeCode s.curd.configured), BitVec.ofNat 8 (modeCode s.curd.effective), s.curd.forcing.setWidth 8, if s.curd.draining.isSome then 1 else 0]

/-- `count` errors of a unit, counted. -/
def countErrors (s : State) (u : UnitId) (uncorrectable : Bool) (count : Nat) : State :=
  s.each (List.range count) fun s _ => countError s u uncorrectable

/-- R449: correctable errors of an engine's memory, counted, with their time. -/
def engineErrors (s : State) (e count : Nat) : State :=
  (countErrors s (.engine e) false count).onUnits fun u =>
    { u with engineCorr := (u.engineCorr.filter fun x => s.now < x.2 + 1000000000) ++ List.replicate count (e, s.now) }

/-- R451: what an injection does at once: the device reads a line that holds no data itself, and writes poison itself; all else
waits for the unit's next eligible operation. On a slice the drain that the injection forces comes first (R121 step 5). -/
def applyInjection (s : State) (i : Injection) : State :=
  let done (s : State) : State := s.onCmd fun c => { c with injections := c.injections.erase i }
  let line := i.dpa / 64
  let slice : Bool := match i.unit with | .slice _ => true | _ => false
  if slice && s.curd.draining.isSome then s
  else match i.unit, i.kind with
  | .engine e, 0 => done (engineErrors s e i.left)
  | .slice k, 0 => if i.dpa = 0 then done (s.each (List.range i.left) fun s _ => sliceCorrected s k) else readInjected s line
  | .slice k, 1 => if i.dpa = 0 then done (s.each (List.range i.left) fun s _ => sliceSpoiled s k) else readInjected s line
  | .slice _, 2 => if i.dpa = 0 then done s else readInjected s line
  | .dram c, 0 => if i.dpa = 0 then done (countErrors s (.dram c) false i.left) else s
  | .dram c, 1 => if i.dpa = 0 then done (countErrors s (.dram c) true i.left) else s
  | .dram _, 2 => done (if i.dpa = 0 then s else setFrame s (line / 64) fun f => { f with data := putLine f.data (line % 64) poisonLine })
  | _, _ => s

/-- R121 step 5: what a forcing condition's operation waited for is over: injections on slices begin. -/
def releaseForced (s : State) : State :=
  s.each (s.cmd.injections.filter fun i => match i.unit with | .slice _ => true | _ => false) applyInjection

/-- CURD_DRAIN_COMPLETE (R121 steps 3 to 5, R122, R123): the last dirty line is acknowledged; toward OFF the lines are
invalidated and the ports bypass the slices; the request that began the drain is answered, what forced it proceeds, and the mode may go back. -/
def execCurdDrainComplete (s : State) : Res State :=
  let s := bypassSlices (walkDrain s)
  match s.curd.draining with
  | none => .next s
  | some t =>
    if s.curd.lines.any (·.st = .dirty) || s.curd.evicts.any (·.dirty) then .next s
    else if t = .off && s.curd.lines.any (·.st = .filling) then .next s
    else
      let s := s.onCurd fun c => { c with draining := none, lines := if t = .off then [] else c.lines, evicts := if t = .off then [] else c.evicts, off := t = .off }
      let s := if t = .off then s.each ((List.range 16).map Island.cu) unroute else s
      let q := s.curd.drainReq
      let s := s.onCurd fun c => { c with drainReq := none }
      let s := answerJoined s q .ok 0 (match q with | some (_, op, _) => if op = 0x0304 then cacheReply s else [] | none => [])
      .next (finishCloses (retarget (releaseForced s)))

/-- CURD_SLICE_POWER_UP_DONE (R97): the slices serve again, their tags cleared. -/
def execCurdSlicePowerUpDone (s : State) : Res State :=
  .next (if s.curd.powering then
      (s.each (((List.range 16).filter fun i => (unitAt s (.slice i)).st = .inService).map Island.cu) reroute).onCurd fun c =>
        { c with powering := false, lines := [], plru := [] }
    else s)

/-! ### Evictions and write acknowledgements (R102) -/

/-- EVICTION_OFFER (R102): the Vat's answer to the oldest entry of the line that has not been offered. -/
def execEvictionOffer (line : Nat) (s : State) : Res State :=
  match s.curd.evicts.find? fun e => e.addr = line && !e.offered with
  | none => .next s
  | some e =>
    let page := line / 64
    if e.dirty then
      let s := s.onCurd fun c => { c with evicts := c.evicts.map fun x => if x = e then { e with offered := true } else x }
      match validFrame s page with
      | some _ => .next (chargePage (writeFrame s line e.data false) page e.epoch)
      | none => .next s
    else
      let s := setFrame s page fun f => if f.valid then { f with referenced := true } else f
      .next (s.onCurd fun c => { c with evicts := c.evicts.filter (· ≠ e) })

/-- R43, R53, R54: the channel has the line of a write-through: it completes, in a stage where the stage path has come into force. -/
def throughPlaced (s : State) (q : HostReq) : State :=
  match if mustStage s (q.line / 64) then heldLine s q.line else none with
  | some l => stageLine s { q with credit := false } l
  | none => localPlaced s q

/-- R102: what the channel has of a line is no longer held for it: its entries that were written retire, and its write-throughs complete. -/
def retireWrites (s : State) (line : Nat) : State :=
  let s := s.onCurd fun c => { c with evicts := c.evicts.filter fun e => !(e.addr = line && e.dirty && e.offered) }
  s.each (s.cxl.reqs.filter fun q => q.line = line && q.st = .dramWrite) throughPlaced

/-- DRAM_WRITE_ACK (R43, R102, R121, R132, R133): the subchannel serves the line's write, which has waited for the burst that a partial
write reads first (R146): the eviction entry retires, or the write-through completes. -/
def execDramWriteAck (line : Nat) (s : State) : Res State :=
  match lineBank s line with
  | none => .next s
  | some p =>
    match nextRequest s p.channel (line % 2) true with
    | none => .next s
    | some d =>
      if d.line ≠ line || d.rmw then .next s
      else
        let s := columnCommand s p.channel p.bank p.row false
        let s := watermark (setDram s p.channel fun c => { c with queue := c.queue.erase d }) p.channel (line % 2)
        .next (walkDrain (retireWrites s line))

/-- CURD_FILL_ARRIVAL (R94, R100): the line read from its frame arrives in the slice. -/
def execCurdFillArrival (line : Nat) (s : State) : Res State :=
  match validFrame s (line / 64) with
  | none => .next s
  | some f =>
    if (dramAt s (frameChannel f.no)).queue.any fun d => d.line = line && !d.write && d.curd then .next s
    else .next (fillLine s line (frameLine f line))

/-! ### Page charge messages (R98, R99) -/

/-- R99: the page's fetch runs as a demand, and the page has its frame if one is free. -/
def demandFrame (s : State) (page : Nat) : State :=
  let s := startFetch s page false
  match assignFrame s page with
  | some (n, s) => putQuiet s { entry s page with frame := some n }
  | none => s

/-- R98, R99: the frame of a page that holds a dirty line: FILLING or VALID; none while no frame is free (R109). -/
def frameForCharge (s : State) (page : Nat) : Option State :=
  if (validFrame s page).isSome then some s
  else match (entry s page).st with
    | .zero => zeroAllocate s page
    | .lost => poisonAllocate s page
    | _ =>
      let s := demandFrame s page
      if (frameOf s page).isSome then some s else none

/-- PAGE_CHARGE_MESSAGE: the page is charged, or its credit goes back; it takes its frame. A message whose page finds no free
frame waits (R109), as does one whose directory block must be read (R111). -/
def execPageChargeMessage (page : Nat) (s : State) : Res State :=
  match s.ppu.charges.find? (·.page = page) with
  | none => .next s
  | some m =>
    if blockAbsent s page then .next (fetchBlock s (blockOf page))
    else
      let t := touchDirectory (s.onPpu fun p => { p with charges := p.charges.erase m }) page
      let t := if (entry t page).st = .lost then t else formStaged t page
      match frameForCharge t page with
      | none => .next s
      | some t => .next (pageArrived (chargeFor t page m.epoch m.port true) page)

/-! ### What was turned away (R27, R72) -/

/-- R360: cleaning of a region whose slot is exhausted stops. -/
def slotExhausted (s : State) (region : Nat) : Bool := ((slotOfRegion s region).map (·.exhausted)).getD false

/-- R110, R138: a page that cleaning may take now: dirty or staged, not MOVING, with its frame VALID on a channel that may read it. -/
def cleanable (s : State) (page : Nat) : Bool :=
  let e := entry s page
  e.st ≠ .moving && (e.charged || e.st = .dirty || isStaged s page) && !slotExhausted s e.region && ((validFrame s page).map fun f => moveSlots s f.no).getD false

/-- R71, R110: the page's dirty lines are gathered into its frame, which is read for the program, and the page is MOVING. -/
def beginClean (s : State) (page : Nat) : State :=
  let t := gatherPage s page
  match validFrame t page with
  | none => s
  | some f => cipherRequest (startMove (pageCommand t f.no) page .clean f.data 0) (entry t page).region 4

/-- R27, R72: a clean or a move that was turned away starts, with its age, unless it has nothing left to do. -/
def resumeMove (s : State) (x : Retried) : State :=
  let e := entry s x.page
  if e.st = .moving then s
  else
    let s := s.onPpu fun p => { p with retried := p.retried.erase x }
    if !cleaningRuns s then s
    else match x.kind with
      | .clean => if cleanable s x.page then beginClean s x.page else s
      | k => match slotAt s x.loc with
        | some y => if e.loc = x.loc then startMove s x.page k y.data 0 else s
        | none => s

/-- R72: the move or fetch of a page has ended: what was turned away of it goes on, the first to come first. -/
def resumeMoves (s : State) (page : Nat) : State := s.each (s.ppu.retried.filter (·.page = page)) resumeMove

/-! ### Fetches (R107, R120, R176, R243) -/

/-- R114, R309: a D0 fill ends when every page is resident. -/
def checkFill (s : State) (page : Nat) : State :=
  match regionOfPage s page with
  | some r => if r.opns.contains .d0fill && (notResident s r).isEmpty then
      endLongOf (setRegion s r.num fun r => opEnded r .d0fill) (fun k => k = .d0fill r.num) .ok 0 []
    else s
  | none => s

/-- R115: the page is no longer queued for prefetch. -/
def dropPrefetch (s : State) (page : Nat) : State :=
  s.onCmd fun c => { c with sessions := c.sessions.map fun x => { x with prefetches := x.prefetches.filter (· ≠ page) } }

/-- R72, R107, R243: the frame is filled and the entry leaves MOVING: CLEAN, or DIRTY if a write arrived. -/
def fetchDone (s : State) (page : Nat) (d : PageData) : State :=
  match assignFrame s page with
  | none => s
  | some (n, s) =>
    let s := fillFrame (s.onPpu fun p => { p with fetches := p.fetches.filter (·.page ≠ page) }) page d
    let e := entry s page
    let cleaning := s.ppu.moves.any (·.page = page)
    let st : DirState := match e.st with
      | .moving => if cleaning then .moving else if e.wrote then .dirty else .clean
      | .home | .couched => .clean
      | x => x
    let e' := { e with st := st, frame := some n, wrote := if st = .moving then e.wrote else false }
    let s := if e.prev = .couched && !e.wrote then putQuiet s e' else putEntry s e'
    beginMoves (resumeMoves (checkFill (pageArrived (dropPrefetch s page) page) page) page)

/-- R90, R120, R479: a fetch that fails for good: the page is LOST and its reads return poison, those of staged lines what is staged. -/
def fetchLost (s : State) (page : Nat) : State :=
  let s := s.onPpu fun p => { p with fetches := p.fetches.filter (·.page ≠ page) }
  let s := losePage (dropFrame s page) page
  let kept (s : State) (line : Nat) : Line := (stagedLine s line).getD poisonLine
  let s := match validFrame s page with
    | some _ => pageArrived s page
    | none =>
      let s := s.each (s.curd.lines.filter fun c => c.addr / 64 = page && c.st = .filling) fun s c => fillLine s c.addr (kept s c.addr)
      let s := s.each (s.cxl.reqs.filter fun q => q.line / 64 = page && q.st = .fetch && !q.write) fun s q => answerRead s q (kept s q.line)
      wakeFrame s page
  resumeMoves (checkFill s page) page

/-- R176, R180: the block of a slot recovered at step 3 is suspect; the second time in 24 h it is a grown bad block. -/
def suspectBlock (s : State) (l : BitVec 40) : State :=
  let again (b : Block) : Block := { b with suspect := (b.suspect.filter fun t => decide (s.now < t + 86400000000000)) ++ [s.now] }
  let s := setFlash s (locChannel l) fun c => { c with blocks := c.blocks.map fun b => if b.id = blockId l then again b else b }
  match blockAt s (locChannel l) (blockId l) with
  | some b => if 2 ≤ b.suspect.length && !b.bad then growBad s (locChannel l) b.id else s
  | none => s

/-- R111, R172, R242: an image of a block is out of date: the root names the block's copy. -/
def dropBlockImage (s : State) (extent : Nat) : State :=
  s.onReam fun r => { r with generations := r.generations.map fun g =>
    { g with pages := g.pages.map fun x => if x.1 = directoryBase + extent then (deadPage, x.2) else x } }

/-- R172: the two pages of a block stand at a location: their root entries, with their write counts, and two records of the root log. -/
def enterDirectory (s : State) (e : Nat) (loc : BitVec 40) : State :=
  let count (p : Nat) : Nat := (((s.ream.root.find? (·.1 = p)).map (·.2.2)).getD 0 + 1) % 2 ^ 24
  let s := [loc, loc + 1].foldl (fun s l => openBlock s l .directory 0 0 0 s.epochs.current false) s
  logRoot s [(2 * e, loc, count (2 * e)), (2 * e + 1, loc + 1, count (2 * e + 1))]

/-- R176, R437: step 3 of the recovery of a directory block: its parity gives it, and it is written to a new location or waits for its
cleaning; or every page of it is LOST. -/
def blockRecovered (s : State) (extent : Nat) (newLoc : Option (BitVec 40)) (come : State → State) : State :=
  let loc := (blockHome s extent).getD 0
  let page := directoryBase + extent
  let spoilt := (countError s (.flash (locChannel loc)) true).event 5 3 1 (unitWord 4 (locChannel loc)) 0 (page * pageBytes) page
  match newLoc.filter fun _ => recoverable s loc with
  | some l =>
    let s := come spoilt
    if dirTarget s l && (s.ream.generations.all fun g => !(g.pages.any (·.1 = page))) then enterDirectory s extent l
    else s.onPpu fun p => { p with dirtyBlocks := addNew p.dirtyBlocks extent }
  | none =>
    let s := logRoot (dropBlockImage spoilt extent) [(2 * extent, 0, 0), (2 * extent + 1, 0, 0)]
    come (loseDirectory s (directoryCovers (2 * extent) ++ directoryCovers (2 * extent + 1)))

/-- R166: the tag of a slot of a directory block: region 0x0000. -/
def blockTagged (tag : List Byte) : Bool := tagAccepted tag && field tag 6 2 = 0

/-- R111, R120, R172, R176, R437: the read of a directory block has ended: the block is loaded, and what waited for it goes on. One recovered
by parity is written to its new location, or waits for its cleaning; of one that is lost every page is LOST. -/
def blockFetched (s : State) (extent : Nat) (outcome : FetchOutcome) : State :=
  let loc := (blockHome s extent).getD 0
  let unit := UnitId.flash (locChannel loc)
  let s := (targetAnswers s loc .read).onPpu fun p => { p with fetches := p.fetches.filter (·.page ≠ directoryBase + extent) }
  let come (s : State) : State := if (regionOfExtent s extent).isSome then loadBlock s extent else s
  wakeBlock (match outcome with
    | .decoded => come s
    | .misread tag newLoc => if blockTagged tag then come s else blockRecovered s extent newLoc come
    | .retried | .soft => withInjection s unit 0 fun s => come (countError s unit false)
    | .rebuilt newLoc => withInjection s unit 1 fun s => blockRecovered s extent (some newLoc) come
    | .lost => blockRecovered s extent none come) extent

/-- R176: step 3: the slot's parity gives it, its block is suspect, and it is rewritten at a new location, whose parity PAGE_MOVE_END awaits
(R170); or the page is LOST. -/
def slotRecovered (s : State) (page : Nat) (x : Slot) (newLoc : Option (BitVec 40)) : State :=
  let e := entry s page
  let unit := UnitId.flash (locChannel e.loc)
  let s := countError s unit true
  match newLoc.filter fun _ => recoverable s e.loc with
  | none => fetchLost s page
  | some l =>
    let s := suspectBlock (s.event 5 3 1 (unitIdWord unit) e.region (page * pageBytes) page) e.loc
    let s := fetchDone s page x.data
    if rebuildTarget s e.loc l && (entry s page).st ≠ .moving && (entry s page).loc = e.loc && cleaningRuns s then startMove (writeSlot s { x with loc := l, generation := 0 } 0) page .rebuild x.data l else s

/-- R183: reads use the level for the difference between the temperature now and that recorded at program. -/
def chooseLevel (s : State) (l : BitVec 40) : State :=
  let was := ((blockAt s (locChannel l) (blockId l)).map (·.temp)).getD 250
  setFlash s (locChannel l) fun f => { f with level := Config.readLevel (flashTemp s (locChannel l) - was) }

/-- R70, R166: a tag that names the page and its region. -/
def pageTagged (tag : List Byte) (page region : Nat) : Bool := tagAccepted tag && field tag 0 6 = page && field tag 6 2 = region

/-- REAM_FETCH_COMPLETE (R70, R107, R111, R120, R166, R176, R177, R183): in the order in which its LUN issues reads, the fetch ends as the media
gave it; a slot whose tag is refused, or names another page or region, is a media error, which goes to step 3: the parity of a slot whose own
tag names another gives the same slot. -/
def execReamFetchComplete (page : Nat) (outcome : FetchOutcome) (s : State) : Res State :=
  match (s.ppu.fetches.find? (·.page = page)).bind (fetchIssued s) with
  | none => .next s
  | some s =>
    let e := entry s page
    let unit := UnitId.flash (locChannel e.loc)
    if directoryBase ≤ page then .next (blockFetched s (page - directoryBase) outcome)
    else match (slotAt s e.loc).filter fun x => x.page = page && x.region = e.region with
    | none => .next (fetchLost (if (slotAt s e.loc).isSome then countError s unit true else s) page)
    | some x =>
      let s := chooseLevel (targetAnswers s e.loc .read) e.loc
      match outcome with
      | .decoded => .next (fetchDone s page x.data)
      | .misread tag newLoc => .next (if pageTagged tag page e.region then fetchDone s page x.data else slotRecovered s page x newLoc)
      | .retried | .soft => .next (withInjection s unit 0 fun s => fetchDone (countError s unit false) page x.data)
      | .rebuilt newLoc => .next (withInjection s unit 1 fun s => slotRecovered s page x (some newLoc))
      | .lost => .next (slotRecovered s page x none)

/-! ### Cleaning (R110, R170, R178) -/

/-- R110: a stream window's trailing edge waits on the page. -/
def edgeWaits (s : State) (page : Nat) : Bool :=
  match regionOfPage s page with
  | some r => flagStream r.flags && edgeHeld s r ((pageIndex r.runs page).getD 0)
  | none => false

/-- R110: fewer than 25 % of the stage's pages are erased. -/
def stageLow (s : State) : Bool := 4 * stageFreePages s < stageTotalPages s

/-- R110: the epoch by which cleaning orders a page: its directory epoch; of a directory block that of its newest entry
(DESIGN CHOICE, log entry 156). -/
def cleanEpoch (s : State) (page : Nat) : U32 :=
  if directoryBase ≤ page then ((s.ppu.dir.filter fun e => blockOf e.page = page - directoryBase).map (·.epoch)).foldl raiseEpoch 0 else (entry s page).epoch

/-- R110: the cleaning class of a page, 1 first; directory blocks are cleaned like any data page (R111). -/
def cleanClass (s : State) (page : Nat) : Nat :=
  let e := entry s page
  let dirty := e.charged || e.st = .dirty
  let hot := ((frameOf s page).map fun f => decide ((dramAt s (frameChannel f.no)).band = .restricted)).getD false
  if directoryBase ≤ page then 5
  else if dirty && edgeWaits s page then 1
  else if dirty && hot then 2
  else if dirty && e.loc ≠ 0 && (flashAt s (locChannel e.loc)).st = .draining then 3
  else if isStaged s page && stageLow s then 4 else 5

/-- R110: a page goes before another: of a lower class, or, in classes 4 and 5, of an older directory epoch. -/
def cleanBefore (s : State) (a b : Nat) : Bool :=
  let x := cleanClass s a
  let y := cleanClass s b
  x < y || (x = y && 4 ≤ x && laterSerial (cleanEpoch s b) (cleanEpoch s a))

/-- R110, R479: a staged page without a frame, which takes one when cleaning takes it. -/
def frameless (s : State) (page : Nat) : Bool :=
  let e := entry s page
  isStaged s page && e.st ≠ .moving && (frameOf s page).isNone && (freeFrame s).isSome && !(s.ppu.fetches.any (·.page = page)) && !slotExhausted s e.region

/-- R110, R111: the pages that cleaning chooses from: dirty pages, staged pages, and dirty directory blocks. -/
def cleanPages (s : State) : List Nat :=
  (((s.ppu.dir.filter fun e => e.charged || e.st = .dirty).map (·.page)) ++ s.ppu.stageIndex).filter (fun p => cleanable s p || frameless s p) ++
    s.ppu.dirtyBlocks.map (directoryBase + ·)

/-- R110: no page goes before this one. -/
def cleanFirst (s : State) (page : Nat) : Bool := !((cleanPages s).any fun o => cleanBefore s o page)

/-- R479: a staged page that has no frame takes one when cleaning takes it: of zeros, of poison, or by its fetch. -/
def frameForClean (s : State) (page : Nat) : State :=
  let s := formStaged s page
  let e := entry s page
  if !isStaged s page then s
  else if e.st = .lost then
    match assignFrame s page with
    | some (n, s) => putEntry (fillFrame s page poisonPage) { entry s page with st := .dirty, frame := some n, charged := true }
    | none => s
  else if (frameOf s page).isNone && needsFetch e then startFetch s page false else s

/-- PAGE_CLEAN_START (R71, R72, R110, R479): cleaning takes the page, if R110 puts no other before it. -/
def execPageCleanStart (page : Nat) (s : State) : Res State :=
  if !cleaningRuns s || directoryBase ≤ page then .next s
  else
    let e := entry s page
    let due := e.charged || e.st = .dirty || isStaged s page || e.wrote
    if e.st = .moving then .next (if due && (validFrame s page).isSome then retryMove s page .clean e.loc else s)
    else if !cleanFirst s page then .next s
    else
      let s := frameForClean s page
      .next (if cleanable s page then beginClean s page else s)

/-- R479: the stage records gathered before the program of a home copy, which holds their lines or newer ones, become invalid. -/
def retireStaged (s : State) (page mark : Nat) : State :=
  let keep (x : StageRec) : StageRec := if x.line / 64 = page && x.order < mark then { x with valid := false } else x
  let s := s.onReam fun r => { r with stage := r.stage.map keep }
  if isStaged s page then s else s.onPpu fun p => { p with stageIndex := p.stageIndex.filter (· ≠ page) }

/-- R72, R229: an entry as a directory page carries it to the media: a move that runs is undone; what the frame and the Deckle
know of the page stays behind. -/
def mediaEntry (e : DirEntry) : DirEntry :=
  { e with st := if e.st = .moving then (if e.wrote then .dirty else e.prev) else e.st, prev := .free, wrote := false, frame := none,
           charged := false, unresolved := true, pinned := false }

/-- R172, R233: the entries of an extent's block stand on the media as they are now; of a generation that left the block out they are newer
(log entry 139). -/
def storeBlock (s : State) (extent : Nat) : State :=
  let now := (s.ppu.dir.filter fun e => blockOf e.page = extent).map mediaEntry
  s.onReam fun r =>
    { r with dirCopy := now.foldl (fun l e => insertBy (·.page) e l) (r.dirCopy.filter fun e => blockOf e.page ≠ extent),
             generations := r.generations.map fun g => { g with manifest := if g.pages.any (·.1 = directoryBase + extent) then g.manifest else g.manifest.filter (· ≠ extent) } }

/-- R111, R170, R172: a directory block or the root log tail is home; 4 GiB of root log bring a full checkpoint: its charge is dropped; a block's two pages enter the root. -/
def directoryClean (s : State) (page : Nat) (loc : BitVec 40) : State :=
  if page = rootTailPage then
    let pages := (s.regions.rootTail.length + 255) / 256
    writeTail ((openBlock s loc .rootLog 0 0 0 s.epochs.current false).onDeckle fun d => { d with cleaned := d.cleaned + pages * pageBytes }) s.regions.rootTail.length
  else
    let e := page - directoryBase
    if !s.ppu.dirtyBlocks.contains e then s
    else enterDirectory (((storeBlock (dropBlockImage s e) e).onDeckle fun d => { d with cleaned := d.cleaned + 2 * pageBytes }).onPpu fun p => { p with dirtyBlocks := p.dirtyBlocks.filter (· ≠ e) }) e loc

/-- PAGE_CLEAN_COMPLETE (R71, R117, R170): the home copy is covered by parity: the new location is entered and the charge
dropped, unless a write arrived meanwhile. -/
def execPageCleanComplete (page : Nat) (loc : BitVec 40) (s : State) : Res State :=
  if directoryBase ≤ page then .next (if dirTarget s loc && cleaningRuns s && (page = rootTailPage || cleanFirst s page) then directoryClean s page loc else s)
  else match s.ppu.moves.find? fun m => m.page = page && m.kind = .clean with
    | none => .next s
    | some m =>
      if !progTarget s loc .home m.since || readsWait s (lunOf loc) m.since then .next s
      else
        let e := entry s page
        let (ks, kg, on) := keyWord s e.region
        let s := writeSlot (targetAnswers s loc) { loc := loc, page := page, region := e.region, epoch := wideEpoch s m.epoch, keySlot := ks, keyGen := kg, cipher := on,
                                                   generation := 0, data := m.data } e.loc
        let s := s.onPpu fun p => { p with moves := p.moves.erase m }
        let s := s.onDeckle fun d => { d with cleaned := d.cleaned + pageBytes }
        let e' := { e with loc := loc, keyGen := BitVec.ofNat 2 kg, st := if e.wrote then .dirty else .clean, wrote := false, charged := e.wrote }
        let s := progressLong s (· = .flush e.region) 1 (poisonedData m.data)
        .next (beginMoves (checkFlush (resumeMoves (retireStaged (putEntry s e') page m.order) page) e.region))

/-! ### Reclaim (R108) -/

/-- R108, R116: the reclaim class of a page. -/
def reclaimClass (s : State) (page : Nat) : Nat :=
  match regionOfPage s page with
  | none => 1
  | some r =>
    if flagStream r.flags && outsideWindows s r ((pageIndex r.runs page).getD 0) then 1
    else match flagWeight r.flags with | 2 => 2 | 1 => 4 | _ => 3

/-- R108: a frame that may be reclaimed. -/
def reclaimable (s : State) (page : Nat) : Bool :=
  let e := entry s page
  (validFrame s page).isSome && e.st = .clean && !e.charged && !e.pinned && !isStaged s page && !pageBusy s page

/-- R106, R109: after a frame is free, requests and fetches that wait for one go on. -/
def wakeAll (s : State) : State :=
  s.each (s.cxl.reqs.filter fun q => q.st = .frame && q.write && match (entry s (q.line / 64)).st with | .zero | .lost => true | _ => false)
    fun s q => serve (dropReq s q.age) q

/-- FRAME_RECLAIM (R108): while the pool is below half its target, in class order, the clock sweep passing over a referenced
frame once. The rule does not say how far a reclaim goes on: it ends with the pool at half its target (DESIGN CHOICE, log entry 132). -/
def execFrameReclaim (page : Nat) (s : State) : Res State :=
  let others := s.ppu.frames.any fun f => reclaimable s f.page && reclaimClass s f.page < reclaimClass s page
  if freeTarget s / 2 ≤ freeFrames s || !reclaimable s page || others then .next s
  else match frameOf s page with
    | some f =>
      if f.referenced then .next (setFrame s page fun f => { f with referenced := false })
      else
        let s := invalidatePage (dropFrame s page) page
        .next (wakeAll (putEntry s { entry s page with st := .home, frame := none }))
    | none => .next s

/-! ### Group 0x03 (R311, R312) -/

/-- R311: the refusals of a range: offset a multiple of the unit, length nonzero and a multiple, not beyond the size. -/
def rangeChecks (g : Region) (offset length unit : Nat) : List (Bool × Status × Nat) :=
  [(offset % unit ≠ 0, .range, 24), (length = 0 || length % unit ≠ 0, .range, 32), (g.size < offset + length, .range, 32)]

/-- TIER_PIN (R113, R114). -/
def execTierPin (r : Req) (region : U16) (offset length : U64) (s : State) : Res State :=
  .next <| command s r 0x0301 (regionReserved region 16) .session .fromLift fun s x =>
    withRegion s r 0x0301 x region 16 fun g =>
      let pages := rangePages g offset.toNat length.toNat
      checked s r 0x0301 (rangeChecks g offset.toNat length.toNat 4096 ++
          [(regionHeld g, .busy, 3), (decide (pinLimit s < pinWould s pages), .noSpace, 5), (decide (256 ≤ x.pins.length), .noSpace, 6)]) fun s =>
        let h := s.cmd.nextHandle
        let p : Pin := { handle := h, region := g.num, offset := offset.toNat, length := length.toNat }
        let s := s.onCmd fun c => { c with nextHandle := (h + 1) % 2 ^ 32 }
        let s := setSession s x.num fun x => { x with pins := x.pins ++ [p] }
        let s := s.each pages resolveBlock
        let missing := (pages.filter fun p => (validFrame s p).isNone && needsFetch (entry s p)).length
        ok (s.each pages pinPage) r 0x0301 (le 4 h ++ le 4 missing)

/-- TIER_UNPIN (R311, R312). -/
def execTierUnpin (r : Req) (handle : U32) (s : State) : Res State :=
  .next <| command s r 0x0302 none .session .fromLift fun s x =>
    checked s r 0x0302 [(!(x.pins.any (·.handle = handle.toNat)), .range, 16)] fun s =>
      ok (endPins s x.num (·.handle = handle.toNat)) r 0x0302 []

/-- TIER_PREFETCH (R115): at most 4,096 pages queued per session; a page resident or ZERO is not counted. -/
def execTierPrefetch (r : Req) (region : U16) (offset length : U64) (s : State) : Res State :=
  .next <| command s r 0x0303 (regionReserved region 16) .session .fromLift fun s x =>
    withRegion s r 0x0303 x region 16 fun g =>
      checked s r 0x0303 (rangeChecks g offset.toNat length.toNat 4096 ++ [(regionHeld g, .busy, 3)]) fun s =>
        let s := s.each (rangePages g offset.toNat length.toNat) resolveBlock
        let want := (rangePages g offset.toNat length.toNat).filter fun p =>
          (frameOf s p).isNone && needsFetch (entry s p) && !x.prefetches.contains p
        let take := want.take (4096 - x.prefetches.length)
        let kept := if freeFrames s < freeTarget s / 2 then [] else take
        let s := setSession s x.num fun x => { x with prefetches := x.prefetches ++ kept }
        let s := s.each kept fun s p => startFetch s p true
        reply s r 0x0303 (if take.length < want.length then .partial_ else .ok) 0 (le 4 take.length)

/-- CACHE_CONTROL, a change of the configured mode (R95 to R97, R121, R122): a stricter effective mode answers when the drain ends. -/
def execCacheControlSet (r : Req) (mode : U8) (s : State) : Res State :=
  .next <| command s r 0x0304 (if 3 < mode.toNat then some (.reservedField, 16) else none) .owner .fromLift fun s x =>
    if mode = 3 then ok s r 0x0304 (cacheReply s)
    else
      let m : Mode := if mode = 0 then .wb else if mode = 1 then .wt else .off
      checked s r 0x0304 [(s.curd.draining.isSome && m ≠ s.curd.configured, .busy, 5)] fun s =>
        let s := retarget (s.onCurd fun c => { c with configured := m })
        if s.curd.draining.isSome && s.curd.drainReq.isNone then
          (defer s x r).onCurd fun c => { c with drainReq := some (r, 0x0304, x.num) }
        else ok s r 0x0304 (cacheReply s)

/-- CACHE_CONTROL, query without change (R311, R312). -/
def execCacheControlQuery (r : Req) (s : State) : Res State :=
  .next <| command s r 0x0304 none .owner .fromLift fun s _ => ok s r 0x0304 (cacheReply s)

/-- R45, R105: requests of a page that is made ZERO: reads return zeros, and writes accepted before have their place under the zeros. -/
def settleZero (s : State) (page : Nat) : State :=
  let s := s.onVat fun v => { v with ch := v.ch.map fun c => { c with queue := c.queue.filter fun d => d.line / 64 ≠ page } }
  s.each (s.cxl.reqs.filter fun q => q.line / 64 = page && q.st ≠ .stage && q.st ≠ .mirror && q.st ≠ .credit) fun s q =>
    if q.write then localPlaced (if q.st = .dramWrite then s else releaseCredit s q) q else answerRead s q zeroLine

/-- R105: a page made ZERO: its lines and frame are gone, its charge dropped; the entry holds the command's own epoch (R312). -/
def zeroPage (s : State) (page : Nat) : State :=
  let s := dropFrame (invalidatePage (settleZero (touchDirectory s page) page) page) page
  let s := s.onReam fun r => { r with stage := r.stage.map fun x => if x.line / 64 = page then { x with valid := false } else x }
  let s := s.onPpu fun p => { p with stageIndex := p.stageIndex.filter (· ≠ page), fetches := p.fetches.filter (·.page ≠ page),
                                     moves := p.moves.filter (·.page ≠ page), retried := p.retried.filter (·.page ≠ page) }
  let s := s.each (s.ppu.charges.filter (·.page = page)) fun s m => consumeCredit s m.port
  let s := s.onPpu fun p => { p with charges := p.charges.filter (·.page ≠ page) }
  checkFill (putEntry s { entry s page with st := .zero, prev := .free, wrote := false, loc := 0, keyGen := 0, frame := none, charged := false, epoch := lo32 s.epochs.current }) page

/-- R105: one 64 B line written with zeros, as a full-line write of the command's mark (holder: log entry 21). -/
def zeroLineAt (s : State) (g : Region) (mark line : Nat) : State :=
  let q : HostReq :=
    { age := s.cxl.nextAge, write := true, port := 16, ld := 0, hostTag := mark, line := line, data := 0, be := BitVec.allOnes 64,
      poison := false, epoch := s.epochs.current, region := g.num, accepted := s.now, st := .credit, credit := false, needAck := false,
      localDone := false, twinAsked := false, mirrorTag := 0xFFFF, deadline := none, late := false, marked := false }
  acceptZero (keepReq (takeAge s) q) q

/-- R43, R105: a zeroed page that waits for the twin's PAGE_ACK, as a write of the command that has its place here (log entry 21). -/
def awaitZero (s : State) (g : Region) (mark page : Nat) (tag : U16) : State :=
  keepReq (takeAge s)
    { age := s.cxl.nextAge, write := true, port := 16, ld := 0, hostTag := mark, line := page * 64, data := 0, be := BitVec.allOnes 64, poison := false,
      epoch := s.epochs.current, region := g.num, accepted := s.now, st := .mirror, credit := false, needAck := true, localDone := true, twinAsked := false,
      mirrorTag := tag, deadline := none, late := false, marked := false }

/-- R105: the range of a ZERO_LINES. -/
def zeroRange (s : State) (g : Region) (mark offset length : Nat) : State :=
  let first := offset / 64
  let count := length / 64
  s.each (List.range ((first + count + 63) / 64 - first / 64)) fun s k =>
    let p := first / 64 + k
    match pageAt g.runs p with
    | none => s
    | some page =>
      if first ≤ p * 64 && p * 64 + 64 ≤ first + count then
        let s := zeroPage s page
        if mirrors s g then
          let t := linkOfPage s page
          let (tag, s) := takeTag s t
          let s := if needsAck s g then awaitZero s g mark page tag else s
          sendFelt s t (.pageZero g.num p (lo32 s.epochs.current) tag)
        else s
      else s.each (List.range 64) fun s i => if first ≤ p * 64 + i && p * 64 + i < first + count then zeroLineAt s g mark (page * 64 + i) else s

/-! ### The Deckle's row, and ZERO_LINES -/

/-- DECKLE_RECOMPUTE: every 10 ms (R49). -/
def execDeckleRecompute (s : State) : Res State := .next (deckleRecompute s)

/-- R80, R105: the caller may zero the region: it is granted READ_WRITE, or the owner issues it and some identity is. -/
def mayZero (s : State) (x : Session) (g : Region) : Bool :=
  if isOwner s x then g.grants.any (·.access = .readWrite)
  else match x.identity with | some (h, l) => accessOf g h l = .readWrite | none => false

/-- R105: the range is zeroed; the command is answered when all its lines have their place. -/
def zeroAndAnswer (s : State) (g : Region) (offset length : Nat) (answer : Option (Req × U16 × Nat)) : State :=
  let mark := 0x10000 + s.cxl.nextAge
  let s := (zeroRange s g mark offset length).onCmd fun c => { c with zeros := c.zeros ++ [(mark, .zero g.num, answer)] }
  zeroDone s mark

/-- ZERO_LINES (R105, R312): a range above 1 GiB is a long operation. -/
def execZeroLines (r : Req) (region : U16) (offset length : U64) (s : State) : Res State :=
  .next <| command s r 0x0305 (regionReserved region 16) .session .service fun s x =>
    withRegion s r 0x0305 x region 16 fun g =>
      checked s r 0x0305 (rangeChecks g offset.toNat length.toNat 64 ++
          [(!mayZero s x g, .notOwner, 3), (regionBusy s g, .busy, 3), (!holdsToken g, .conflict, 3)]) fun s =>
        if length.toNat ≤ gib then zeroAndAnswer (defer s x r) g offset.toNat length.toNat (some (r, 0x0305, x.num))
        else if longFull s then refuse s r 0x0305 .busy 2
        else
          let s := startLong s r 0x0305 x (.zero g.num) (length.toNat / pageBytes) 1 fun s => s
          progressLong (zeroAndAnswer s g offset.toNat length.toNat none) (· = .zero g.num) (length.toNat / pageBytes)

end Sys2Proof.Machine
end

