-- ==== Sys2Proof/Machine/Regions.lean ====
section
/-! DEFINITION. Group 0x02: REGION_CREATE to CAPACITY_DRAIN (R73 to R92, R308 to R310). -/

namespace Sys2Proof.Machine

/-- R74: reserved values of a flags word at an offset from header byte 0. -/
def flagsReserved (f : U32) (off : Nat) : Option (Status × Nat) :=
  if flagMirror f = 3 || flagWeight f = 3 then some (.reservedField, off)
  else match firstNonzero (le 4 f.toNat) 1 3 with
    | some k => some (.reservedField, off + k)
    | none => none

/-- R83, R84: a size that is a multiple of 2 MiB, and not 0. -/
def sizeBad (n : Nat) : Bool := n = 0 || n % extentBytes ≠ 0

/-- R293: an operation whose ACCEPTED reply comes at its epoch boundary. -/
def addLong (s : State) (r : Req) (op : U16) (x : Session) (kind : LongKind) (total unit : Nat) : State :=
  s.onCmd fun c => { c with longOps := c.longOps ++
    [{ kind := kind, session := x.num, ch := r.ch, opcode := op, tag := r.tag, done := 0, total := total, unit := unit }] }

/-- R69: an allocation refusal as a check. -/
def spaceCheck (e : Option Nat) : Bool × Status × Nat := (e.isSome, .noSpace, e.getD 0)

/-- REGION_CREATE (R69, R73, R75, R83, R265). -/
def execRegionCreate (r : Req) (size : U64) (flags : U32) (s : State) : Res State :=
  .next <| command s r 0x0201 (flagsReserved flags 24) .owner .service fun s x =>
    let n := size.toNat / extentBytes
    checked s r 0x0201
        [(sizeBad size.toNat, .range, 16), spaceCheck (allocationError s n 0), ((freeRegionNumber s).isNone, .noSpace, 4),
         (flagStream flags && flagClass flags = 0, .conflict, 13)] fun s =>
      let runs := chooseRuns s n
      let num := (freeRegionNumber s).getD 1
      let s := reserveRuns (defer s x r) runs
      requestChange s num (if flagMirror flags = 0 then none else some (.create size.toNat flags))
        { change := .create num size.toNat flags runs, req := some (r, 0x0201, x.num) }

/-- REGION_DESTROY (R85). -/
def execRegionDestroy (r : Req) (region : U16) (s : State) : Res State :=
  .next <| command s r 0x0202 (regionReserved region 16) .owner .service fun s x =>
    withRegion s r 0x0202 x region 16 fun g =>
      checked s r 0x0202 [(!g.grants.isEmpty, .conflict, 12), (!holdsToken g, .conflict, 3), (regionBusy s g, .busy, 3)] fun s =>
        requestChange (defer s x r) g.num (if isMirrored g then some .destroy else none)
          { change := .destroy g.num, req := some (r, 0x0202, x.num) }

/-- R79, R84: growth would raise the DC extents of an identity of the region above 4,096. -/
def growthExtents (s : State) (g : Region) (runs : List (Nat × Nat)) : Bool :=
  g.grants.any fun x => 4096 < dcExtents s x.head x.ld + runs.length

/-- REGION_RESIZE (R84): an equal size does nothing; growth waits for its boundary; a shrink releases, then frees. -/
def execRegionResize (r : Req) (region : U16) (size : U64) (s : State) : Res State :=
  .next <| command s r 0x0203 (regionReserved region 16) .owner .service fun s x =>
    withRegion s r 0x0203 x region 16 fun g =>
      let want := size.toNat
      let more := (want - g.size) / extentBytes
      let runs := chooseRuns s more
      let grow := decide (g.size < want)
      checked s r 0x0203
          [(sizeBad want, .range, 24), spaceCheck (if grow then allocationError s more g.runs.length else none),
           (grow && growthExtents s g runs, .noSpace, 3), (!holdsToken g, .conflict, 3), (regionBusy s g, .busy, 3)] fun s =>
        if want = g.size then ok s r 0x0203 []
        else if grow then
          requestChange (reserveRuns (defer s x r) runs) g.num (if isMirrored g then some (.resize want) else none)
            { change := .grow g.num want runs, req := some (r, 0x0203, x.num) }
        else if longFull s then refuse s r 0x0203 .busy 2
        else
          let s := startLong s r 0x0203 x (.shrink g.num want) (g.size - want) 0 fun s => setRegion s g.num fun g => opBegun g .shrink
          let s := s.each g.grants fun s i =>
            let runs := touchedRuns s g i.head i.ld want
            if runs.isEmpty then s else startRelease s g.num i.head i.ld runs .shrink i.access
          continueShrink s g.num

/-- R76: the refusals of a change of flags, row by row. -/
def flagChecks (s : State) (g : Region) (f : U32) : List (Bool × Status × Nat) :=
  let d0 := decide (flagClass f = 0)
  let toD0 := d0 && flagClass g.flags ≠ 0
  let found (e : DirEntry) : DirState := if e.unresolved then (resolvedEntry s e).st else e.st
  let used := (s.ppu.dir.any fun e => e.region = g.num && found e ≠ .zero && found e ≠ .free) || !(dirtyPages s g.num).isEmpty
  [(flagCipher f != flagCipher g.flags && used, .conflict, 14), (flagStream f && !flagStream g.flags && d0, .conflict, 13),
   (toD0 && decide (pinLimit s < pinWould s (regionPages g)), .noSpace, 5), (toD0 && flagStream f, .conflict, 13)]

/-- REGION_SET_FLAGS (R75, R76): ACCEPTED at the boundary when the mirror is turned on or every page is to be pinned. -/
def execRegionSetFlags (r : Req) (region : U16) (flags : U32) (s : State) : Res State :=
  .next <| command s r 0x0204 (match regionReserved region 16 with | some e => some e | none => flagsReserved flags 20) .owner .service fun s x =>
    withRegion s r 0x0204 x region 16 fun g =>
      let on := decide (flagMirror flags ≠ 0) && !isMirrored g
      let fill := decide (flagClass flags = 0) && decide (flagClass g.flags ≠ 0)
      checked s r 0x0204 (flagChecks s g flags ++ [(!holdsToken g, .conflict, 3), (regionBusy s g, .busy, 3), ((on || fill) && longFull s, .busy, 2)]) fun s =>
        let s := defer s x r
        let s := if on then addLong s r 0x0204 x (.mirrorOn g.num) (g.size / pageBytes) 1 else s
        let s := if fill then addLong s r 0x0204 x (.d0fill g.num) (g.size / pageBytes) 1 else s
        let op : Option RegionOpKind := if on then some (.create g.size flags) else if isMirrored g then some (.setFlags flags) else none
        requestChange s g.num op { change := .setFlags g.num flags, req := some (r, 0x0204, x.num) }

/-- R265, R309: role of this device for a region. -/
def roleOf (g : Region) : Nat := if !isMirrored g then 0 else if holdsToken g then 1 else 2

def accessCode : Access → Nat
  | .none => 0 | .readOnly => 1 | .readWrite => 2

/-- R309: the reply for one region. -/
def regionReply (g : Region) : List Byte :=
  le 2 g.num ++ le 1 (mirrorCode g.mirror) ++ le 1 (roleOf g) ++ le 4 g.flags.toNat ++ le 8 g.size ++ le 8 g.ec ++ le 4 g.generation.toNat ++
    le 1 (opnCode g.opns) ++ le 1 (if d0Region g then 1 else 0) ++ le 2 g.runs.length ++ le 4 g.grants.length ++ le 4 0 ++
    le 8 g.deadlineMisses ++ le 8 g.twinServed ++ le 8 g.snapshot ++
    (g.runs.flatMap fun (f, n) => le 4 f ++ le 4 n) ++
    (g.grants.flatMap fun i => le 1 i.head ++ le 1 i.ld ++ le 1 (accessCode i.access) ++ le 1 0)

/-- R309: the list of regions that the session may name. -/
def regionListReply (s : State) (x : Session) : List Byte :=
  let gs := s.regions.list.filter fun g => mayName s x g
  le 4 gs.length ++ le 4 0 ++ gs.flatMap fun g =>
    le 2 g.num ++ le 1 (mirrorCode g.mirror) ++ le 1 (roleOf g) ++ le 4 g.flags.toNat ++ le 8 g.size

/-- REGION_QUERY (R309). -/
def execRegionQuery (r : Req) (region : U16) (s : State) : Res State :=
  .next <| command s r 0x0205 (if region = 0xFFFF then some (.reservedField, 16) else none) .session .fromLift fun s x =>
    if region = 0 then ok s r 0x0205 (regionListReply s x)
    else withRegion s r 0x0205 x region 16 fun g => ok s r 0x0205 (regionReply g)

/-- REGION_GRANT (R80, R81): a change to NONE with runs held is ACCEPTED and ends with its release. -/
def execRegionGrant (r : Req) (region : U16) (head ld access : U8) (s : State) : Res State :=
  .next <| command s r 0x0206
      (match regionReserved region 16 with | some e => some e | none => if 2 < access.toNat then some (.reservedField, 20) else none)
      .owner .fromLift fun s x =>
    withRegion s r 0x0206 x region 16 fun g =>
      let h := head.toNat
      let l := ld.toNat
      let a : Access := if access = 0 then .none else if access = 1 then .readOnly else .readWrite
      let old := accessOf g h l
      let ends := decide (a = .none) && !(heldOf s h l g.num).isEmpty
      checked s r 0x0206
          [(decide (15 < h), .range, 18), (decide (15 < l), .range, 19),
           (decide (a ≠ .none) && decide (old = .none) && decide (4096 < dcExtents s h l + g.runs.length), .noSpace, 3),
           (regionBusy s g, .busy, 3), (ends && longFull s, .busy, 2)] fun s =>
        let s := defer s x r
        let s := if ends then addLong s r 0x0206 x (.release g.num h l) (heldOf s h l g.num).length 3 else s
        requestChange s g.num none { change := .grant g.num h l a, req := some (r, 0x0206, x.num) }

/-! ### CAPACITY_ADD and CAPACITY_DRAIN (R87, R88, R188) -/

/-- R87: the channels that a kind and index name. -/
def namedChannels (s : State) (kind index : Nat) : List Nat :=
  if kind = 0 then [index] else (List.range 48).filter fun c => carrierOf s c = index

/-- R308: the index field. -/
def indexBad (kind index : Nat) : Bool := if kind = 0 then 48 ≤ index else 16 ≤ index

/-- R87: a channel's part of a running drain ends: with MEDIA_ERROR and its index when the channel is lost, PARTIAL when the
drain is cancelled (log entry 22). -/
def leaveDrain (s : State) (c : Nat) (st : Status) (detail : Nat) : State :=
  match s.cmd.longOps.find? fun o => match o.kind with | .drain cs => cs.contains c | _ => false with
  | none => s
  | some o => match o.kind with
    | .drain cs =>
      if st = .mediaError || cs = [c] then endLong s o st detail []
      else s.onCmd fun k => { k with longOps := k.longOps.map fun y => if y = o then { o with kind := .drain (cs.filter (· ≠ c)) } else y }
    | _ => s

/-- CAPACITY_ADD. -/
def execCapacityAdd (r : Req) (kind index : U8) (s : State) : Res State :=
  .next <| command s r 0x0207 (if 1 < kind.toNat then some (.reservedField, 16) else none) .owner .service fun s x =>
    let cs := namedChannels s kind.toNat index.toNat
    let has (st : FlashSt) : Bool := cs.any fun c => (flashAt s c).st = st
    checked s r 0x0207 [(indexBad kind.toNat index.toNat || has .absent || has .failed, .range, 17), (has .adding, .busy, 3)] fun s =>
      let fresh := cs.filter fun c => (flashAt s c).st = .present || (flashAt s c).st = .drained
      let back := cs.filter fun c => (flashAt s c).st = .draining
      let cancel (s : State) : State := s.each back fun s c =>
        setFlash (flashState (leaveDrain s c .partial_ 0) c .online 0) c fun f => { f with drainMark := false }
      if fresh.isEmpty then ok (cancel s) r 0x0207 []
      else if longFull s then refuse s r 0x0207 .busy 2
      else startLong s r 0x0207 x (.add fresh) (5 * fresh.length) 3 fun s =>
        (cancel s).each fresh fun s c => setFlash (flashState s c .adding 0) c fun f => { f with addStep := 1 }

/-- R68: H with some channels out of service. -/
def homeWithout (s : State) (cs : List Nat) : Nat := homeCapacity (s.each cs fun s c => setFlash s c fun f => { f with st := .draining })

/-- R88, R163: a group that keeps ONLINE channels keeps at least 4. -/
def groupsBroken (s : State) (cs : List Nat) : Bool :=
  (List.range 4).any fun g =>
    let on := groupOnline s g
    let left := (on.filter fun c => !cs.contains c).length
    left ≠ on.length && left ≠ 0 && left < 4

/-- R87: the bytes that a drain of channels has to move. -/
def drainBytes (s : State) (cs : List Nat) : Nat :=
  (s.ream.slots.filter fun y => cs.contains (locChannel y.loc) && (entry s y.page).loc = y.loc).length * pageBytes

/-- R87: the channels leave the cleaning targets, with the mark in their metadata, and their pages begin to move. -/
def startDrain (s : State) (cs : List Nat) : State :=
  deckleImmediate (beginMoves (s.each cs fun s c => setFlash (flashState s c .draining 0) c fun f => { f with drainMark := true }))

/-- R87, R348: drains that a Couch or a reset paused resume, reported to the owner as CAPACITY_DRAIN with host tag 0 (log entry 63). -/
def resumeDrains (s : State) : State :=
  let cs := (List.range 48).filter fun c => (flashAt s c).st = .draining && !longRuns s fun k => match k with | .drain l => l.contains c | _ => false
  if cs.isEmpty then beginMoves s
  else match sessionNum s s.cmd.owner with
    | none => beginMoves s
    | some x =>
      let o : LongOp := { kind := .drain cs, session := x.num, ch := x.ch, opcode := 0x0208, tag := 0, done := 0, total := drainBytes s cs, unit := 0 }
      beginMoves (s.onCmd fun c => { c with longOps := c.longOps ++ [o] })

/-- CAPACITY_DRAIN. -/
def execCapacityDrain (r : Req) (kind index : U8) (s : State) : Res State :=
  .next <| command s r 0x0208 (if 1 < kind.toNat then some (.reservedField, 16) else none) .owner .service fun s x =>
    let cs := namedChannels s kind.toNat index.toNat
    checked s r 0x0208
        [(indexBad kind.toNat index.toNat || cs.isEmpty || (cs.any fun c => (flashAt s c).st ≠ .online), .range, 17),
         (decide (homeWithout s cs < allocated s), .noSpace, 2), (groupsBroken s cs, .conflict, 7)] fun s =>
      startLong s r 0x0208 x (.drain cs) (drainBytes s cs) 0 fun s => startDrain s cs

end Sys2Proof.Machine
end

