-- ==== Sys2Proof/Machine/Vat.lean ====
section
/-! DEFINITION. The Vat's DDR5 channels: populations, training, frequency changes, errors, row repair, vacating and failure (R125 to R157). -/

namespace Sys2Proof.Machine


/-- R126, R153, R440: the state of a channel changes; the event carries the old state, the new one, the cause, and, in the byte after
them, the item of R125 or R127 that fails (log entry 136). -/
def dramState (s : State) (channel : Nat) (st : DramSt) (cause : Nat) (item : Nat := 0) : State :=
  let old := (dramAt s channel).st
  let s := setDram s channel fun c => { c with st := st, cause := if st = .failed then cause else 0 }
  let s := settleIsland s (.mc channel) (st = .absent || st = .offline)
  if old = st then s
  else s.event 4 9 (if st = .failed then 2 else 0) (unitWord 3 channel) (detail := changeDetail (dramCode old) (dramCode st) cause + 2 ^ 24 * item)

/-- R154: a channel becomes FAILED: with FATAL 0x0002 beside the state change. -/
def dramFailed (s : State) (channel cause : Nat) (item : Nat := 0) : State :=
  let old := (dramAt s channel).st
  (dramState s channel .failed cause item).event 0 2 3 (unitWord 3 channel) (detail := changeDetail (dramCode old) 5 cause + 2 ^ 24 * item)

def onChannel (c : Nat) (no : Nat) : Bool := no % 16 = c

/-- R148, R151, R157: what is withheld or leaves the directory cache area is vacated. -/
def vacateWithheld (s : State) (c : Nat) : State :=
  vacateStep (leaveBlocks s fun no => no % 16 = c && locationWithheld s (dramAt s c) (no / 16)) c

/-! ### Failure of a channel (R154) -/

/-- R147, R154: the twin holds the newest data of the page: SYNC, or ASYNC up to the mirrored epoch, with the pair ATTACHED. -/
def twinHolds (s : State) (e : DirEntry) : Bool :=
  s.felt.pair = .attached && match regionOf s e.region with
    | some r => r.mirror = .inSync && (flagMirror r.flags = 1 || (flagMirror r.flags = 2 && notLaterSerial e.epoch (lo32 s.epochs.mirrored)))
    | none => false

/-- R154 step 3: every line of the page is a dirty Curd line or a staged one. -/
def coveredPage (s : State) (page : Nat) (stagedAlone : Bool) : Bool :=
  (List.range 64).all fun i =>
    if stagedAlone then s.ream.stage.any fun r => r.valid && r.line = 64 * page + i else coveredLine s true (64 * page + i)

/-- R154 step 3: a charged page of a failed channel whose every line is held: CLEAN and staged, or DIRTY, in a new frame. -/
def coverPage (s : State) (page : Nat) : State :=
  let e := entry s page
  let staged := coveredPage s page true && !(s.curd.lines.any fun l => l.addr / 64 = page && l.st = .dirty) && !(s.curd.evicts.any fun v => v.addr / 64 = page && v.dirty)
  match assignFrame s page with
  | some (n, s) =>
    let s := fillFrame s page poisonPage
    if staged then putEntry s { e with st := .clean, frame := some n, charged := false, wrote := false }
    else gatherPage (putEntry s { e with st := .dirty, frame := some n, charged := true, wrote := false }) page
  | none => putEntry s { e with st := if staged then (if e.loc = 0 then .zero else .home) else .dirty, frame := none, charged := !staged, wrote := false }

/-- R154: what happens to one page of a failed channel. -/
def failPage (s : State) (f : Frame) : State :=
  let e := entry s f.page
  let s := s.onPpu fun p => { p with moves := p.moves.filter fun m => !(m.page = f.page && f.valid) }
  let e := if e.st = .moving && f.valid then { e with st := if e.wrote then .dirty else e.prev, wrote := false } else e
  let s := dropFrame s f.page
  if !f.valid then putQuiet s { e with frame := none }
  else if !e.charged && e.st ≠ .dirty then
    let s := putEntry s { e with st := if e.loc = 0 then .zero else .home, frame := none }
    if e.pinned && e.loc ≠ 0 then startKept s f.page else s
  else if twinHolds s e then
    (putEntry s { e with frame := none }).onPpu fun p => { p with recovering := addNew p.recovering f.page }
  else if coveredPage s f.page false then coverPage (putEntry s e) f.page
  else losePage (putEntry s { e with charged := false }) f.page

/-- R154: requests queued in the channel complete with poison, except those that wait for the twin. -/
def poisonQueue (s : State) (queue : List DramReq) : State :=
  s.each (queue.filter fun d => !s.ppu.recovering.contains (d.line / 64)) fun s d =>
    if d.write then s else if d.curd then fillLine s d.line poisonLine else deliver s d poisonLine

/-- R154: requests that wait for a page whose copy comes from the twin. -/
def holdForTwin (s : State) : State :=
  s.onCxl fun c => { c with reqs := c.reqs.map fun q =>
    if s.ppu.recovering.contains (q.line / 64) && q.st = .dramRead then { q with st := .fetch } else q }

/-- R43, R154: write-throughs whose frame is gone complete: their data stands in what becomes of the page. -/
def settleWrites (s : State) (queue : List DramReq) : State :=
  s.each (queue.filter (·.write)) fun s d =>
    match s.cxl.reqs.find? fun q => q.line = d.line && q.st = .dramWrite with
    | some q => throughPlaced s q
    | none => s

/-- R149, R154, R437: directory blocks of a failed channel: the other copy is written anew, a clean block is dropped; of a dirty block with
both copies there nothing is left. -/
def failBlocks (s : State) (channel : Nat) : State :=
  let on (no : Nat) : Bool := onChannel channel no
  let dead := (s.ppu.blocks.filter fun b => on b.2.1 && on b.2.2 && s.ppu.dirtyBlocks.contains b.1).map (·.1)
  let s := s.onPpu fun p => { p with blocks := p.blocks.filter fun b => !dead.contains b.1 }
  let s := s.each dead fun s e => loadBlock (loseDirectory s (directoryCovers (2 * e) ++ directoryCovers (2 * e + 1))) e
  leaveBlocks s on

/-- R154: a channel becomes FAILED: no further command; its pages are dropped, taken from the twin, or LOST. -/
def failChannel (s : State) (channel cause : Nat) : State :=
  let queue := (dramAt s channel).queue
  let s := setDram (dramFailed s channel cause) channel fun c => { c with queue := [], banks := [], repair := [], held := false, changing := false, verify := false }
  let s := endLongOf s (· = .offline channel) .mediaError channel []
  let s := failBlocks s channel
  let s := s.each (s.ppu.frames.filter fun f => onChannel channel f.no) failPage
  let s := settleWrites (poisonQueue (holdForTwin s) queue) queue
  let s := s.onCurd fun c => { c with evicts := c.evicts.map fun e => if queue.any fun d => d.line = e.addr && d.write then { e with offered := false } else e }
  wakeAll s

/-! ### Populations and training (R125 to R127, R141, R142) -/

/-- R125, R127: the first item that the population breaks, in the order of the table of R125; 0 for none. -/
def unsupportedItem (d : Dimms) : Nat :=
  if !d.rdimmEcc then 1 else if d.width ≠ 4 then 2 else if d.density ≠ 16 && d.density ≠ 32 then 3
  else if !([1, 2, 4, 8].contains d.ranks) then 4 else if d.slot1Only || d.count = 0 || 2 < d.count then 5
  else if d.gibPerDimm < 32 || 256 < d.gibPerDimm then 6 else if d.count = 2 && !d.identical then 7 else if d.maxRate < 4400 then 8 else 0

/-- R125, R127: the population is supported. -/
def supported (d : Dimms) : Bool := unsupportedItem d = 0

/-- R143, R231, R378: the bin that the VAT table, step 2 of the Cave and the Couch ask for: reduced when any does. -/
def wantReduced (s : State) : Bool := runBinReduced s || 2 ≤ s.cave.step || s.couch.orch = .committed

/-- R127, R137: the channel runs at a bin, its timing set that of its band. -/
def runAt (s : State) (reduced : Bool) (c : Dram) : Dram :=
  { c with reduced := reduced, rate := binRate s reduced, timing := timingSet reduced c.band }

/-- R127, R143, R231: all channels in service change together to the bin that is wanted, at the data rate that it has now, unless a change
runs; the Wire holds what arrives. -/
def retargetBin (s : State) : State :=
  let want := wantReduced s
  let on := (List.range 16).filter fun c => ((dramAt s c).st = .online || (dramAt s c).st = .vacating) &&
    ((dramAt s c).reduced ≠ want || (dramAt s c).rate ≠ binRate s want)
  if s.vat.pendingReduced.isSome || on.isEmpty then s
  else
    let s := s.onVat fun v => { v with pendingReduced := some want }
    let s := s.each on fun s c => setDram s c fun d => { d with changing := true, changeAt := s.now, target := want }
    s.onWire fun w => { w with changing := w.changing ++ on.map Island.mc }

/-- R127, R153: the channel enters ONLINE: its locations join the pool, the mapping mode in force is taken, and the others follow a full bin
that it has lowered; an offline request that a Couch
ended is reported (cause 0x20, log entry 136). -/
def enterOnline (s : State) (channel : Nat) : State :=
  let told := (dramAt s channel).offlineLost
  let s := setDram s channel fun c =>
    runAt s (wantReduced s) { c with mapping := mappingMode s, step := 7, verify := false, held := false, caFails := 0, lost := false, offlineLost := false,
                                     queue := [], banks := [], writing := [], columns := [], zeroTo := 0 }
  let s := s.onPpu fun p => { p with zeroed := p.zeroed.filter fun no => !onChannel channel no }
  retargetBin (wakeAll (dramState s channel .online (if told then 0x20 else 0)))

/-- R141: a training step fails: the cause is the step (0x10 + k, log entry 136). -/
def trainingFails (s : State) (channel step : Nat) : State :=
  if (dramAt s channel).held then failChannel s channel (0x10 + step) else dramFailed s channel (0x10 + step)

/-- R142, R147: a verification or a retrain ends; the count of command/address parity failures in a row goes on until a command succeeds. -/
def trained (s : State) (channel : Nat) : State :=
  if (dramAt s channel).held then setDram s channel fun c => { c with held := false, verify := false, step := 7 } else enterOnline s channel

/-- DRAM_TRAINING_STEP_COMPLETE (R126, R127, R141, R142, R147, R153). -/
def execDramTrainingStepComplete (channel : Nat) (step : TrainStep) (s : State) : Res State :=
  let c := dramAt s channel
  let fresh := c.st = .absent && s.power.seq = .booting
  if c.st ≠ .training && !fresh && !(c.held && (c.st = .online || c.st = .vacating)) then .next s
  else match step with
    | .spdRead d =>
      if d.count = 0 || c.step ≠ 0 || c.held then .next s
      else
        let s := setDram (if fresh then dramState s channel .training 0 else s) channel fun c => { c with dimms := some d }
        if supported d then .next (setDram s channel fun c => { c with step := 1, verify := c.results = some d.spdId })
        else .next (dramFailed s channel 1 (unsupportedItem d))
    | .passed k =>
      if fresh || c.verify || k ≠ c.step + 1 || 7 < k then .next s
      else
        let s := setDram s channel fun c => { c with step := k, results := if k = 6 then c.dimms.map (·.spdId) else c.results }
        if k < 7 then .next s else .next (trained s channel)
    | .failed k =>
      if c.verify || k ≠ c.step + 1 then .next s
      else .next (trainingFails (if fresh then dramState s channel .training 0 else s) channel k)
    | .verified => if fresh || !c.verify || c.step = 0 then .next s else .next (trained s channel)
    | .verifyFailed => if fresh || !c.verify || c.step = 0 then .next s else .next (setDram s channel fun c => { c with verify := false, step := 1 })

/-! ### Frequency change (R143) -/

/-- R143: requests of before the change that the channel has still to serve (step 2). -/
def changeWaits (c : Dram) : Bool := c.queue.any fun d => d.since < c.changeAt

/-- DRAM_FREQUENCY_CHANGE_DONE: steps 2 to 7: refreshes issued, banks precharged, the timing set of bin and band in force; a failed
read-back check retrains under R142, with an event (cause 0x21, log entry 136). -/
def execDramFrequencyChangeDone (channel : Nat) (ok : Bool) (s : State) : Res State :=
  let c := dramAt s channel
  if !c.changing || changeWaits c then .next s
  else
    let s := setDram s channel fun c =>
      runAt s c.target { c with changing := false, held := c.held || !ok, verify := c.verify || !ok,
                                banks := c.banks.map fun b => { b with openRow := none, judged := true, hits := 0, postponed := 0 } }
    let s := s.onWire fun w => { w with changing := w.changing.filter (· ≠ .mc channel) }
    let s := if ok then s else s.event 4 9 0 (unitWord 3 channel) (detail := changeDetail (dramCode c.st) (dramCode c.st) 0x21)
    let s := if s.vat.ch.any (·.changing) then s else retargetBin (s.onVat fun v => { v with pendingReduced := none })
    .next s

/-! ### Row repair and marked devices (R148, R151) -/

/-- R151: a row becomes a repair candidate, for the device that fails (15 when none is known): its four locations are vacated and
withheld. -/
def candidate (s : State) (channel row device : Nat) : State :=
  if ((dramAt s channel).repair.any (·.1 = row)) || (dramAt s channel).withheld.contains row then s
  else vacateWithheld (setDram s channel fun c => { c with repair := c.repair ++ [(row, 1, device)], withheld := addNew c.withheld row }) channel

/-- R148: a device is marked failed; a rank with two is vacated until power-off. -/
def markDevice (s : State) (no line device : Nat) : State :=
  let channel := no % 16
  let rank := (placeOf (dramAt s channel) (no / 16)).rank
  let unit := rank * 2 + line % 2
  let c := dramAt s channel
  if c.marks.contains (unit, device) then s
  else
    let s := dramEvent (setDram s channel fun c => { c with marks := c.marks ++ [(unit, device)] }) 2 1 no line device .device 0xFFFF device
    if !(c.marks.any (·.1 = unit)) || c.ranksOut.contains rank then s
    else vacateWithheld ((setDram s channel fun c => { c with ranksOut := addNew c.ranksOut rank }).event 4 10 2 (unitWord 3 channel) (detail := rank)) channel

/-- R148: corrections attributed to a device: the device is marked, or a row becomes a candidate. -/
def corrected (s : State) (no line device : Nat) : State :=
  let channel := no % 16
  let p := placeOf (dramAt s channel) (no / 16)
  let unit := p.rank * 2 + line % 2
  let key := rowOf p * 2 + line % 2
  let s := setDram s channel fun c => { c with
    corr := (c.corr.filter fun x => s.now ≤ x.2.2 + day) ++ [(unit, device, s.now)],
    rowCorr := (c.rowCorr.filter fun x => s.now ≤ x.2.2 + day) ++ [(key, device, s.now)] }
  let c := dramAt s channel
  let mine := c.corr.filter fun x => x.1 = unit && x.2.1 = device
  let over_ := deviceMarkThreshold s < (mine.filter fun x => s.now < x.2.2 + second).length || 1024 < mine.length
  let s := if over_ then markDevice s no line device else s
  if rowRepairThreshold s ≤ (c.rowCorr.filter fun x => x.1 = key && x.2.1 = device).length && !(c.repair.any (·.1 = rowOf p)) then
    candidate (dramEvent s 1 1 no line device .correctable 0xFFFF (rowOf p)) channel (rowOf p) device
  else s

/-- R148, R153: an uncorrectable error in a row: a repair candidate; more than 8 distinct rows in 1 s fail the channel. -/
def rowBad (s : State) (channel row : Nat) : State :=
  let s := setDram s channel fun c => { c with badRows := (c.badRows.filter fun x => s.now < x.2 + second && x.1 ≠ row) ++ [(row, s.now)] }
  if 8 < (dramAt s channel).badRows.length then failChannel s channel 5 else candidate s channel row 15

/-- No frame or directory block stands in the withheld locations of a row. -/
def rowVacated (s : State) (channel row : Nat) : Bool :=
  let on (no : Nat) : Bool := onChannel channel no && rowOf (placeOf (dramAt s channel) (no / 16)) = row
  !(s.ppu.frames.any fun f => on f.no) && !(s.ppu.blocks.any fun b => blockOn b on)

def bankVacated (s : State) (channel row : Nat) : Bool :=
  let on (no : Nat) : Bool := onChannel channel no && rowOf (placeOf (dramAt s channel) (no / 16)) / 131072 = row / 131072
  !(s.ppu.frames.any fun f => on f.no) && !(s.ppu.blocks.any fun b => blockOn b on)

/-- R447: the location of a repaired row that its event names: the row's first. -/
def rowLocation (s : State) (channel row : Nat) : Nat :=
  let d := dramAt s channel
  (findFrom (fun i => rowOf (placeOf d i) = row) (channelLocations d) (row % 131072 * 128 * channelRanks d)).getD 0 * 16 + channel

/-- R151: the repair found no spare: the row's locations stay withheld until power-off, with an event. -/
def noSpareRow (s : State) (channel : Nat) (x : Nat × Nat × Nat) : State :=
  let s := setDram s channel fun c => { c with repair := c.repair.erase x, withheld := addNew c.withheld x.1 }
  dramEvent s 8 1 (rowLocation s channel x.1) 0 x.2.2 .repair 0xFFFF x.1

/-- The repair of a row at a step of R151. -/
def repairAt (s : State) (channel row step : Nat) : Option (Nat × Nat × Nat) := (dramAt s channel).repair.find? fun x => x.1 = row && x.2.1 = step

/-- ROW_REPAIR_SPPR_DONE (R151 steps 2 to 4): the locations return, with the event of a repaired row, and the whole bank is vacated for
hPPR; with no spare they stay withheld. -/
def execRowRepairSpprDone (channel row : Nat) (noSpare : Bool) (s : State) : Res State :=
  match repairAt s channel row 1 with
  | none => .next s
  | some x =>
    if !rowVacated s channel row || s.couch.orch = .committed then .next s
    else if noSpare then .next (noSpareRow s channel x)
    else
      let s := setDram s channel fun c =>
        { c with repair := c.repair.map fun y => if y = x then (row, 2, x.2.2) else y, withheld := c.withheld.erase row, sppr := c.sppr ++ [(row, x.2.2)] }
      .next (wakeAll (vacateWithheld (dramEvent s 8 1 (rowLocation s channel row) 0 x.2.2 .repair 0xFFFF row) channel))

/-- ROW_REPAIR_HPPR_DONE (R151 steps 5 and 6): the repair is permanent; with no spare the row's locations stay withheld. -/
def execRowRepairHpprDone (channel : Nat) (e : HpprEnd) (s : State) : Res State :=
  match repairAt s channel e.row 2 with
  | none => .next s
  | some x =>
    if !bankVacated s channel e.row || s.couch.orch = .committed then .next s
    else if e.noSpare then .next (noSpareRow s channel x)
    else .next (wakeAll (setDram s channel fun c => { c with repair := c.repair.erase x, hppr := addNew c.hppr (e.row, x.2.2) }))

/-! ### Accesses and their errors (R144 to R148) -/

/-- R147: an uncorrectable line of a clean, uncharged page: the frame is released and the page refetched; the copy of a vacate ends with its
frame. -/
def refetch (s : State) (no line : Nat) : State :=
  let page := line / 64
  let waits := s.cxl.reqs.filter fun q => q.line / 64 = page && (q.st = .dramRead || q.st = .dramWrite)
  let e := entry s page
  let s := dramEvent s 3 1 no line 15 .uncorrectable e.region page
  let s := setDram s (no % 16) fun c => { c with queue := c.queue.filter fun d => d.line / 64 ≠ page }
  let gone : DirState := if e.loc = 0 then .zero else .home
  let copied := s.ppu.moves.any fun m => m.page = page && m.kind = .vacate
  let s := s.onPpu fun p => { p with moves := p.moves.filter fun m => !(m.page = page && m.kind = .vacate) }
  let s := putEntry (dropFrame s page) { e with st := if e.st = .moving && !copied then .moving else gone, prev := if e.st = .moving && !copied then gone else .free, frame := none }
  let s := s.each waits fun s q => serve (dropReq s q.age) q
  if (s.curd.lines.any fun l => l.addr / 64 = page && l.st = .filling) && e.loc ≠ 0 then startFetch s page false
  else if e.loc = 0 then s.each (s.curd.lines.filter fun l => l.addr / 64 = page && l.st = .filling) fun s l => fillLine s l.addr zeroLine
  else s

/-- R144: the device of a symbol of the codeword. -/
def deviceOf (k : Nat) : Nat := k / 4 % 10

/-- R144: what the decoder answers. -/
inductive Decoded where
  | good | poison | bad
  | corrected (device : Nat)
  | erased (device : Option Nat)
  deriving DecidableEq, Repr

/-- R144, R145: the decoder on the symbols in error of a burst: an error confined to one device is corrected; with a device of the rank and
subchannel marked its symbols are erasures, and up to two further ones are corrected. -/
def decoded (marks : List (Nat × Nat)) (unit : Nat) : DramError → Decoded
  | .good => .good
  | .poisonCode => .poison
  | .symbols l => match marks.find? (·.1 = unit) with
    | some m =>
      let further := (l.foldl addNew []).filter (deviceOf · ≠ m.2)
      if l.isEmpty then .good else if further.length ≤ 2 then .erased (further.head?.map deviceOf) else .bad
    | none => match l with
      | [] => .good
      | k :: rest => if rest.all (deviceOf · = deviceOf k) then .corrected (deviceOf k) else .bad

/-- R147, R148: a burst of location `no` was corrected. -/
def correctable (s : State) (no line device : Nat) : State :=
  withInjection s (.dram (no % 16)) 0 fun s => corrected (countError s (.dram (no % 16)) false) no line device

/-- R146, R147: an uncorrectable burst under a queued access. -/
def uncorrectable (s : State) (no : Nat) (d : DramReq) : State :=
  let c := no % 16
  let row := rowOf (placeOf (dramAt s c) (no / 16))
  withInjection s (.dram c) 1 fun s =>
    let s := countError s (.dram c) true
    let e := entry s (d.line / 64)
    let s := if !e.charged && (e.st = .clean || e.st = .moving && e.prev = .clean && !e.wrote) then refetch (if d.curd || d.write then s else setDram s c fun x => { x with queue := x.queue ++ [d] }) no d.line
      else if twinHolds s e then recoverLine s d else spoilAccess s d
    rowBad s c row

/-- R147: a burst of a directory block: corrected; or taken from the other copy, from which the failing one is rewritten. -/
def directoryAccess (s : State) (line : Nat) (err : DramError) : State :=
  match s.ppu.blocks.find? fun b => directoryBase + b.1 = line / 64 with
  | none => s
  | some b =>
    let no := b.2.1
    let p := placeOf (dramAt s (no % 16)) (no / 16)
    let s := columnCommand s (no % 16) (bankOf (line % 2) p) p.row false
    match decoded (dramAt s (no % 16)).marks (p.rank * 2 + line % 2) err with
    | .good | .poison => s
    | .erased _ => countError s (.dram (no % 16)) false
    | .corrected device => correctable s no line device
    | .bad =>
      let s := dramEvent (countError s (.dram (no % 16)) true) 3 1 no line 15 .uncorrectable 0 (line / 64)
      rowBad s (no % 16) (rowOf p)

/-- DRAM_ACCESS_COMPLETE (R133 to R135, R140, R144 to R148): the request that its subchannel serves next is read: a read, or the burst
that a partial write merges into. -/
def execDramAccessComplete (line : Nat) (err : DramError) (s : State) : Res State :=
  if directoryBase ≤ line / 64 then .next (directoryAccess s line err)
  else match frameOf s (line / 64) with
    | none => .next s
    | some f =>
      let c := frameChannel f.no
      let p := placeOf (dramAt s c) (f.no / 16)
      let unit := p.rank * 2 + line % 2
      match [nextRequest s c (line % 2) false, nextRequest s c (line % 2) true].find? fun d => d.any fun d => decide (d.line = line) && (!d.write || d.rmw) with
      | some (some d) =>
        let s := setDram s c fun x => { x with queue := if d.write then x.queue.map fun y => if y = d then { d with rmw := false } else y else x.queue.erase d, caFails := 0 }
        let s := columnCommand s c (bankOf (line % 2) p) p.row false
        let done (s : State) : State := vacateStep (deliver s d d.data) c
        match decoded (dramAt s c).marks unit err with
        | .good | .poison => .next (done s)
        | .corrected device =>
          let s := correctable s f.no line device
          .next (done (if queuedWrite s line || (validFrame s (line / 64)).isNone then s else writeFrame s line (frameLine f line) false))
        | .erased none => .next (done (countError s (.dram c) false))
        | .erased (some device) => .next (done (corrected (countError s (.dram c) false) f.no line device))
        | .bad => .next (uncorrectable (setDram s c fun x => { x with queue := if d.write then x.queue.erase { d with rmw := false } else x.queue }) f.no d)
      | _ => .next s

/-- R133, R138, R150: a scrub read goes below every other read, and counts within the limit of the RESTRICTED band. -/
def scrubMay (s : State) (channel sub : Nat) : Bool :=
  let c := dramAt s channel
  (c.st = .online || c.st = .vacating) && !c.held && !c.changing && (inQueue s channel sub false).isEmpty && !slotLimit s channel sub && !cchWaits s channel

/-- R147, R150: one line of a scrubbed frame: a correction is written back unless a write of the line is queued; a refetch or a poison result
only logs an event. -/
def scrubLine (s : State) (f : Frame) (i : Nat) (err : DramError) : State :=
  let c := frameChannel f.no
  let line := f.page * 64 + i
  let p := placeOf (dramAt s c) (f.no / 16)
  let e := entry s f.page
  if (dramAt s c).st ≠ .online && (dramAt s c).st ≠ .vacating then s
  else match decoded (dramAt s c).marks (p.rank * 2 + line % 2) err with
    | .good => s
    | .poison => dramEvent s 5 2 f.no line 15 .poison e.region (line * 64)
    | .erased d =>
      let s := countError s (.dram c) false
      match d with | some d => corrected s f.no line d | none => s
    | .corrected d =>
      let s := correctable s f.no line d
      if queuedWrite s line then s else queueWrite s line (frameLine f line) false
    | .bad =>
      let s := countError s (.dram c) true
      let s := if !e.charged && e.st = .clean then dramEvent s 3 1 f.no line 15 .uncorrectable e.region f.page
        else if twinHolds s e then recoverLine s { line := line, write := false, curd := true, data := frameLine f line, rmw := false, since := s.now }
        else dramEvent s 5 2 f.no line 15 .uncorrectable e.region (line * 64)
      rowBad s c (rowOf p)

/-- R147, R150: one burst of a scrubbed directory block; what fails is rewritten from the other copy. -/
def scrubBlock (s : State) (no extent i : Nat) (err : DramError) : State :=
  let c := no % 16
  let p := placeOf (dramAt s c) (no / 16)
  let line := (directoryBase + extent) * 64 + i
  if (dramAt s c).st ≠ .online && (dramAt s c).st ≠ .vacating then s
  else match decoded (dramAt s c).marks (p.rank * 2 + line % 2) err with
    | .good | .poison => s
    | .erased d =>
      let s := countError s (.dram c) false
      match d with | some d => corrected s no line d | none => s
    | .corrected d => columnCommand (correctable s no line d) c (bankOf (line % 2) p) p.row false
    | .bad =>
      let s := dramEvent (countError s (.dram c) true) 3 1 no line 15 .uncorrectable 0 (line / 64)
      rowBad (columnCommand s c (bankOf (line % 2) p) p.row false) c (rowOf p)

/-- SCRUB_READ (R138, R150): a VALID frame or a written directory block is read whole; `errs` names its lines that are not good. -/
def execScrubRead (frame : Nat) (errs : List (Nat × DramError)) (s : State) : Res State :=
  let c := frame % 16
  if !scrubMay s c 0 || !scrubMay s c 1 then .next s
  else match s.ppu.frames.find? fun f => f.no = frame && f.valid with
    | some f => .next ((pageCommand s frame).each (errs.filter (·.1 < 64)) fun s x => scrubLine s f x.1 x.2)
    | none => match s.ppu.blocks.find? fun b => blockOn b (· = frame) with
      | none => .next s
      | some b => .next ((pageCommand s frame).each (errs.filter (·.1 < 64)) fun s x => scrubBlock s frame b.1 x.1 x.2)

/-- CA_PARITY_ALERT (R147): up to 3 retries; after 3 consecutive failures a verification retrain; a fourth fails the channel. -/
def execCaParityAlert (channel : Nat) (s : State) : Res State :=
  let c := dramAt s channel
  if c.st ≠ .online && c.st ≠ .vacating then .next s
  else
    let s := s.event 4 6 1 (unitWord 3 channel) (detail := c.caFails + 1)
    if 3 ≤ c.caFails then .next (failChannel s channel 3)
    else if c.caFails = 2 then .next (setDram s channel fun c => { c with caFails := 3, held := true, verify := true })
    else .next (setDram s channel fun c => { c with caFails := c.caFails + 1 })

/-- SPD_HUB_LOSS_TIMEOUT (R153, R380): a hub silent for 100 ms fails its channel. -/
def execSpdHubLossTimeout (channel : Nat) (s : State) : Res State :=
  let c := dramAt s channel
  let s := setDram s channel fun c => { c with lost := true }
  match c.st with
  | .online | .vacating => .next (failChannel s channel 4)
  | .training => .next (dramFailed s channel 4)
  | .absent | .offline | .failed => .next s

/-! ### The directory cache area (R157) -/

/-- R157: a channel's share has reached what it grows or shrinks to; its event gives the share (cause 0x22, log entry 136). -/
def shareReached (s : State) (channel : Nat) : State :=
  let c := dramAt s channel
  let on (no : Nat) : Bool := onChannel channel no && decide (channelLocations c - max c.share c.shareTo ≤ no / 16) && decide (no / 16 < channelLocations c - min c.share c.shareTo)
  let taken := if c.share < c.shareTo then s.ppu.frames.any fun f => on f.no else s.ppu.blocks.any fun b => blockOn b on
  if c.share = c.shareTo || taken then s
  else
    let s := setDram s channel fun c => { c with share := c.shareTo, zeroTo := 0 }
    wakeAll (s.event 4 9 0 (unitWord 3 channel) (detail := changeDetail (dramCode c.st) (dramCode c.st) 0x22 + 2 ^ 32 * c.shareTo))

/-- R157: one step of the change of size: locations that are added are vacated, blocks of those that go are written back or dropped. -/
def areaStep (s : State) : State :=
  s.each (List.range 16) fun s c =>
    let d := dramAt s c
    if d.share = d.shareTo then s
    else shareReached (vacateWithheld (leaveBlocks s fun no => onChannel c no && decide (no / 16 < channelLocations d - min d.share d.shareTo)) c) c

/-- DIRECTORY_AREA_RESIZE_COMPLETE (R157): every channel that was ONLINE when the size was set has its share. -/
def execDirectoryAreaResizeComplete (s : State) : Res State :=
  let s := areaStep s
  .next (if s.vat.areaTarget = 0 || s.vat.ch.any fun c => c.share ≠ c.shareTo then s else s.onVat fun v => { v with areaTarget := 0 })

/-- CHANNEL_VACATE_COMPLETE (R153, R157): the last location is vacated: OFFLINE, off the Wire, with a completion report; dirty
directory blocks are rewritten on the remaining channels. -/
def execChannelVacateComplete (channel : Nat) (s : State) : Res State :=
  if (dramAt s channel).st ≠ .vacating || s.couch.orch = .committed then .next s
  else
    let s := vacateStep (leaveBlocks s (onChannel channel)) channel
    if (s.ppu.frames.any fun f => onChannel channel f.no) || !(dramAt s channel).queue.isEmpty || s.ppu.blocks.any fun b => blockOn b (onChannel channel) then
      .next s
    else
      let s := dramState s channel .offline 0
      let s := setDram s channel fun c => { c with banks := [], repair := [] }
      .next (endLongOf s (· = .offline channel) .ok 0 [])

/-! ### CHANNEL_OFFLINE and CHANNEL_ONLINE of a DRAM channel (R153, R155) -/

/-- R155: NO_SPACE: pinned pages or charged pages against the remaining frames. -/
def offlineNoSpace (s : State) (channel : Nat) : Bool :=
  let left := frameCount s - channelFrames (dramAt s channel)
  left * pinLimitPercent s / 100 < pinnedPages s || left * dirtyCeilingPercent s / 100 < (s.ppu.dir.filter (·.charged)).length

/-- R153, R155: the bytes that a vacate has to copy. -/
def vacateBytes (s : State) (channel : Nat) : Nat :=
  (s.ppu.frames.filter fun f => onChannel channel f.no && ((entry s f.page).pinned || (entry s f.page).charged)).length * pageBytes

/-- R152, R153: CHANNEL_OFFLINE is accepted: the channel vacates; its clean directory blocks are dropped. -/
def beginVacating (s : State) (channel : Nat) : State :=
  let s := dramState s channel .vacating 0
  let clean (b : Nat × Nat × Nat) : Bool := !s.ppu.dirtyBlocks.contains b.1
  let s := s.onPpu fun p => { p with blocks := p.blocks.filter fun b => !(clean b && blockOn b (onChannel channel)) }
  vacateStep s channel

/-- R153: a DRAM channel that returns: vacating is cancelled, or the channel trains. -/
def dramOnline (s : State) (channel : Nat) : State :=
  match (dramAt s channel).st with
  | .vacating =>
    let s := s.each (s.ppu.moves.filter fun m => m.kind = .vacate && ((frameOf s m.page).map fun f => onChannel channel f.no).getD false) fun s m =>
      let e := entry s m.page
      putEntry (s.onPpu fun p => { p with moves := p.moves.erase m }) { e with st := if e.wrote then .dirty else e.prev, wrote := false }
    wakeAll (dramState (endLongOf s (· = .offline channel) .partial_ 0 []) channel .online 0)
  | .offline | .failed | .absent =>
    let s := setDram s channel fun c => { c with step := 0, verify := false, caFails := 0, held := false, queue := [] }
    dramState s channel .training 0
  | .training | .online => s

end Sys2Proof.Machine
end

