-- ==== Sys2Proof/Machine/Ream.lean ====
section
/-! DEFINITION. The Ream's channels, stages, bad blocks, reclamation, patrol, formats, drains and rebuilds (R158 to R189, R87, R90). -/

namespace Sys2Proof.Machine

/-! ### Geometry (R158, R159) -/

/-- R158, R159: the items of the table in their order, and whether the targets keep to each. -/
def targetItems (t : Targets) : List Bool :=
  [t.busBits = 8, decide (t.chipEnables ≤ 4), decide (t.volumesPerCe ≤ 2) && decide (1 ≤ t.targets) && decide (t.targets ≤ t.chipEnables * t.volumesPerCe),
   [1, 2, 4].contains t.luns && decide (2 ≤ t.targets * t.luns) && decide (t.targets * t.luns ≤ 16), t.pageBytes = 16384 && decide (2048 ≤ t.spareBytes),
   (t.planes = 2 || t.planes = 4) && t.multiPlane, t.tlcWithSlc, t.operations, !t.mixed]

/-- R158: the targets are supported. -/
def targetsSupported (t : Targets) : Bool := (targetItems t).all id

/-- R159: the item that the targets break, from 1 on; 0 for none. -/
def brokenItem (t : Targets) : Nat := ((targetItems t).findIdx? (!·)).map (· + 1) |>.getD 0

/-- R180: blocks with a factory marker are recorded before any erase, and are never erased or programmed. -/
def factoryMarks (found : List Nat) (blocks : List Block) : List Block :=
  let known := blocks.map fun b => if found.contains b.id then { b with bad := true, closed := true, erasing := false } else b
  known ++ ((found.filter fun n => !blocks.any (·.id = n)).map fun n => { blankBlock n with bad := true, closed := true })

/-! ### The end of a format (R87, R188) -/

/-- R293: a channel's part of a running CAPACITY_ADD ends; the last one brings the completion report. -/
def leaveAdd (s : State) (c : Nat) (ok : Bool) : State :=
  match s.cmd.longOps.find? fun o => match o.kind with | .add cs => cs.contains c | _ => false with
  | none => s
  | some o => match o.kind with
    | .add cs =>
      let fault := if ok then o.fault else some c
      if cs = [c] then endLong s o (if fault.isSome then .mediaError else .ok) (fault.getD 0) []
      else s.onCmd fun k => { k with longOps := k.longOps.map fun y => if y = o then { o with kind := .add (cs.filter (· ≠ c)), done := o.done + 5, fault := fault } else y }
    | _ => s

/-- R87: channel present or removed. -/
def presenceEvent (s : State) (c : Nat) (present : Bool) : State := s.event 13 3 0 (unitWord 4 c) (detail := if present then 1 else 0)

/-- R90, R169, R235: the image slots sent to a channel that fails whose stripe's parity has not been programmed: the pages are lost, and
counted as left out. The image is striped in the order of its pages. -/
def couchLoses (s : State) (c : Nat) : State :=
  let w := couchWidth s
  s.onCouch fun k => { k with stop := k.stop ||| 8, gen := k.gen.map fun g =>
    let covered (i : Nat) : Bool := decide (2 ≤ w) && decide ((i / (w - 1) + 1) * (w - 1) ≤ g.pages.length)
    let kept := ((List.range g.pages.length).zip g.pages).filter fun x => locChannel x.2.2.1 ≠ c || covered x.1
    { g with pages := kept.map (·.2), leftOut := g.leftOut + (g.pages.length - kept.length) } }

/-- R87, R90: a channel that held data fails: it leaves the Couch set and H, its drain ends with MEDIA_ERROR. -/
def failFlash (s : State) (c cause : Nat) (removed : Bool) : State :=
  match (flashAt s c).st with
  | .online | .draining =>
    let s := leaveDrain s c .mediaError c
    -- R235, R238: a Couch channel lost is flagged in the seal
    let s := s.onlyIf (s.couch.orch = .committed && (couchSet s).contains c) fun s => couchLoses s c
    deckleImmediate (setFlash (flashState s c .failed cause) c fun f => { f with removed := removed })
  | .adding =>
    let s := leaveAdd s c false
    let s := flashState s c (if removed then .absent else .present) cause
    if removed then presenceEvent s c false else s
  | .present | .drained => if removed then presenceEvent (flashState s c .absent cause) c false else s
  | .absent | .failed => setFlash s c fun f => { f with removed := f.removed || removed }

/-! ### Training and membership (R160, R185) -/

/-- R185: the highest membership generation of the channel's group is noted; channels of a lower one are PRESENT. -/
def noteGeneration (s : State) (c generation : Nat) : State :=
  let g := c / 12
  if generation ≤ s.ream.membership.getD g 0 then s
  else
    let s := s.onReam fun r => { r with membership := r.membership.set g generation }
    s.each (groupChannels g) fun s k =>
      let f := flashAt s k
      if k ≠ c && (f.st = .online || f.st = .draining) && ((f.found.map (·.generation)).getD 0) < generation then flashState s k .present 0 else s

/-- R167: a block whose header copies both fail their CRC is as one not written, and is erased; one whose format, type or flags are not read
is neither erased nor used. -/
def readHeader (now : Nat) (b : Block) : Block :=
  if b.sequence = 0 || b.bad then b
  else match headerRead b with
    | none => queueErase now b
    | some h => if headerUnread h then { b with bad := true, closed := true } else b

/-- R167, R440: an event for each block whose format is not read. -/
def headerEvents (s : State) (channel : Nat) : State :=
  s.each ((flashAt s channel).blocks.filter fun b => b.sequence ≠ 0 && !b.bad && ((headerRead b).map headerUnread).getD false) fun s b =>
    s.event 5 8 2 (unitWord 4 channel) (detail := b.id)

/-- R185: the state that a channel takes at power-up. -/
def joinGroup (s : State) (c : Nat) (found : ChanMeta) : State :=
  if !found.own then flashState s c .present 0
  else
    let f := flashAt s c
    let s := noteGeneration (headerEvents s c) c found.generation
    if found.generation = s.ream.membership.getD (c / 12) 0 then
      flashState (setFlash s c fun f => { f with blocks := factoryMarks found.factoryBad (f.blocks.map (readHeader s.now)), reserveReady := true, stageReady := true, drainMark := f.drainMark || found.draining }) c (if found.draining || f.drainMark then .draining else .online) 0
    else flashState s c .present 0

/-- R10, R160: the interface's rate, its FC island's clock, and the event of a fall-back. -/
def setSlow (s : State) (channel : Nat) (slow : Bool) : State :=
  let was := (flashAt s channel).slow
  let s := setFlash s channel fun f => { f with slow := slow }
  let s := changeClock s [.fc channel] (if slow then 1 else 0)
  if slow && !was then s.event 5 7 1 (unitWord 4 channel) else s

/-- R159: the cause of a FAILED channel whose targets are not supported, and the item that they break. -/
def unsupportedCause (t : Targets) : Nat := 1 + 256 * brokenItem t

/-- FLASH_TRAINING_COMPLETE (R158 to R160, R185, R186, R188): at power-up, in step 2 of a format, and when a channel in service retrains. -/
def execFlashTrainingComplete (channel : Nat) (result : FlashTrain) (targets : Targets) (found : ChanMeta) (s : State) : Res State :=
  let f := flashAt s channel
  let boot := !aboveCore s && f.st = .absent
  let serving := f.st = .online || f.st = .draining
  if !boot && !serving && !(f.st = .adding && f.addStep = 1) then .next s
  else match result with
    | .failed => if boot then .next (flashState s channel .failed 2) else .next (failFlash s channel 2 false)
    | .full | .fallback =>
      let s := setSlow s channel (decide (result = .fallback))
      if serving then .next s
      else
      let s := setFlash s channel fun f => { f with targets := some targets, found := some found, deadTargets := [], overruns := [] }
      if !targetsSupported targets then
        if boot then .next (flashState s channel .failed (unsupportedCause targets)) else .next (failFlash s channel (unsupportedCause targets) false)
      else if boot then .next (joinGroup s channel found)
      else .next (setFlash s channel fun f => { f with addStep := 3 })

/-- R188: the format waits for the home window: a progress report says so once. -/
def holdFormat (s : State) (channel : Nat) : State :=
  if (flashAt s channel).addStep = 4 then s
  else
    let s := setFlash s channel fun f => { f with addStep := 4 }
    progressLong s (fun k => match k with | .add cs => cs.contains channel | _ => false) 0

/-- R188: what a format has erased: stage and Couch reserve blocks join the erased ones, and home blocks are erased as they are needed. -/
def formatBlocks (f : Flash) : List Block :=
  let blank (b : Block) : Block := { blankBlock b.id with bad := b.bad, closed := b.bad, erases := b.erases }
  factoryMarks ((f.found.map (·.factoryBad)).getD []) ((f.blocks.filter fun b => b.bad || 0 < b.erases).map blank)

/-- CHANNEL_FORMAT_COMPLETE (R87, R188): step 4 waits for the home window; step 5 writes the next membership generation. -/
def execChannelFormatComplete (channel : Nat) (pass : Bool) (s : State) : Res State :=
  let f := flashAt s channel
  if f.st ≠ .adding || f.addStep < 3 then .next s
  else if !pass then .next (failFlash s channel 0 false)
  else if !homeWindow f then .next (holdFormat s channel)
  else
    let g := channel / 12
    let n := s.ream.membership.getD g 0 + 1
    let s := s.onReam fun r => { r with membership := r.membership.set g n,
                                        slots := r.slots.filter fun x => locChannel x.loc ≠ channel,
                                        stripes := (r.stripes.map fun p => { p with members := p.members.filter fun m => m.1 ≠ channel }).filter fun p => !p.members.isEmpty }
    let mark (f : Flash) : Flash := { f with found := some { own := true, generation := n, draining := f.st = .draining, factoryBad := (f.found.map (·.factoryBad)).getD [] } }
    let s := s.each (groupChannels g) fun s k => if (flashAt s k).st = .online || (flashAt s k).st = .draining then setFlash s k mark else s
    let fresh (f : Flash) : Flash :=
      { mark f with drainMark := false, reserveReady := true, stageReady := true, addStep := 5, removed := false, lost := 0, blocks := formatBlocks f }
    let s := setFlash s channel fresh
    .next (leaveAdd (flashState s channel .online 0) channel true)

/-- FLASH_ABSENT_PROBE_TICK (R87, R186). -/
def execFlashAbsentProbeTick (channel : Nat) (found : Bool) (s : State) : Res State :=
  if (flashAt s channel).st = .absent && found then .next (presenceEvent (flashState s channel .present 0) channel true) else .next s

/-! ### Targets (R161, R186) -/

/-- R161, R186: a target fails; the last one fails its channel, as a surprise removal when none of them had overrun. -/
def failTarget (s : State) (channel target : Nat) : State :=
  let f := flashAt s channel
  match f.targets with
  | none => s
  | some t =>
    if !(targetNumbers t).contains target || f.deadTargets.contains target || f.st = .absent || f.st = .failed then s
    else
      let s := (setFlash s channel fun f => { f with deadTargets := f.deadTargets ++ [target] }).event 5 1 2 (unitWord 4 channel) (detail := target)
      if (flashAt s channel).deadTargets.length < t.targets then deckleImmediate s
      else
        let removed := f.overruns.isEmpty
        failFlash s channel (if removed then 3 else 4) removed

/-- R161: the maximum time of an operation, from its target's parameter page. -/
def maximumTime (t : Targets) : NandKind → Nat
  | .read => t.readNs | .program => t.programNs | .erase => t.eraseNs

/-- R161: the LUN runs an operation of the kind that has had its maximum time: a fetch or an erase of its own; a program, whose LUN its end
names, of cleaning, a move, the stage or the Couch. -/
def overdue (s : State) (channel : Nat) (op : NandOp) : Bool :=
  let lun := 32 * channel + 4 * op.target + op.lun
  match (flashAt s channel).targets with
  | none => false
  | some t =>
    let past (since : Nat) : Bool := decide (since + maximumTime t op.kind ≤ s.now)
    match op.kind with
    | .read => s.ppu.fetches.any fun f => pageLun s f.page = lun && past f.issued
    | .erase => (flashAt s channel).blocks.any fun b => b.erasing && b.id / 2 ^ 26 = lun % 32 && past b.eraseSince
    | .program => (s.ppu.moves.any fun m => past m.since) || s.ream.stageClosed ≠ 0 || (s.couch.orch = .committed && !s.couch.todo.isEmpty)

/-- NAND_OPERATION_OVERRUN (R161): ended with Reset LUN and issued once more; a second overrun fails the target. -/
def execNandOperationOverrun (channel : Nat) (op : NandOp) (s : State) : Res State :=
  let f := flashAt s channel
  if !overdue s channel op then .next s
  else if f.overruns.contains op then .next (failTarget s channel op.target)
  else
    let again (b : Block) : Block := if op.kind = .erase && b.erasing && b.id / 2 ^ 26 = 4 * op.target + op.lun then { b with eraseSince := s.now } else b
    .next (setFlash s channel fun f => { f with overruns := f.overruns ++ [op], blocks := f.blocks.map again })

/-- TARGET_STATUS_TIMEOUT (R161, R186). -/
def execTargetStatusTimeout (channel target : Nat) (s : State) : Res State := .next (failTarget s channel target)

/-! ### The stage (R171) -/

/-- STAGE_GATHER_TIMEOUT: the page that gathers records closes and is programmed. -/
def execStageGatherTimeout (s : State) : Res State :=
  .next (if s.ream.gathering then s.onReam fun r => { r with gathering := false, stageClosed := (r.stage.filter (!·.programmed)).length } else s)

/-- R171: the oldest n records that are not programmed, programmed in a stage block. -/
def programRecords : Nat → Nat → List StageRec → List StageRec × List StageRec
  | 0, _, l => ([], l)
  | _, _, [] => ([], [])
  | n + 1, block, r :: rest =>
    if r.programmed then let (d, l) := programRecords (n + 1) block rest; (d, r :: l)
    else let (d, l) := programRecords n block rest; (r :: d, { r with programmed := true, block := block } :: l)

/-- R356, R365: records that are programmed have been enciphered: their requests for stage keys have ended. -/
def dropStageRequests : Nat → List CipherReq → List CipherReq
  | 0, l => l
  | _, [] => []
  | n + 1, q :: rest => if q.slot.isNone then dropStageRequests n rest else q :: dropStageRequests (n + 1) rest

/-- R171: the stage block that takes the next page, opened on the lowest pair that has one where none is open (log entry 160). -/
def stageTarget (s : State) : Option (StageBlock × State) :=
  match stageOpen s true with
  | some b => some (b, s)
  | none => (stageNew s true).map fun c =>
    let b : StageBlock := { seq := s.ream.stageSeq, channel := c, pages := 0, limit := min (stageBlockPages (flashAt s c)) (stageBlockPages (flashAt s ((c + 12) % 48))) }
    (b, s.onReam fun r => { r with stageBlocks := r.stageBlocks ++ [b], stageSeq := r.stageSeq + 1 })

/-- STAGE_PROGRAM_COMPLETE (R43, R171): both copies of the oldest closed page are programmed, and its writes complete. -/
def execStageProgramComplete (s : State) : Res State :=
  match (stageTarget s).filter fun _ => s.ream.stageClosed ≠ 0 with
  | none => .next s
  | some (b, s) =>
    let n := min stagePageRecords s.ream.stageClosed
    let (done, list) := programRecords n b.seq s.ream.stage
    let s := s.onReam fun r =>
      { r with stage := list, stageClosed := r.stageClosed - n,
               stageBlocks := r.stageBlocks.map fun x => if x.seq = b.seq then { x with pages := x.pages + 1 } else x }
    let s := s.onCipher fun c => { c with requests := dropStageRequests n c.requests }
    .next (s.each done fun s r => match s.cxl.reqs.find? fun q => q.line = r.line && q.st = .stage with
      | some q => localPlaced s q
      | none => s)

/-- R171, R179, R183: stage blocks that take no more pages and whose records are all invalid are erased, while both carriers lie in the home
window; their records go with them. -/
def reclaimStage (s : State) : State :=
  let dead (b : StageBlock) : Bool :=
    decide (b.limit ≤ b.pages) && homeWindow (flashAt s b.channel) && homeWindow (flashAt s ((b.channel + 12) % 48)) &&
      !(s.ream.stage.any fun r => r.programmed && r.block = b.seq && r.valid)
  let gone := s.ream.stageBlocks.filter dead
  s.onReam fun r => { r with stageBlocks := r.stageBlocks.filter fun b => !dead b, stage := r.stage.filter fun x => !(x.programmed && gone.any (·.seq = x.block)) }

/-! ### Blocks (R179 to R182) -/

/-- R181: the mean erase count of a channel reaches 90 % of the rated endurance. -/
def wearHigh (f : Flash) : Bool :=
  match f.targets with
  | some t =>
    let n := t.targets * t.luns * t.planes * t.blocksPerPlane
    n ≠ 0 && 9 * t.endurance * n ≤ 10 * (f.blocks.map (·.erases)).sum
  | none => false

/-- R179, R181: the block's valid slots are moved and its erase is queued. -/
def emptyBlock (s : State) (channel block : Nat) : State :=
  let s := setFlash s channel fun f => { f with blocks := f.blocks.map fun b => if b.id = block then queueErase s.now (closeBlock s.now b) else b }
  startMoves s channel block .relocate

/-- NAND_PROGRAM_FAILURE (R180): the block is a grown bad block; the data is taken from the frame that R170 holds. -/
def execNandProgramFailure (channel block : Nat) (s : State) : Res State :=
  match blockAt s channel block with
  | some b => if b.bad then .next s else .next (growBad s channel block)
  | none => .next (growBad s channel block)

/-- R177, R184, R228: erases are held, but for the one that the LUN has begun: the first of those queued before. -/
def eraseBarred (s : State) (channel : Nat) (b : Block) : Bool :=
  s.couch.eraseHold &&
    !(decide (b.eraseSince < s.couch.heldAt) && (flashAt s channel).blocks.all fun x => !x.erasing || x.id / 2 ^ 26 ≠ b.id / 2 ^ 26 || decide (b.eraseSince ≤ x.eraseSince))

/-- NAND_ERASE_COMPLETE (R161, R169, R170, R173, R177, R179 to R181, R183, R184, R228): the erased block joins the erased ones, or is a grown
bad block. No erase ends while a slot that its stripe's parity covers is in use or before the reads before it are done, and none runs outside
the home window, or begins while erases are held. A block that holds nothing the model names is one of a rehearsal. -/
def execNandEraseComplete (channel block : Nat) (ok : Bool) (s : State) : Res State :=
  match blockAt s channel block with
  | none => .next (if ok && !s.couch.eraseHold && homeWindow (flashAt s channel) then s.onReam fun r => { r with rehearsal := r.rehearsal - slcBlock (flashAt s channel) } else s)
  | some b =>
    let lun := 32 * channel + block / 2 ^ 26
    if !b.erasing || b.bad || !stripeIdle s channel block || eraseBarred s channel b || !windowSince (flashAt s channel) b.eraseSince || readsWait s lun b.eraseSince then .next s
    else if !ok then .next (growBad s channel block)
    else
      let was := wearHigh (flashAt s channel)
      let s := leaveStripe ((targetAnswers s (BitVec.ofNat 40 (channel * 2 ^ 33 + block * 4)) .erase).onReam fun r =>
        { r with slots := r.slots.filter fun x => !(locChannel x.loc = channel && blockId x.loc = block) }) channel block
      let s := setFlash s channel fun f => { f with blocks := f.blocks.map fun x =>
        if x.id = block then { blankBlock block with erases := x.erases + 1 } else x }
      .next (if !was && wearHigh (flashAt s channel) then s.event 5 6 1 (unitWord 4 channel) else s)

/-- R164, R179: erased blocks of a LUN, and its blocks. -/
def lunErased (s : State) (channel lun : Nat) : Nat × Nat :=
  match (flashAt s channel).targets with
  | some t =>
    let total := t.planes * t.blocksPerPlane
    let used := ((flashAt s channel).blocks.filter fun b => (b.sequence ≠ 0 || b.bad) && b.id / 2 ^ 26 = lun).length
    (total - used, total)
  | none => (0, 0)

/-- R179: slots of a stripe that hold data, and those in use. -/
def stripeSlots (s : State) (p : Stripe) : Nat := ((flashAt s p.parity.1).targets.map fun t => (p.width - 1) * (dataEnd t p.seg - 1)).getD 1
def stripeLive (s : State) (p : Stripe) : Nat := (p.members.map fun m => liveSlots s m.1 m.2).sum

/-- R179: the time since a stripe closed. -/
def stripeAge (s : State) (p : Stripe) : Nat := s.now - (p.members.map fun m => ((blockAt s m.1 m.2).map (·.closedAt)).getD 0).foldl max 0

/-- R179: whether of two closed stripes the first has the score (1 - u) x age / (1 + u) no lower than the second's; u is the part of its
slots that is valid. -/
def scoreAtLeast (s : State) (a b : Stripe) : Bool :=
  decide ((stripeSlots s b - stripeLive s b) * stripeAge s b * (stripeSlots s a + stripeLive s a) ≤
    (stripeSlots s a - stripeLive s a) * stripeAge s a * (stripeSlots s b + stripeLive s b))

/-- R169, R172, R179: a stripe that reclamation may take on a LUN: closed, with a block of the LUN whose erase is not queued; a directory stripe
when nothing of it is in use. -/
def reclaims (s : State) (channel lun : Nat) (p : Stripe) : Bool :=
  p.closed && (p.seg = .home || stripeLive s p = 0) &&
    p.members.any fun m => m.1 = channel && decide (m.2 / 2 ^ 26 = lun) && ((blockAt s m.1 m.2).map fun b => !b.erasing && !b.bad).getD false

/-- R179: of the stripes that reclamation may take on the LUN it has the highest score. -/
def bestScore (s : State) (channel lun : Nat) (p : Stripe) : Bool := s.ream.stripes.all fun x => !reclaims s channel lun x || scoreAtLeast s p x

/-- R169, R179: the valid slots of a stripe are moved, and its blocks are erased; a block that was never programmed leaves it. -/
def emptyStripe (s : State) (p : Stripe) : State :=
  s.each p.members fun s m => if ((blockAt s m.1 m.2).map fun b => decide (b.sequence ≠ 0) && !b.bad).getD false then emptyBlock s m.1 m.2 else leaveStripe s m.1 m.2

/-- RECLAMATION_START (R171, R179): on a LUN (target and LUN as in R164) short of erased blocks, the closed stripe of the highest score, which
one of its blocks names, is emptied and erased; the stage's dead blocks are erased with it (log entry 28). -/
def execReclamationStart (channel lun block : Nat) (s : State) : Res State :=
  let s := reclaimStage s
  let (erased, total) := lunErased s channel lun
  match stripeAt s channel block with
  | some p =>
    if !reclaims s channel lun p || total * reclaimPercent s ≤ erased * 100 || !cleaningRuns s || !bestScore s channel lun p then .next s
    else .next (emptyStripe s p)
  | none => .next s

/-- R181: the block has been visited in this patrol interval. -/
def patrolledNow (s : State) (b : Block) : Bool := (b.patrolled.map fun t => decide (t / max 1 (patrolInterval s) = s.now / max 1 (patrolInterval s))).getD false

/-- PATROL_READ (R181): a closed home block is read, once in each patrol interval; one whose slots need read-retry is moved. -/
def execPatrolRead (channel block : Nat) (neededRetry : Bool) (s : State) : Res State :=
  match blockAt s channel block with
  | some b =>
    if !b.closed || b.seg ≠ .home || b.bad || b.erasing || b.sequence = 0 || patrolledNow s b || !cleaningRuns s then .next s
    else
      let s := (setFlash s channel fun f => { f with blocks := f.blocks.map fun x => if x.id = block then { x with patrolled := some s.now } else x }).onReam fun r => { r with patrolled := r.patrolled + 1 }
      .next (if neededRetry then emptyBlock (countError s (.flash channel) false) channel block else s)
  | none => .next s

/-- WEAR_LEVEL_MOVE (R181): when the spread of erase counts exceeds 5 % of the rated endurance, the block of the lowest count
that holds valid data is moved. -/
def execWearLevelMove (channel block : Nat) (s : State) : Res State :=
  let f := flashAt s channel
  let high := (f.blocks.map (·.erases)).foldl max 0
  let endurance := (f.targets.map (·.endurance)).getD 0
  match blockAt s channel block with
  | some b =>
    let lowest := f.blocks.all fun x => b.erases ≤ x.erases || (validSlots s channel x.id).isEmpty
    if endurance < 20 * (high - b.erases) && lowest && !(validSlots s channel block).isEmpty && !b.bad && !b.erasing && cleaningRuns s then
      .next (emptyBlock s channel block)
    else .next s
  | none => .next s

/-! ### Drains and rebuilds (R87 to R90, R186, R187) -/

/-- Pages whose Ream location lies on a channel. -/
def pagesOn (s : State) (channel : Nat) : List Nat := (s.ppu.dir.filter fun e => e.loc ≠ 0 && locChannel e.loc = channel).map (·.page)

/-- Extents whose directory pages have a location on a channel (R172). -/
def directoryOn (s : State) (channel : Nat) : List Nat :=
  (s.ream.root.filter fun x => locChannel x.2.1 = channel).map (·.1 / 2)

/-- R89, R172, R187: the two pages of a directory block stand at a new location: its root entries are written. -/
def moveDirectory (s : State) (e : Nat) (loc : BitVec 40) : State :=
  enterDirectory s e loc

/-- CHANNEL_DRAIN_COMPLETE (R87): every page has moved: DRAINED; the report comes with the drain's last channel. -/
def execChannelDrainComplete (channel : Nat) (s : State) : Res State :=
  if (flashAt s channel).st ≠ .draining || !(pagesOn s channel).isEmpty || !(directoryOn s channel).isEmpty || s.cmd.safe || !cleaningRuns s then .next s
  else
    let s := setFlash (flashState s channel .drained 0) channel fun f => { f with drainMark := false }
    match s.cmd.longOps.find? fun o => match o.kind with | .drain cs => cs.contains channel | _ => false with
    | none => .next s
    | some o => match o.kind with
      | .drain cs =>
        if cs = [channel] then .next (endLong s o .ok 0 [])
        else .next (s.onCmd fun k => { k with longOps := k.longOps.map fun y => if y = o then { o with kind := .drain (cs.filter (· ≠ channel)) } else y })
      | _ => .next s

/-- R90, R186, R187: the page's slot is out of reach and has to be rebuilt. -/
def needsRebuild (s : State) (l : BitVec 40) : Bool :=
  let f := flashAt s (locChannel l)
  l ≠ 0 && (f.st = .failed || f.st = .present || f.st = .absent || f.deadTargets.contains (locTarget l))

/-- R90, R187, R437: a directory block whose pages stand on failed channels is rebuilt elsewhere; with no rebuild it is written anew from
the cache area, or the pages that it covers are LOST. -/
def rebuildDirectory (s : State) (e : Nat) (loc : Option (BitVec 40)) : State :=
  let gone := (s.ream.root.filter fun x => x.1 / 2 = e && needsRebuild s x.2.1).map (·.1)
  if gone.isEmpty || !cleaningRuns s then s
  else match loc.filter fun _ => (s.ream.root.filter fun x => gone.contains x.1).all fun x => recoverable s x.2.1 with
    | some l => if dirTarget s l then moveDirectory s e l else s
    | none =>
      let s := logRoot s (gone.map fun p => (p, 0, 0))
      if s.ppu.blocks.any (·.1 = e) then s.onPpu fun p => { p with dirtyBlocks := addNew p.dirtyBlocks e }
      else loseDirectory s (gone.flatMap directoryCovers)

/-- REBUILD_STRIPE (R72, R90, R187): the slot is rebuilt at a new location, and the page is MOVING until PAGE_MOVE_END; or the stripe has
lost two slots. A page whose data stands in a frame is then not LOST: it loses its home copy and is dirty (log entry 29). -/
def execRebuildStripe (page : Nat) (loc : Option (BitVec 40)) (s : State) : Res State :=
  let e := entry s page
  if directoryBase ≤ page then .next (rebuildDirectory s (page - directoryBase) loc)
  else if !needsRebuild s e.loc || !cleaningRuns s then .next s
  else if e.st = .moving then .next (s.emit (.retryResponse page))
  else match loc.filter fun _ => recoverable s e.loc with
    | some l => match slotAt s e.loc with
      | some x => if rebuildTarget s e.loc l then .next (startMove (writeSlot s { x with loc := l, generation := 0 } 0) page .rebuild x.data l) else .next s
      | none => .next s
    | none => match validFrame s page with
      | some _ => .next (putEntry s { e with loc := 0, keyGen := 0, st := .dirty, charged := true })
      | none => .next (fetchLost s page)

/-- REBUILD_COMPLETE (R87): no page is left to rebuild: PRESENT, or ABSENT if the channel was removed. -/
def execRebuildComplete (channel : Nat) (s : State) : Res State :=
  let f := flashAt s channel
  if f.st ≠ .failed || !(pagesOn s channel).isEmpty || !(directoryOn s channel).isEmpty then .next s
  else
    let s := s.onReam fun r => { r with slots := r.slots.filter fun x => locChannel x.loc ≠ channel || x.generation ≠ 0 }
    let s := setFlash s channel fun f => { f with drainMark := false }
    let s := flashState s channel (if f.removed then .absent else .present) 0
    .next (if f.removed then presenceEvent (setFlash s channel fun f => { f with removed := false }) channel false else s)

end Sys2Proof.Machine
end

