-- ==== Sys2Proof/Machine/Cipher.lean ====
section
/-! DEFINITION. Keys, key slots, the cipher cores and the starter key (R350 to R368, group 0x09). -/

namespace Sys2Proof.Machine

/-! ### Cores (R366 to R368) -/

/-- Cores in service. -/
def coresInService (s : State) : Nat := (s.units.cores.filter (·.st = .inService)).length

/-- R368: a core is fenced; a fence that would leave fewer than 4 is not made. -/
def fenceCore (s : State) (core : Nat) : State :=
  if (s.units.cores.getD core .reset).st ≠ .inService then s
  else if coresInService s ≤ 4 then (s.onUnits fun u => { u with coreFailing := addNew u.coreFailing core }).event 0 5 3 (unitWord 7 core)
  else (setUnit s (.core core) fun u => { u with st := .fenced }).event 8 1 2 (unitWord 7 core)

/-- CIPHER_SELF_TEST_TICK (R367). -/
def execCipherSelfTestTick (core : Nat) (pass : Bool) (s : State) : Res State := .next (if pass then s else fenceCore s core)

/-- R360, R361: blocks enciphered under the current generation; crossing a multiple of L/64 is recorded in the metadata, and
at 4 L with the generation before still live the slot is exhausted. -/
def countUsage (s : State) (slot blocks : Nat) : State :=
  match keySlotAt s slot with
  | none => s
  | some k =>
    let l := usageLimit s
    let n := k.usage + blocks
    let exhausts := !k.exhausted && 4 * l ≤ n && liveGeneration s slot (k.generation - 1) && k.generation < 0xFFFFFFFF
    let crosses := k.usage / (l / 64) ≠ n / (l / 64)
    let s := setKeySlot s slot fun k => { k with usage := n, inflight := k.inflight - 1, exhausted := k.exhausted || exhausts,
                                                 recorded := if crosses then n else k.recorded }
    let s := if crosses then setRegion s k.region fun g => { g with metaDirty := true } else s
    if exhausts then checkFlush (s.event 8 2 2 (region := k.region) (detail := slot)) k.region else s

/-! ### The scheduler (R365) -/

/-- R365: the rank of a waiting request: CCH requests first, then what has waited 5 ms, oldest first, then its level. -/
def cipherRank (s : State) (q : CipherReq) : Nat × Nat :=
  (if q.level = 1 then 0 else if q.since + 5000000 ≤ s.now then 1 else q.level, q.since)

/-- R365: the first request of a list by rank, the earlier arrival between equals. -/
def firstCipher (s : State) (l : List CipherReq) : Option CipherReq :=
  l.foldl (fun m q => match m with
    | none => some q
    | some x =>
      let a := cipherRank s q
      let b := cipherRank s x
      if a.1 < b.1 || (a.1 = b.1 && a.2 < b.2) then some q else some x) none

/-- R365: a core stays with its queue for up to 16 consecutive requests, and longer while no other queue waits. -/
def staysWith (s : State) (core : Nat) : Option (Option Nat) :=
  (s.cipher.turns.find? (·.1 = core)).bind fun t =>
    if s.cipher.requests.any (·.slot = t.2.1) && (t.2.2 < 16 || s.cipher.requests.all (·.slot = t.2.1)) then some t.2.1 else none

/-- R365: the queue that a core takes its next request from. -/
def cipherTurn (s : State) (core : Nat) : Option (Option Nat) :=
  match staysWith s core with
  | some q => some q
  | none => (firstCipher s s.cipher.requests).map (·.slot)

/-- R365: a core takes the first request of a queue. -/
def takeCipher (s : State) (core : Nat) (slot : Option Nat) : State :=
  let served := match s.cipher.turns.find? (·.1 = core) with
    | some t => if t.2.1 = slot then t.2.2 + 1 else 1
    | none => 1
  let gone := firstCipher s (s.cipher.requests.filter (·.slot = slot))
  s.onCipher fun c => { c with turns := c.turns.filter (·.1 ≠ core) ++ [(core, slot, served)],
                               requests := match gone with | some q => c.requests.erase q | none => c.requests }

/-- CIPHER_PASS_COMPLETE (R360, R365, R366, R368): a core's pass for a key slot, or for stage keys, ends; the core serves the queue that
is its turn. A core that disagrees with two others is fenced. A pass of a queue in which nothing waits is one whose request came with it
(log entry 146). -/
def execCipherPassComplete (slot : Option Nat) (core blocks : Nat) (disagreeing : Option Nat) (s : State) : Res State :=
  let waits := s.cipher.requests.any (·.slot = slot)
  if (s.units.cores.getD core .reset).st ≠ .inService || (waits && cipherTurn s core ≠ some slot) then .next s
  else
  let s := (takeCipher s core slot).onCipher fun c => { c with passes := c.passes + 1 }
  let s := match slot with | some n => countUsage s n blocks | none => s
  .next (match disagreeing with | some c => withInjection s (.core c) 1 fun s => fenceCore s c | none => s)

/-! ### Generations (R357 to R362) -/

/-- R360: the sweep of a slot ends when no slot of the generation before is live. -/
def endSweep (s : State) (slot : Nat) : State :=
  setKeySlot s slot fun k => if k.sweep && !liveGeneration s slot (k.generation - 1) then { k with sweep := false, exhausted := false, keys := k.keys.filter (·.1 = k.generation) } else k

/-- REKEY_SWEEP_STEP (R360, R362): a live slot of generation g − 1 is enciphered again under g, as a move. A COUCHED page then
has a home. -/
def execRekeySweepStep (region : U16) (page : Nat) (loc : BitVec 40) (s : State) : Res State :=
  match slotOfRegion s region.toNat with
  | none => .next s
  | some k =>
    let e := entry s page
    match slotAt s e.loc with
    | none => .next (endSweep s k.slot)
    | some x =>
      if !k.sweep || x.keySlot ≠ k.slot || !x.cipher || x.keyGen + 1 ≠ k.generation || e.region ≠ region.toNat || e.st = .moving || !homeTarget s loc ||
          !cleaningRuns s || s.cmd.safe then .next (endSweep s k.slot)
      else
        let s := writeSlot s { x with loc := loc, keyGen := k.generation, generation := 0 } e.loc
        let s := putEntry s { e with loc := loc, keyGen := BitVec.ofNat 2 k.generation, st := if e.st = .couched then .home else e.st }
        .next (endSweep (cipherRequest s region.toNat 5) k.slot)

/-- KEY_SLOT_FREED (R357): RETIRED, with no live slot and no request in flight: FREE. -/
def execKeySlotFreed (slot : Nat) (s : State) : Res State :=
  match keySlotAt s slot with
  | some k => if k.retired && !liveAny s slot && k.inflight = 0 then .next (s.onCipher fun c => { c with slots := c.slots.filter (·.slot ≠ slot) }) else .next s
  | none => .next s

/-! ### Group 0x09 (R319, R320) -/

/-- KEY_SLOT_BIND (R357, R358): the region is keyed at the next epoch boundary. -/
def execKeySlotBind (r : Req) (slot region : U16) (s : State) : Res State :=
  .next <| command s r 0x0901 (regionReserved region 18) .owner .fromLift fun s x =>
    let k := slot.toNat
    if 1023 < k then refuse s r 0x0901 .range 16
    else withRegion s r 0x0901 x region 18 fun g =>
      let asked := (waitingChanges s).any fun c => match c with | .bindKey n m => n = g.num || m = k | _ => false
      checked s r 0x0901
          [((starterKey s).isNone, .conflict, 16), ((keySlotAt s k).isSome || (slotOfRegion s g.num).isSome || asked, .conflict, 2), (regionHeld g, .busy, 3)] fun s =>
        requestClose (defer s x r) [{ change := .bindKey g.num k, req := some (r, 0x0901, x.num) }]

/-- KEY_SLOT_RETIRE (R357, R362). -/
def execKeySlotRetire (r : Req) (slot : U16) (s : State) : Res State :=
  .next <| command s r 0x0902 none .owner .fromLift fun s _ =>
    let k := slot.toNat
    let held := match keySlotAt s k with
      | some x => !x.retired && ((regionOf s x.region).map fun g => flagCipher g.flags).getD false
      | none => false
    checked s r 0x0902 [(decide (1023 < k), .range, 16), (held, .conflict, 2)] fun s =>
      ok (retireSlot s k) r 0x0902 []

/-- R320, R360: the entry of a slot in KEY_STATUS. -/
def keyStatusBytes (s : State) (n : Nat) : List Byte :=
  match keySlotAt s n with
  | none => le 2 n ++ List.replicate 14 0
  | some k =>
    let mask := ((List.range 4).map fun j =>
      if s.ream.slots.any fun x => x.cipher && x.keySlot = n && x.keyGen % 4 = j && (entry s x.page).loc = x.loc then 2 ^ j else 0).sum
    le 2 n ++ le 2 k.region ++ le 4 k.generation ++ le 2 (min 40000 (k.usage * 10000 / usageLimit s)) ++ le 1 mask ++ le 1 (if k.retired then 2 else 1) ++ le 4 0

/-- KEY_STATUS (R320). -/
def execKeyStatus (r : Req) (slot count : U16) (s : State) : Res State :=
  .next <| command s r 0x0903 none .session .notCouch fun s _ =>
    checked s r 0x0903 [(decide (1023 < slot.toNat), .range, 16), (count = 0 || decide (1024 - slot.toNat < count.toNat), .range, 18)] fun s =>
      ok s r 0x0903 ((List.range count.toNat).flatMap fun i => keyStatusBytes s (slot.toNat + i))

/-- R351: a bank takes a key: the lowest blank one. -/
def putBank (banks : List KeyBank) (b : KeyBank) : List KeyBank :=
  match banks with
  | .blank :: rest => b :: rest
  | x :: rest => x :: putBank rest b
  | [] => []

/-- STARTER_PROVISION (R351): refused when a key is in place, when both banks are consumed, or while one is programmed. -/
def execStarterProvision (r : Req) (mode : U8) (serial : U64) (key : BitVec 256) (s : State) : Res State :=
  .next <| command s r 0x0904 (if 1 < mode.toNat then some (.reservedField, 16) else none) .owner .fromLift fun s x =>
    let taken := (s.cipher.banks.any fun b => match b with | .valid _ => true | _ => false) || !s.cipher.banks.contains .blank || s.cipher.programming.isSome
    checked s r 0x0904 [(taken, .conflict, 5), (decide (serial.toNat ≠ ownSerial), .conflict, 17)] fun s =>
      let k := if mode = 0 then Config.drbgKey s.cipher.drawn else key
      (defer s x r).onCipher fun c => { c with programming := some (k, some (r, 0x0904, x.num)), drawn := if mode = 0 then c.drawn + 1 else c.drawn }

/-- STARTER_KEY_PROGRAMMING_DONE (R350, R351): the bank's marker stands, or the bank is consumed; the reply is the check value.
A failure is answered INTERNAL (log entry 30). -/
def execStarterKeyProgrammingDone (ok : Bool) (s : State) : Res State :=
  match s.cipher.programming with
  | none => .next s
  | some (k, q) =>
    let s := s.onCipher fun c => { c with programming := none, banks := putBank c.banks (if ok then .valid k else .consumed) }
    .next (finishCloses (if ok then answerJoined s q .ok 0 (checkValue k) else answerJoined s q .internal 0 []))

end Sys2Proof.Machine
end

