-- ==== Sys2Proof/Machine/Energy.lean ====
section
/-! DEFINITION. The Salometer's model: chemistry tables, usable energy, uncertainty, confidences, the energy state, the SoC interval, learning (R199 to R216). Voltages in µV, currents in µA, resistances in µΩ, SoC in 0.0001 %, charge in pC, temperatures in 0.01 °C. -/

namespace Sys2Proof.Machine

/-! ### The chemistry in force (R199, R200, R339) -/

def full : Nat := 1000000

/-- R200, R339: the written table serves a pack of its class; any other pack takes the generic table of its own. -/
def chemistryWritten (s : State) : Option (List Byte) :=
  match s.cmd.tables.getD 8 none, s.sal.id with
  | some t, some p => if field t 8 1 = p.chemistry then some t else none
  | some t, none => some t
  | none, _ => none

/-- R199: a field of the model, by its offset in the layout of R339. -/
def chem (s : State) (off width : Nat) : Nat :=
  match chemistryWritten s with
  | some t => field t off width
  | none => field (Config.genericChemistry ((s.sal.id.map (·.chemistry)).getD 1)) (off - 8) width

def chemTemp (s : State) (k : Nat) : Int :=
  let n := chem s (12 + 2 * k) 2
  if 32768 ≤ n then (n : Int) - 65536 else n

def chemTemps (s : State) : Nat := max 1 (min 8 (chem s 9 1))
def chemRates (s : State) : Nat := max 1 (min 5 (chem s 10 1))
def cells (s : State) : Nat := (s.sal.id.map (·.cells)).getD 0

/-- Linear interpolation. -/
def lerp (x0 x1 y0 y1 x : Int) : Int := if x1 = x0 then y0 else y0 + (y1 - y0) * (x - x0) / (x1 - x0)

/-- R200: the temperature columns around T, clamped to the span. -/
def tempColumns (s : State) (t : Int) : Nat × Nat :=
  let n := chemTemps s
  match (List.range (n - 1)).find? fun k => t < chemTemp s (k + 1) with
  | some k => if t ≤ chemTemp s 0 then (0, 0) else (k, k + 1)
  | none => (n - 1, n - 1)

/-- A value of the two columns interpolated at T. -/
def atTemp (s : State) (t : Int) (f : Nat → Nat) : Nat :=
  let (a, b) := tempColumns s t
  (lerp (chemTemp s a) (chemTemp s b) (f a) (f b) t).toNat

/-- R199: the pack's OCV at a point of 5 % and a temperature. -/
def ocvPoint (s : State) (t : Int) (k : Nat) : Nat := cells s * atTemp s t fun c => chem s (40 + 4 * (8 * k + c)) 4

/-- R199: the pack's OCV. -/
def ocvOf (s : State) (t : Int) (soc : Nat) : Nat :=
  let k := min 19 (soc / 50000)
  (lerp (50000 * k) (50000 * (k + 1)) (ocvPoint s t k) (ocvPoint s t (k + 1)) soc).toNat

/-- R199: the pack's resistance in one rate column. -/
def rColumn (s : State) (t : Int) (soc r : Nat) : Nat :=
  let k := min 9 (soc / 100000)
  let pt (k : Nat) : Nat := cells s * atTemp s t fun c => chem s (712 + 4 * (40 * k + 5 * c + r)) 4
  (lerp (100000 * k) (100000 * (k + 1)) (pt k) (pt (k + 1)) soc).toNat

/-- R199: the resistance at a rate in 0.01 C; a table with no 20 s column uses its probe column. -/
def rTable (s : State) (t : Int) (soc rate : Nat) : Nat :=
  let n := chemRates s
  let at_ (k : Nat) : Nat := chem s (28 + 2 * k) 2
  if n = 1 then rColumn s t soc 0
  else match (List.range n).find? fun k => 1 ≤ k && rate ≤ at_ k with
    | some 1 => rColumn s t soc 1
    | some k => (lerp (at_ (k - 1)) (at_ k) (rColumn s t soc (k - 1)) (rColumn s t soc k) rate).toNat
    | none => rColumn s t soc (n - 1)

/-! ### Temperature, capacity, confidences (R201, R209, R211) -/

/-- R201, R374: a thermistor's reading where it has not failed and is not excluded. -/
def ntcReading (s : State) (n : Nat) : Option Int :=
  if s.sal.ntcFailed = n + 1 || (sensorAt s (108 + n)).commanded then none else if n = 0 then s.sal.ntc0 else s.sal.ntc1

/-- R201: T. -/
def packTemp (s : State) : Int :=
  match ntcReading s 0, ntcReading s 1 with
  | some a, some b => min a b
  | some a, none => a
  | none, some b => b
  | none, none => chemTemp s 0

def ratedCharge (s : State) : Nat := (s.sal.id.map fun p => p.ratedMah * 3600).getD 0

/-- R211: the record confidence. -/
def recordHigh (s : State) : Bool :=
  match s.sal.learned, s.sal.id with
  | some r, some p => r.high && r.packId = p.packId && r.shunt = shuntNano s && r.divider = dividerN s &&
      (utcOffset s = 0 || s.now ≤ r.time + 180 * day) && r.cycles ≤ 100
  | _, _ => false

/-- R209, R210: Qmax in mC. -/
def qMax (s : State) : Nat :=
  match s.sal.learned with
  | some r => if recordHigh s then r.qmax else min r.qmax (ratedCharge s)
  | none => ratedCharge s

/-- R200: T lies outside the span of the table in use. -/
def outsideSpan (s : State) : Bool := packTemp s < chemTemp s 0 || chemTemp s (chemTemps s - 1) < packTemp s

/-- R196, R200, R201, R204, R205, R207, R194, R211: the measurement confidence. -/
def measureHigh (s : State) : Bool :=
  !s.sal.overrange && !s.sal.diodeBad && !outsideSpan s && ((ntcReading s 0).isSome || (ntcReading s 1).isSome) && !s.sal.anchorLow &&
    !s.sal.aged1h && probeLoadFitted s

/-! ### Usable energy (R202, R215) -/

/-- R202: one pass of the loop, `fuel` steps at most; `i` is the current of the step before, the sum in µV × 0.0001 %. -/
def energyLoop (s : State) (t : Int) (p qmax cut : Nat) : Nat → Nat → Nat → Nat → Nat
  | 0, _, _, e => e
  | fuel + 1, soc, i, e =>
    if soc = 0 then e
    else
      let v := ocvOf s t soc
      let r := s.sal.fR * rTable s t soc (i * 360 / max 1 qmax) / 65536
      if v * v < 4000 * r * p then e
      else
        let root := Nat.sqrt (v * v - 4000 * r * p)
        let i := if r = 0 then p * 1000000000 / max 1 v else (v - root) * 1000000 / (2 * r)
        if (v + root) / 2 < cut then e
        else
          let ds := min 5000 soc
          energyLoop s t p qmax cut fuel (soc - ds) i (e + (v + root) / 2 * ds)

/-- R202: the usable energy in mJ from an SoC at pack power p (mW). -/
def usableEnergy (s : State) (p soc : Nat) : Nat :=
  let t := packTemp s
  let q := qMax s
  let cut := (s.sal.id.map fun x => x.cutoffMv * 1000).getD 0
  energyLoop s t p q cut 202 soc (p * 1000000000 / max 1 (ocvOf s t soc)) 0 * q / 1000000000000

/-- R204, R215: time since the last anchor, or since the probe that set the interval. -/
def sinceAnchor (s : State) : Nat := s.now - s.sal.anchorBase.getD s.now

/-- R205, R215: U in mJ. -/
def uncertainty (s : State) : Nat :=
  let fs := fullScale s
  let base := if recordHigh s && measureHigh s then (if (chemistryWritten s).isSome then fs * 30 / 10000 else fs * 72 / 10000) else fs * 300 / 10000
  let growth := fs * 317 * (sinceAnchor s - day) / (1000000 * day)
  base + growth + if s.sal.aged300 && s.sal.phase ≠ .discharge then fs * 5 / 10000 else 0

/-- R215: E_est, E_lb and U; before the first accepted probe E_lb is 0. -/
def publish (s : State) : State :=
  let e := if s.sal.id.isSome then usableEnergy s (couchPower s) s.sal.socLb else 0
  let u := uncertainty s
  s.onSal fun x => { x with eEst := e, u := u, eLb := if x.anchorBase.isNone || !x.present then 0 else e - u }

/-! ### The energy state (R212) -/

/-- R212, R216: on leaving ABSENT the reported value is E_lb; in ABSENT there is none. The event of a fall from NORMAL to DEGRADED names its cause
beside the new state: 0x100 the record's confidence, 0x200 the measurement's (DESIGN CHOICE, log entry 165). -/
def setEnergy (s : State) (st : Energy) (logged : Bool) : State :=
  let old := s.sal.state
  let why := if old = .normal && st = .degraded then (if recordHigh s then 0 else 256) + (if measureHigh s then 0 else 512) else 0
  let s := s.onSal fun x =>
    { x with state := st, reported := if st = .absent then none else if old = .absent then some (x.eLb * 1000000 / max 1 (fullScale s)) else x.reported,
             reportedAt := if old = .absent then s.now else x.reportedAt }
  if logged && old ≠ st then s.event 9 1 1 (detail := energyCode st + why) else s

/-- R212: the state that the pack, its probe and the confidences give. -/
def judgedEnergy (s : State) : Energy :=
  if !s.sal.present || s.sal.unread || !((s.sal.id.map (·.usable)).getD false) then .absent
  else if s.sal.firstProbe then
    (if !s.sal.ocvOk then .absent else if recordHigh s && measureHigh s then .normal else .degraded)
  else if s.sal.state = .absent then .absent else .degraded

/-- R212: the state follows, with the events of the table. -/
def judgeEnergy (s : State) : State :=
  let n := judgedEnergy s
  if n = s.sal.state then s else deckleImmediate (setEnergy (publish s) n (s.sal.state ≠ .absent))

/-! ### Learning (R208, R214) -/

/-- R208: progress of the cycle in steps. -/
def learnStep (s : State) (phase : Phase) (step : Nat) : State :=
  (s.onSal fun x => { x with phase := phase }).onCmd fun c =>
    { c with longOps := c.longOps.map fun o => if o.kind = .learn then { o with done := step } else o }

/-- R214: a running cycle is disqualified: PK_PROBE_EN is deasserted, and the completion event reports the cause. -/
def disqualify (s : State) (cause : Nat) : State :=
  if s.sal.phase = .none then s
  else endLongOf (s.onSal fun x => { x with phase := .none, probeEn := false }) (· = .learn) .energyLimit cause []

/-! ### The record (R209, R210) -/

/-- R209: the 64 bytes of the record. -/
def learnedBytes (r : Learned) : List Byte :=
  let front := [1, if r.high then 2 else 1, 0, 0] ++ le 8 r.packId ++ le 4 r.qmax ++ le 4 r.fR ++ le 8 r.time ++ le 2 (r.temp % 65536).toNat ++ le 2 r.cycles ++
    le 4 r.shunt ++ le 4 r.divider ++ le 4 r.sequence ++ List.replicate 16 0
  front ++ le 4 (crc32c front).toNat

/-- R209: what a copy of the record says: none where it is ignored or invalid; f_R is 1.0 where its stored value is reserved. -/
def parseLearned (b : List Byte) : Option Learned :=
  let f := field b
  let q := f 12 4
  if b.length = 64 && (crc32c (b.take 60)).toNat = f 60 4 && f 0 1 = 1 && (f 1 1 = 1 || f 1 1 = 2) && q ≠ 0 && q ≠ 0xFFFFFFFF then
    some { high := f 1 1 = 2, packId := f 4 8, qmax := q, fR := if 0x4000 ≤ f 16 4 && f 16 4 ≤ 0x40000 then f 16 4 else 0x10000, time := f 20 8,
           temp := sfield b 28 2, cycles := f 30 2, shunt := f 32 4, divider := f 36 4, sequence := f 40 4 }
  else none

/-- R417: a copy of the learned record has a sector left. -/
def learnedCopyStands (s : State) (k : Nat) : Bool := copyStands s.ledger (896 + 8 * k)

/-- R209: copy k of the record. -/
def learnedCopy (s : State) (k : Nat) : Option Learned := if learnedCopyStands s k then parseLearned (s.sal.copies.getD k []) else none

/-- R209: the valid copy with the higher sequence. -/
def readLearned (s : State) : Option Learned :=
  match learnedCopy s 0, learnedCopy s 1 with
  | some a, some b => if a.sequence < b.sequence then some b else some a
  | some a, none => some a
  | none, b => b

/-- R209: the copy that a write reaches first: the one with the lower sequence; an abandoned copy takes none. -/
def firstCopy (s : State) : Nat :=
  let sequence (k : Nat) : Nat := ((learnedCopy s k).map (·.sequence)).getD 0
  if !learnedCopyStands s 0 || (learnedCopyStands s 1 && decide (sequence 1 < sequence 0)) then 1 else 0

/-- R209, R417: a record written with the next sequence, first to the copy with the lower sequence; the other copy is due. With no sector left of either copy
there is no record. -/
def putLearned (s : State) (r : Learned) : State :=
  if !learnedCopyStands s 0 && !learnedCopyStands s 1 then s
  else
    let k := firstCopy s
    let r := { r with sequence := (s.sal.learned.map (·.sequence)).getD 0 + 1 }
    s.onSal fun x => { x with learned := some r, copies := x.copies.set k (learnedBytes r), copyDue := if learnedCopyStands s (1 - k) then some (1 - k) else none }

/-- R209: the write reaches the copy that is due. -/
def finishCopy (s : State) : State :=
  match s.sal.copyDue, s.sal.learned with
  | some k, some r => s.onSal fun x => { x with copies := x.copies.set k (learnedBytes r), copyDue := none }
  | _, _ => s

/-- R204, R210: the counted history of the pack is discarded. -/
def discardHistory (s : State) : State :=
  s.onSal fun x => { x with socLb := 0, socUb := full, chargeLb := 0, chargeUb := 0, anchorBase := none, lastAnchor := none, lastProbe := none,
                            firstProbe := false, ocvOk := false, anchorLow := true, disagree := 0, aged300 := false, aged1h := false,
                            fR := (x.learned.map (·.fR)).getD 0x10000, probes := 0 }

/-- R210: a pack swap: the record's confidence becomes LOW, the counted history is discarded, a running cycle ends. -/
def packSwap (s : State) : State :=
  let s := disqualify (s.event 10 4 1) 5
  let s := match s.sal.learned with
    | some r => if r.high then putLearned s { r with high := false } else s
    | none => s
  publish (discardHistory s)

/-! ### The SoC interval (R195, R204, R217) -/

/-- R204: one end moves by counted charge; charge short of a step is kept. -/
def moveEnd (soc : Nat) (q : Int) (unit : Nat) : Nat × Int :=
  if unit = 0 then (soc, q)
  else
    let steps := q / (unit : Int)
    (min full ((soc : Int) - steps).toNat, q - steps * unit)

/-- R195, R204, R217: charge of a sample, in pC, moves both ends, from the first accepted probe of a pack with no counted history onward; each carries the counting error of its own side: 0.02 % of
reading and 50 nV over the shunt. -/
def countCharge (s : State) (current : Int) (us : Nat) : State :=
  let unit := qMax s * 1000
  let err : Int := (current.natAbs * 2 / 10000 + 50000000 / max 1 (shuntNano s)) * us
  let q := current * us
  s.onSal fun x =>
    let (lb, ql) := if x.anchorBase.isNone then (x.socLb, x.chargeLb) else moveEnd x.socLb (x.chargeLb + q + err) unit
    let (ub, qu) := if x.anchorBase.isNone then (x.socUb, x.chargeUb) else moveEnd x.socUb (x.chargeUb + q - err) unit
    { x with socLb := lb, chargeLb := ql, socUb := max lb ub, chargeUb := qu, throughput := x.throughput + (if 0 < current then q.toNat else 0),
             qDis := if x.phase = .discharge then x.qDis + q.toNat else x.qDis,
             qChg := if x.phase = .recharge then x.qChg + (-q).toNat else x.qChg }

def centralSoc (s : State) : Nat := (s.sal.socLb + s.sal.socUb) / 2

/-- R204: the least SoC whose OCV reaches v, and the greatest whose OCV does not exceed it. -/
def socAbove (s : State) (t : Int) (v : Nat) : Nat :=
  if v ≤ ocvPoint s t 0 then 0
  else match (List.range 20).find? fun k => v ≤ ocvPoint s t (k + 1) with
    | some k => (lerp (ocvPoint s t k) (ocvPoint s t (k + 1)) (50000 * k) (50000 * (k + 1)) v).toNat
    | none => full

def socBelow (s : State) (t : Int) (v : Nat) : Nat :=
  if ocvPoint s t 20 ≤ v then full
  else match (List.range 20).reverse.find? fun k => ocvPoint s t k ≤ v with
    | some k => (lerp (ocvPoint s t k) (ocvPoint s t (k + 1)) (50000 * k) (50000 * (k + 1)) v).toNat
    | none => 0

/-- R204: the segment of the table in which an OCV lies is steep enough: 20 mV per cell per 1 %. -/
def steep (s : State) (t : Int) (v : Nat) : Bool :=
  match (List.range 20).find? fun k => ocvPoint s t k ≤ v && v ≤ ocvPoint s t (k + 1) && ocvPoint s t k < ocvPoint s t (k + 1) with
  | some k => 5 * 20000 * cells s ≤ ocvPoint s t (k + 1) - ocvPoint s t k
  | none => false

/-- R204: an anchor sets both ends; before the first accepted probe of a pack with no counted history the interval stays [0 %, 100 %]. -/
def anchorAt (s : State) (soc : Nat) : State :=
  if s.sal.anchorBase.isNone then s else s.onSal fun x => { x with socLb := soc, socUb := soc, chargeLb := 0, chargeUb := 0, lastAnchor := some s.now, anchorBase := some s.now }

/-- R204: an OCV anchor: both ends move a quarter of the way; three in a row that disagree by more than 5 % lower the
confidence until the next full-charge anchor. -/
def ocvAnchor (s : State) (soc : Nat) : State :=
  let far := 50000 < ((soc : Int) - centralSoc s).natAbs
  let toward (x : Nat) : Nat := ((x : Int) + ((soc : Int) - x) / 4).toNat
  let n := if s.sal.disagree = 3 then 3 else if far then s.sal.disagree + 1 else 0
  let tripped := n = 3 && s.sal.disagree ≠ 3
  let s := s.onSal fun x => { x with socLb := toward x.socLb, socUb := toward x.socUb, lastAnchor := some s.now, anchorBase := some s.now,
                                     disagree := n, anchorLow := n = 3 }
  if tripped then s.event 9 4 1 (detail := soc) else s

/-- R204, R217: the first accepted probe of a pack with no counted history sets the interval to within e_V. -/
def setInterval (s : State) (ocv : Nat) : State :=
  let t := packTemp s
  let e := ocv * 36 / 100000
  s.onSal fun x => { x with socLb := socAbove s t (ocv - e), socUb := max (socAbove s t (ocv - e)) (socBelow s t (ocv + e)), chargeLb := 0, chargeUb := 0,
                            anchorBase := some s.now, anchorLow := true, disagree := 0 }

end Sys2Proof.Machine
end

