-- ==== Sys2Proof/Machine/Resets.lean ====
section
/-! DEFINITION. What a reset of the islands loses and keeps, and the power-down order (R37, R39, R289, R290, R301, R328, R392 to R396, R450). -/

namespace Sys2Proof.Machine

/-! ### The islands re-initialised (R37, R39) -/

/-- R141, R142, R148, R151: a DRAM channel after its island was re-initialised; the training results stand in SV, marked
devices, withheld rows and soft repairs last until power-off. -/
def resetDram (c : Dram) : Dram :=
  { Dram.reset with dimms := c.dimms, results := c.results, marks := c.marks, ranksOut := c.ranksOut, withheld := c.withheld,
                    corr := c.corr, rowCorr := c.rowCorr, sppr := c.sppr, hppr := c.hppr, offlineLost := c.offlineLost }

/-- R185: a flash channel is found again by its training; its blocks, stages and reserve stand on the media. -/
def resetFlash (c : Flash) : Flash :=
  { Flash.reset with deadTargets := c.deadTargets, reserveReady := c.reserveReady, stageReady := c.stageReady, drainMark := c.drainMark, blocks := c.blocks.map fun b => { b with erasing := false },
                     nextSeq := c.nextSeq, lost := c.lost }

/-- R73, R92: a region as its metadata restores it. -/
def resetRegion (r : Region) : Region :=
  { r with opns := [], d0InForce := false, streams := [], lastMiss := 0, missRun := 0, metaDirty := false, deadlineMisses := 0, twinServed := 0 }

/-- R450: a fence is kept; a test that ran is abandoned. -/
def resetUnit (u : Unit_) : Unit_ := if u.st = .testing then { u with st := .fenced, result := 0 } else u

def resetEngine (e : Engine) : Engine := { e with unit := resetUnit e.unit, resuming := false }

/-- R10, R449: islands that a fence keeps powered off. -/
def fencedIslands (s : State) : List Island :=
  ((List.range 16).filter fun i => (s.units.slices.getD i .reset).st = .fenced).map .cu ++
    ((List.range 10).filter fun c => (List.range 16).all fun k => (engineAt s (16 * c + k)).unit.st ≠ .inService).map .en ++
  ((List.range 16).filter fun i => (s.units.ports.getD i .reset).st = .fenced).map .hp ++
    ((List.range 8).filter fun i => (s.units.links.getD i .reset).st = .fenced).map .tw

/-- R37, R39, R78, R95, R258, R288, R301, R328, R347: every island but SV is re-initialised: tables, sessions and sealing are
lost; data stands as the media holds it. -/
def islandsReset (s : State) : State :=
  { s with
    wire := { Wire.reset with discards := s.wire.discards, redirect := s.wire.redirect, unrouted := fencedIslands s }
    cmd := { Cmd.reset with arrivals := s.cmd.arrivals, challenges := s.cmd.challenges, eids := s.cmd.eids, mctpDiscards := s.cmd.mctpDiscards,
                            udpDiscards := s.cmd.udpDiscards, uses := s.cmd.uses,
                            resetRun := if 4 ≤ s.cmd.resetRun then s.cmd.resetRun else 0, resetNext := s.cmd.resetNext, longOps := s.cmd.longOps.filter (·.kind = .learn) }
    cxl := { Cxl.reset with nextAge := s.cxl.nextAge,
                            lds := s.cxl.lds.map fun l => { l with decoders := [], held := [], releases := [] } }
    epochs := { s.epochs with running := none, queued := none, duration := 0, paired := false, asyncBytes := 0 }
    regions := { Regions.reset with list := s.regions.list.map resetRegion }
    ppu := { Ppu.reset with dir := s.ream.dirCopy }
    curd := { Curd.reset with stuckCells := s.curd.stuckCells }
    deckle := { Deckle.reset with m := s.deckle.m, packCurrentLogged := s.deckle.packCurrentLogged }
    vat := { Vat.reset with ch := s.vat.ch.map resetDram }
    ream := { s.ream with ch := s.ream.ch.map resetFlash, stage := s.ream.stage.filter (·.programmed), gathering := false, stageClosed := 0, index := [],
                          imageCapacity := 0, membership := [0, 0, 0, 0], root := s.ream.rootMedia }
    felt := .reset
    cipher := { s.cipher with slots := s.cipher.slots.map fun k => { k with inflight := 0 }, noVerify := false, requests := [], turns := [] }
    cave := { s.cave with step := 0, unwinding := false, carriers := [], carrierHist := [], channelHist := [] }
    log := { s.log with mask := 0x00003E01, noDram := false }
    units := { s.units with engines := s.units.engines.map resetEngine, slices := s.units.slices.map resetUnit, ports := s.units.ports.map resetUnit,
                            links := s.units.links.map resetUnit, cores := s.units.cores.map resetUnit, dramUnits := s.units.dramUnits.map resetUnit,
                            flashUnits := s.units.flashUnits.map resetUnit, fed := [], fenceWait := [], portDowns := [] } }

/-- R148, R151, R247: what lasts only until power-off ends with the rails. -/
def railsOff (s : State) : State :=
  { s with
    vat := { s.vat with ch := s.vat.ch.map fun c => { Dram.reset with results := c.results, hppr := c.hppr, offlineLost := c.offlineLost } }
    deckle := { s.deckle with m := 9200 } }

/-! ### Generations (R236 to R239) -/

/-- R236: the generation after one. -/
def nextGeneration (g : Nat) : Nat := if 0xFFFFFFFE ≤ g then 1 else g + 1

/-- R6, R238: the 64 bytes of an open or a seal record. -/
def recordBytes (kind flags gen closed newest pages second previous time : Nat) : List Byte :=
  let body := le 2 1 ++ le 1 kind ++ le 1 flags ++ le 4 gen ++ le 8 closed ++ le 8 newest ++ le 8 pages ++ le 8 second ++ le 4 previous ++ le 4 0 ++ le 8 time ++ le 4 0
  body ++ le 4 (crc32c body).toNat

/-- R238: a copy is valid: its CRC holds, and kind, flags and generation are not reserved; format 0x0001 is what the image reads. -/
def recordValid (r : List Byte) : Bool :=
  r.length = 64 && field r 60 4 = (crc32c (r.take 60)).toNat && field r 0 2 = 1 && (field r 2 1 = 1 && field r 3 1 = 0 || field r 2 1 = 2 && decide (field r 3 1 < 32)) &&
    field r 4 4 ≠ 0

/-- R238: the seal record of a generation. -/
def sealRecord (s : State) (g : Generation) : List Byte :=
  recordBytes 2 g.flags.toNat g.num g.openEpoch ((g.pages.map fun p => wideEpoch s p.2.2.1).foldl max 0) (g.pages.filter fun p => p.1 ≠ deadPage).length g.leftOut g.previous g.commitTime

/-- R236, R237, R239, R361: the generation being written stands on the media, sealed or not, and its blocks take no more; class 2 of a sealed one
holds the usage counts. -/
def leaveGeneration (s : State) (sealed_ : Bool) : State :=
  let s := if sealed_ then s.onCipher fun c => { c with slots := c.slots.map fun k => { k with recorded := k.usage } } else s
  match s.couch.gen with
  | none => s
  | some g =>
    let out := if !sealed_ then 0 else g.leftOut + (if s.couch.curdDrained then s.couch.todo.length else chargedPages s)
    let g := { g with sealed := sealed_, leftOut := out, flags := if !sealed_ then 0 else if out = 0 then s.couch.stop else s.couch.stop &&& 0xFE }
    let copies := if sealed_ then List.replicate (max 1 g.records.length) (sealRecord s g) else []
    s.onReam fun r =>
      { r with generations := r.generations.filter (·.num ≠ g.num) ++ [{ g with records := g.records ++ copies }], lastGen := g.num,
               ch := r.ch.map fun c => { c with blocks := c.blocks.map fun b => if b.generation = g.num && reserveSeg b.seg then closeBlock s.now b else b } }

/-! ### Power-down (R392 to R396) -/

/-- R392: rails that are up, the highest sequence position first. -/
def insertRail (s : State) (e : Nat) : List Nat → List Nat
  | [] => [e]
  | x :: xs => if railPosition s x ≤ railPosition s e then e :: x :: xs else x :: insertRail s e xs

def fallOrder (s : State) : List Nat :=
  ((List.range 16).filter fun e => (s.power.rails.getD e { enabled := false, good := false, failed := false }).enabled).foldl (fun l e => insertRail s e l) []

/-- A rail's power-good input driven to a level. -/
def railPgInput (s : State) (rail : Nat) (up : Bool) : State :=
  let pg := railPg s rail
  s.onPower fun p => { p with pg := if pg < 24 then (if up then p.pg ||| (1 : BitVec 24) <<< pg else p.pg &&& ~~~ ((1 : BitVec 24) <<< pg)) else p.pg }

/-- A rail's sense input driven above or below its threshold. -/
def railSenseInput (s : State) (rail : Nat) (up : Bool) : State :=
  let sns := railSense s rail
  s.onPower fun p => { p with sns := if sns < 16 then (if up then p.sns ||| (1 : U16) <<< sns else p.sns &&& ~~~ ((1 : U16) <<< sns)) else p.sns }

/-- Both inputs of a rail. -/
def railInputs (s : State) (rail : Nat) (up : Bool) : State := railSenseInput (railPgInput s rail up) rail up

/-- R392: a rail's enable is deasserted; its inputs fall with it (DEDUCED, log entry 150). -/
def dropRail (s : State) (e : Nat) : State := railInputs (setRail s e fun r => { r with enabled := false, good := false }) e false

/-- R404: the cause of a DOWN record. -/
def downCode : DownCause → Nat
  | .inputAbsent => 0 | .cold => 1 | .orderly => 2 | .fault => 3 | .thermal => 4

/-- R396: a fault restart is counted; the third within 10 minutes locks the device out. -/
def faultRestart (s : State) : State :=
  let times := (s.power.restarts.filter fun t => s.now < t + 600 * second) ++ [s.now]
  let s := s.onPower fun p => { p with restarts := times, lockout := decide (3 ≤ times.length) }
  if 3 ≤ times.length then s.event 0 7 3 (detail := times.length) else s

/-- R227, R392, R394, R404: the last enable is low: the DOWN record, and the off time. -/
def finishDown (s : State) : State :=
  let c := s.couch
  let s := rindWrite s 5 ((c.gen.map (·.num)).getD 0) (downCode c.cause) (if c.commanded then 255 else c.firstRail) (if c.commanded then 0x10 else 0)
  let s := s.onPower fun p => { p with seq := .offTime, dnOut := false, upOut := false, done := false, faultDown := c.cause = .fault, watching := false }
  let s := s.onCouch fun _ => { Couch.reset with cause := c.cause, inputPresent := c.inputPresent, raw := c.raw, absentDirty := c.absentDirty, cancels := c.cancels }
  if c.cause = .fault then faultRestart s else s

/-- R392: one more enable is deasserted; after the last the device is DOWN. -/
def fallStep (s : State) : List Nat → State
  | [] => finishDown s
  | e :: rest =>
    let s := dropRail s e
    if rest.isEmpty then finishDown s else s.onPower fun p => { p with seq := .powerDown rest }

/-- R37, R212, R374: what a COLD reset ends beside: the training results in SV, commanded exclusions, the energy state. The learned record and the
identity are read again. -/
def coldLoss (s : State) : State :=
  { s with
    vat := { s.vat with ch := s.vat.ch.map fun c => { c with results := none } }
    cave := { s.cave with sensors := s.cave.sensors.map fun x => { x with commanded := false } }
    sal := { s.sal with state := .absent, idRetries := 0, unread := true, reading := s.sal.present, firstProbe := false, ocvOk := false, reported := none,
                        eLb := 0, learned := readLearned s } }

/-- R392, R398: the power-down order starts: the chain signals fall, and the islands lose what they hold. -/
def startPowerDown (s : State) (cause : DownCause) : State :=
  let order := fallOrder s
  let s := railsOff (islandsReset s)
  let s := if cause = .cold then coldLoss s else s
  let s := s.onCouch fun c => { c with orch := .down, cause := cause }
  let s := s.onPower fun p => { p with dnOut := false, upOut := false, done := false, seq := .powerDown order }
  fallStep s order

end Sys2Proof.Machine
end

