-- ==== Sys2Proof/Machine/BootOps.lean ====
section
/-! DEFINITION. The loader: the slots, the choice of R427, and the start of a boot (R418 to R434). -/

namespace Sys2Proof.Machine

/-! ### Slots (R425, R432) -/

def slotOf (s : State) (b : Bool) : FwSlot := if b then s.ledger.slotB else s.ledger.slotA
def setSlot (s : State) (b : Bool) (f : FwSlot → FwSlot) : State :=
  s.onLedger fun l => if b then { l with slotB := f l.slotB } else { l with slotA := f l.slotA }

/-- R423 to R425: the image is valid: header, security version and signature. -/
def headerValid (s : State) (i : ImageInfo) : Bool := i.headerOk && s.ledger.fuses ≤ i.security && i.security ≤ 64
def imageValid (s : State) (i : ImageInfo) : Bool := headerValid s i && i.signatureOk

/-- R423: the checks of a header but that of the security version; `b`: the image, whose length is the declared size. -/
def imageHeaderGood (b : List Byte) : Bool :=
  field b 0 2 = 1 && field b 2 2 = 64 && field b 8 4 = b.length && b.length % 4 = 0 && 4096 ≤ b.length && b.length ≤ 24 * 1024 * 1024 &&
    (b.drop 12).take 2 = [0x42, 0x31] && ((b.drop 18).take 42).all (· = 0) && field b 60 4 = (crc32c (b.take 60)).toNat

/-- R422, R423, R426: what an image declares; `genuine`: its signature checks under the key in ROM, which the manual does not give. -/
def imageOf (b : List Byte) (genuine : Bool) : ImageInfo :=
  { version := BitVec.ofNat 32 (field b 4 4), size := field b 8 4, headerOk := imageHeaderGood b, signatureOk := genuine, security := field b 14 2,
    formats := BitVec.ofNat 16 (field b 16 2), digest := field ((sha384 b).take 32) 0 32 }

/-- The image that stands in a slot: what was downloaded, or the production image (log entry 1). -/
def slotImage (f : FwSlot) (genuine : Bool) : Option ImageInfo :=
  if f.bytes.isEmpty then f.image.map fun i => { i with signatureOk := genuine } else some (imageOf f.bytes genuine)

/-- R426: the effective record is the newest. -/
def effectiveRecord (s : State) : Option Activation := s.ledger.activations.head?

/-- R432: the slot is activation pending: the effective record names it and has not yet booted. -/
def slotPending (s : State) (b : Bool) : Bool :=
  match effectiveRecord s with
  | some r => r.kind = 1 && !r.confirmed && r.boots = 0 && r.slotB = b
  | none => false

/-- R432: the header passes its CRC and the last word of the declared size is not erased. -/
def slotComplete (f : FwSlot) : Bool :=
  if f.bytes.isEmpty then f.image.isSome
  else
    let size := field f.bytes 8 4
    (crc32c (f.bytes.take 60)).toNat = field f.bytes 60 4 && size ≤ f.bytes.length && 2 ≤ size && field f.bytes (size - 2) 2 ≠ 0xFFFF

/-- R432: the state that a slot derives from the media. -/
def derivedSlot (s : State) (b : Bool) : SlotSt :=
  let f := slotOf s b
  if f.st = .erasing then .invalid
  else if (f.bytes.take 64).all (· = 0xFF) && f.image.isNone then .erased
  else if slotPending s b then .pending
  else if slotComplete f then .complete else .invalid

/-- R432, R433: the inactive slot's state after a reset; the active slot holds the image that boots. -/
def deriveSlots (s : State) : State :=
  let b := !s.ledger.chosen
  setSlot (setSlot s b fun f => { f with st := derivedSlot s b }) s.ledger.chosen fun f => { f with st := .complete }

/-! ### Activation records (R426, R428) -/

/-- R426, R428: a record or a mark is programmed, in copy 0 first. -/
def putActivations (s : State) (l : List Activation) : State :=
  s.onLedger fun x => { x with recordAt := some (s.power.now, x.activations), activations := l }

/-- R428: the confirm mark of the newest unconfirmed activation of a slot. -/
def confirmNewest (b : Bool) : List Activation → List Activation
  | [] => []
  | a :: rest => if a.slotB = b && a.kind = 1 && !a.confirmed then { a with confirmed := true } :: rest else a :: confirmNewest b rest

/-- R426, R417: a record is appended to both copies, one sequence above the newest; with no sector left of either copy there is none. -/
def putRecord (s : State) (r : Activation) : State :=
  if !copyStands s.ledger 912 && !copyStands s.ledger 920 then s else
  let n := (effectiveRecord s).map (·.sequence)
  putActivations s ({ r with sequence := n.getD 0 + 1 } :: s.ledger.activations)

/-- A record of a kind that names a slot by the image it holds. -/
def recordFor (s : State) (kind : Nat) (b now_ confirmed : Bool) : Activation :=
  let i := (slotOf s b).image
  { kind := kind, slotB := b, now := now_, sequence := 0, version := (i.map (·.version)).getD 0, size := (i.map (·.size)).getD 0,
    digest := (i.map (·.digest)).getD 0, boots := 0, confirmed := confirmed }

def newestConfirmed (s : State) : Option Activation := s.ledger.activations.find? (·.confirmed)

/-- R427 item 4: a REVERT record names the slot of the newest confirmed record, which boots. -/
def revert (s : State) : State :=
  let s := s.event 14 1 2 (detail := ((effectiveRecord s).map (·.version.toNat)).getD 0)
  match newestConfirmed s with
  | some c => (putRecord s { c with kind := 2, now := false, boots := 0, confirmed := true }).onLedger fun l => { l with chosen := c.slotB, trial := false }
  | none => s.onLedger fun l => { l with trial := false }

/-- R427 item 5: a RECOVERY record names a slot. -/
def recovery (s : State) (b : Bool) : State :=
  (putRecord s (recordFor s 4 b false true)).event 14 2 2 (detail := if b then 1 else 0)

/-- R427, R428, R431: the loader chooses the slot; a trial's next boot mark is programmed; a maintenance boot takes the
newest confirmed record and marks nothing. -/
def chooseSlot (s : State) (maintenance : Bool) : State :=
  if maintenance then
    s.onLedger fun l => { l with chosen := ((newestConfirmed s).map (·.slotB)).getD false, trial := false }
  else match effectiveRecord s with
    | none =>
      let b := !(((slotOf s false).image.map (imageValid s)).getD false)
      (recovery s b).onLedger fun l => { l with chosen := b, trial := false }
    | some r =>
      if r.confirmed then s.onLedger fun l => { l with chosen := r.slotB, trial := false }
      else if r.kind = 1 && r.boots < 3 then
        (putActivations s ({ r with boots := r.boots + 1 } :: s.ledger.activations.tail)).onLedger fun l => { l with chosen := r.slotB, trial := true }
      else revert s

/-- R418 steps 3 to 6, R420: the slot is chosen; the image loads from the Ledger unless it stands in its code stores. -/
def bootChoose (s : State) (maintenance : Bool) : State :=
  let s := deriveSlots (chooseSlot s maintenance)
  let s := s.onPower fun p => { p with waitButton := false, maintenance := maintenance }
  s.onLedger fun l => { l with loadTries := if l.loadTries = 0 && l.chosen = l.running then 0 else 1 }

/-- R415, R418 steps 2 and 3, R430: the boot starts, the loader reading at 9 cycles; `kept`: the image stands in its code stores (R419). A held button makes it wait. -/
def bootStart (s : State) (kept : Bool) : State :=
  let s := s.onPower fun p => { p with seq := .booting, maintenance := false, waitButton := false, absentSince := if s.couch.inputPresent then none else p.absentSince }
  let s := s.onLedger fun l => { l with loadTries := if kept then 0 else 1, band := 0, bandSince := s.now }
  if s.power.button.isSome && !s.power.stuck then s.onPower fun p => { p with waitButton := true } else bootChoose s false

/-- R427: the loading fails: a trial is reverted; for a confirmed image the other slot is tried under a RECOVERY record; then
loader recovery (R429), where the ROM answers. -/
def loadFails (s : State) : State :=
  if s.ledger.trial then
    let s := revert s
    s.onLedger fun l => { l with loadTries := if l.chosen = l.running && l.loadTries = 0 then 0 else 1 }
  else if s.ledger.loadTries ≤ 1 then s.onLedger fun l => { l with chosen := !l.chosen, loadTries := 2 }
  else
    let s := s.onCmd fun c => { c with ready := .recovery }
    (s.onPower fun p => { p with seq := .running, watching := false }).onLedger fun l => { l with loadTries := 0 }

end Sys2Proof.Machine
end

