-- ==== Sys2Proof/Machine/Ledger.lean ====
section
/-! DEFINITION. The Ledger's command machine: its array, programs, erases, sector table, status and read timing (R412 to R417). -/

namespace Sys2Proof.Machine

/-! ### The array (R412) -/

/-- The byte at a byte address; what is not listed is erased. -/
def readCell (l : List Host.Cell) (a : Nat) : Byte := ((l.find? (·.1 = a)).map (·.2)).getD 0xFF

/-- A byte stored; an erased byte is not listed. -/
def putCell (a : Nat) (b : Byte) : List Host.Cell → List Host.Cell
  | [] => if b = 0xFF then [] else [(a, b)]
  | c :: cs =>
    if a < c.1 then (if b = 0xFF then c :: cs else (a, b) :: c :: cs)
    else if a = c.1 then (if b = 0xFF then cs else (a, b) :: cs)
    else c :: putCell a b cs

/-- R414: the canonical form of the array: addresses strictly rising, no erased byte listed. -/
abbrev Memory.wf (l : List Host.Cell) : Prop := l.Pairwise (fun c d => c.1 < d.1) ∧ ∀ c ∈ l, c.2 ≠ 0xFF

/-- R412: the 65,536 bytes of a sector. -/
def sectorBytes : Nat := 65536
def sectorWords : Nat := 32768

/-- The first sector of a firmware slot (R412). -/
def slotSector (b : Bool) : Nat := if b then 384 else 0

/-- R404: the 64 bytes of a record; the completion mark lies outside its CRC. -/
def rindBytes (r : Rind) : List Byte :=
  let front := le 1 r.type ++ [r.flags] ++ le 1 r.rail ++ le 1 (energyCode r.energy) ++ le 8 r.time ++ le 4 r.generation ++ le 8 r.sequence ++ le 8 r.epoch ++
    le 4 r.dirtyCount ++ le 4 r.pg.toNat ++ le 2 r.sns.toNat ++ le 2 r.en.toNat ++ le 8 r.detail ++ [0, 0, 0, 0]
  front ++ le 4 r.mark.toNat ++ le 4 (crc32c front).toNat

/-- R426: the 64 bytes of an activation record. -/
def activationBytes (r : Activation) : List Byte :=
  let front := [1] ++ le 1 r.kind ++ [if r.slotB then 1 else 0, if r.now then 1 else 0] ++ le 8 r.sequence ++ le 4 r.version.toNat ++ le 4 r.size ++ le 32 r.digest
  front ++ le 2 (0xFFFF - (2 ^ r.boots - 1)) ++ (if r.confirmed then [0, 0] else [0xFF, 0xFF]) ++ [0, 0, 0, 0] ++ le 4 (crc32c front).toNat

/-- R417: the 16 bytes of an entry of the sector table: factory or grown, and its sequence. -/
def sectorEntryBytes (logical replacement sequence : Nat) (grown : Bool) : List Byte :=
  let front := le 2 logical ++ le 2 replacement ++ [if grown then 2 else 1, 0, 0, 0] ++ le 4 sequence
  front ++ le 4 (crc32c front).toNat

/-- R2, R417: what the factory marked: its bad sectors in the order of the reserve sectors that replace them (log entry 148). -/
def factoryTable : List (Nat × Nat) :=
  ((Config.factoryBadSectors.filter fun n => decide (n < 928)).eraseDups.take 94).mapIdx fun i n => (n, 930 + i)

/-- R417: both copies of the sector table are lost. -/
def tableLost (s : State) : Bool := s.ledger.withdrawn.contains 928 && s.ledger.withdrawn.contains 929

/-- R2, R417: the entries in force, newest first: grown sectors, then the factory's; none once both copies of the table are lost. -/
def sectorEntries (s : State) : List (Nat × Nat) := s.ledger.sectors ++ (if tableLost s then [] else factoryTable.reverse)

/-- R417: a logical sector takes the replacement of its newest entry. -/
def sectorOf (s : State) (logical : Nat) : Nat := (((sectorEntries s).find? (·.1 = logical)).map (·.2)).getD logical
def logicalOf (s : State) (physical : Nat) : Nat := (((sectorEntries s).find? fun x => x.2 = physical && sectorOf s x.1 = physical).map (·.1)).getD physical

/-- R412, R417: the entries of the table, oldest first: the factory's, then the grown ones. -/
def tableBytes (s : State) : List Byte :=
  (factoryTable.mapIdx fun i e => sectorEntryBytes e.1 e.2 (i + 1) false).flatten ++
    (s.ledger.sectors.reverse.mapIdx fun i e => sectorEntryBytes e.1 e.2 (factoryTable.length + i + 1) true).flatten

/-- R412, R209, R404, R417, R423, R426: the byte that SV's own records and images put at an address. -/
def heldByte (s : State) (a : Nat) : Byte :=
  let sector := a / sectorBytes
  if sector < 768 then
    let b := decide (384 ≤ sector)
    let off := a - slotSector b * sectorBytes
    let f := slotOf s b
    if f.bytes.isEmpty then (if (f.image.map fun i => decide (off < i.size)).getD false then Config.factoryByte off else 0xFF) else f.bytes.getD off 0xFF
  else if sector < 896 then
    ((s.ledger.rind.find? fun r => (rindSector s.ledger r.slot).map (· * 1024 + r.slot % 1024) = some (a / 64)).map fun r => (rindBytes r).getD (a % 64) 0xFF).getD 0xFF
  else if sector < 912 then
    let b := s.sal.copies.getD ((sector - 896) / 8) []
    if a % (8 * sectorBytes) / 64 = (field b 40 4 - 1) % 8192 then b.getD (a % 64) 0xFF else 0xFF
  else if sector < 928 then
    ((s.ledger.activations.find? fun r => a % (8 * sectorBytes) / 64 = (r.sequence - 1) % 8192).map fun r => (activationBytes r).getD (a % 64) 0xFF).getD 0xFF
  else if sector < 930 then (if s.ledger.withdrawn.contains sector then 0xFF else (tableBytes s).getD (a % sectorBytes) 0xFF)
  else 0xFF

/-- R412: the byte of the die at an address: what a command programmed there, else what SV's own records and images put there (log entry 41). -/
def ledgerByte (s : State) (a : Nat) : Byte :=
  match s.ledger.array.find? (·.1 = a) with
  | some c => c.2
  | none => heldByte s (logicalOf s (a / sectorBytes) * sectorBytes + a % sectorBytes)

/-- R412: word w holds bytes 2w and 2w + 1. -/
def ledgerWord (s : State) (w : Nat) : U16 := (ledgerByte s (2 * w + 1)).setWidth 16 <<< 8 ||| (ledgerByte s (2 * w)).setWidth 16

def putWord (s : State) (w : Nat) (v : U16) : State :=
  s.onLedger fun l => { l with array := putCell (2 * w + 1) (BitVec.ofNat 8 (v.toNat / 256)) (putCell (2 * w) (BitVec.ofNat 8 v.toNat) l.array) }

/-- What SV itself wrote in an erased sector goes with it: the image of a firmware slot, the records of the Rind ring. -/
def eraseHeld (s : State) (sector : Nat) : State :=
  if sector < 768 then
    let b := decide (384 ≤ sector)
    let low := (sector - slotSector b) * sectorBytes
    setSlot s b fun f =>
      if f.st = .erasing then f
      else
        let bytes := if f.bytes.isEmpty && f.image.isSome then (List.range low).map Config.factoryByte else f.bytes
        { f with st := .invalid, image := none, bytes := bytes.take low ++ ((bytes.drop low).take sectorBytes).map (fun _ => 0xFF) ++ bytes.drop (low + sectorBytes) }
  else s.onLedger fun l =>
    { l with rind := l.rind.filter fun r => decide (rindSector l r.slot ≠ some sector), torn := l.torn.filter fun n => decide (rindSector l n ≠ some sector) }

/-- R413: every word of a sector becomes 0xFFFF. -/
def eraseArray (s : State) (sector : Nat) : State :=
  s.onLedger fun l => { l with array := l.array.filter fun c => c.1 / sectorBytes ≠ sector }

/-- R414: a word that was being programmed, or the words of a sector that was being erased, hold indeterminate data. -/
def spoilWords (s : State) (words : List Nat) : State :=
  s.each words fun s w => (putWord s w (Config.indeterminate s.fresh)).draw

/-! ### The sector table (R417) -/

/-- R417: the lowest reserve sector neither used nor bad. -/
def reserveSector (s : State) : Option Nat :=
  findFrom (fun n => !(s.ledger.badReserve.contains n) && !((sectorEntries s).any (·.2 = n))) 94 930

/-- R417: a copy of the sector table is lost; with both lost every sector is its own replacement. -/
def loseTable (s : State) (sector : Nat) : State :=
  let s := (s.event 14 5 1 (detail := sector)).onLedger fun l => { l with withdrawn := addNew l.withdrawn sector }
  if tableLost s then (s.event 0 8 3 (detail := sector)).onLedger fun l => { l with sectors := [] } else s

/-- R417: a sector becomes grown bad: its words are copied to a reserve sector and an entry is appended; with the reserve
exhausted the logical sector is withdrawn. The sectors of the table itself are never replaced. -/
def growBadSector (s : State) (physical : Nat) : State :=
  if physical = 928 || physical = 929 then loseTable s physical
  else if tableLost s then s.event 14 5 1 (detail := physical)
  else
  let logical := logicalOf s physical
  let s := s.event 14 5 1 (detail := logical)
  let s := if 930 ≤ physical then s.onLedger fun l => { l with badReserve := addNew l.badReserve physical } else s
  match reserveSector s with
  | none => s.onLedger fun l => { l with withdrawn := addNew l.withdrawn logical }
  | some n =>
    let move (c : Host.Cell) : Host.Cell := (c.1 - physical * sectorBytes + n * sectorBytes, c.2)
    s.onLedger fun l =>
      { l with array := ((l.array.filter fun c => c.1 / sectorBytes = physical).map move).foldl (fun a c => putCell c.1 c.2 a) l.array,
               sectors := (logical, n) :: l.sectors }

/-! ### Operations (R413, R414) -/

/-- R414: an operation runs. -/
def ledgerBusy (s : State) : Bool :=
  match s.ledger.st with
  | .busyProgram _ _ | .busyErase _ => true
  | .read | .unlock1 | .unlock2 | .program | .erase | .identify => false

def setLedger (s : State) (st : LedgerSt) : State := s.onLedger fun l => { l with st := st }

/-- An operation starts, with its status bits clear. -/
def startLedger (s : State) (st : LedgerSt) : State := s.onLedger fun l => { l with st := st, toggle := false, error := false, byReset := false }

/-- R413: the program cycle. -/
def ledgerProgram (s : State) (address : Nat) (data : U16) : State := startLedger s (.busyProgram address data)

/-- R413: the erase cycle: 0x00A5 at the sector's base word address. -/
def ledgerErase (s : State) (address : Nat) (key : U16) : State :=
  if key = 0x00A5 && address % sectorWords = 0 then startLedger s (.busyErase (address / sectorWords)) else setLedger s .read

/-- R413: the identify command. -/
def ledgerIdentify (s : State) : State := (setLedger s .identify).emit .identityRead

/-- R413, R414: the reset command: a program or erase in progress stops, and what it was changing is indeterminate. -/
def ledgerStop (s : State) : State :=
  match s.ledger.st with
  | .busyProgram a _ => (spoilWords s [sectorOf s (a / sectorWords) * sectorWords + a % sectorWords]).onLedger fun l => { l with st := .read, byReset := true }
  | .busyErase n =>
    (spoilWords s ((List.range sectorWords).map (sectorOf s n * sectorWords + ·))).onLedger fun l => { l with st := .read, byReset := true }
  | .read | .unlock1 | .unlock2 | .program | .erase | .identify => setLedger s .read

/-- R407, R433: at a detection an erase in progress is ended by the reset command; it is issued again when the window closes, and
that of a Rind sector after READY.LIFT. -/
def endLedgerErase (s : State) : State :=
  match s.ledger.st with
  | .busyErase n =>
    (ledgerStop s).onLedger fun l => { l with eraseEnded := some n }
  | .busyProgram _ _ | .read | .unlock1 | .unlock2 | .program | .erase | .identify => s

/-- R407, R433: the ended erase is issued again; `rindOnly`: a sector of the Rind ring alone. -/
def reissueErase (s : State) (rindOnly : Bool) : State :=
  match s.ledger.eraseEnded with
  | none => s
  | some n =>
    let s := s.onLedger fun l => { l with eraseEnded := none }
    if rindOnly && !(768 ≤ n && n < 896) then s else startLedger s (.busyErase n)

/-- R413: one write of the command machine that is none of the whole commands. While an operation runs it waits (R416). -/
def ledgerWrite (s : State) (address : Nat) (data : U16) : State :=
  match s.ledger.st with
  | .busyProgram _ _ | .busyErase _ => s
  | .read | .identify => setLedger s (if address = 0x1E1E && data = 0x00C3 then .unlock1 else .read)
  | .unlock1 => setLedger s (if address = 0x0E1E && data = 0x003C then .unlock2 else .read)
  | .unlock2 =>
    if address ≠ 0x1E1E then setLedger s .read
    else if data = 0x004B then setLedger s .program
    else if data = 0x005A then setLedger s .erase
    else if data = 0x0069 then ledgerIdentify s
    else setLedger s .read
  | .program => ledgerProgram s address data
  | .erase => ledgerErase s address data

/-- R413: an operation of the machine starts. -/
def startOp (s : State) : LedgerOp → State
  | .program a d => ledgerProgram s a d
  | .erase a key => ledgerErase s a key
  | .identify => ledgerIdentify s

/-- R416: the precedence of an operation: by the area of a program, erases last; the identify command takes that of reads. -/
def opRank : LedgerOp → Nat
  | .program a _ =>
    let n := a / sectorWords
    if 768 ≤ n && n < 896 then 1 else if 912 ≤ n && n < 928 then 2 else if 896 ≤ n && n < 912 then 3 else if n = 928 || n = 929 then 4 else 5
  | .identify => 5
  | .erase _ _ => 6

/-- R416: an operation that finds the machine free starts; another waits. -/
def askLedger (s : State) (op : LedgerOp) : State :=
  if ledgerBusy s || !s.ledger.queue.isEmpty then s.onLedger fun l => { l with queue := l.queue ++ [op] } else startOp s op

/-- LEDGER_WORD_PROGRAM (R413, R416). -/
def execLedgerWordProgram (address : BitVec 25) (data : U16) (s : State) : Res State := .next (askLedger s (.program address.toNat data))

/-- LEDGER_SECTOR_ERASE (R413, R416). -/
def execLedgerSectorErase (address : BitVec 25) (key : U16) (s : State) : Res State := .next (askLedger s (.erase address.toNat key))

/-- LEDGER_IDENTIFY (R413, R416). -/
def execLedgerIdentify (s : State) : Res State := .next (askLedger s .identify)

/-- LEDGER_RESET (R413, R414). -/
def execLedgerReset (s : State) : Res State := .next (ledgerStop s)

/-- LEDGER_OTHER_WRITE (R413). -/
def execLedgerOtherWrite (address : BitVec 25) (data : U16) (s : State) : Res State := .next (ledgerWrite s address.toNat data)

/-- R414: the status word. -/
def ledgerStatus (s : State) : U16 :=
  BitVec.ofNat 16 (1 + (if s.ledger.error then 2 else 0) + (if s.ledger.byReset then 4 else 0) + (if s.ledger.toggle then 64 else 0))

/-- LEDGER_STATUS_READ (R414): while an operation runs a read answers the status word, and its bit [6] toggles. -/
def execLedgerStatusRead (s : State) : Res State :=
  .next (if ledgerBusy s then (s.emit (.ledgerWord (ledgerStatus s))).onLedger fun l => { l with toggle := !l.toggle } else s)

/-- R413, R414: the operation's effect on the array, in the sector that stands for its logical sector. -/
def ledgerApply (s : State) : State :=
  match s.ledger.st with
  | .busyProgram a d =>
    let w := sectorOf s (a / sectorWords) * sectorWords + a % sectorWords
    putWord s w (ledgerWord s w &&& d)
  | .busyErase n => eraseHeld (eraseArray s (sectorOf s n)) n
  | .read | .unlock1 | .unlock2 | .program | .erase | .identify => s

/-- The logical sector of the operation that runs. -/
def busySector (s : State) : Option Nat :=
  match s.ledger.st with
  | .busyProgram a _ => some (a / sectorWords)
  | .busyErase n => some n
  | .read | .unlock1 | .unlock2 | .program | .erase | .identify => none

/-! ### The erase of a firmware slot (R323, R432) -/

/-- R323, R429: the slot that a download targets: the inactive one; in loader recovery slot A, unless it holds a valid image. -/
def downloadSlot (s : State) : Bool :=
  if s.cmd.ready = .recovery then ((slotOf s false).image.map (imageValid s)).getD false else !s.ledger.running

/-- The running erase of FW_DOWNLOAD. -/
def fwErase (s : State) : Option LongOp := s.cmd.longOps.find? (·.kind = .fwErase)

/-- R323, R432: once the machine is free the next sector of the slot is erased; after the last the download goes on. -/
def fwEraseNext (s : State) : State :=
  match fwErase s with
  | none => s
  | some o =>
    if ledgerBusy s || !s.ledger.queue.isEmpty then s
    else if o.done < o.total then startLedger s (.busyErase (slotSector (downloadSlot s) + o.done / sectorBytes))
    else
      let s := setSlot s (downloadSlot s) fun f => { f with st := if f.received = f.declared then .complete else .downloading }
      endLong s o .ok 0 []

/-- R416: the machine, once free, takes the waiting operation of the highest precedence, the oldest of several; then the erase of a slot
goes on. No erase starts while one that a detection ended waits (R407). -/
def ledgerNext (s : State) : State :=
  if ledgerBusy s || !s.power.vao || s.ledger.eraseEnded.isSome then s
  else
    let best := s.ledger.queue.foldl (init := (none : Option LedgerOp)) fun b op =>
      match b with
      | none => some op
      | some x => if opRank op < opRank x then some op else b
    match best with
    | some op => startOp (s.onLedger fun l => { l with queue := l.queue.erase op }) op
    | none => fwEraseNext s

/-- A sector whose erase has ended counts for the slot's erase if it is the one in turn. -/
def fwErased (s : State) (sector : Option Nat) : State :=
  match fwErase s with
  | none => s
  | some o =>
    let due := o.done < o.total && sector = some (slotSector (downloadSlot s) + o.done / sectorBytes)
    fwEraseNext (if due then progressLong s (· = .fwErase) sectorBytes else s)

/-- The sector of an erase that runs. -/
def erasingSector (s : State) : Option Nat :=
  match s.ledger.st with
  | .busyErase n => some n
  | .busyProgram _ _ | .read | .unlock1 | .unlock2 | .program | .erase | .identify => none

/-- LEDGER_OP_COMPLETE (R414, R417): a failed verify sets the error bit, the sector is replaced and the operation repeated there. -/
def execLedgerOpComplete (verifyOk : Bool) (s : State) : Res State :=
  match busySector s with
  | none => .next s
  | some n =>
    let s := if verifyOk then s else (growBadSector s (sectorOf s n)).onLedger fun l => { l with error := true }
    .next (fwErased (setLedger (ledgerApply s) .read) (erasingSector s))

/-- LEDGER_ERASE_LIMIT (R414, R417): the machine issues a reset, and the sector becomes grown bad. -/
def execLedgerEraseLimit (s : State) : Res State :=
  match s.ledger.st with
  | .busyErase n =>
    let old := sectorOf s n
    let s := growBadSector s old
    let s := spoilWords (eraseHeld (eraseArray s (sectorOf s n)) n) ((List.range sectorWords).map (old * sectorWords + ·))
    .next (fwErased (s.onLedger fun l => { l with st := .read, byReset := true }) (some n))
  | .busyProgram _ _ | .read | .unlock1 | .unlock2 | .program | .erase | .identify => .next s

/-! ### Read timing (R415) -/

/-- The lower edge of a band, mV. -/
def bandEdge : Nat → Nat
  | 0 => 1700 | 1 => 2300 | _ => 3000

/-- VAO_SAMPLE_TICK (R415): a faster setting after 10 ms at least 50 mV inside the faster band; a slower one at once when VAO
comes within 50 mV of the lower edge of the band in use. -/
def execVaoSampleTick (millivolts : Nat) (s : State) : Res State :=
  let s := s.onPower fun p => { p with vaoMv := millivolts }
  let b := s.ledger.band
  let slower := if millivolts < bandEdge b + 50 then (if b = 2 && bandEdge 1 + 50 ≤ millivolts then 1 else 0) else b
  if slower < b then .next (s.onLedger fun l => { l with band := slower, bandSince := s.now })
  else if b < 2 && bandEdge (b + 1) + 50 ≤ millivolts then
    if s.ledger.bandSince + 10000000 ≤ s.now then .next (s.onLedger fun l => { l with band := b + 1, bandSince := s.now }) else .next s
  else .next (s.onLedger fun l => { l with bandSince := s.now })

end Sys2Proof.Machine
end

