-- ==== Sys2Proof/Machine/CouchOps.lean ====
section
/-! DEFINITION. What a Couch and a Lift do: the capture, arming, the commit, the save order, the energy watch, the seal and the Lift index (R63, R226 to R247, R400). -/

namespace Sys2Proof.Machine

/-! ### Captures (R400, R401) -/

/-- R400: the first failing rail: the source of the earliest fall stamped within 1 ms before the trigger; equal stamps resolve
to the lower code; 0xFE when there is none. -/
def capture (s : State) : Nat :=
  let near := s.power.falls.filter fun f => s.now ≤ f.2 + 1000000
  let first := near.foldl (init := (none : Option (Nat × Nat))) fun best f =>
    match best with
    | none => some f
    | some b => if f.2 < b.2 || (f.2 = b.2 && f.1 < b.1) then some f else best
  (first.map (·.1)).getD 0xFE

/-- R400: a fall is stamped once, and forgotten when its source rises. -/
def stampFall (s : State) (code : Nat) : State :=
  s.onPower fun p => { p with falls := if p.falls.any (·.1 = code) then p.falls else p.falls ++ [(code, p.now)] }
def clearFall (s : State) (code : Nat) : State := s.onPower fun p => { p with falls := p.falls.filter (·.1 ≠ code) }

/-! ### Arming (R228) -/

/-- R247: rehearsal blocks of a number of bytes, which wait for their erase. -/
def rehearsed (s : State) (bytes : Nat) : State := s.onReam fun r => { r with rehearsal := r.rehearsal + generationSlc (couchWidth s) (bytes / pageBytes) }

/-- R247: a rehearsal that a detection ends leaves the blocks that it has programmed: at the data rate since its start (log entry 164). -/
def cutRehearsal (s : State) : State :=
  match s.couch.rehearsing with
  | some g => rehearsed s (min (g * gib) (rateData s * (s.now - s.couch.rehearsedAt) / 1000000000))
  | none => s

/-- R247: a rehearsal ends; with a status its completion event reports it. -/
def endRehearsal (s : State) (st : Status) (detail : Nat) (params : List Byte) : State :=
  if s.couch.rehearsing.isNone then s
  else endLongOf (unforce (s.onCouch fun c => { c with rehearsing := none }) 4) (fun k => match k with | .rehearse _ => true | _ => false) st detail params

/-- R207, R214: a probe that runs is discarded, and its PK_PROBE_EN falls; a learning cycle's discharge goes on. -/
def stopProbe (s : State) : State := s.onSal fun x => { x with probing := false, probeEn := decide (x.phase = .discharge) }

/-- R195, R207, R214: detection of a supply failure: a learning cycle is disqualified (cause 4), PK_PROBE_EN falls, probing is suspended, and the
low-current mode ends. -/
def supplyFails (s : State) : State := (stopProbe (disqualify s 4)).onSal fun x => { x with suspended := some s.now, lowCurrent := false }

/-- R228: the first erased reserve block of a channel. -/
def reserveBlock (s : State) (channel : Nat) : Option (Nat × Nat) :=
  match (flashAt s channel).targets with
  | some t => ((targetNumbers t).flatMap fun n => (List.range t.luns).map (4 * n + ·)).findSome? fun lun => (replacement s channel lun).map fun id => (channel, id)
  | none => none

/-- R228: no new erase starts; the engines load the first erased reserve blocks; the detection has stopped probing and disqualified a learning cycle.
A rehearsal ends (R247). -/
def arm (s : State) : State :=
  let s := endRehearsal (cutRehearsal s) .notReady (readyCode s) []
  s.onCouch fun c => { c with orch := .armed, eraseHold := true, heldAt := s.now, loaded := (couchSet s).filterMap (reserveBlock s) }

/-! ### The commit (R227, R229) -/

/-- R72, R229: a move or clean that runs is undone: the state before it, or DIRTY if a write arrived. -/
def abandonMoves (s : State) : State :=
  (s.each s.ppu.moves fun s m =>
    let e := entry s m.page
    if e.st = .moving then putQuiet s { e with st := if e.wrote then .dirty else e.prev, wrote := false } else s).onPpu fun p => { p with moves := [] }

/-- The runs allocated to a change that is abandoned. -/
def changeRuns : Change → List (Nat × Nat)
  | .create _ _ _ runs | .grow _ _ runs => runs
  | _ => []

/-- R36: what joined a close that is running takes effect with no reply; a GPF request is signalled (R62). -/
def unanswered (j : Joined) : Joined := match j.change with | .gpf _ => j | _ => { j with req := none }

/-- R36: the Couch's own close: the running one, whose changes stand, or one with no region change; what had not joined the
running close is abandoned, and GPF requests complete with it. -/
def couchClose (s : State) : State :=
  let waiting := (s.epochs.queued.getD []) ++ s.felt.opReqs.map (·.2)
  let gpf := waiting.filter fun j => match j.change with | .gpf _ => true | _ => false
  let s := unreserve s (waiting.flatMap fun j => changeRuns j.change)
  let s := (s.onEpochs fun e => { e with queued := none }).onFelt fun f => { f with opReqs := [], ops := [], reservedOps := [] }
  match s.epochs.running with
  | some c => s.onEpochs fun e => { e with running := some { c with couch := true, joined := c.joined.map unanswered ++ gpf } }
  | none => startClose s gpf true false

/-- R87, R151, R153, R229: formats, repairs and tests stop. What becomes of the locations of a repair that is abandoned the rule does not
say: they are withheld no more (DESIGN CHOICE, log entry 138). -/
def stopWork (s : State) : State :=
  let adding := (List.range 48).filter fun c => (flashAt s c).st = .adding
  let s := s.each adding fun s c => setFlash (flashState s c .present 0) c fun f => { f with addStep := 0 }
  let open_ (d : Dram) (row : Nat) : Bool := d.repair.any fun x => x.1 = row && x.2.1 = 1
  let s := s.onVat fun v => { v with ch := v.ch.map fun d => { d with repair := [], withheld := d.withheld.filter fun r => !open_ d r, offlineLost := d.offlineLost || d.st = .vacating } }
  s.onUnits fun u => { u with slices := u.slices.map resetUnit, ports := u.ports.map resetUnit, links := u.links.map resetUnit,
                              cores := u.cores.map resetUnit, dramUnits := u.dramUnits.map resetUnit, flashUnits := u.flashUnits.map resetUnit,
                              engines := u.engines.map resetEngine }

/-- R273: the TW islands are powered off. -/
def linksOff (s : State) : State :=
  s.each (List.range 8) fun s t =>
    unroute (setLink s t fun l => { l with st := .held, mapped := false, retryBuf := [], replayed := [], queue := [], unsent := 0 }) (.tw t)

/-- R273: with the Couch committed, the links stay up until every message queued before has gone and every mirror write is acknowledged; the TW islands
are then powered off. -/
def feltSettles (s : State) : State :=
  let write (m : FeltMsg) : Bool := match m with | .mirrorWrite _ _ _ _ _ _ _ => true | _ => false
  let waits (l : Link) : Bool := l.unsent ≠ 0 || l.queue.any write
  if s.couch.orch ≠ .committed || s.felt.pair ≠ .attached || s.felt.links.any waits then s
  else linksOff s

/-- R231: the islands powered off or slowed by the commit. -/
def couchIslands (s : State) : State :=
  let out := ((List.range 48).filter fun c => !(couchSet s).contains c).map Island.fc
  let s := s.each out unroute
  let nominal := (s.wire.clock.map (·.1)).filter fun i => match i with | .fc _ => false | _ => true
  ((changeClock s nominal 0).onWire fun w => { w with cchFirst := true }).onCave fun v =>
    { v with step := 0, unwinding := false }

/-- R236, R237: the generation that the Couch writes, when anything is charged. -/
def openGeneration (s : State) : Option Generation :=
  if dirtyBytes s = 0 then none
  else some { width := couchWidth s, num := nextGeneration s.ream.lastGen, openEpoch := s.epochs.current, manifest := [], pages := [], leftOut := 0, flags := 0,
              sealed := false, opened := false, previous := newestGeneration s, commitTime := s.now, counted := false, stageMark := s.ream.stageOrder }

/-- R58, R269: of the staging area the commit applies the epochs that are complete; the others are discarded, as where a pair parts. -/
def settleStaged (s : State) : State := (applyReady s).onFelt fun f => { f with staged := [], ends := [] }

/-- R227, R229, R404: the commit, from SERVING or ARMED. `commanded`: not at the commit point of a detection. -/
def couchCommit (s : State) (commanded : Bool) (cause : DownCause) (toDown cold : Bool) (rail : Nat) : State :=
  if s.couch.orch ≠ .serving && s.couch.orch ≠ .armed then s
  else
    let s := settleStaged (endRehearsal (cutRehearsal (stopProbe s)) .notReady (readyCode s) [])
    let d := dirtyBytes s
    let gen := openGeneration s
    let held := s.cmd.longOps.filter (·.kind = .learn)
    let s := s.onCmd fun c => { c with longOps := held, injections := [], trace := c.trace.map fun t => { t with running := false } }
    let s := s.each s.cxl.lds fun s l => releaseAll s l.head l.ld
    let s := abandonStripes (stopWork (abandonMoves s))
    let s := s.onPpu fun p => { p with fetches := p.fetches.map fun f => { f with cch := true } }
    let s := lagRegions { s with couch := { s.couch with
      orch := .committed, committed := s.now, commanded := commanded, cause := cause, toDown := toDown, cold := cold, firstRail := rail,
      todo := [], gen := gen, curdDrained := false, stopped := false, stop := if commanded then 0x10 else 0, dAtCommit := d, sealed := false,
      folding := false, eraseHold := true, heldAt := if s.couch.eraseHold then s.couch.heldAt else s.now, set := couchSet s, absentDirty := s.couch.absentDirty || (!commanded && s.sal.state = .absent && d ≠ 0) } }
    let s := sendAll s (.commitNotice s.now s.epochs.current)
    let s := couchIslands (couchClose s)
    let s := retargetBin s
    let n := coresInService s
    let s := if 4 ≤ n && n ≤ 7 then (s.onCipher fun c => { c with noVerify := true }).event 8 4 1 else s
    let s := retarget (s.onCurd fun c => { c with configured := .off, drainReq := none })
    feltSettles (rindWrite s 4 ((gen.map (·.num)).getD 0) d rail (if commanded then 0x10 else 0))

/-! ### The save order (R52, R233) -/

/-- R52: pages of a SYNC region while the pair is attached come last. -/
def saveClass (s : State) (e : DirEntry) : Nat :=
  match regionOf s e.region with
  | some r => if flagMirror r.flags = 1 && s.felt.pair = .attached then 2 else 1
  | none => 1

/-- R233: class, oldest epoch, lower page number. -/
def savesBefore (s : State) (a b : DirEntry) : Bool :=
  let ka := (saveClass s a, wideEpoch s a.epoch)
  let kb := (saveClass s b, wideEpoch s b.epoch)
  ka.1 < kb.1 || (ka.1 = kb.1 && (ka.2 < kb.2 || (ka.2 = kb.2 && a.page < b.page)))

def insertSave (s : State) (e : DirEntry) : List DirEntry → List DirEntry
  | [] => [e]
  | x :: xs => if savesBefore s e x then e :: x :: xs else x :: insertSave s e xs

def chargedEntries (s : State) : List DirEntry := s.ppu.dir.filter (·.charged)

/-- R233: the page numbers of region metadata segments in the save order (log entry 16). -/
def metaPage : Nat := rootTailPage + 2 ^ 32

/-- R231: the ranks of a channel whose dirty frames have all been read enter self-refresh. -/
def sleepRanks (s : State) : State :=
  let frames := s.ppu.frames.filter fun f => s.couch.todo.contains f.page
  s.onVat fun v => { v with ch := v.ch.mapIdx fun c d =>
    if d.st = .online || d.st = .vacating then
      { d with asleep := (List.range (channelRanks d)).filter fun r => !(frames.any fun f => decide (f.no % 16 = c) && decide ((placeOf d (f.no / 16)).rank = r)) }
    else d }

/-- R233: the pages to save: region 0x0000 first, then region metadata changed since it was written, then the data pages that have a
frame. -/
def saveList (s : State) : List Nat :=
  let blocks := s.ppu.dirtyBlocks.foldl (fun l e => insertBy id e l) []
  let tail := (List.range ((s.regions.rootTail.length + 255) / 256)).map (rootTailPage + ·)
  let changed := (s.regions.list.filter (·.metaDirty)).map fun r => metaPage + r.num
  let data := ((chargedEntries s).filter fun e => (frameOf s e.page).isSome).foldl (fun l e => insertSave s e l) []
  blocks.map (directoryBase + ·) ++ tail ++ changed ++ data.map (·.page)

/-- R233: a page can be programmed now: of region 0x0000, or its frame is VALID. -/
def savable (s : State) (page : Nat) : Bool := directoryBase ≤ page || (validFrame s page).isSome

/-- R234, R238: programming ends, with a seal flag. -/
def stopCouch (s : State) (flag : U8) : State := s.onCouch fun c => { c with stopped := true, stop := c.stop ||| flag }

/-- One page of the list is programmed at a reserve location. -/
def saveAt (s : State) (page : Nat) (loc : BitVec 40) : State :=
  match s.couch.gen with
  | none => s
  | some g =>
    let s := s.onCouch fun c => { c with todo := c.todo.filter (· ≠ page) }
    let (s, ep, poison) :=
      if directoryBase ≤ page then
        let s := if metaPage ≤ page then setRegion s (page - metaPage) fun r => { r with metaDirty := false }
          else if rootTailPage ≤ page then writeTail s 256 else storeBlock s (page - directoryBase)
        (openBlock s loc .image g.num 0 0 s.epochs.closed false, lo32 s.epochs.closed, false)
      else
        let e := entry s page
        let d := ((validFrame s page).map (·.data)).getD []
        let (ks, kg, on) := keyWord s e.region
        let s := cipherRequest (match validFrame s page with | some f => pageCommand s f.no 0 | none => s) e.region 1
        (writeSlot s { loc := loc, page := page, region := e.region, epoch := wideEpoch s e.epoch, keySlot := ks, keyGen := kg, cipher := on,
                       generation := g.num, data := d } 0, e.epoch, d.any (·.2.poison))
    let s := sleepRanks (s.onCouch fun c => { c with gen := some { g with pages := g.pages ++ [(page, loc, ep, poison)] } })
    if s.couch.todo.isEmpty then stopCouch s 1 else s

/-! ### The records of a generation (R237, R238) -/

/-- R237: the standalone copies stand on the lowest set channel, and on the lowest of another group. -/
def recordChannels (s : State) : List Nat :=
  match s.couch.set with
  | [] => []
  | c :: rest => c :: (rest.filter fun k => k / 12 ≠ c / 12).take 1

/-- R237: the directory pages of a generation's manifest: 8 bytes for each. -/
def manifestBytes (g : Generation) : List Byte := g.manifest.flatMap fun e => le 8 (2 * e) ++ le 8 (2 * e + 1)

/-- R237: the generation's image blocks, in the order of their first slots, and their 16-byte entries of the block list. -/
def imageBlocks (g : Generation) : List (Nat × Nat) := g.pages.foldl (fun l p => addNew l (locChannel p.2.1, blockId p.2.1)) []
def blockListBytes (s : State) (g : Generation) : List Byte := (imageBlocks g).flatMap fun m =>
  le 1 m.1 ++ [0] ++ le 5 (m.1 * 2 ^ 33 + m.2 * 4) ++ le 8 (((blockAt s m.1 m.2).map (·.sequence)).getD 0) ++ [0]

/-- R237: the first summary block on each of the two channels opens, and holds the open record. -/
def openSummaries (s : State) (g : Generation) : State :=
  let record := recordBytes 1 0 g.num g.openEpoch 0 (chargedPages s) (2 * g.manifest.length) g.previous g.commitTime
  let s := s.each ((recordChannels s).filterMap (reserveBlock s)) fun s m => stampAt (listBlock s m.1 m.2 .summary g.num) m.1 m.2 1 0xFFFF 0 g.openEpoch false
  s.onCouch fun c => { c with gen := some { g with opened := true, records := (recordChannels s).map fun _ => record } }

/-! ### The energy watch (R234) -/

/-- R234: the energy watch stops the programming: a COUCH_STOP record, and the seal follows. -/
def watchStop (s : State) (flag : U8) : State :=
  if s.couch.orch ≠ .committed || s.couch.stopped || s.couch.sealed || s.couch.detected.isNone || s.couch.gen.isNone then s
  else
    let left := if s.couch.curdDrained then s.couch.todo.length else chargedPages s
    rindWrite (stopCouch s flag) 14 ((s.couch.gen.map (·.num)).getD 0) left

/-- R234: the energy conditions, judged whenever the Salometer updates what they rest on. -/
def couchWatch (s : State) : State :=
  let cutoff := (s.sal.id.map (·.cutoffMv)).getD 0
  if s.sal.eLb * 20 ≤ couchPower s || s.sal.voltage * 100 ≤ cutoff * 1000 * 102 || !s.sal.present || s.sal.state = .absent then watchStop s 2 else s

/-! ### The end of a Couch -/

/-- R39, R40: an internal warm reset, a reset of scope WARM: the islands are re-initialised and boot, with the rails up. -/
def internalReset (s : State) : State :=
  let s := islandsReset (s.onCmd fun c => { c with resetRun := max c.resetRun 4 })
  let s := bootStart s true
  s.onCouch fun c => { Couch.reset with orch := .lifting, inputPresent := c.inputPresent, inputSeen := c.inputSeen, raw := c.raw, cancels := c.cancels,
                                        absentDirty := c.absentDirty }

/-! ### The Lift (R239 to R242) -/

/-- R242: a generation's slots enter the index; a later entry of a page replaces an earlier one. -/
def indexGeneration (idx : List (Nat × BitVec 40 × U32 × Bool × Nat)) (g : Generation) : List (Nat × BitVec 40 × U32 × Bool × Nat) :=
  (g.pages.filter fun p => p.1 < directoryBase).foldl (fun l p => (l.filter (·.1 ≠ p.1)) ++ [(p.1, p.2.1, p.2.2.1, p.2.2.2, g.num)]) idx

def liftIndex (s : State) : List (Nat × BitVec 40 × U32 × Bool × Nat) := s.ream.generations.foldl indexGeneration []

/-- R52, R66, R239: directory blocks of a generation's manifest that are absent from its image, as an unsealed one or one that the energy
watch stopped leaves them: every page they cover that is not indexed is LOST. -/
def lostBlocks (g : Generation) : List Nat := g.manifest.filter fun e => !(g.pages.any fun p => p.1 = directoryBase + e)

/-- R239: without a valid open record every page whose entry shows DIRTY, and is not indexed, is LOST; the resolution of R242
says the same of a DIRTY entry. -/
def loseBlock (s : State) (extent : Nat) : State :=
  match regionOfExtent s extent with
  | none => s
  | some r =>
    s.each ((List.range 512).map (512 * extent + ·)) fun s p =>
      if s.ream.index.any (·.1 = p) then s
      else putQuiet s { entry s p with st := .lost, loc := 0, frame := none, region := r.num, charged := false, unresolved := false }

/-- R242: an indexed page that the directory does not list is found ZERO, and is resolved when its block is loaded. -/
def listIndexed (s : State) : State :=
  s.each s.ream.index fun s x =>
    if (entryOf s x.1).isSome || (regionOfPage s x.1).isNone then s else putQuiet s { blankEntry s x.1 with unresolved := true }

/-- R173, R244: reserve blocks of a generation that has been folded wait for their erase again. -/
def requeueErases (s : State) : State :=
  let stale (b : Block) : Bool := reserveSeg b.seg && b.sequence ≠ 0 && !b.bad && !(s.ream.generations.any (·.num = b.generation))
  s.onReam fun r => { r with ch := r.ch.map fun c => { c with blocks := c.blocks.map fun b => if stale b then queueErase s.now b else b } }

/-- R65, R479: of a page that an image holds, the stage records that are older than that image stand in it, or are overwritten there: they
become invalid, as where cleaning writes the page home (log entry 155). -/
def retireImaged (s : State) : State :=
  let older (x : StageRec) : Bool := s.ream.generations.any fun g => x.order < g.stageMark && g.pages.any (·.1 = x.line / 64)
  s.onReam fun r => { r with stage := r.stage.map fun x => if older x then { x with valid := false } else x }

/-- R237 to R239: whether a generation has an open record and is sealed, as its copies that are valid say. -/
def judgeGeneration (g : Generation) : Generation :=
  { g with opened := g.records.any fun r => recordValid r && field r 2 1 = 1, sealed := g.records.any fun r => recordValid r && field r 2 1 = 2 }

/-- R241 steps 2 to 8: what the Lift derives from the media. -/
def liftDerive (s : State) : State :=
  let s := s.onReam fun r => { r with generations := r.generations.map judgeGeneration }
  let s := retireImaged (requeueErases s)
  let s := s.onReam fun r => { r with index := liftIndex s }
  let s := s.each (s.ream.generations.flatMap lostBlocks) loseBlock
  let s := listIndexed s
  let staged := (s.ream.stage.filter (·.valid)).map (·.line / 64)
  s.onPpu fun p => { p with stageIndex := staged.foldl addNew [] }

/-- R56: the highest epoch that an image or segment header on the media records; 0 where none does. A stage block's header takes it
from its records. -/
def highestEpoch (s : State) : Nat :=
  let headers := s.ream.ch.flatMap fun c => (c.blocks.filter fun b => headerGood b.header).map fun b => max (headerFirst b.header) (headerLast b.header)
  let gens := (s.ream.generations.filter fun g => g.opened || g.sealed).map (·.openEpoch)
  let staged := (s.ream.stage.filter (·.programmed)).map (·.epoch)
  (headers ++ gens ++ staged).foldl max 0

/-- R63: the Lift counts a dirty shutdown, each generation in one LIFT record. -/
def dirtyLift (s : State) : Bool := (s.ream.generations.any fun g => !g.counted && (!g.sealed || g.leftOut ≠ 0)) || s.couch.absentDirty

/-- R404: pages left out, or all ones when a generation is unsealed. -/
def liftDetail (s : State) : Nat :=
  if s.ream.generations.any (!·.sealed) then 0xFFFFFFFFFFFFFFFF else (s.ream.generations.map (·.leftOut)).sum

/-- R63, R241 step 4, R404, R408: the LIFT record, and the dirty shutdown that it counts (log entry 100). -/
def liftRecord (s : State) : State :=
  let dirty := dirtyLift s
  let s := rindWrite s 6 (newestGeneration s) (liftDetail s) 255 0 (if dirty then 1 else 0)
  let s := s.onReam fun r => { r with generations := r.generations.map fun g => { g with counted := true } }
  let s := s.onCouch fun c => { c with absentDirty := false }
  if dirty then s.event 13 4 2 (detail := dirtyShutdowns s) else s


end Sys2Proof.Machine
end

