-- ==== Sys2Proof/Machine/Salometer.lean ====
section
/-! DEFINITION. The Salometer's rows: samples, the pack's presence and identity, probes, anchors, learning; ENERGY_STATUS to DECKLE_STATUS (R190 to R217, R316 to R318, R382). Currents in µA, voltages in µV, temperatures in 0.01 °C. -/

namespace Sys2Proof.Machine

/-! ### Ranges -/

/-- R190: the current range, ±62.5 mV over the shunt, in µA. -/
def currentRange (s : State) : Int := 62500000000000 / max 1 (shuntNano s)

/-- R190, R191: 1.25 V at PK_VSNS, as pack voltage in µV. -/
def voltageRange (s : State) : Nat := 1250000 * dividerN s / 65536

/-- C in µA: the rated capacity per hour. -/
def ratedCurrent (s : State) : Nat := (s.sal.id.map fun p => p.ratedMah * 1000).getD 0

/-- R194, R201: readings inside −40 °C to 125 °C. -/
def inRange (t : Int) : Bool := -4000 ≤ t && t ≤ 12500

/-- R194: the SV die temperature, or the mean of the used readings of sensors 0 to 63 in its place. Before the first diode sample that mean serves without the
LOW confidence, and 0 °C where no sensor has a reading (DESIGN CHOICE, log entry 166). -/
def dieTemp (s : State) : Int :=
  match s.sal.diode, s.sal.diodeBad with
  | some t, false => t
  | _, _ => 10 * mean ((List.range 64).filterMap (usedReading s))

/-! ### Samples (R193 to R196, R201) -/

/-- R382, R214: the pack's temperature is judged against the charging and the learning window. -/
def packBands (s : State) : State :=
  let h := addReading s.now s.cave.packHist (packTemp s / 10)
  let s := s.onCave fun c => { c with packHist := h }
  let w := windowNext s.now h s.sal.window
  let old := s.sal.window
  let l := learnNext s.now h s.sal.learnWindow
  let s := s.onSal fun x => { x with window := w, learnWindow := l }
  let s := if w = old then s else s.event 10 3 0 (detail := w)
  if l then s else if s.sal.phase = .none then s else disqualify s 1

/-- R193, R201: the temperature sample of both thermistors; one that leaves its range is logged. -/
def thermistorSample (s : State) (temp0 temp1 : Int) : State :=
  let used (t : Int) : Option Int := if inRange t then some t else none
  let out0 := s.sal.ntcOut0
  let out1 := s.sal.ntcOut1
  let s := s.onSal fun x => { x with ntc0 := used temp0, ntc1 := used temp1, ntcOut0 := !inRange temp0, ntcOut1 := !inRange temp1 }
  let s := if !out0 && !inRange temp0 then s.event 10 2 1 (detail := 0) else s
  let s := if !out1 && !inRange temp1 then s.event 10 2 1 (detail := 1) else s
  match s.sal.ntc0, s.sal.ntc1 with
  | some a, some b => if (a - b).natAbs ≤ 1000 then s.onSal fun x => { x with ntcFailed := 0 } else s
  | _, _ => s

/-- R196: a sample beyond the range; R214 cause 7. -/
def overrangeSample (s : State) (current : Int) : State :=
  let s := s.event 10 5 1 (detail := current.natAbs)
  let s := if 0 < current then s.onSal fun x => { x with overrange := true } else s
  disqualify s 7

/-- R195, R214: the 1-second mean of |I|: the time for which it has stayed below 0.5 % of the range; above C/2 a learning cycle is disqualified. -/
def secondMean (s : State) (current : Int) (us : Nat) : State :=
  let sum := s.sal.absSum + current.natAbs * us
  let time := s.sal.absTime + us
  if time < 1000000 then s.onSal fun x => { x with absSum := sum, absTime := time }
  else
    let low := decide ((sum / time * 200 : Nat) < currentRange s)
    let s := s.onSal fun x => { x with absSum := 0, absTime := 0, lowTime := if low then x.lowTime + time else 0 }
    if ratedCurrent s < 2 * (sum / time) then disqualify s 2 else s

/-- R208 step 3: the charge left between the cutoff and 0 % SoC at the learn current, from the table, in 0.0001 %. -/
def residualSoc (s : State) : Nat :=
  let rate := if ratedCurrent s = 0 then 0 else s.sal.current.natAbs * 100 / ratedCurrent s
  let r := rTable s (packTemp s) (centralSoc s) rate * s.sal.fR / 65536
  socAbove s (packTemp s) (s.sal.voltage + s.sal.current.natAbs * r / 1000000)

/-- R204, R208 step 3: the cutoff ends the discharge: the empty anchor, and the recharge is counted. -/
def emptyAnchor (s : State) : State :=
  let soc := residualSoc s
  let s := s.onSal fun x => { x with probeEn := false, qRes := soc * ratedCharge s * 1000, qChg := 0 }
  learnStep (anchorAt s soc) .recharge 3

/-- R203 step 5: PK_PROBE_EN falls 20 ms after its assertion. -/
def probeTime (s : State) (us : Nat) : State :=
  if s.sal.probing then s.onSal fun x => { x with probeUs := x.probeUs + us, probeEn := x.probeEn && decide (x.probeUs + us < 20000) } else s

/-- SALOMETER_SAMPLE (R193, R195, R196, R201, R203, R208): one reported sample of the three channels, the mean of four: both thermistors, which
alternate in them, and current and voltage; 1 ms or, in the low-current mode, 15.625 ms after the last. A voltage beyond the range fails the pack until the first probe after the next assertion or swap (log 144). -/
def execSalometerSample (current : Int) (voltage : Nat) (temp0 temp1 : Int) (s : State) : Res State :=
  if !s.power.vao then .next s
  else
    let us := if s.sal.lowCurrent && !s.sal.probing then 15625 else 1000
    let s := thermistorSample (probeTime (s.onSal fun x => { x with current := current, voltage := voltage }) us) temp0 temp1
    let s := secondMean (countCharge s current us) current us
    let s := if currentRange s < current.natAbs then overrangeSample s current else s
    let s := if voltageRange s < voltage then judgeEnergy (s.onSal fun x => { x with ocvOk := false }) else s
    let s := if s.sal.present then packBands s else s
    let cutoff := (s.sal.id.map fun p => p.cutoffMv * 1000).getD 0
    let s := if s.sal.phase = .discharge && voltage ≤ cutoff then emptyAnchor s else s
    .next (couchWatch s)

/-- AUTO_ZERO_TICK (R194): the next modulator is zeroed. -/
def execAutoZeroTick (s : State) : Res State := .next (s.onSal fun x => { x with zeroChannel := (x.zeroChannel + 1) % 4 })

/-- SV_DIODE_SAMPLE (R194): a reading out of range is not used, and the confidence falls until one in range comes. -/
def execSvDiodeSample (temp : Int) (s : State) : Res State :=
  if inRange temp then .next (judgeEnergy (s.onSal fun x => { x with diode := some temp, diodeBad := false }))
  else
    let s' := s.onSal fun x => { x with diodeBad := true }
    .next (judgeEnergy (if s.sal.diodeBad then s' else s'.event 10 8 1 (detail := temp.natAbs)))

/-- LOW_CURRENT_MODE_ENTRY (R195): the 1-second mean has stayed below 0.5 % of the range for 10 s. -/
def execLowCurrentModeEntry (s : State) : Res State :=
  .next (if 10000000 ≤ s.sal.lowTime then s.onSal fun x => { x with lowCurrent := true } else s)

/-- LOW_CURRENT_COMPARATOR (R195): the mode ends. -/
def execLowCurrentComparator (s : State) : Res State := .next (s.onSal fun x => { x with lowCurrent := false })

/-- THERMISTOR_DISAGREEMENT (R201): the reading farther from the SV die temperature is declared failed; at equal
distance NTC0 (log 144). -/
def execThermistorDisagreement (s : State) : Res State :=
  match s.sal.ntc0, s.sal.ntc1 with
  | some a, some b =>
    if (a - b).natAbs ≤ 1000 || s.sal.ntcFailed ≠ 0 then .next s
    else
      let bad := if (a - dieTemp s).natAbs < (b - dieTemp s).natAbs then 2 else 1
      .next (judgeEnergy ((s.onSal fun x => { x with ntcFailed := bad }).event 10 2 1 (detail := bad - 1)))
  | _, _ => .next s

/-! ### Presence and identity (R197, R198, R210, R212) -/

/-- PK_PRESENT_ASSERTED (R197, R198): the identity block is read within 50 ms. -/
def execPkPresentAsserted (s : State) : Res State :=
  .next (if s.sal.present then s else s.onSal fun x => { x with present := true, swapped := false, unread := true, reading := true, idRetries := 0, firstProbe := false, ocvOk := false, probes := 0 })

/-- PK_PRESENT_DEASSERTED (R207, R212, R214, R234): ABSENT at once. -/
def execPkPresentDeasserted (s : State) : Res State :=
  if !s.sal.present then .next s
  else
    let s := disqualify s 5
    let s := s.onSal fun x => { x with present := false, swapped := false, reading := false, probing := false, probeEn := false, firstProbe := false,
                                       before := if x.state = .absent then x.before else some x.state, beforePack := (x.id.map (·.packId)).getD 0 }
    .next (deckleImmediate (couchWatch (setEnergy (publish s) .absent false)))

/-- PACK_SWAP_TIMEOUT (R210, R212): deasserted for more than 100 ms: a swap, recorded once. -/
def execPackSwapTimeout (s : State) : Res State :=
  .next (if s.sal.present || s.sal.swapped then s else packSwap (s.onSal fun x => { x with before := none, id := none, swapped := true }))

/-- PACK_IDENTITY_POLL (R197): every 60 s; a failed read is not retried. -/
def execPackIdentityPoll (s : State) : Res State :=
  .next (if s.sal.present && !s.sal.reading then s.onSal fun x => { x with reading := true, idRetries := 2 } else s)

/-- R197: the identity block. -/
def parseIdentity (b : List Byte) : PackId :=
  let f := field b
  let pid := f 16 8
  { chemistry := f 1 1, cells := f 2 1, ratedJ := f 4 4, ratedMah := f 8 2, cutoffMv := f 10 2, chargeMv := f 12 2, maxCurrent := f 14 2, packId := pid,
    usable := f 0 1 = 1 && 1 ≤ f 1 1 && f 1 1 ≤ 4 && 1 ≤ f 2 1 && f 2 1 ≤ 32 && 3600 ≤ f 4 4 && f 4 4 ≤ 3600000 && 100 ≤ f 8 2 && f 10 2 < f 12 2 &&
      pid ≠ 0 && pid ≠ 2 ^ 64 - 1 }

/-- R197: the block's CRC. -/
def identityCrc (b : List Byte) : Bool := b.length = 32 && (crc32c (b.take 28)).toNat = field b 28 4

/-- R198: a failed read: retried twice at power-up and after an assertion, else logged; a previous identity is kept. -/
def identityFailed (s : State) : State :=
  if s.sal.idRetries < 2 then s.onSal fun x => { x with idRetries := x.idRetries + 1 }
  else (s.onSal fun x => { x with reading := false }).event 10 1 1

/-- PACK_IDENTITY_READ_DONE (R197, R198, R210, R212). -/
def execPackIdentityReadDone (block : Option (List Byte)) (s : State) : Res State :=
  if !s.sal.present || !s.sal.reading then .next s
  else match block with
    | none => .next (identityFailed s)
    | some b =>
      if !identityCrc b then .next (identityFailed s)
      else
        let p := parseIdentity b
        let odd := field b 3 1 ≠ 0 || field b 24 4 ≠ 0
        let s := s.onSal fun x => { x with reading := false, unread := false }
        let s := if odd && !s.sal.reservedLogged.contains p.packId then
            (s.event 10 7 1 (detail := p.packId)).onSal fun x => { x with reservedLogged := p.packId :: x.reservedLogged } else s
        let swap := (s.sal.id.map fun q => decide (q.packId ≠ p.packId)).getD false
        let s := if swap then packSwap s else s
        let other := (s.sal.id.map fun q => decide (q.packId ≠ p.packId)).getD true
        let s := s.onSal fun x => { x with id := some p, before := if swap then none else x.before }
        let s := if other && p.usable && (s.cmd.tables.getD 8 none).isSome && (chemistryWritten s).isNone then s.event 9 5 1 (detail := p.chemistry) else s
        let s := if swap && s.sal.state ≠ .absent && p.usable then deckleImmediate (setEnergy (publish s) .degraded false) else s
        .next (judgeEnergy s)

/-! ### Probes (R203 to R207) -/

/-- R207: probing is suspended. -/
def probeBlocked (s : State) : Bool :=
  !s.sal.present || !probeLoadFitted s || s.couch.orch = .armed || s.couch.orch = .committed || s.sal.phase = .discharge ||
    match s.sal.suspended with
    | some t => s.power.absentSince.isSome || decide (s.now < t + 10 * second)
    | none => false

/-- PROBE_START (R203): PK_PROBE_EN is asserted while the pack is vouched for or awaits its first probe. -/
def execProbeStart (s : State) : Res State :=
  .next (if probeBlocked s || s.sal.unread || !((s.sal.id.map (·.usable)).getD false) || s.sal.probing || (s.sal.firstProbe && !s.sal.ocvOk) then s
    else s.onSal fun x => { x with probing := true, probeEn := true, probeUs := 0 })

/-- R203 step 8: Rint in µΩ and OCV in µV. -/
def probeResult (iPre vPre iPb vPb iPost vPost : Int) : Int × Int × Int :=
  let ib := (iPre + iPost) / 2
  let vb := (vPre + vPost) / 2
  let di := iPb - ib
  let rint := if di = 0 then 0 else -(vPb - vb) * 1000000 / di
  (di, rint, vb + ib * rint / 1000000)

/-- R205: the probe is accepted. -/
def probeAccepted (s : State) (di rint iPre iPost rmsPre rmsPost : Int) : Bool :=
  let range := currentRange s
  let tab : Int := rColumn s (packTemp s) (centralSoc s) 0
  decide (range * 5 ≤ di.natAbs * 1000 ∧ (di.natAbs : Int) * 1000 ≤ range * 40) && decide (rmsPre * 500 ≤ range ∧ rmsPost * 500 ≤ range) &&
    decide (((iPost - iPre).natAbs : Int) * 50 ≤ range) && decide (tab ≤ 4 * rint ∧ rint ≤ 4 * tab)

/-- R206: f_R is filtered with a time constant of 10 probes, taken as a first-order step of a tenth at each accepted probe (log 144). -/
def ageFactor (s : State) (rint : Int) : Nat :=
  let tab : Int := rColumn s (packTemp s) (centralSoc s) 0
  if tab = 0 then s.sal.fR else ((s.sal.fR : Int) + (rint * 65536 / tab - s.sal.fR) / 10).toNat

/-- R198: the OCV lies inside the pack's limits. -/
def ocvInside (s : State) (ocv : Nat) : Bool :=
  match s.sal.id with
  | some p => 95 * p.cutoffMv * 1000 ≤ 100 * ocv && 100 * ocv ≤ 105 * p.chargeMv * 1000
  | none => false

/-- R204, R206, R212: what an accepted probe does. -/
def acceptProbe (s : State) (rint : Int) (ocv : Nat) : State :=
  let f := ageFactor s rint
  let first := !s.sal.firstProbe
  let s := s.onSal fun x => { x with ocv := ocv, rint := rint.toNat, fR := f, lastProbe := some s.now, aged300 := false, aged1h := false, overrange := false,
                                     probes := 0, firstProbe := true, ocvOk := if first then ocvInside s ocv else x.ocvOk }
  let s := if s.sal.anchorBase.isNone then setInterval s ocv
    else if steep s (packTemp s) ocv then ocvAnchor s (socAbove s (packTemp s) ocv) else s
  match s.sal.before with
  | some st =>
    let same := (s.sal.id.map fun p => decide (p.packId = s.sal.beforePack)).getD false
    let s := s.onSal fun x => { x with before := none }
    if same && s.sal.ocvOk then deckleImmediate (setEnergy (publish s) st true) else s
  | none => s

/-- PROBE_COMPLETE (R203 steps 8 and 9, R204 to R206). -/
def execProbeComplete (iPre vPre iPb vPb iPost vPost rmsPre rmsPost : Int) (s : State) : Res State :=
  if !s.sal.probing then .next s
  else
    let idle := decide ((iPost.natAbs : Int) * 200 < currentRange s)
    let s := s.onSal fun x => { x with probing := false, probeEn := false, lowCurrent := x.lowCurrent && idle }
    let (di, rint, ocv) := probeResult iPre vPre iPb vPb iPost vPost
    if probeAccepted s di rint iPre iPost rmsPre rmsPost then .next (judgeEnergy (publish (acceptProbe s rint ocv.toNat)))
    else .next (s.onSal fun x => { x with probes := x.probes + 1 })

/-- PROBE_AGE_TIMEOUT (R205): no probe accepted for 300 s, or for 1 h. -/
def execProbeAgeTimeout (hour : Bool) (s : State) : Res State :=
  .next (judgeEnergy (s.onSal fun x => if hour then { x with aged1h := true } else { x with aged300 := true }))

/-! ### Publication (R211, R215, R216, R234) -/

/-- R216: once a second the reported value moves by at most 0.5/60 % FS toward the estimate at the central SoC. -/
def slew (s : State) : State :=
  match s.sal.reported with
  | none => s
  | some v =>
    if s.now < s.sal.reportedAt + second then s
    else
      let target := usableEnergy s (couchPower s) (centralSoc s) * 1000000 / max 1 (fullScale s)
      let v' := if v + 83 < target then v + 83 else if target + 83 < v then v - 83 else target
      s.onSal fun x => { x with reported := some v', reportedAt := s.now }

/-- R211: 14 days before the record's age limit an event is logged. -/
def ageWarning (s : State) : State :=
  match s.sal.learned with
  | some r =>
    if utcOffset s ≠ 0 && !s.sal.ageWarned && r.time + 166 * day ≤ s.now then
      (s.event 10 6 0 (detail := (s.now - r.time) / second)).onSal fun x => { x with ageWarned := true }
    else s
  | none => s

/-- ENERGY_ESTIMATE_TICK (R209, R215, R216, R234): every 10 ms. A record's write reaches its second copy (log entry 144). -/
def execEnergyEstimateTick (s : State) : Res State := .next (couchWatch (slew (judgeEnergy (publish (ageWarning (finishCopy s))))))

/-! ### Anchors and learning (R204, R208, R209, R214) -/

/-- R208 steps 5 and 6: the cycle qualifies when Q_chg / Q_dis lies between 1.00 and 1.05. A Qmax or an f_R outside the values that R209 does not reserve is
written as the nearest of them (DESIGN CHOICE, log entry 167). -/
def finishLearn (s : State) : State :=
  if s.sal.qDis ≤ s.sal.qChg && 100 * s.sal.qChg ≤ 105 * s.sal.qDis then
    let q := max 1 (min 0xFFFFFFFE ((s.sal.qDis + s.sal.qRes) / 1000000000))
    let f := max 0x4000 (min 0x40000 s.sal.fR)
    let s := putLearned s { high := true, packId := (s.sal.id.map (·.packId)).getD 0, qmax := q, fR := f, time := s.now, temp := packTemp s, cycles := 0,
                            shunt := shuntNano s, divider := dividerN s, sequence := 0 }
    endLongOf (s.onSal fun x => { x with phase := .none, throughput := 0, ageWarned := false }) (· = .learn) .ok 0 (le 4 q ++ le 4 f)
  else disqualify s 7

/-- FULL_CHARGE_ANCHOR (R204, R208): the terminal voltage and the charge current meet the anchor. -/
def execFullChargeAnchor (s : State) : Res State :=
  match s.sal.id with
  | none => .next s
  | some p =>
    if !s.sal.present || s.sal.voltage * 1000 < 995 * p.chargeMv * 1000 || decide (s.sal.current * 20 ≤ -(ratedCurrent s : Int)) then .next s
    else
      let s := (anchorAt s full).onSal fun x => { x with anchorLow := false, disagree := 0 }
      let s := match s.sal.phase with
        | .charging => learnStep (s.onSal fun x => { x with probeEn := true, probing := false, qDis := 0 }) .discharge 2
        | .recharge => finishLearn s
        | .none | .discharge => s
      .next (judgeEnergy (publish s))

/-- LEARN_TIMEOUT (R208, R214): no full-charge anchor within 12 h. -/
def execLearnTimeout (s : State) : Res State :=
  .next (if s.sal.phase = .charging || s.sal.phase = .recharge then disqualify s 6 else s)

/-- LEARN_INTERRUPTION_TIMEOUT (R214 cause 3). -/
def execLearnInterruptionTimeout (s : State) : Res State :=
  let stalled := match s.sal.phase with
    | .discharge => decide (s.sal.current.natAbs * 50 < ratedCurrent s)
    | .recharge => decide (0 ≤ s.sal.current)
    | .none | .charging => false
  .next (if stalled then disqualify s 3 else s)

/-- LEARNED_RECORD_DAILY_UPDATE (R209, R211): the equivalent full cycles discharged since the last update are added. -/
def execLearnedRecordDailyUpdate (s : State) : Res State :=
  match s.sal.learned with
  | none => .next s
  | some r =>
    let one := max 1 r.qmax * 1000000000
    let n := s.sal.throughput / one
    if n = 0 || (s.sal.id.map fun p => decide (p.packId = r.packId)).getD false = false then .next s
    else .next (judgeEnergy (putLearned (s.onSal fun x => { x with throughput := x.throughput % one }) { r with cycles := min 65535 (r.cycles + n) }))

/-! ### Group 0x06 (R316 to R318) -/

/-- A temperature field; 0x8000 for a failed thermistor. -/
def tempBytes : Option Int → List Byte
  | some t => leInt 2 t
  | none => [0x00, 0x80]

/-- An age in seconds. -/
def ageBytes (s : State) : Option Nat → List Byte
  | some t => le 4 (min 0xFFFFFFFE ((s.now - t) / second))
  | none => [0xFF, 0xFF, 0xFF, 0xFF]

def phaseCode : Phase → Nat
  | .none => 0 | .charging => 1 | .discharge => 2 | .recharge => 3

/-- R205, R207: Rint; from the table times f_R when no probe has been accepted for 300 s and while a learning cycle discharges. -/
def rintNow (s : State) : Nat :=
  if s.sal.aged300 || s.sal.phase = .discharge then rColumn s (packTemp s) (centralSoc s) 0 * s.sal.fR / 65536 else s.sal.rint

/-- R317: ENERGY_STATUS. -/
def energyStatusBytes (s : State) : List Byte :=
  let x := s.sal
  le 4 x.voltage ++ leInt 4 x.current ++ tempBytes (ntcReading s 0) ++ tempBytes (ntcReading s 1) ++ leInt 2 (packTemp s) ++ [0, 0] ++ le 4 x.ocv ++
    le 4 (rintNow s) ++ le 4 x.fR ++ le 2 (x.socLb / 100) ++ le 2 (x.socUb / 100) ++ le 8 x.eEst ++ le 8 x.eLb ++ le 4 x.u ++
    (match x.reported with | some v => le 2 (v / 100) | none => [0xFF, 0xFF]) ++ [if recordHigh s then 2 else 1, if measureHigh s then 2 else 1] ++
    le 1 (energyCode x.state) ++ [if x.lowCurrent && !x.probing then 1 else 0] ++ le 1 (phaseCode x.phase) ++ [0] ++ ageBytes s x.lastProbe ++
    ageBytes s x.lastAnchor ++ ageBytes s (x.learned.map (·.time)) ++ le 4 (qMax s) ++ le 4 (couchPower s)

/-- ENERGY_STATUS. -/
def execEnergyStatus (r : Req) (s : State) : Res State :=
  .next <| command s r 0x0601 none .session .always fun s _ => ok s r 0x0601 (energyStatusBytes s)

/-- ENERGY_LEARN_START (R208, R213). -/
def execEnergyLearnStart (r : Req) (s : State) : Res State :=
  .next <| command s r 0x0602 none .owner .service fun s x =>
    checked s r 0x0602
        [(s.sal.phase ≠ .none, .busy, 3), (s.sal.state = .absent || !probeLoadFitted s, .energyLimit, 0), (!s.sal.learnWindow, .thermalLimit, 0),
         (s.couch.rehearsing.isSome, .conflict, 20)] fun s =>
      startLong s r 0x0602 x .learn 6 3 fun s =>
        learnStep (s.onSal fun y => { y with lowCurrent := false, qDis := 0, qRes := 0, qChg := 0 }) .charging 1

/-- ENERGY_LEARN_ABORT (R318). -/
def execEnergyLearnAbort (r : Req) (s : State) : Res State :=
  .next <| command s r 0x0603 none .owner .notCouch fun s _ => ok (disqualify s 8) r 0x0603 []

/-- R197, R209, R316: the first reserved value of a learned record, as an offset from header byte 0 (log entry 114). -/
def recordReserved (b : List Byte) : Option (Status × Nat) :=
  let q := field b 12 4
  let f := field b 16 4
  if field b 0 1 ≠ 1 then some (.reservedField, 16)
  else if field b 1 1 ≠ 1 && field b 1 1 ≠ 2 then some (.reservedField, 17)
  else if field b 4 8 = 0 || field b 4 8 = 2 ^ 64 - 1 then some (.reservedField, 20)
  else if q = 0 || q = 0xFFFFFFFF then some (.reservedField, 28)
  else if f < 0x4000 || 0x40000 < f then some (.reservedField, 32)
  else none

/-- ENERGY_LEARNED_WRITE (R209, R316, R318): the record is stored with its confidence forced to LOW. -/
def execEnergyLearnedWrite (r : Req) (bytes : List Byte) (s : State) : Res State :=
  .next <| command s r 0x0604 (recordReserved bytes) .owner .fromLift fun s _ =>
    checked s r 0x0604 [((crc32c (bytes.take 60)).toNat ≠ field bytes 60 4, .range, 76), (s.sal.phase ≠ .none, .busy, 3)] fun s =>
      let f := field bytes
      let s := putLearned s { high := false, packId := f 4 8, qmax := f 12 4, fR := f 16 4, time := f 20 8, temp := sfield bytes 28 2, cycles := f 30 2,
                              shunt := f 32 4, divider := f 36 4, sequence := 0 }
      ok (judgeEnergy (publish (s.onSal fun x => { x with ageWarned := false }))) r 0x0604 []

/-- R317: the Couch set is empty, and it would not be but for carrier temperature. -/
def setEmptyByHeat (s : State) : Bool :=
  couchSet s = [] && (List.range 4).any fun g => 4 ≤ ((groupChannels g).filter fun c => (flashAt s c).st = .online && (flashAt s c).reserveReady).length

/-- R317: DECKLE_STATUS. -/
def deckleStatusBytes (s : State) : List Byte :=
  let d := s.deckle
  let live := dirtyBound s
  let b := boundNow s
  let dirty := dirtyBytes s
  let x := pressure s
  let frames := if b = 0 then false else dirty * 10000 / b < x
  let noPair := stagePathNow s && !stagePair s true
  let heat := setEmptyByHeat s || (noPair && stagePair s false)
  let flags := (if stagePathNow s then 1 else 0) + (if heat then 2 else 0) + (if d.overcommitted && belowFreeFloor s || (stagePathNow s && stageExhausted s) then 4 else 0) +
    (if d.capacity < dirty then 8 else 0) + (if noPair && !stagePair s false then 16 else 0)
  le 8 b ++ le 1 (if live.1 < d.bound then live.2 else d.bTerm) ++ le 1 d.cTerm ++ [if frames then 1 else 0] ++ le 1 flags ++ le 4 (min 0xFFFFFFFF x) ++
    le 8 d.capacity ++ le 8 dirty ++ le 4 d.demand ++ (match d.grant with | some g => le 4 (min 0xFFFFFFFE (g / 1000000)) | none => [0xFF, 0xFF, 0xFF, 0xFF]) ++
    le 4 (ratePlan s / 1000000) ++ le 4 d.m ++ le 4 (couchPower s) ++ le 1 (couchSet s).length ++ le 1 (couchEngines s) ++ le 1 (couchWidth s) ++ [0] ++
    le 8 (imageCapacity s)

/-- DECKLE_STATUS. -/
def execDeckleStatus (r : Req) (s : State) : Res State :=
  .next <| command s r 0x0605 none .session .notCouch fun s _ => ok s r 0x0605 (deckleStatusBytes s)

end Sys2Proof.Machine
end

