-- ==== Sys2Proof/Machine/Cave.lean ====
section
/-! DEFINITION. The Cave's rows: samples, bands of Tj, DRAM channels and carriers, throttling, thermal shutdown; THERMAL_STATUS, SENSOR_EXCLUDE (R369 to R385). Temperatures in 0.1 °C. -/

namespace Sys2Proof.Machine

/-! ### Throttling (R378) -/

/-- R378: the islands whose clocks steps 1 and 3 lower. -/
def steppedIslands : List Island := (List.range 16).map Island.cu ++ (List.range 10).map Island.en ++ [.px, .cx]

/-- R12, R378: the clocks follow the step in force; the DRAM channels follow step 2. -/
def applyStep (s : State) (n : Nat) : State :=
  retargetBin (changeClock (s.onCave fun c => { c with step := n }) steppedIslands (if n = 0 then 0 else if n = 3 then 3 else 1))

/-- R378: a step is taken; escalation counts from Tj as it is now. -/
def takeStep (s : State) : State :=
  (applyStep s (min 3 (s.cave.step + 1))).onCave fun c => { c with stepTj := (tjOf s).getD 0, unwinding := false }

/-- R378: the last step taken is undone. -/
def undoStep (s : State) : State :=
  let n := s.cave.step - 1
  (applyStep s n).onCave fun c => { c with unwinding := n ≠ 0 }

/-! ### CRITICAL (R379) -/

/-- The sensor whose used reading is Tj. -/
def hottest (s : State) : Nat :=
  match tjOf s with
  | some t => ((List.range 64).find? fun n => ownReading s n = some t).getD 0
  | none => 0

/-- R379, R404: the record of a thermal shutdown. -/
def shutdownRecord (s : State) : State := rindWrite s 8 0 s.cave.criticalSensor

/-- R379: on entry to CRITICAL. -/
def enterCritical (s : State) : State :=
  let s := s.onCave fun c => { c with criticalSensor := hottest s }
  match s.couch.orch with
  | .serving | .armed => couchCommit (shutdownRecord s) true .thermal true false 255
  | .lifting => startPowerDown (shutdownRecord s) .thermal
  | .committed => s
  | .down => match s.power.seq with
    | .rails _ | .settle | .booting | .running => startPowerDown (shutdownRecord s) .thermal
    | .waitGrant => s.onPower fun p => { p with seq := .waitCool }
    | .off | .waitInput | .waitCool | .powerDown _ | .offTime | .stayDown => s

/-! ### Bands of Tj (R375 to R377) -/

/-- R377, R378: the band changes. While the Couch is COMMITTED no step is taken (R383). -/
def setTj (s : State) (new : TjBand) : State :=
  let old := s.cave.tj
  if old = new then s
  else
    let s := s.event 11 1 1 (unitWord 8 (hottest s)) (detail := changeDetail (tjCode old) (tjCode new) 0)
    let s := s.onCave fun c => { c with tj := new }
    let stepping := s.couch.orch ≠ .committed
    match old, new with
    | _, .critical => enterCritical s
    | _, .throttle => if !stepping then s else if s.cave.step = 0 then takeStep s else s.onCave fun c => { c with unwinding := false, stepTj := (tjOf s).getD 0 }
    | .throttle, _ => if stepping && s.cave.step ≠ 0 then undoStep s else s
    | _, _ => s

/-- R377: fewer than 16 usable on-die sensors: THROTTLE, held at step 3. -/
def holdThrottle (s : State) : State :=
  let s := if s.cave.held3 then s else s.event 0 3 3 (detail := usableOnDie s)
  let s := s.onCave fun c => { c with held3 := true }
  let s := if s.cave.tj = .throttle then s else setTj s .throttle
  if s.couch.orch = .committed || s.cave.step = 3 then s else (applyStep s 3).onCave fun c => { c with unwinding := false }

/-- R376: the rate-of-rise condition stands. -/
def rising (s : State) : Bool := s.cave.rise.isSome

/-- R377: Tj is judged; with fewer than 16 usable on-die sensors the state is held. -/
def judgeTj (s : State) : State :=
  if usableOnDie s = 0 then setTj s .critical
  else
    let s := match tjOf s with
      | none => s
      | some t =>
        let h := addReading s.now s.cave.tjHist t
        let s := s.onCave fun c => { c with tjHist := h }
        let n := if rising s && s.cave.tj = .throttle && 1150 ≤ t then .critical else tjNext s.now h s.cave.tj
        if usableOnDie s < 16 && n ≠ .critical then s else setTj s n
    if s.cave.tj = .critical then s
    else if usableOnDie s < 16 then holdThrottle s
    else s.onCave fun c => { c with held3 := false }

/-- R376: the condition is set by a sensor that has risen by more than 4.0 °C over 1 s, and clears after 1 s without one.
An excluded or failed sensor moves no rate-of-rise test (R373). -/
def judgeRise (s : State) (n : Nat) : State :=
  let c := sensorAt s n
  let rose := sensorKept c && match c.reading with
    | some r => c.history.any fun x => x.1 + second ≤ s.now && x.2 + 40 < r
    | none => false
  if rose then
    let s' := s.onCave fun c => { c with rise := some s.now }
    if rising s then s'
    else match s.cave.tj with
      | .normal => s'.event 11 1 1 (unitWord 8 n) (detail := changeDetail 0 0 1)
      | .warn => setTj s' .throttle
      | .throttle => if s.couch.orch = .committed || 3 ≤ s.cave.step then s' else takeStep s'
      | .critical => s'
  else match s.cave.rise with
    | some t => if t + second ≤ s.now then s.onCave fun c => { c with rise := none } else s
    | none => s

/-! ### DRAM channels and carriers (R380, R381, R183) -/

/-- R380: a channel's temperature: the higher of its hottest used hub reading and its hottest MR4 indication. -/
def channelTemp (s : State) (c : Nat) : Option Int :=
  maxInt ((List.range 2).filterMap (fun k => usedReading s (64 + 2 * c + k)) ++ (dramAt s c).mr4.filterMap (·.2))

/-- R137, R380: the band of a channel changes. -/
def setDimmBand (s : State) (c : Nat) (b : DimmBand) : State :=
  let old := (dramAt s c).band
  if old = b then s
  else
    let s := (setDram s c fun d => { d with band := b }).event 11 4 1 (unitWord 3 c) (detail := changeDetail (dimmCode old) (dimmCode b) 0)
    if old = .restricted then wakeAll s else s

/-- R380: a channel without any reading is held in RESTRICTED. -/
def judgeChannel (s : State) (c : Nat) : State :=
  if (dramAt s c).dimms.isNone then s
  else match channelTemp s c with
    | none => setDimmBand (s.onCave fun v => { v with channelHist := v.channelHist.filter (·.1 ≠ c) }) c .restricted
    | some t =>
      let mine := addReading s.now ((s.cave.channelHist.filter (·.1 = c)).map (·.2)) t
      let s := s.onCave fun v => { v with channelHist := v.channelHist.filter (·.1 ≠ c) ++ mine.map fun x => (c, x) }
      setDimmBand s c (dimmNext s.now mine (dramAt s c).band)

def carrierBand (s : State) (carrier : Nat) : CarrierBand := ((s.cave.carriers.find? (·.1 = carrier)).map (·.2)).getD .home

/-- R50, R183, R381: the band of a carrier changes, for every channel on it; one that leaves the Couch window lowers the bound at once. -/
def setCarrierBand (s : State) (carrier : Nat) (b : CarrierBand) : State :=
  let old := carrierBand s carrier
  if old = b then s
  else
    let s := s.onCave fun c => { c with carriers := insertBy (·.1) (carrier, b) c.carriers }
    let s := s.each ((List.range 48).filter fun c => carrierOf s c = carrier) fun s c =>
      setFlash s c fun f => { f with band := b, leftHome := if b = .home then none else if f.band = .home then some s.now else f.leftHome }
    let s := s.event 11 5 0 (detail := changeDetail (carrierCode old) (carrierCode b) carrier)
    if couchFactor b = 0 then deckleImmediate s else s

def judgeCarrier (s : State) (carrier : Nat) : State :=
  match carrierTemp s carrier with
  | none => setCarrierBand s carrier .home
  | some t =>
    let mine := addReading s.now ((s.cave.carrierHist.filter (·.1 = carrier)).map (·.2)) t
    let s := s.onCave fun c => { c with carrierHist := c.carrierHist.filter (·.1 ≠ carrier) ++ mine.map fun x => (carrier, x) }
    setCarrierBand s carrier (carrierNext s.now mine (carrierBand s carrier))

/-- R381: no carrier has a valid mapped reading. -/
def assumed (s : State) : Bool := ((List.range 16).filterMap (mappedReading s)).isEmpty

/-- R381: every carrier that a channel lies on is judged; one event says that 25.0 °C is assumed. -/
def judgeCarriers (s : State) : State :=
  let s := s.each ((List.range 48).foldl (fun l c => addNew l (carrierOf s c)) []) judgeCarrier
  if assumed s && !s.cave.assumedLogged then (s.event 11 3 1 (detail := 250)).onCave fun c => { c with assumedLogged := true } else s

/-! ### Samples (R369 to R373) -/

/-- The bands that a sensor's new reading bears on. -/
def judgeSensor (s : State) (n : Nat) : State :=
  if onDie n then judgeTj (judgeRise s n)
  else if hubSensor n then judgeChannel s ((n - 64) / 2)
  else if ntcSensor n then judgeCarriers s
  else s

/-- R369, R371: converted sensors that SV samples itself: on-die and carrier inputs. -/
def convertible (s : State) (n : Nat) : Bool := s.power.vao && (onDie n || ntcSensor n) && sensorPresent s n

/-- SENSOR_SAMPLE (R370, R371, R373, R376, R377, R381): the continuous path; a conversion fault ends it. -/
def execSensorSample (sensor : Nat) (temp : Int) (fault : Bool) (s : State) : Res State :=
  if !convertible s sensor || (sensorAt s sensor).polled then .next s
  else if fault then .next (setSensor s sensor fun c => { c with polled := true })
  else .next (judgeSensor (convert s sensor temp) sensor)

/-- SENSOR_CONTINUOUS_TIMEOUT (R371): no sample for 2 ms. -/
def execSensorContinuousTimeout (sensor : Nat) (s : State) : Res State :=
  .next (if convertible s sensor then setSensor s sensor fun c => { c with polled := true } else s)

/-- SENSOR_CONTINUOUS_RETRY (R371): every 10 s. -/
def execSensorContinuousRetry (sensor : Nat) (arrived : Bool) (s : State) : Res State :=
  .next (if convertible s sensor && arrived then setSensor s sensor fun c => { c with polled := false } else s)

/-- SENSOR_POLL_TICK (R371): a failed polled conversion makes the sensor failed. -/
def execSensorPollTick (sensor : Nat) (temp : Option Int) (s : State) : Res State :=
  if !convertible s sensor || !(sensorAt s sensor).polled then .next s
  else match temp with
    | some t => .next (judgeSensor (convert s sensor t) sensor)
    | none => .next (judgeSensor (failSensor s sensor) sensor)

/-- SPD_HUB_READ_TICK (R369, R380): a hub's temperature. -/
def execSpdHubReadTick (channel slot : Nat) (temp : Int) (s : State) : Res State :=
  let n := 64 + 2 * channel + slot
  .next (if !s.power.vao || !hubSensor n || !sensorPresent s n then s else judgeChannel (convert s n temp) channel)

/-- MR4_READ_TICK (R137, R369, R380): a rank's refresh-rate indication as a temperature. -/
def execMr4ReadTick (channel rank : Nat) (temp : Option Int) (s : State) : Res State :=
  if (dramAt s channel).dimms.isNone || channelRanks (dramAt s channel) ≤ rank then .next s
  else .next (judgeChannel (setDram s channel fun d => { d with mr4 := insertBy (·.1) (rank, temp) d.mr4 }) channel)

/-! ### Timers (R378, R379) -/

/-- THROTTLE_STEP_TIMER (R378): 1 s after the last step, with Tj not fallen by 1.0 °C. -/
def execThrottleStepTimer (s : State) : Res State :=
  let fallen := match tjOf s with | some t => decide (t + 10 ≤ s.cave.stepTj) | none => false
  .next (if s.cave.tj = .throttle && s.couch.orch ≠ .committed && s.cave.step < 3 && !fallen then takeStep s else s)

/-- THROTTLE_UNWIND_TIMER (R378). -/
def execThrottleUnwindTimer (s : State) : Res State :=
  .next (if s.cave.unwinding && s.cave.tj ≠ .throttle && s.cave.step ≠ 0 then undoStep s else s)

/-! ### Group 0x07 (R319, R320, R374, R384, R385) -/

/-- R385: a temperature in 0.01 °C, or 0x8000. -/
def tenthBytes : Option Int → List Byte
  | some t => leInt 2 (10 * t)
  | none => [0x00, 0x80]

/-- R385: the band byte of a sensor. -/
def bandByte (s : State) (n : Nat) : Nat :=
  if !sensorPresent s n then 0xFF
  else if onDie n then tjAlone (((sensorAt s n).reading).getD 0)
  else if hubSensor n then dimmCode (dramAt s ((n - 64) / 2)).band
  else if ntcSensor n then
    match (List.range 16).find? fun c => carrierNtc s c = n - 96 with
    | some c => if assumed s then 5 else carrierCode (carrierBand s c)
    | none => ((sensorAt s n).reading.map carrierAlone).getD 5
  else s.sal.window

/-- R320, R384, R385: a sensor's entry. -/
def sensorEntry (s : State) (n : Nat) : List Byte :=
  let c := sensorAt s n
  let reading := if n < 108 then tenthBytes (if !sensorPresent s n || c.failed then none else usedReading s n) else tempBytes (if s.sal.present then ntcReading s (n - 108) else none)
  le 2 n ++ reading ++ le 1 ((if c.crossed then 1 else 0) + (if c.commanded then 2 else 0) + (if c.polled then 4 else 0)) ++ le 1 (bandByte s n) ++ [0, 0]

/-- THERMAL_STATUS. -/
def execThermalStatus (r : Req) (first count : U16) (s : State) : Res State :=
  .next <| command s r 0x0701 none .session .notCouch fun s _ =>
    let f := first.toNat
    checked s r 0x0701 [(decide (110 ≤ f), .range, 16), (decide (110 < f + count.toNat), .range, 18)] fun s =>
      let n := if count = 0 then 110 - f else count.toNat
      ok s r 0x0701 (tenthBytes (tjOf s) ++ le 1 (tjCode s.cave.tj) ++ [0] ++ (List.range n).flatMap fun k => sensorEntry s (f + k))

/-- R374: the exclusion is forbidden. -/
def exclusionForbidden (s : State) (n : Nat) : Bool :=
  if onDie n then sensorKept (sensorAt s n) && decide (usableOnDie s ≤ 16)
  else if hubSensor n then
    let c := (n - 64) / 2
    let st := (dramAt s c).st
    (st = .online || st = .vacating) && usable s n && !usable s (64 + 2 * c + (1 - n % 2))
  else if ntcSensor n then false
  else (ntcReading s (1 - (n - 108))).isNone

/-- SENSOR_EXCLUDE with action exclude. -/
def execSensorExclude (r : Req) (sensor : U16) (s : State) : Res State :=
  .next <| command s r 0x0702 none .owner .notCouch fun s _ =>
    let n := sensor.toNat
    checked s r 0x0702 [(decide (110 ≤ n), .range, 16), (!(sensorAt s n).commanded && exclusionForbidden s n, .conflict, 2)] fun s =>
      ok (setSensor s n fun c => { c with commanded := true }) r 0x0702 []

/-- SENSOR_EXCLUDE with action include: both flags and the re-admission count go. -/
def execSensorInclude (r : Req) (sensor : U16) (s : State) : Res State :=
  .next <| command s r 0x0702 none .owner .notCouch fun s _ =>
    let n := sensor.toNat
    checked s r 0x0702 [(decide (110 ≤ n), .range, 16)] fun s =>
      ok (setSensor s n fun c => if c.crossed || c.commanded then { c with crossed := false, commanded := false, agreeing := 0, deviating := 0, exclusions := 0 } else c)
        r 0x0702 []

end Sys2Proof.Machine
end

