-- ==== Sys2Proof/Machine/Couch.lean ====
section
/-! DEFINITION. The Couch's and the Lift's rows, and COUCH_REHEARSE (R226 to R247, R316, R318). -/

namespace Sys2Proof.Machine

/-! ### Input (R226, R230) -/

/-- R226: input is lost as the pins show it. -/
def inputLost (s : State) (powerFail : Bool) (busMv : Nat) : Bool := powerFail || decide (busMv < busThreshold s)

/-- R226: input is present as the pins show it: above the threshold plus 2 % of it. -/
def inputGood (s : State) : Bool := !s.power.powerFail && decide (busThreshold s * 102 < s.power.busMv * 100)

/-- INPUT_CHANGE (R226, R230, R400, R402): the pins change; a fall is stamped; a loss that ends before its detection is a glitch. -/
def execInputChange (powerFail : Bool) (busMv : Nat) (s : State) : Res State :=
  if !s.power.vao then .next s
  else
    let s := if busMv < busThreshold s then stampFall s 0x30 else clearFall s 0x30
    let s := if powerFail then stampFall s 0x31 else clearFall s 0x31
    let lost := inputLost s powerFail busMv
    let glitch := s.couch.raw && !lost && s.couch.inputPresent
    let s := s.onPower fun p => { p with powerFail := powerFail, busMv := busMv, glitches := if glitch then sat32 (p.glitches + 1) else p.glitches }
    let s := if lost then s.onSal fun x => { x with lowCurrent := false } else s
    .next (s.onCouch fun c => { c with raw := lost })

/-- R227: three windows cancelled within the last 10 s. -/
def threeCancels (s : State) : Bool := 3 ≤ (s.couch.cancels.filter fun t => s.now ≤ t + 10 * second).length

/-- R390, R411: a detection while the device is DOWN: during the rails the power-down order, before them the wait for input. -/
def detectDown (s : State) (rail : Nat) : State :=
  match s.power.seq with
  | .rails _ | .settle | .booting =>
    startPowerDown (rindWrite ((s.onCouch fun c => { c with firstRail := rail }).onPower fun p => { p with firstRail := rail }) 2 (newestGeneration s) (dirtyBytes s) rail) .inputAbsent
  | .waitCool | .waitGrant => (s.onPower fun p => { p with seq := .waitInput }).onCouch fun c => { c with inputSeen := false }
  | .off | .waitInput | .running | .powerDown _ | .offTime | .stayDown => s

/-- INPUT_LOSS_DETECTION (R207, R214, R226, R227, R228, R230, R245, R407, R411). -/
def execInputLossDetection (s : State) : Res State :=
  if !s.couch.raw || !s.couch.inputPresent || !s.power.vao then .next s
  else
    let s := supplyFails ((s.onPower fun p => { p with absentSince := some p.now }).onCouch fun c => { c with inputPresent := false })
    let rail := capture s
    if !s.couch.inputSeen then .next s
    else if s.couch.orch = .down then .next (detectDown s rail)
    else
      let s := endLedgerErase (s.onPower fun p => { p with firstRail := rail })
      let s := rindWrite s 2 (newestGeneration s) (dirtyBytes s) rail
      match s.couch.orch with
      | .serving =>
        let s := s.onCouch fun c => { c with detected := some s.now }
        if threeCancels s then .next (couchCommit (s.event 12 6 1 (detail := 3)) false .inputAbsent false false rail) else .next (arm s)
      | .committed => .next (s.onCouch fun c => { c with detected := some (c.detected.getD s.now) })
      | .lifting => .next (startPowerDown (s.onCouch fun c => { c with firstRail := rail }) .inputAbsent)
      | .armed | .down => .next s

/-- COMMIT_POINT (R227, R229). -/
def execCommitPoint (s : State) : Res State :=
  .next (if s.couch.orch = .armed then couchCommit s false .inputAbsent false false s.power.firstRail else s)

/-- R227: the Couch is cancelled in its window; the arm actions are undone. -/
def cancelCouch (s : State) : State :=
  let us := (s.now - s.couch.detected.getD s.now) / 1000
  let s := s.onCouch fun c => { c with orch := .serving, detected := none, eraseHold := false, loaded := [], cancels := (s.now :: c.cancels).take 3 }
  reissueErase ((rindWrite s 3 0 us s.power.firstRail).event 12 5 1 (detail := us)) false

/-! ### The Couch sequence (R232 to R234) -/

/-- R41, R65, R229: an accepted write has not reached its place. -/
def writesOut (s : State) : Bool := s.cxl.reqs.any fun q => q.write && !q.localDone && q.st ≠ .credit

/-- COUCH_CURD_DRAINED (R41, R65, R229, R232 steps 4 to 6, R233, R237): the epoch is closed, every accepted write has its place, the
dirty lines are in frames and the slices are off; the open record and the manifest are programmed. -/
def execCouchCurdDrained (s : State) : Res State :=
  let dirty := (s.curd.lines.any (·.st ≠ .clean)) || s.curd.evicts.any (·.dirty)
  if s.couch.orch ≠ .committed || s.couch.curdDrained || s.couch.stopped || writesOut s || s.epochs.running.isSome || !s.ppu.charges.isEmpty || dirty then .next s
  else
    let s := s.onCurd fun c => { c with lines := [], evicts := [], draining := none, off := true }
    let s := s.each ((List.range 16).map Island.cu) unroute
    let s := s.each ((chargedEntries s).filter fun e => (frameOf s e.page).isNone) fun s e => losePage s e.page
    let todo := if s.couch.gen.isSome then saveList s else []
    let s := s.onCouch fun c => { c with curdDrained := true, todo := todo }
    let s := sleepRanks (match s.couch.gen with
      | some g => openSummaries s { g with openEpoch := s.epochs.closed, manifest := s.ppu.dirtyBlocks }
      | none => s)
    .next (if todo.isEmpty && !s.couch.stopped then stopCouch s 1 else s)

/-- COUCH_PROGRAM_COMPLETE (R184, R233, R235): the first page of the save order that can be read is programmed; a failed program
goes on in the next erased block. -/
def execCouchProgramComplete (loc : BitVec 40) (ok : Bool) (s : State) : Res State :=
  if s.couch.orch ≠ .committed || !s.couch.curdDrained || s.couch.stopped || s.couch.sealed || !s.couch.set.contains (locChannel loc) || !couchFit (flashAt s (locChannel loc)) ||
      !freeLoc s loc .image then .next s
  else if !ok then .next (abandonMoves (growBad s (locChannel loc) (blockId loc)))
  else match s.couch.todo.find? (savable s) with
    | some page => .next (saveAt s page loc)
    | none => .next s

/-- HOLD_UP_TIME_LIMIT (R234). -/
def execHoldUpTimeLimit (s : State) : Res State := .next (watchStop s 4)

/-- COUCH_SEAL_WRITTEN (R227, R232 steps 8 and 9, R234): the seal and the completion mark; then the internal warm reset, or DOWN. -/
def execCouchSealWritten (s : State) : Res State :=
  if s.couch.orch ≠ .committed || !s.couch.stopped then .next s
  else
    let s := rindComplete (leaveGeneration s true) 4
    if s.couch.inputPresent && !s.couch.toDown && !s.couch.cold then .next (internalReset s)
    else .next (startPowerDown (s.onCouch fun c => { c with sealed := true }) s.couch.cause)

/-! ### The Lift and folding (R241, R244) -/

/-- R429: the running image reads the format of the generations. -/
def formatReadable (s : State) : Bool :=
  s.ream.generations.isEmpty || (((slotOf s s.ledger.running).image.map fun i => i.formats.getLsbD 0).getD false)

/-- READY_LIFT (R56, R62, R92, R241, R242, R361, R383): the index stands, the current epoch is set, and regions are served read-only. The closed
epoch then is the highest recorded and none is mirrored (DESIGN CHOICE, log entry 78); GPF requests of a close that ran end with it. -/
def execReadyLift (s : State) : Res State :=
  if s.cmd.ready ≠ .core || s.couch.orch ≠ .lifting then .next s
  else if !formatReadable s then .next (s.event 0 9 3 (detail := newestGeneration s))
  else
    let top := highestEpoch s
    let s := liftRecord (s.onReam fun r => { r with generations := r.generations.map judgeGeneration })
    let closes := (s.epochs.running.map (·.joined)).getD [] ++ s.epochs.queued.getD []
    let s := (liftDerive s).each closes fun s j => match j.change with | .gpf h => s.emit (.gpfDone h) | _ => answerJoined s j.req .notReady (readyCode s) []
    let s := s.onEpochs fun e => { e with current := top + 1, closed := top, mirrored := 0, began := s.now, running := none, queued := none }
    let s := (restoreKeys s).onCave fun c => { c with tj := if c.tj = .critical then .critical else .normal, tjHist := [] }
    let s := (s.onRegions fun r => { r with readOnly := true }).onCmd fun c => { c with ready := .lift }
    let s := s.onCouch fun c => { c with orch := .serving, folding := true, absentDirty := false, detected := none }
    .next (unforce (force (reissueErase (rindComplete s 6) true) 1) 0)

/-- R244: a slot of the generation is the location of a page, as its entry stands or resolves. -/
def generationLive (s : State) (g : Generation) : Bool :=
  g.pages.any fun p => p.1 < directoryBase &&
    (foundEntry s p.1).loc = p.2.1

/-- R244: a folded generation is released: its blocks are erased, its index entries go, and a record is written. -/
def releaseGeneration (s : State) (g : Generation) : State :=
  let s := s.onReam fun r =>
    { r with generations := r.generations.filter (·.num ≠ g.num), slots := r.slots.filter (·.generation ≠ g.num), index := r.index.filter (·.2.2.2.2 ≠ g.num),
             ch := r.ch.map fun c => { c with blocks := c.blocks.map fun b => if b.generation = g.num && reserveSeg b.seg then queueErase s.now b else b } }
  rindWrite s 9 g.num (g.pages.filter fun p => p.1 < directoryBase).length

def releaseFolded (s : State) : State :=
  match s.ream.generations.head? with
  | some g => if generationLive s g then s else releaseGeneration s g
  | none => s

/-- R244: folding runs: from READY.LIFT on, while B is at least 64 MiB. -/
def foldingRuns (s : State) : Bool := s.couch.folding && cleaningRuns s && 64 * 1024 * 1024 ≤ boundNow s

/-- R244: the page's slot stands on the first block of the generation's block list that still holds a page to fold. -/
def foldsNext (s : State) (g : Generation) (loc : BitVec 40) : Bool :=
  let waits (p : Nat × BitVec 40 × U32 × Bool) : Bool := p.1 < directoryBase && (foundEntry s p.1).loc = p.2.1 && !(s.ppu.moves.any (·.page = p.1)) && !(entry s p.1).charged
  ((g.pages.filter waits).map fun p => (locChannel p.2.1, blockId p.2.1)).head? = some (locChannel loc, blockId loc)

/-- FOLD_PAGE (R71, R72, R244): a page of the oldest generation is copied to a home location; it is MOVING until PAGE_MOVE_END enters
that location. -/
def execFoldPage (page : Nat) (loc : BitVec 40) (s : State) : Res State :=
  if !foldingRuns s || directoryBase ≤ page then .next s
  else
    let s1 := resolveBlock s page
    let e := entry s1 page
    let oldest := (s1.ream.generations.head?.map (·.num)).getD 0
    match slotAt s1 e.loc with
    | none => .next (releaseFolded s)
    | some x =>
      if x.generation ≠ 0 && x.generation = oldest && e.st = .moving then .next (s1.emit (.retryResponse page))
      else if x.generation = 0 || x.generation ≠ oldest || !homeTarget s1 loc || !(e.st = .couched || e.st = .home || e.st = .clean) ||
          !((s1.ream.generations.head?.map fun g => foldsNext s1 g e.loc).getD false) then .next (releaseFolded s)
      else .next (startMove (writeSlot s1 { x with loc := loc, generation := 0 } 0) page .fold x.data loc)

/-! ### The end of a move (R72) -/

/-- R71, R72: the state of a page after its move: DIRTY if a write arrived, CLEAN if its frame is VALID, and otherwise what it was; a
COUCHED page whose copy is home now is HOME. -/
def movedState (s : State) (e : DirEntry) (home : Bool) : DirState :=
  let resident := (validFrame s e.page).isSome
  if e.wrote then .dirty
  else match e.prev with
    | .couched => if !home then .couched else if resident then .clean else .home
    | .home => if resident then .clean else .home
    | x => x

/-- R72: the single write of the entry that ends a move; the end of a vacate does not change D (R152). -/
def endMove (s : State) (m : Move) (e : DirEntry) : State :=
  let home := m.kind ≠ .vacate
  let put := if home || e.wrote then putEntry else putQuiet
  let s := s.onPpu fun p => { p with moves := p.moves.erase m }
  resumeMoves (put s { e with st := if e.st = .moving then movedState s e home else e.st, prev := .free, wrote := false }) m.page

/-- R89, R180, R187, R244: a page's copy stands at `loc`. -/
def movedHome (s : State) (m : Move) (loc : BitVec 40) : State :=
  let e := entry s m.page
  match m.kind with
  | .rebuild | .fold =>
    if loc ≠ m.target then s
    else releaseFolded (endMove (s.onReam fun r => { r with slots := r.slots.filter fun y => !(y.loc = e.loc && y.generation = 0) }) m { e with loc := loc })
  | _ =>
    if !progTarget s loc .home m.since || readsWait s (lunOf loc) m.since then s
    else
      let s := endMove (copySlot (targetAnswers s loc) e.loc loc) m { e with loc := loc }
      if m.kind = .drain then progressLong s (fun k => match k with | .drain cs => cs.contains (locChannel e.loc) | _ => false) pageBytes (poisonedData m.data) else s

/-- R152: the page's frame is copied to one on another ONLINE channel, with what is queued for it. -/
def movedFrame (s : State) (m : Move) : State :=
  match validFrame s m.page with
  | none => endMove s m (entry s m.page)
  | some f =>
    let c := frameChannel f.no
    if s.now < m.since + migrationTime s c then s
    else match frameElsewhere s c with
      | none => s
      | some n =>
        let s := s.onPpu fun p => { p with frames := insertBy (·.no) { f with no := n } (p.frames.filter (·.no ≠ f.no)) }
        let moved := (dramAt s c).queue.filter fun d => d.line / 64 = m.page
        let s := setDram s c fun d => { d with queue := d.queue.filter fun x => x.line / 64 ≠ m.page }
        let s := setDram (pageCommand s n) (frameChannel n) fun d => { d with queue := d.queue ++ moved }
        let s := progressLong s (· = .offline c) pageBytes (poisonedData f.data)
        endMove s m { entry s m.page with frame := some n }

/-- PAGE_MOVE_END (R71, R72, R89, R152, R187, R244): the move's single write of the entry: a new Ream location, or a frame on another
channel; the next move begins. A directory block off a DRAINING channel moves whole. -/
def execPageMoveEnd (page : Nat) (loc : BitVec 40) (s : State) : Res State :=
  if !cleaningRuns s then .next s
  else if directoryBase ≤ page then
    let e := page - directoryBase
    let leaves := s.ream.root.any fun x => x.1 / 2 = e && (flashAt s (locChannel x.2.1)).st = .draining
    .next (if leaves && !s.cmd.safe && dirTarget s loc then moveDirectory s e loc else s)
  else match s.ppu.moves.find? fun m => m.page = page && m.kind ≠ .clean && m.kind ≠ .rekey with
    | some m => .next (beginMoves (if m.kind = .vacate then movedFrame s m else movedHome s m loc))
    | none => .next (beginMoves s)

/-! ### Rehearsal (R247) -/

/-- R220, R247: t_plan(B) in ms at a factor in units of 0.0001. -/
def planMs (s : State) (factor : Nat) : Nat :=
  let rate := rateData s * factor / 10000
  if rate = 0 then 0xFFFFFFFF else min 0xFFFFFFFF (100 + boundNow s * 1000 / rate)

/-- COUCH_REHEARSE (R247, R316, R318). -/
def execCouchRehearse (r : Req) (size : U16) (s : State) : Res State :=
  .next <| command s r 0x0606 none .owner .service fun s x =>
    let g := if size = 0 then 16 else size.toNat
    checked s r 0x0606
        [(decide (256 < g), .range, 16), (s.couch.rehearsing.isSome, .busy, 3), (s.couch.orch = .armed, .busy, 7), (s.sal.phase ≠ .none, .conflict, 20),
         (decide (imageCapacity s < g * gib + boundNow s), .noSpace, 7)] fun s =>
      startLong s r 0x0606 x (.rehearse g) (g * gib * 1000 / max 1 (rateData s)) 2 fun s =>
        force (s.onCouch fun c => { c with rehearsing := some g, rehearsedAt := s.now }) 4

/-- REHEARSAL_COMPLETE (R121, R247): the Curd has drained; the factor replaces m when it is below 0.92, and the rehearsal blocks wait for their erase. -/
def execRehearsalComplete (durationUs rateMb powerMw : Nat) (s : State) : Res State :=
  match s.couch.rehearsing.filter fun _ => s.curd.draining.isNone with
  | none => .next s
  | some g =>
    let factor := min 0xFFFFFFFF (rateMb * 1000000 * 10000 / max 1 (rateData s))
    let s := rehearsed s (g * gib)
    let s := s.onDeckle fun d => { d with m := min 9200 factor }
    .next (endRehearsal s .ok 0 (le 4 durationUs ++ le 4 rateMb ++ le 4 powerMw ++ le 4 factor ++ le 4 (planMs s factor)))

end Sys2Proof.Machine
end

