-- ==== Sys2Proof/Machine/Power.lean ====
section
/-! DEFINITION. The power sequencer's and supervisor's rows: VAO, power-up, power-down, rail faults, the calender chain, the service button, PPS; RAIL_STATUS, RIND_READ, ORDERLY_POWER_DOWN (R386 to R411, R430, R466). -/

namespace Sys2Proof.Machine

def railAt (s : State) (e : Nat) : Rail := s.power.rails.getD e { enabled := false, good := false, failed := false }

/-! ### Power-up (R390, R391) -/

/-- R390: a rail takes part: position other than 0xFF, and not held off. -/
def railUsed (s : State) (e : Nat) : Bool := railPosition s e ≠ 0xFF && !railHeld s e

/-- R390 step 5: the next position that has a rail. -/
def nextPosition (s : State) (start : Nat) : Option Nat :=
  findFrom (fun p => (List.range 16).any fun e => railUsed s e && railPosition s e = p) (16 - start) start

/-- R390 step 6, R398, R404: the last power-good: the POWER_UP record, and CA_UP_OUT_N. -/
def railsUp (s : State) : State :=
  let s := rindWrite s 1 (newestGeneration s) s.power.restarts.length (if s.power.brownOut then 0x32 else 255) (if s.power.vaoLost then 1 else 0)
  let s := if s.power.brownOut then s.event 12 4 1 else s
  let s := s.onPower fun p => { p with seq := .settle, upOut := p.dnIn, brownOut := false, vaoLost := false }
  (s.onCmd fun c => { c with challenges := c.challenges + 1 }).onCouch fun c => { c with orch := .lifting }

/-- R390 step 5: the rails of a position, or the end of the sequence. -/
def toPosition (s : State) (start : Nat) : State :=
  match nextPosition s start with
  | some p => s.onPower fun x => { x with seq := .rails p, faultDown := false }
  | none => railsUp s

/-- R399: the power-up goes on without the grant. -/
def bypassChain (s : State) : State := toPosition ((rindWrite s 12 0 0).event 12 2 1) 0

/-- R390 step 4, R399: with the grant, or 10 s after input became present. -/
def toGrant (s : State) : State :=
  if s.power.upIn then toPosition s 0 else if s.power.bypassDue then bypassChain s else s.onPower fun p => { p with seq := .waitGrant }

/-- R379, R390 step 3: the newest Rind record is a thermal shutdown, or the DOWN that ended one. -/
def thermalHold (s : State) : Bool :=
  match s.ledger.rind.getLast? with
  | some r => r.type = 8 || (r.type = 5 && r.detail = 4)
  | none => false

/-- R390 steps 2 to 4: input is present. -/
def inputArrives (s : State) : State :=
  let s := (s.onCouch fun c => { c with inputSeen := true }).onPower fun p => { p with bypassDue := false }
  if thermalHold s then s.onPower fun p => { p with seq := .waitCool } else toGrant s

/-- R394, R396: input has been absent for at least 100 ms. -/
def longAbsent (s : State) : Bool := (s.power.absentSince.map fun t => decide (t + 100000000 ≤ s.now)).getD false

/-- R393, R394: a return of input before the end of the off time is judged only then: until then a long absence stays noted. -/
def absenceKept (s : State) : Option Nat :=
  let later := s.couch.orch = .committed || match s.power.seq with
    | .powerDown _ | .offTime => true
    | .off | .waitInput | .waitCool | .waitGrant | .rails _ | .settle | .booting | .running | .stayDown => false
  if later && longAbsent s then s.power.absentSince else none

/-- INPUT_PRESENCE_CONFIRMED (R226, R227, R390 step 2, R394, R396). -/
def execInputPresenceConfirmed (s : State) : Res State :=
  if !s.power.vao || s.couch.inputPresent || !inputGood s then .next s
  else
    let long := longAbsent s
    let s := (s.onPower fun p => { p with absentSince := absenceKept s }).onCouch fun c => { c with inputPresent := true }
    let s := s.onSal fun x => { x with suspended := x.suspended.map fun _ => s.now }
    match s.couch.orch with
    | .armed => .next (if s.now < s.couch.detected.getD s.now + 2000000 then cancelCouch s else s)
    | .serving | .committed | .lifting => .next s
    | .down => match s.power.seq with
      | .waitInput => .next (inputArrives s)
      | .stayDown =>
        .next (if long then inputArrives (s.onPower fun p => { p with lockout := false, restarts := [], seq := .waitInput }) else s)
      | .off | .waitCool | .waitGrant | .rails _ | .settle | .booting | .running | .powerDown _ | .offTime => .next s

/-- THERMAL_RESTART_HOLD (R379, R390 step 3). -/
def execThermalRestartHold (s : State) : Res State :=
  let cool := match tjOf s with | some t => decide (t ≤ 900) | none => false
  .next (if s.power.seq = .waitCool && s.couch.inputPresent && cool then toGrant (s.onCave fun c => { c with tj := .normal, tjHist := [], rise := none }) else s)

/-- CALENDER_GRANT (R390 step 4, R398). -/
def execCalenderGrant (s : State) : Res State :=
  let s := s.onPower fun p => { p with upIn := true }
  .next (if s.power.seq = .waitGrant then toPosition s 0 else s)

/-- CHAIN_BYPASS_TIMEOUT (R390 step 4, R399): 10 s after input became present; while the die cools the bypass waits for it. -/
def execChainBypassTimeout (s : State) : Res State :=
  match s.power.seq with
  | .waitGrant => .next (bypassChain s)
  | .waitCool => .next (s.onPower fun p => { p with bypassDue := true })
  | .off | .waitInput | .rails _ | .settle | .booting | .running | .powerDown _ | .offTime | .stayDown => .next s

/-- RAIL_DELAY_EXPIRY (R390 step 5, R397): the rail's enable is asserted. -/
def execRailDelayExpiry (rail : Nat) (s : State) : Res State :=
  let due := match s.power.seq with
    | .rails p => railUsed s rail && railPosition s rail = p
    | _ => s.power.pendingHold = some rail
  .next (if due && !(railAt s rail).enabled then setRail s rail fun r => { r with enabled := true, good := false, failed := false } else s)

/-- R390 step 5, R397: the rail is ON; the sequence goes on when its position is. -/
def railGood (s : State) (rail : Nat) : State :=
  let s := clearFall (railInputs (setRail s rail fun r => { r with good := true }) rail true) rail
  match s.power.seq with
  | .rails p =>
    if (List.range 16).all fun e => !(railUsed s e && railPosition s e = p) || (railAt s e).good then toPosition s (p + 1) else s
  | _ => s.onPower fun p => { p with pendingHold := if p.pendingHold = some rail then none else p.pendingHold }

/-- RAIL_POWER_GOOD (R390 step 5). -/
def execRailPowerGood (rail : Nat) (s : State) : Res State :=
  .next (if (railAt s rail).enabled && !(railAt s rail).good then railGood s rail else s)

/-- R391, R395, R404: the record of a rail's fault: its number, and its domain in bits [15:8]. -/
def railRecord (s : State) (rail : Nat) : State :=
  let first := capture s
  let s := s.onPower fun p => { p with firstRail := first }
  (rindWrite s 7 0 (rail + 256 * railDomain s rail) first).event 12 1 2 (unitWord 9 rail) (detail := rail)

/-- RAIL_PG_TIMEOUT (R390, R391, R397): a rail without a power-good input counts as good; another fails the power-up. A rail
brought up alone is taken down again. -/
def execRailPgTimeout (rail : Nat) (s : State) : Res State :=
  if !(railAt s rail).enabled || (railAt s rail).good then .next s
  else if railPg s rail = 0xFF then .next (railGood s rail)
  else
    let s := railRecord s rail
    match s.power.seq with
    | .rails _ => .next (startPowerDown (s.onCouch fun c => { c with firstRail := s.power.firstRail }) .fault)
    | _ => .next ((dropRail s rail).onPower fun p => { p with pendingHold := none })

/-- CA_DN_OUT_DELAY (R390 step 7, R398, R418): the chain goes on, and the boot begins; `held`: SVC_BTN_N is held when it is sampled. -/
def execCaDnOutDelay (held : Bool) (s : State) : Res State :=
  if s.power.seq ≠ .settle then .next s
  else
    let s := s.onPower fun p => { p with dnOut := true, button := if held && p.button.isNone then some p.now else p.button }
    .next (bootStart s false)

/-- R398: all rails of the device are up. -/
def railsStand (s : State) : Bool :=
  match s.power.seq with
  | .settle | .booting | .running => true
  | .off | .waitInput | .waitCool | .waitGrant | .rails _ | .powerDown _ | .offTime | .stayDown => false

/-- CA_DN_IN_CHANGE (R398). -/
def execCaDnInChange (asserted : Bool) (s : State) : Res State :=
  .next (s.onPower fun p => { p with dnIn := asserted, upOut := asserted && railsStand s })

/-! ### Power-down and what follows (R392 to R396) -/

/-- POWER_DOWN_RAIL_STEP (R392). -/
def execPowerDownRailStep (s : State) : Res State :=
  match s.power.seq with
  | .powerDown rails => .next (fallStep s rails)
  | .off | .waitInput | .waitCool | .waitGrant | .rails _ | .settle | .booting | .running | .offTime | .stayDown => .next s

/-- R394, R396: an orderly power-down or a lock-out keeps the device down. -/
def staysDown (s : State) : Bool := s.power.lockout || s.couch.cause = .orderly

/-- OFF_TIME_EXPIRY (R393, R394, R396): power-up follows, unless an orderly power-down or a lock-out keeps the device down and input has not been away
for 100 ms meanwhile. -/
def execOffTimeExpiry (s : State) : Res State :=
  if s.power.seq ≠ .offTime then .next s
  else if staysDown s && !(s.couch.inputPresent && s.power.absentSince.isSome) then .next (s.onPower fun p => { p with seq := .stayDown })
  else
    let s := s.onPower fun p => { p with seq := .waitInput, lockout := false, restarts := if staysDown s then [] else p.restarts }
    .next (if s.couch.inputPresent then inputArrives s else s)

/-! ### VAO (R389, R390, R410, R411) -/

/-- R388: power-good inputs that no rail uses are tied to VAO. -/
def idlePg (s : State) : BitVec 24 :=
  BitVec.ofNat 24 (((List.range 24).map fun n => if (List.range 16).any fun e => railPg s e = n then 0 else 2 ^ n).sum)

/-- VAO_POWER_ON (R389, R390 step 1, R351, R406, R410): SV leaves reset; the timebase runs on from the newest record. -/
def execVaoPowerOn (s : State) : Res State :=
  if s.power.vao then .next s
  else
    let s := s.onPower fun p => { p with vao := true, seq := .waitInput, pg := idlePg s, glitches := 0, now := (s.ledger.rind.getLast?.map fun r => r.time + 1000000).getD 0 }
    let record := readLearned s
    let s := s.onSal fun x => { x with learned := record, fR := (record.map (·.fR)).getD 0x10000 }
    .next (if s.cipher.banks.all fun b => b = .consumed then s.event 0 4 3 else s)

/-- What SV holds that is lost with VAO: the event ring, the training results, fences, sensors, the counted history, the
sessions; the Ledger, the starter key banks and the media stand. -/
def svLost (s : State) : State :=
  { s with
    wire := .reset, cmd := { Cmd.reset with challenges := s.cmd.challenges }, curd := .reset, deckle := .reset, vat := { Vat.reset with ch := s.vat.ch.map fun c => { Dram.reset with hppr := c.hppr } }, cave := .reset, log := .reset, units := .reset,
    sal := { Sal.reset with copies := (match s.sal.copyDue with | some k => s.sal.copies.set k [] | none => s.sal.copies) }
    cipher := { s.cipher with programming := none, noVerify := false, passes := 0, requests := [], turns := [], slots := s.cipher.slots.map fun k => { k with keys := [] },
                              banks := if s.cipher.programming.isSome then putBank s.cipher.banks .consumed else s.cipher.banks }
    couch := { Couch.reset with absentDirty := s.couch.absentDirty }
    power := { Power.reset with now := s.power.now, brownOut := true }
    ledger := { s.ledger with toggle := false, error := false, byReset := false, band := 0, bandSince := 0, expiries := 0, trial := false, jtagLast := .idcode, queue := [], rindAt := none, markAt := none, recordAt := none } }

/-- R405, R411: a loss of VAO within the 300 us of a record's program may tear its slot, and within those of a mark's program the mark
(log entry 149). -/
def tearRind (s : State) : State :=
  let within (t : Nat) : Bool := decide (s.power.now < t + 300000)
  let s := if (s.ledger.rindAt.map within).getD false && Config.programTorn s.fresh then
      s.onLedger fun l => { l with rind := l.rind.dropLast, torn := l.torn ++ [l.rindHead - 1], rindAt := none }
    else s
  let s := s.draw
  match s.ledger.markAt with
  | some (t, n) =>
    if within t && Config.programTorn s.fresh then
      (s.onLedger fun l => { l with markAt := none, rind := l.rind.map fun r => if r.sequence = n then { r with mark := (Config.indeterminate s.fresh).append (0xFFFF : U16) } else r }).draw
    else s.draw
  | none => s.draw

/-- R426, R433: an activation record or a mark whose copy 0 was being programmed may be torn: the records then stand as before; copy 1 comes
after copy 0. A record takes 32 words and a mark one, of 8 us each (log entry 149). -/
def tearRecords (s : State) : State :=
  match s.ledger.recordAt with
  | none => s
  | some (t, was) =>
    let length := if was.length < s.ledger.activations.length then 256000 else 8000
    if s.power.now < t + length && Config.programTorn s.fresh then (s.onLedger fun l => { l with activations := was, recordAt := none }).draw else s.draw

/-- VAO_BROWN_OUT (R389, R390, R411): every enable goes low at once; a Couch that runs is unsealed, and what the Ledger was
changing is indeterminate. -/
def execVaoBrownOut (s : State) : Res State :=
  if !s.power.vao then .next s
  else
    let s := if s.couch.orch = .committed && !s.couch.sealed then leaveGeneration s false else s
    let s := s.onCouch fun c => { c with absentDirty := c.absentDirty || (c.orch ≠ .committed && s.sal.state = .absent && dirtyBytes s ≠ 0) }
    .next (svLost (islandsReset (ledgerStop (tearRecords (tearRind s)))))

/-! ### Faults (R388, R395) -/

/-- R395: a failed rail of the core or other domain. -/
def coreFault (s : State) : State :=
  let first := s.power.firstRail
  match s.couch.orch with
  | .serving | .armed => (couchCommit s true .fault true false 255).onPower fun p => { p with watching := true }
  | .committed => (s.onCouch fun c => { c with toDown := true, cause := .fault }).onPower fun p => { p with watching := true }
  | .lifting | .down => startPowerDown (s.onCouch fun c => { c with firstRail := first }) .fault

/-- R395: the rail has the input by which it is judged. -/
def railJudged (s : State) (rail : Nat) (sense : Bool) : Bool := if sense then decide (railSense s rail < 16) else decide (railPg s rail < 24)

/-- RAIL_FAULT (R395, R402, R411): the power-good input, or with `sense` the sense input, of a rail that is ON has fallen. A dip shorter
than its filter is a glitch; a longer one is the rail's failure. During the power-down order it is ignored. -/
def execRailFault (f : RailDrop) (s : State) : Res State :=
  let rail := f.rail
  let falling := match s.power.seq with | .powerDown _ => true | _ => false
  if falling || !(railAt s rail).good || (railAt s rail).failed || !railJudged s rail f.sense then .next s
  else if f.dip then .next (s.onPower fun p => { p with glitches := sat32 (p.glitches + 1) })
  else
    let s := setRail s rail fun r => { r with failed := true }
    let s := stampFall (if f.sense then railSenseInput s rail false else railPgInput s rail false) rail
    let s := railRecord s rail
    let d := railDomain s rail
    if d = 1 then .next (failChannel (dropRail s rail) (railIndex s rail) 4)
    else if d = 2 then
      .next ((dropRail s rail).each ((List.range 48).filter fun c => carrierOf s c = railIndex s rail) fun s c => failFlash s c 3 true)
    else .next (coreFault s)

/-- MONITOR_INPUT_FALL (R388): a power-good input that no rail uses. -/
def execMonitorInputFall (input : Nat) (s : State) : Res State :=
  if !s.power.vao || 24 ≤ input || (List.range 16).any (fun e => railPg s e = input) then .next s
  else
    let s := stampFall (clearFall (s.onPower fun p => { p with pg := p.pg &&& ~~~ ((1 : BitVec 24) <<< input) }) (0x10 + input)) (0x10 + input)
    .next ((rindWrite s 13 0 input).event 12 3 1 (detail := input))

/-- PROGRESS_WATCH_TIMEOUT (R395, R239): the generation is left unsealed, and the power-down order starts. -/
def execProgressWatchTimeout (s : State) : Res State :=
  if s.couch.orch ≠ .committed || !s.power.watching then .next s
  else
    let g := s.couch.gen
    let s := rindWrite s 15 ((g.map (·.num)).getD 0) ((g.map (·.pages.length)).getD 0)
    .next (startPowerDown (leaveGeneration s false) .fault)

/-! ### The service button (R430) -/

/-- R394, R396, R430: a press while the device stays DOWN starts the power-up. -/
def wakeDown (s : State) : State :=
  if s.power.seq ≠ .stayDown then s
  else
    let s := s.onPower fun p => { p with seq := .waitInput, lockout := false, restarts := [] }
    if s.couch.inputPresent then inputArrives s else s

/-- SERVICE_BUTTON_PRESS. -/
def execServiceButtonPress (s : State) : Res State :=
  .next (if !s.power.vao || s.power.button.isSome then s else wakeDown (s.onPower fun p => { p with button := some p.now, held3 := false }))

/-- SERVICE_BUTTON_RELEASE: after at least 3 s at step 3 a maintenance boot, sooner a normal one. -/
def execServiceButtonRelease (s : State) : Res State :=
  match s.power.button with
  | none => .next s
  | some t =>
    let long := s.power.held3 || decide (t + 3 * second ≤ s.now)
    let waits := s.power.waitButton
    let s := s.onPower fun p => { p with button := none, held3 := false, stuck := false }
    .next (if waits then bootChoose s long else s)

/-- BUTTON_HOLD_3S: in service a service request. -/
def execButtonHold3s (s : State) : Res State :=
  if s.power.button.isNone || s.power.stuck then .next s
  else
    let s := s.onPower fun p => { p with held3 := true }
    .next (if aboveCore s then s.event 14 3 0 else s)

/-- BUTTON_STUCK_TIMEOUT: 60 s; the boot goes on at once. -/
def execButtonStuckTimeout (s : State) : Res State :=
  if s.power.button.isNone || s.power.stuck then .next s
  else
    let waits := s.power.waitButton
    let s := (s.onPower fun p => { p with stuck := true }).event 14 4 1
    .next (if waits then bootChoose s false else s)

/-! ### PPS (R260, R345, R466) -/

/-- R345: how far an edge, less the cable delay, lies from the nearest second of the timebase, ns. -/
def ppsPhase (s : State) (time : Nat) : Int :=
  let r := ((time : Int) - ppsDelay s) % second
  if 2 * r < second then r else r - second

/-- PPS_INPUT_EDGE: an edge of the selected direction, captured at a time, locks the timebase, which then follows it (log entry 121). -/
def execPpsInputEdge (rising : Bool) (time : Nat) (s : State) : Res State :=
  let selected := (ppsInputMode s = 1 && rising) || (ppsInputMode s = 2 && !rising)
  .next (if s.power.vao && selected then s.onPower fun p => { p with ppsLocked := true, ppsPhase := ppsPhase s time } else s)

/-- PPS_OUTPUT_SECOND: TM_PPS_OUT goes high for 100 ms where TIME turns it on. -/
def execPpsOutputSecond (s : State) : Res State := .next (s.onPower fun p => { p with ppsOut := p.vao && ppsOutputOn s })

/-! ### Group 0x08 (R319, R320, R404, R409) -/

/-- RAIL_STATUS. -/
def execRailStatus (r : Req) (s : State) : Res State :=
  .next <| command s r 0x0801 none .session .always fun s _ =>
    ok s r 0x0801 (le 4 s.power.pg.toNat ++ le 2 (enableWord s).toNat ++ le 2 s.power.sns.toNat ++ le 4 s.power.glitches ++ le 1 s.power.firstRail ++ [0, 0, 0])

/-- R409: the torn slots that lie among the records of a reading. -/
def tornAmong (s : State) (start : Nat) (recs : List Rind) : Nat :=
  let low := if start = 0 then 0 else ((s.ledger.rind[start - 1]?).map (·.slot)).getD s.ledger.rindHead
  let high := if start + recs.length = s.ledger.rind.length then s.ledger.rindHead else (recs.getLast?.map (·.slot)).getD 0
  (s.ledger.torn.filter fun n => low ≤ n && n < high).length

/-- RIND_READ (R409). -/
def execRindRead (r : Req) (start : U32) (count : U16) (s : State) : Res State :=
  .next <| command s r 0x0802 none .session .notCouch fun s _ =>
    checked s r 0x0802 [(decide (count.toNat < 1 ∨ 1000 < count.toNat), .range, 20)] fun s =>
      let recs := (s.ledger.rind.drop start.toNat).take count.toNat
      ok s r 0x0802 (le 4 (start.toNat + recs.length) ++ le 2 recs.length ++ le 2 (min 0xFFFF (tornAmong s start.toNat recs)) ++ recs.flatMap rindBytes)

/-- ORDERLY_POWER_DOWN (R227, R320): the reply, then the commit, and DOWN after the seal. -/
def execOrderlyPowerDown (r : Req) (s : State) : Res State :=
  .next <| command s r 0x0803 none .owner .fromLift fun s _ =>
    couchCommit (ok s r 0x0803 []) true .orderly true false 255

end Sys2Proof.Machine
end

