-- ==== Sys2Proof/Machine/Units.lean ====
section
/-! DEFINITION. Engines, their spares and their take-over, and fences of slices and ports (R12 to R19, R122, R123, R449). -/

namespace Sys2Proof.Machine

/-! ### Engines (R16, R17, R19) -/

/-- Engines in service that hold a role. -/
def roleHolders (s : State) (role : Role) : List Nat :=
  (List.range 160).filter fun k => (engineAt s k).role = role && (engineAt s k).unit.st = .inService

/-- R10: the islands in the order of the rule's table, from 0 to 116. -/
def islandIndex : Island → Nat
  | .hp i => i | .tw i => 16 + i | .mc i => 24 + i | .fc i => 40 + i | .cu i => 88 + i | .px => 104 | .cx => 105
  | .en i => 106 + i | .sv => 116

/-- R20, R21: the router to which an island attaches (log entry 31). -/
def routerFor (i : Island) : Nat × Nat := Config.routerOf (islandIndex i)

/-- R21: Wire hops of the dimension-ordered route between two routers. -/
def wireHops (a b : Nat × Nat) : Nat := (a.1 - b.1) + (b.1 - a.1) + (a.2 - b.2) + (b.2 - a.2)

/-- R16: hops from an engine's cluster to another cluster. -/
def engineHops (e cluster : Nat) : Nat := wireHops (routerFor (.en (e / 16))) (routerFor (.en cluster))

/-- R16: the nearer of two spares to a cluster; equal hops resolve to the lower ID. -/
def nearer (cluster a b : Nat) : Nat :=
  let x := engineHops a cluster
  let y := engineHops b cluster
  if x < y || (x = y && a < b) then a else b

/-- R16: the spare of the engine's own cluster if one remains (log entry 31: the lowest), else the nearest. -/
def spareFor (s : State) (e : Nat) : Option Nat :=
  let spares := (roleHolders s .spare).filter (· ≠ e)
  match spares.find? fun k => k / 16 = e / 16 with
  | some k => some k
  | none => match spares with
    | [] => none
    | k :: rest => some (rest.foldl (nearer (e / 16)) k)

/-- R19: the fence would leave the engine's role with no engine at all. -/
def fenceForbidden (s : State) (e : Nat) : Bool :=
  (engineAt s e).role ≠ .spare && (engineAt s e).role ≠ .fenced && (spareFor s e).isNone && ((roleHolders s (engineAt s e).role).filter (· ≠ e)).isEmpty

/-- R440: the detail of an engine's events: the fenced engine, then the spare and the role. -/
def engineDetail (e spare : Nat) (role : Role) : Nat := e + 2 ^ 64 * (spare + 256 * roleCode role)

/-- R16, R17 step 2: messages of the fenced engine, and those redirected to it, go to the spare. -/
def redirectTo (s : State) (e k : Nat) : State :=
  s.onWire fun w => { w with redirect := (w.redirect.map fun x => if x.2 = e then (x.1, k) else x) ++ [(e, k)] }

/-- R19: the holder of a role's instance, counting upward from k modulo n over instances in service. -/
def nextInstance (s : State) (role : Role) (n : Nat) : Nat → Nat → Option Nat
  | 0, _ => none
  | fuel + 1, k =>
    match (roleHolders s role).find? fun e => (engineAt s e).instance_ = k % n with
    | some e => some e
    | none => nextInstance s role n fuel (k + 1)

/-- R19: the engines of one role share the work of instance k: the k-th of them, counted round (log entry 31). -/
def sharedHolder (s : State) (role : Role) (k : Nat) : Option Nat :=
  let l := roleHolders s role
  l[k % l.length]?

/-- R331: links that the table FELT enables, as R19 calls them configured. -/
def feltConfigured (s : State) (t : Nat) : Bool := (linksEnabled s).testBit t

/-- R19: the engine that takes over instance k of a role that has lost it, when no spare remains. -/
def takeOver (s : State) (role : Role) (k : Nat) : Option Nat :=
  match role with
  | .ream => nextInstance s .ream 48 48 (k + 1)
  | .port =>
    match (roleHolders s .port).find? fun e => (engineAt s e).instance_ = k ^^^ 1 with
    | some e => some e
    | none => nextInstance s .port 16 16 (k + 1)
  | .felt =>
    match ((List.range 8).map fun i => (k + 1 + i) % 8).find? fun t => feltConfigured s t && (roleHolders s .felt).any fun e => (engineAt s e).instance_ = t with
    | some t => (roleHolders s .felt).find? fun e => (engineAt s e).instance_ = t
    | none => nextInstance s .felt 8 8 (k + 1)
  | .tier | .couch | .management | .service => sharedHolder s role k
  | .spare | .fenced => none

/-- R15, R19: the engine that serves instance k of a role: its holder in service, else the engine that has taken it over.
Ream engine k serves channel FCk, port engine p port HPp, Felt engine t link TWt, Couch engine c the channels 2c and 2c + 1. -/
def servingEngine (s : State) (role : Role) (k : Nat) : Option Nat :=
  match (roleHolders s role).find? fun e => (engineAt s e).instance_ = k with
  | some e => some e
  | none => takeOver s role k

/-- R15: the engine that drives a flash channel during a Couch. -/
def couchEngineOf (s : State) (channel : Nat) : Option Nat := servingEngine s .couch (channel / 2)

/-- R10: a cluster whose engines are all fenced is powered off; the rule lets it, and names spares too, which the model keeps
powered so that they can take over (log entry 31). -/
def clusterOff (s : State) (c : Nat) : State :=
  if (List.range 16).all fun k => (engineAt s (16 * c + k)).unit.st ≠ .inService then unroute s (.en c) else s

/-- R17: the work queue of the fenced engine goes to the engine that replaces it. -/
def handWork (s : State) (k : Nat) (work : List Beat) : State := setEngine s k fun y => { y with work := y.work ++ work }

/-- R16, R17, R19: an engine is fenced: a spare takes its role and its work queue, or the role's other engines do; the only
engine of a role stays in use, failing. -/
def fenceEngine (s : State) (e : Nat) : State :=
  let x := engineAt s e
  if x.unit.st ≠ .inService then s
  else if fenceForbidden s e then
    (setEngine s e fun x => { x with failing := true }).event 0 1 3 (unitWord 1 e) (detail := engineDetail e 0xFF x.role)
  else
    let spare := if x.role = .spare then none else spareFor s e
    let s := endInjections s (.engine e)
    let s := setEngine s e fun x => { x with role := .fenced, instance_ := 255, failing := false, resuming := false, work := [], unit := { x.unit with st := .fenced } }
    match spare with
    | some k =>
      let s := setEngine s k fun y => { y with role := x.role, instance_ := x.instance_, resuming := true }
      clusterOff (redirectTo (handWork s k x.work) e k) (e / 16)
    | none =>
      if x.role = .spare then clusterOff (s.event 2 1 2 (unitWord 1 e) (detail := engineDetail e 0xFF .spare)) (e / 16)
      else
        let s := match takeOver s x.role x.instance_ with
          | some k => redirectTo (handWork s k x.work) e k
          | none => s
        let s := clusterOff (s.event 2 2 2 (unitWord 1 e) (detail := engineDetail e 0xFF x.role)) (e / 16)
        if x.role = .couch then deckleImmediate s else s

/-- ENGINE_FAULT_DETECTED (R16, R449): a failed self-check, or an uncorrectable error in the engine's own memory. -/
def execEngineFaultDetected (engine : Nat) (memory : Bool) (s : State) : Res State :=
  if memory then .next (withInjection s (.engine engine) 1 fun s => fenceEngine (countError s (.engine engine) true) engine)
  else .next (fenceEngine s engine)

/-- R449: more than 16 correctable errors in an engine's memory in 1 s: an event, and the fence. -/
def judgeEngine (s : State) (e : Nat) : State :=
  let n := ((s.units.engineCorr.filter (·.1 = e)).filter fun x => s.now < x.2 + second).length
  if n ≤ 16 || (engineAt s e).unit.st ≠ .inService then s else fenceEngine (s.event 2 3 1 (unitWord 1 e) (detail := n)) e

/-- ENGINE_HEARTBEAT_TIMEOUT (R449): no heartbeat for 10 ms. -/
def execEngineHeartbeatTimeout (engine : Nat) (s : State) : Res State := .next (fenceEngine s engine)

/-! ### Islands (R12) -/

/-- ISLAND_FREQUENCY_CHANGE_DONE (R12): the island takes Wire messages again. -/
def execIslandFrequencyChangeDone (island : Island) (s : State) : Res State :=
  .next (s.onWire fun w => { w with changing := w.changing.filter (· ≠ island) })

end Sys2Proof.Machine
end

