-- ==== Sys2Proof/Machine/Boot.lean ====
section
/-! DEFINITION. The boot's rows, the watchdogs and the resets of the whole device (R37, R112, R240, R367, R398, R418 to R434). -/

namespace Sys2Proof.Machine

/-! ### Resets of scope WARM and COLD (R37, R227) -/

/-- R37, R227: a WARM reset: the Couch commits, and the internal warm reset follows its seal; before READY.LIFT there is nothing to save. -/
def warmReset (s : State) : State :=
  let s := s.onCmd fun c => { c with resetRun := max c.resetRun 4 }
  match s.couch.orch with
  | .serving | .armed => couchCommit s true .inputAbsent false false 255
  | .lifting => internalReset s
  | .committed | .down => s

/-- R37, R227, R450: a COLD reset: the rails cycle after the Couch. -/
def coldReset (s : State) : State :=
  let s := disqualify s 8
  match s.couch.orch with
  | .serving | .armed => couchCommit s true .cold false true 255
  | .lifting => startPowerDown s .cold
  | .committed | .down => s

/-! ### Self-test and training (R418 to R420) -/

/-- R418 step 5: an island that fails its wave is fenced, and an event is logged. -/
def fenceAtBoot (s : State) : UnitId → State
  | .engine e => fenceEngine s e
  | .slice i => (fenceSlice s i).event 3 4 2 (unitWord 2 i) (detail := changeDetail 0 1 0)
  | .dram c => dramFailed s c 2
  | .flash c => flashState s c .failed 2
  | .port i => fencePort s i
  | .felt i => (unroute (setUnit s (.felt i) fun u => { u with st := .fenced }) (.tw i)).event 7 1 1 (unitWord 6 i)
  | .core i => fenceCore s i
  | .sensor _ | .rail _ => s

/-- BIST_WAVE_COMPLETE (R418 step 5, R367, R420, R450): a wave tests its units and returns none. Where the code stores no
longer match the digest kept at the last load, an image kept in its stores is loaded anew. -/
def execBistWaveComplete (_wave : Nat) (w : BistWave) (s : State) : Res State :=
  if s.power.seq ≠ .booting || s.power.waitButton then .next s
  else
    let s := if w.storesChanged && s.ledger.loadTries = 0 then s.onLedger fun l => { l with loadTries := 1 } else s
    .next (s.each (w.results.filter (!·.pass)) fun s x => if (unitAt s x.unit).st = .inService then fenceAtBoot s x.unit else s)

/-! ### The image (R418 step 6, R420, R427) -/

/-- R426: the record whose digest the loaded image must match. -/
def loadRecord (s : State) : Option Activation := if s.power.maintenance then newestConfirmed s else effectiveRecord s

/-- IMAGE_LOAD_COMPLETE (R418 step 6, R425, R427): the chosen slot's image has been read whole; it runs, or the loading fails. -/
def execImageLoadComplete (genuine : Bool) (s : State) : Res State :=
  if s.power.seq ≠ .booting || s.power.waitButton || s.ledger.loadTries = 0 then .next s
  else
    let second_ := decide (s.ledger.loadTries = 2)
    let b := s.ledger.chosen
    match slotImage (slotOf s b) genuine with
    | none => .next (loadFails s)
    | some image =>
      let match_ := second_ || ((loadRecord s).map fun r => decide (r.digest = image.digest)).getD true
      if imageValid s image && match_ then
        let s := setSlot s b fun f => { f with image := some image }
        let s := if second_ then recovery s b else s
        .next (s.onLedger fun l => { l with running := b, loadTries := 0 })
      else .next (loadFails s)

/-! ### READY.CORE (R418, R421) -/

/-- R112, R157: the directory cache area is reserved on the channels ONLINE. An even share that is not a whole number of locations is rounded
down, and its remainder stays with the frames (DESIGN CHOICE, log entry 158). -/
def reserveArea (s : State) : State :=
  let n := (s.vat.ch.filter (·.st = .online)).length
  let share := areaUnits s * 16 * 262144 / max 1 n
  s.onVat fun v => { v with setCount := n, areaTarget := 0, ch := v.ch.map fun c => { c with share := if c.st = .online then share else 0, shareTo := if c.st = .online then share else 0, zeroTo := 0 } }

/-- R424: a confirmed image's fuses are blown up to its security version. -/
def blowFuses (s : State) : State :=
  match (slotOf s s.ledger.running).image with
  | some i => if s.ledger.trial then s else s.onLedger fun l => { l with fuses := max l.fuses i.security }
  | none => s

/-- READY_CORE (R241, R398, R405, R418 steps 8 to 10, R421, R431): the device answers, and the Lift begins; with no DRAM channel
ONLINE it stays below, with ALERT_N. -/
def execReadyCore (s : State) : Res State :=
  let training := s.vat.ch.any (·.st = .training)
  if s.power.seq ≠ .booting || s.cmd.ready ≠ .below || s.ledger.loadTries ≠ 0 || s.power.waitButton || training then .next s
  else if (s.vat.ch.filter (·.st = .online)).isEmpty then
    .next (if s.log.noDram then s else (s.onLog fun l => { l with noDram := true }).event 0 6 3)
  else
    let s := s.onPower fun p => { p with seq := .running, done := true }
    let s := rindComplete (blowFuses (reserveArea (s.onLedger fun l => { l with expiries := 0 }))) 1
    if s.power.maintenance then .next (s.onCmd fun c => { c with ready := .maintenance })
    else .next (s.onCmd fun c => { c with ready := .core })

/-! ### Watchdogs (R434) -/

/-- BOOT_WATCHDOG_EXPIRY (R434): every island but SV is re-initialised and the boot repeats; after the third expiry of a
confirmed image the other slot is tried, then loader recovery. -/
def execBootWatchdogExpiry (s : State) : Res State :=
  if s.power.seq ≠ .booting || s.power.waitButton then .next s
  else
    let loaded := s.ledger.loadTries = 0
    let s := islandsReset (s.onCmd fun c => { c with resetRun := max c.resetRun 4 })
    if s.ledger.trial then .next (bootStart s loaded)
    else if s.ledger.expiries < 2 then
      .next ((bootStart s loaded).onLedger fun l => { l with expiries := l.expiries + 1 })
    else if s.ledger.expiries = 2 then
      .next (s.onLedger fun l => { l with expiries := 3, chosen := !l.chosen, loadTries := 2 })
    else .next (loadFails (s.onLedger fun l => { l with loadTries := 2 }))

/-- MGMT_ENGINE_FEED_TIMEOUT (R434): a silent management engine is fenced. -/
def execMgmtEngineFeedTimeout (engine : Nat) (s : State) : Res State :=
  if (engineAt s engine).role ≠ .management then .next s
  else .next (fenceEngine (s.onUnits fun u => { u with fed := addNew u.fed engine }) engine)

/-- SERVICE_WATCHDOG_EXPIRY (R434): as a RESET of scope WARM, with an event. -/
def execServiceWatchdogExpiry (s : State) : Res State :=
  if s.cmd.ready = .below then .next s
  else .next (warmReset (s.event 2 2 2 (detail := 2 ^ 64 * (0xFF + 256 * roleCode .management))))

end Sys2Proof.Machine
end

