-- ==== Sys2Proof/Machine/EventLog.lean ====
section
/-! DEFINITION. The event log: coalescing, tokens, the ring, the CXL event logs, and the opcodes of group 0x0A that read and acknowledge it (R439 to R447). -/

namespace Sys2Proof.Machine

/-! ### Records -/

/-- R442: the coalescing key of an occurrence. -/
def sameKey (a b : Occurrence) : Bool :=
  a.cls = b.cls && a.code = b.code && a.unit = b.unit && a.head = b.head && a.ld = b.ld && a.region = b.region

/-- R442: FATAL-class events, completion reports and drop summaries are never coalesced. -/
def neverCoalesced (o : Occurrence) : Bool := o.cls = 0 || o.completion || o.code = 0xFF

/-- R444: the general area holds 7,936 records and the FATAL reserve 256. -/
def generalSize : Nat := 7936
def fatalReserve : Nat := 256

/-- R444: the oldest record of the general area that a new record of a severity may replace: an acknowledged one, else the
oldest unacknowledged one of the lowest severity, no higher than the new record's. -/
def generalVictim (ring : List EventRec) (severity : Nat) : Option EventRec :=
  let general := ring.filter (!·.reserve)
  match general.find? (·.acked) with
  | some r => some r
  | none =>
    let low := minOf (general.map (·.occ.severity))
    if low ≤ severity then general.find? (·.occ.severity = low) else none

/-- R444: the record of the reserve that a FATAL record replaces: an acknowledged one, else the oldest after the 128 oldest. -/
def reserveVictim (ring : List EventRec) : Option EventRec :=
  let kept := ring.filter (·.reserve)
  match kept.find? (·.acked) with
  | some r => some r
  | none => kept[128]?

/-- R444: an unread record is overwritten and counted. -/
def dropRecord (l : Log) (v : EventRec) : Log :=
  let l := { l with ring := l.ring.filter (·.sequence ≠ v.sequence) }
  if v.acked then l
  else { l with overwrites := l.overwrites.modify v.occ.cls (sat32 <| · + 1), lost := l.lost.modify v.occ.cls (sat32 <| · + 1) }

/-- R444: the record enters the ring, in its place. -/
def placeRecord (l : Log) (r : EventRec) : Option Log :=
  let add (l : Log) (res : Bool) : Log := { l with ring := l.ring ++ [{ r with reserve := res }], next := l.next + 1 }
  if (l.ring.filter (!·.reserve)).length < generalSize then some (add l false)
  else
    match generalVictim l.ring r.occ.severity with
    | some v => some (add (dropRecord l v) false)
    | none =>
      if r.occ.cls ≠ 0 then none
      else if (l.ring.filter (·.reserve)).length < fatalReserve then some (add l true)
      else (reserveVictim l.ring).map fun v => add (dropRecord l v) true

/-! ### CXL event logs (R447) -/

/-- R447: where the LD's interrupt policy asks for MSI-X at a log, its record is signalled. The policy has a byte for each log, from the lowest up,
and its low two bits are 1 for MSI-X (PRESUMED, log entry 174). -/
def signalCxl (log head ld : Nat) (s : State) : State :=
  if ((ldOf s head ld).map fun d => decide (d.policy.toNat / 256 ^ log % 4 = 1)).getD false then s.emit (.interrupt head ld log) else s

/-- R447: a record enters an LD's log of its severity; a full log of 128 counts an overflow. -/
def postCxl (s : State) (kind head ld : Nat) (o : Occurrence) : State :=
  signalCxl (min o.severity 3) head ld <| setLd s head ld fun d =>
    let k := min o.severity 3
    let log := d.logs.getD k []
    if log.length < 128 then
      { d with logs := d.logs.set k (log ++ [{ kind := kind, handle := d.nextHandle, cls := o.cls, code := o.code, address := o.address, unit := o.unit, detail := o.detail }])
               nextHandle := if d.nextHandle = 0xFFFF then 1 else d.nextHandle + 1 }
    else { d with overflow := d.overflow.modify k (sat32 <| · + 1) }

/-- R447: LD 0 of every head whose link is up. -/
def postHeads (s : State) (kind : Nat) (o : Occurrence) : State := s.each s.cxl.linkUp fun s h => postCxl s kind h 0 o

/-- R447: which events are posted to CXL logs, and to whom. -/
def cxlPosting (s : State) (o : Occurrence) : State :=
  match o.cls, o.code with
  | 6, 4 => postCxl s 0 o.head o.ld o
  | 4, 2 | 4, 5 | 4, 8 => postHeads s 1 o
  | 5, 4 => match regionOf s o.region with
    | some g => s.each (g.grants.filter (·.access ≠ .none)) fun s gr => postCxl s 0 gr.head gr.ld o
    | none => s
  | 13, 4 | 9, 1 | 11, 1 => postHeads s 2 o
  | 0, _ => postHeads s 2 o
  | _, _ => s

/-- R439: the flags of a record: summary, dropped before it, completion report, injected, written while COMMITTED. -/
def recordFlags (s : State) (o : Occurrence) (summary : Bool) : U8 :=
  BitVec.ofNat 8 ((if summary then 1 else 0) + (if s.log.dropFlag.getD o.cls false then 2 else 0) + (if o.completion then 4 else 0) +
    (if o.injected then 8 else 0) + (if s.couch.orch = .committed then 16 else 0))

/-- R439, R444: a record is written to the ring and posted to the CXL logs; one that finds no place is dropped and counted. -/
def writeRecord (s : State) (o : Occurrence) (first last count : Nat) (summary : Bool) : State :=
  let r : EventRec := { sequence := s.log.next, time := first, occ := o, flags := recordFlags s o summary, count := sat32 count, last := last,
                        acked := false, reserve := false }
  match placeRecord s.log r with
  | some l => cxlPosting (s.onLog fun _ => { l with dropFlag := l.dropFlag.set o.cls false }) o
  | none => s.onLog fun l => { l with ringDrops := l.ringDrops.modify o.cls (sat32 <| · + 1), lost := l.lost.modify o.cls (sat32 <| · + 1),
                                      dropFlag := l.dropFlag.set o.cls true }

/-- R439, R442: an occurrence joins an open window; the first that is counted there gives the summary its address and first time. -/
def joinWindow (w : Window) (o : Occurrence) (time : Nat) : Window :=
  if w.count = 0 then { w with occ := o, first := time, last := time, count := 1 } else { w with count := sat32 (w.count + 1), last := time }

/-- R442: what becomes of an occurrence at the service engines. -/
def coalesce (s : State) (o : Occurrence) (time : Nat) : State :=
  if neverCoalesced o then writeRecord s o time time 1 false
  else if s.log.windows.any (sameKey ·.occ o) then
    s.onLog fun l => { l with windows := l.windows.map fun w => if sameKey w.occ o then joinWindow w o time else w }
  else if s.log.tokens.getD o.cls 0 ≠ 0 then
    let s := writeRecord s o time time 1 false
    s.onLog fun l => { l with tokens := l.tokens.modify o.cls (· - 1),
                              windows := if l.windows.length < 512 then l.windows ++ [{ occ := o, first := time, last := time, count := 0, closed := false }]
                                else l.windows }
  else if s.log.windows.length < 512 then
    s.onLog fun l => { l with windows := l.windows ++ [{ occ := o, first := time, last := time, count := 1, closed := false }] }
  else
    s.onLog fun l => { l with tableDrops := l.tableDrops.modify o.cls (sat32 <| · + 1), lost := l.lost.modify o.cls (sat32 <| · + 1),
                              dropFlag := l.dropFlag.set o.cls true }

/-- R442: a due summary takes a token and is written, if its class has one. -/
def writeSummary (s : State) (w : Window) : State :=
  if s.log.tokens.getD w.occ.cls 0 = 0 then s
  else
    let s := s.onLog fun l => { l with tokens := l.tokens.modify w.occ.cls (· - 1), windows := l.windows.filter fun x => !sameKey x.occ w.occ }
    writeRecord s w.occ w.first w.last w.count true

/-! ### The rows -/

/-- R441, R442: the event leaves its island's port; one that stands in no port has occurred now. -/
def eventArrives (s : State) (o : Occurrence) : State :=
  let time := ((s.log.ports.find? (·.occ = o)).map (·.time)).getD s.now
  coalesce (s.onLog fun l => { l with ports := l.ports.eraseP (·.occ = o) }) o time

/-- COALESCE_WINDOW_CLOSE (R442): the window at a place of the table closes; its summary is due if its count is above 0. -/
def execCoalesceWindowClose (key : Nat) (s : State) : Res State :=
  match s.log.windows[key]? with
  | none => .next s
  | some w =>
    let rest := s.log.windows.eraseIdx key
    if w.closed then .next s
    else if w.count = 0 then .next (s.onLog fun l => { l with windows := rest })
    else .next (writeSummary (s.onLog fun l => { l with windows := rest ++ [{ w with closed := true }] }) { w with closed := true })

/-- TOKEN_REFILL (R442, R443): one token more, up to the rate limit; the oldest closed window of the class is written. -/
def execTokenRefill (cls : Nat) (s : State) : Res State :=
  let s := s.onLog fun l => { l with tokens := l.tokens.modify cls fun t => min (rateLimit s) (t + 1) }
  match s.log.windows.find? fun w => w.closed && w.occ.cls = cls with
  | some w => .next (writeSummary s w)
  | none => .next s

/-- R443: the drop summary of a class. -/
def dropSummary (s : State) (c : Nat) : State :=
  let n (l : List Nat) := l.getD c 0
  if n s.log.portDrops = 0 && n s.log.tableDrops = 0 && n s.log.overwrites = 0 && n s.log.ringDrops = 0 then s
  else
    let detail := n s.log.portDrops + 2 ^ 32 * n s.log.tableDrops + 2 ^ 64 * n s.log.overwrites + 2 ^ 96 * n s.log.lost
    let s := s.onLog fun l => { l with portDrops := l.portDrops.set c 0, tableDrops := l.tableDrops.set c 0, overwrites := l.overwrites.set c 0,
                                       ringDrops := l.ringDrops.set c 0 }
    writeRecord s { cls := c, severity := if c = 0 then 3 else 1, code := 0xFF, unit := 0, head := 255, ld := 255, region := 0xFFFF, address := 0,
                    detail := detail, completion := false, injected := false } s.now s.now 1 false

/-- DROP_SUMMARY_TICK (R443): a drop summary for each class whose drop counters have changed. -/
def execDropSummaryTick (s : State) : Res State := .next (s.each (List.range 17) dropSummary)

/-- R439: the 64 bytes of a record. -/
def eventBytes (r : EventRec) : List Byte :=
  le 8 r.sequence ++ le 8 r.time ++ le 1 r.occ.cls ++ le 1 r.occ.severity ++ le 2 r.occ.code ++ le 2 r.occ.unit.toNat ++ le 1 r.occ.head ++
    le 1 r.occ.ld ++ le 2 r.occ.region ++ [r.flags, 0] ++ le 4 r.count ++ le 8 r.occ.address ++ le 8 r.last ++ le 16 r.occ.detail

/-- R320, R445: a session other than the owner reads events that name its identity or none. -/
def eventVisible (s : State) (x : Session) (o : Occurrence) : Bool :=
  isOwner s x || o.head = 255 || x.identity = some (o.head, o.ld)

/-- R445: the records examined, in sequence order, until `n` have been taken. -/
def readEvents (s : State) (x : Session) (minSeverity : Nat) : List EventRec → Nat → Nat → List EventRec → Nat × List EventRec
  | [], _, next, acc => (next, acc)
  | _ :: _, 0, next, acc => (next, acc)
  | r :: rs, n + 1, next, acc =>
    if minSeverity ≤ r.occ.severity && eventVisible s x r.occ then readEvents s x minSeverity rs n (r.sequence + 1) (acc ++ [r])
    else readEvents s x minSeverity rs (n + 1) (r.sequence + 1) acc

/-- EVENT_READ (R319, R320, R445). With no record to examine the next sequence is the one asked for (log entry 9). -/
def execEventRead (r : Req) (first : U64) (count : U16) (minSeverity : U8) (s : State) : Res State :=
  .next <| command s r 0x0A01 none .session .notCouch fun s x =>
    checked s r 0x0A01 [(count.toNat < 1 || 1000 < count.toNat, .range, 24), (3 < minSeverity.toNat, .range, 26)] fun s =>
      let start := if first = 0 then ((s.log.ring.find? (!·.acked)).map (·.sequence)).getD s.log.next else first.toNat
      let (next, recs) := readEvents s x minSeverity.toNat (s.log.ring.filter (start ≤ ·.sequence)) count.toNat start []
      ok s r 0x0A01 (le 8 next ++ le 2 recs.length ++ [0, 0] ++ recs.flatMap eventBytes)

/-- EVENT_ACK (R445): every record up to the sequence is acknowledged; ALERT_N follows (R446). -/
def execEventAck (r : Req) (upTo : U64) (s : State) : Res State :=
  .next <| command s r 0x0A02 none .owner .notCouch fun s _ =>
    ok (s.onLog fun l => { l with ring := l.ring.map fun e => if e.sequence ≤ upTo.toNat then { e with acked := true } else e }) r 0x0A02 []

/-- ALARM_MASK (R320, R446): the previous mask; the FATAL bit cannot be cleared. -/
def execAlarmMask (r : Req) (mask : U32) (s : State) : Res State :=
  .next <| command s r 0x0A04 none .owner .notCouch fun s _ =>
    checked s r 0x0A04 [(!mask.getLsbD 0, .conflict, 2)] fun s =>
      ok (s.onLog fun l => { l with mask := mask }) r 0x0A04 (le 4 s.log.mask.toNat)

/-! CXL event records (R447): commands of CXL 3.1 on every LD. -/

/-- GET_EVENT_RECORDS: the records of one log, with its overflow count. -/
def execGetEventRecords (head ld log : Nat) (s : State) : Res State :=
  let d := ldOf s head ld
  .next (s.emit (.events head ld log ((d.map fun d => d.logs.getD log []).getD []) ((d.map fun d => d.overflow.getD log 0).getD 0)))

/-- CLEAR_EVENT_RECORDS: only this LD's copy of the named records is cleared; CXL 3.1 clears the overflow with it. -/
def execClearEventRecords (head ld log : Nat) (handles : List Nat) (s : State) : Res State :=
  match ldOf s head ld with
  | none => .next s
  | some _ => .next (setLd s head ld fun d =>
      { d with logs := d.logs.modify log fun l => l.filter fun e => !handles.contains e.handle, overflow := d.overflow.set log 0 })

/-- GET_EVENT_INTERRUPT_POLICY. -/
def execGetEventInterruptPolicy (head ld : Nat) (s : State) : Res State :=
  .next (s.emit (.policy head ld (((ldOf s head ld).map (·.policy)).getD 0)))

/-- SET_EVENT_INTERRUPT_POLICY. -/
def execSetEventInterruptPolicy (head ld : Nat) (policy : U32) (s : State) : Res State :=
  .next (setLd s head ld fun d => { d with policy := policy })

end Sys2Proof.Machine
end

