-- ==== Sys2Proof/Machine/FeltLinks.lean ====
section
/-! DEFINITION. Felt links: training, flits, replays and the mapping of pages to links (R249 to R255, R261, R449). -/

namespace Sys2Proof.Machine

/-! ### The mapping (R261) -/

/-- R252, R261: messages that the twin answers; any other is done when its flit is acknowledged. -/
def answered : FeltMsg → Bool
  | .mirrorWrite _ _ _ _ _ _ _ | .pageCopy _ _ _ _ _ | .pageZero _ _ _ _ => true
  | _ => false

/-- R249, R256: the links that may carry the pair: enabled here and at the twin, and in service. -/
def linkAllowed (s : State) (t : Nat) : Bool := (linksEnabled s).testBit t && (s.units.links.getD t .reset).st = .inService
def linkShared (s : State) (t : Nat) : Bool := linkAllowed s t && s.felt.peerMask.getLsbD t

/-- The DPA page of a page of a region. -/
def feltPage (s : State) (region k : Nat) : Nat := ((regionOf s region).bind fun r => pageAt r.runs k).getD 0

/-- R264: an ASYNC write of an epoch now goes on another link. -/
def moveCount (s : State) (epoch t u : Nat) : State :=
  s.onFelt fun f =>
    let n (x : Nat) := ((f.sentAsync.find? fun y => y.1 = epoch && y.2.1 = x).map (·.2.2)).getD 0
    { f with sentAsync := (f.sentAsync.filter fun y => !(y.1 = epoch && (y.2.1 = t || y.2.1 = u))) ++
                            (if n t ≤ 1 then [] else [(epoch, t, n t - 1)]) ++ [(epoch, u, n u + 1)] }

/-- R253: the requests that wait under a tag wait under another. -/
def retag (s : State) (line : Nat) (old new : U16) : State :=
  s.onCxl fun c => { c with reqs := c.reqs.map fun q => if q.mirrorTag = old && q.line = line then { q with mirrorTag := new } else q }

/-- R261: a message that its link could not deliver is sent under the new mapping, with a tag of its new link. -/
def resendMsg (s : State) (t : Nat) (m : FeltMsg) : State :=
  match m with
  | .mirrorWrite region ep li tag d be p =>
    let page := feltPage s region (li / 64)
    let u := linkOfPage s page
    let (tag', s) := takeTag s u
    let s := retag s (page * 64 + li % 64) tag tag'
    let async := ((regionOf s region).map fun r => decide (flagMirror r.flags = 2)).getD false
    sendFelt (if async then moveCount s (wideEpoch s ep) t u else s) u (.mirrorWrite region ep li tag' d be p)
  | .pageCopy region k ep _ d =>
    let u := linkOfPage s (feltPage s region k)
    let (tag', s) := takeTag s u
    sendFelt s u (.pageCopy region k ep tag' d)
  | .pageZero region k ep _ =>
    let u := linkOfPage s (feltPage s region k)
    let (tag', s) := takeTag s u
    sendFelt s u (.pageZero region k ep tag')
  | .twinRead region li tag =>
    let page := feltPage s region (li / 64)
    let u := linkOfPage s page
    let (tag', s) := takeTag s u
    sendFelt (retag s (page * 64 + li % 64) tag tag') u (.twinRead region li tag')
  | m => match (mappedLinks s).head? with
    | some u => sendFelt s u m
    | none => s

/-- R261: the messages of links outside the mapping move to it, in their original order. -/
def remap (s : State) : State :=
  if (mappedLinks s).isEmpty then s
  else s.each ((List.range 8).filter fun t => !(linkAt s t).mapped) fun s t =>
    let q := (linkAt s t).queue
    if q.isEmpty then s
    else (setLink s t fun l => { l with queue := [], unsent := 0, retryBuf := [] }).each q fun s m => resendMsg s t m

/-- R261: a link that came up by full training enters once every message under the old mapping is acknowledged. -/
def joinMapping (s : State) : State :=
  s.each (List.range 8) fun s t =>
    let l := linkAt s t
    let clear := (mappedLinks s).all fun u => !((linkAt s u).queue.any answered)
    if s.felt.pair = .attached && l.st = .up && !l.mapped && linkShared s t && !(s.felt.hellos.any (·.1 = t)) && clear then
      remap (setLink s t fun l => { l with mapped := true })
    else s

/-! ### Links going down and training (R250, R449) -/

/-- R250: full training starts: the retry buffer is cleared, and the link leaves the mapping. -/
def startFull (s : State) (t : Nat) : State := remap (setLink s t fun l => { l with st := .fullTrain, mapped := false, retryBuf := [], replayed := [] })

/-- R250, R258: a held link: nothing waits on it. -/
def holdLink (s : State) (t : Nat) : State :=
  let s := setLink s t fun l => { l with st := .held, mapped := false, retryBuf := [], replayed := [] }
  let s := remap s
  setLink s t fun l => { l with queue := [], unsent := 0 }

/-- R250, R252, R258: a link goes down: it retrains, fast first, be it up or only trained, but in full where R252 or R253 asks for it; in DETACHED it is
held down. -/
def linkFalls (s : State) (t : Nat) (full : Bool) : State :=
  let l := linkAt s t
  if l.st ≠ .up && l.st ≠ .trained then s
  else
    let s := s.event 7 1 1 (unitWord 6 t)
    if s.felt.pair = .detached || !linkAllowed s t then holdLink s t
    else if full then startFull s t
    else setLink s t fun l => { l with st := .fastRetrain }

/-- R449: a Felt link is fenced: down, its messages remapped, its island powered off. -/
def fenceFelt (s : State) (t : Nat) : State :=
  let s := setUnit (endInjections s (.felt t)) (.felt t) fun u => { u with st := .fenced }
  let s := if (linkAt s t).st = .up || (linkAt s t).st = .trained then s.event 7 1 1 (unitWord 6 t) else s
  unroute (holdLink s t) (.tw t)

/-- R250, R252: a link is up from the first good flit of its session; a pair that forms sends HELLO on it. -/
def linkRises (s : State) (t : Nat) : State :=
  let s := setLink s t fun l => { l with st := .up, authentic := true }
  if s.felt.pair = .linking || s.felt.pair = .twinDown || s.felt.pair = .attached then sendFelt s t (.hello s.epochs.current s.epochs.closed) else s

/-- R250, R261: a fast retrain fails: the link leaves the mapping and trains in full, with an event. -/
def fastFails (s : State) (t : Nat) : State :=
  if (linkAt s t).st ≠ .fastRetrain then s else startFull (s.event 7 2 1 (unitWord 6 t)) t

/-- FELT_LINK_TRAINED (R250, R261, R449). -/
def execFeltLinkTrained (link : Nat) (full ok : Bool) (s : State) : Res State :=
  let l := linkAt s link
  if full then
    if l.st ≠ .fullTrain then .next s
    else if ok then
      .next (setLink s link fun l => { l with st := .trained, authentic := false, session := (l.session + 1) % 2 ^ 32, rxSeq := 0, txSeq := 0, retryBuf := [],
                                              replayed := [], tagFails := 0, flits := 0, fullFails := [], dataCredits := 1024, ctlCredits := 32 })
    else
      let fails := (l.fullFails.filter fun x => s.now ≤ x + 60 * second) ++ [s.now]
      let s := setLink s link fun l => { l with fullFails := fails }
      .next (if 3 ≤ fails.length then fenceFelt s link else s)
  else
    if l.st ≠ .fastRetrain then .next s
    else if ok then
      let s := setLink s link fun l => { l with st := if l.authentic then .up else .trained }
      .next (pump (if l.retryBuf.isEmpty then s else s.emit (.flitReplay link l.retryBuf)) link)
    else .next (fastFails s link)

/-- FELT_LINK_SILENCE (R250): no good flit for 100 µs. -/
def execFeltLinkSilence (link : Nat) (s : State) : Res State := .next (linkFalls s link false)

/-- FAST_RETRAIN_TIMEOUT (R250, R261): the fast retrain lasts more than 2 ms. -/
def execFastRetrainTimeout (link : Nat) (s : State) : Res State := .next (fastFails s link)

/-! ### Flits (R251, R252) -/

/-- R252: flits are replayed; one replayed four times in a row takes its link down. -/
def replayFlits (s : State) (t : Nat) (seqs : List Nat) : State :=
  if seqs.isEmpty then s
  else
    let s := setLink s t fun l =>
      { l with replays := sat32 (l.replays + 1),
               replayed := seqs.map fun q => (q, ((l.replayed.find? (·.1 = q)).map (·.2)).getD 0 + 1) }
    if (linkAt s t).replayed.any fun x => 4 < x.2 then linkFalls s t false else s.emit (.flitReplay t seqs)

/-- R252: flits after a sequence, as the retry buffer holds them. -/
def after (buf : List Nat) (seq : Nat) : List Nat :=
  match buf.findIdx? (· = seq) with
  | some i => buf.drop (i + 1)
  | none => buf

/-- R251: the ack word: flits retire, a NAK replays the rest; messages with no answer of their own are done. -/
def takeAck (s : State) (t : Nat) (seq : Nat) (nak : Bool) : State :=
  let s := setLink s t fun l =>
    let buf := after l.retryBuf seq
    let sent := l.queue.length - l.unsent
    { l with retryBuf := buf, replayed := l.replayed.filter fun x => buf.contains x.1,
             queue := if buf.isEmpty then (l.queue.take sent).filter answered ++ l.queue.drop sent else l.queue }
  let s := if nak then withInjection s (.felt t) 4 fun s => replayFlits s t (linkAt s t).retryBuf else s
  pump s t

/-- R251, R252: a flit whose CRC fails: a NAK with the highest sequence received in order. -/
def flitBad (s : State) (t : Nat) : State := s.emit (.flitNak t (((linkAt s t).rxSeq + 4095) % 4096))

/-- R253: a message with a reserved field is discarded and counted, and an event is logged (log entry 35). -/
def discardMsg (s : State) (t : Nat) : State := (setLink s t fun l => { l with discarded := l.discarded + 1 }).event 7 7 2 (unitWord 6 t)

/-- R253: the same for a message whose row names no link: counted on the lowest link that is up (log entry 35). -/
def discardAny (s : State) : State := discardMsg s (((List.range 8).find? fun t => (linkAt s t).st = .up).getD 0)

/-- R253, R256: what a flit in order carries beside the messages that rows name. After a reserved type the stream cannot be delimited. -/
def takePayload (s : State) (t : Nat) : FlitFault → State
  | .none => s
  | .messageType => linkFalls (s.event 7 7 2 (unitWord 6 t)) t true
  | .messageFlags | .controlRecord => discardMsg s t

/-- FELT_FLIT_RECEIVED (R251 to R253, R256): FEC, CRC, tag, session bits, in this order. -/
def execFeltFlitReceived (link : Nat) (flit : Flit) (crc : U32) (fecOk tagOk : Bool) (s : State) : Res State :=
  let bytes := flit.bytes
  let l := linkAt s link
  let head := field bytes 0 2
  let ack := field bytes 2 2
  let credit := field bytes 4 4
  if l.st ≠ .trained && l.st ≠ .up then .next s
  else if !fecOk || crc32c (bytes.take 240) ≠ crc || 2 ≤ head / 4096 || 8192 ≤ ack then .next (flitBad (setLink s link fun l => { l with tagFails := 0 }) link)
  else if !tagOk then
    let s := flitBad s link
    let s := if l.tagFails = 0 then s.event 16 1 2 (unitWord 6 link) else s
    if 1 ≤ l.tagFails then .next (linkFalls (setLink s link fun l => { l with tagFails := 0 }) link true)
    else .next (setLink s link fun l => { l with tagFails := l.tagFails + 1 })
  else
    let s := setLink s link fun l => { l with tagFails := 0 }
    if credit / 65536 ≠ l.session % 65536 then .next (setLink s link fun l => { l with discarded := l.discarded + 1 })
    else
      let s := if l.st = .trained then linkRises s link else s
      let s := setLink s link fun l => { l with dataCredits := min 1024 (l.dataCredits + credit % 2048), ctlCredits := min 32 (l.ctlCredits + credit / 2048 % 32) }
      let s := takeAck s link (ack % 4096) (4096 ≤ ack)
      if head / 4096 = 1 then .next s
      else if head % 4096 = l.rxSeq then .next (takePayload (setLink s link fun l => { l with rxSeq := (l.rxSeq + 1) % 4096 }) link flit.fault)
      else if (l.rxSeq + 4096 - head % 4096) % 4096 ≤ 2048 then .next s
      else .next (flitBad s link)

/-- FLIT_ACK_TIMEOUT (R252): not acknowledged within 4 µs: replayed with every later flit. -/
def execFlitAckTimeout (link sequence : Nat) (s : State) : Res State :=
  let l := linkAt s link
  if l.st ≠ .up || !l.retryBuf.contains sequence then .next s
  else .next (replayFlits s link (l.retryBuf.dropWhile (· ≠ sequence)))

end Sys2Proof.Machine
end

