-- ==== Sys2Proof/Machine/Felt.lean ====
section
/-! DEFINITION. The pair: its messages, mirroring, tokens, twin loss, rejoin and resynchronisation; the opcodes of group 0x05 (R119, R147, R154, R253 to R276, R315, R480). -/

namespace Sys2Proof.Machine

/-! ### Messages received (R253, R480) -/

def hdrReserved (h : FeltHdr) : Bool := h.region = 0xFFFF || h.tag = 0xFFFF

/-- R265, R271, R480: this device is the follower of the region, and takes its messages. -/
def following (s : State) (n : Nat) : Option Region :=
  (regionOf s n).filter fun r => isMirrored r && !holdsToken r && r.mirror ≠ .diverged

/-- R480: the message is not applied. -/
def refuseMsg (s : State) (h : FeltHdr) : State :=
  let s := s.onFelt fun f => { f with refused := f.refused + 1 }
  (sendFelt s h.link (.mirrorRefused h.region.toNat [h.tag])).event 7 7 2 (unitWord 6 h.link) h.region.toNat (detail := h.tag.toNat)

/-- The page of a message's line index, in the receiver's own runs. -/
def hdrPage (r : Region) (h : FeltHdr) : Option Nat := pageAt r.runs (h.lineIndex / 64)

/-- R261, R264: a staged write that arrived on a link that fell, and comes again on another, is held once. -/
def stageTwin (s : State) (w : StagedAsync) : State :=
  let again (x : StagedAsync) : Bool := (linkAt s x.origin).st ≠ .up && { x with origin := w.origin } = w
  s.onFelt fun f => { f with staged := f.staged.eraseP again ++ [w] }

/-- MIRROR_WRITE (R58, R262, R264, R480). -/
def execMirrorWrite (h : FeltHdr) (data : LineData) (be : BitVec 64) (s : State) : Res State :=
  if s.felt.pair ≠ .attached || (linkAt s h.link).st ≠ .up then .next s
  else if hdrReserved h then .next (discardMsg s h.link)
  else match following s h.region.toNat with
    | none => .next (refuseMsg s h)
    | some r =>
      let be := if h.byteEnables then be else BitVec.allOnes 64
      match hdrPage r h with
      | none => .next (discardMsg s h.link)
      | some page =>
        if flagMirror r.flags = 2 then
          let w : StagedAsync := { epoch := wideEpoch s h.epoch, origin := h.link, region := r.num, line := h.lineIndex, data := data, be := be, poison := h.poison }
          .next (sendFelt (stageTwin s w) h.link (.mirrorAck [h.tag]))
        else .next (placeMirror s h.link h.tag page (h.lineIndex % 64) r.num data be h.poison (wideEpoch s h.epoch))

/-! ### Acknowledgements (R262, R264) -/

/-- The line of a mirror message. -/
def msgLine (s : State) (region li : Nat) : Nat := feltPage s region (li / 64) * 64 + li % 64

/-- The write of a mirror message that waits for its acknowledgement. -/
def ackedReq (s : State) (line : Nat) (tag : U16) : Option HostReq :=
  s.cxl.reqs.find? fun q => q.write && q.needAck && q.mirrorTag = tag && q.line = line

/-- One tag of a MIRROR_ACK. -/
def ackTag (s : State) (t : Nat) (tag : U16) : State :=
  match (linkAt s t).queue.find? fun m => match m with | .mirrorWrite _ _ _ g _ _ _ => g = tag | _ => false with
  | some (.mirrorWrite region ep li g d be p) =>
    let s := setLink s t fun l => { l with queue := l.queue.erase (.mirrorWrite region ep li g d be p) }
    match ackedReq s (msgLine s region li) tag with
    | some q => twinDone s q
    | none => s
  | _ => s

/-- MIRROR_ACK (R43, R261, R262, R273): up to eight tags; 0xFFFF is an empty entry. -/
def execMirrorAck (link : Nat) (tags : List U16) (s : State) : Res State :=
  .next (feltSettles (joinMapping (s.each (tags.filter (· ≠ 0xFFFF)) fun s g => ackTag s link g)))

/-! ### ASYNC epochs (R58, R264) -/

/-- EPOCH_END (R58, R264). -/
def execEpochEnd (epoch origin count : Nat) (s : State) : Res State :=
  if s.felt.pair ≠ .attached then .next s
  else .next (applyReady (s.onFelt fun f => { f with ends := (f.ends.filter fun x => !(x.1 = epoch && x.2.1 = origin)) ++ [(epoch, origin, count)] }))

/-- R258: a detach that waited for the ASYNC lag is done. -/
def detachIfDue (s : State) : State :=
  match s.felt.opReqs.find? fun x => x.2.change = .detach with
  | some x => if s.felt.lag.isEmpty then finishDetach (s.onFelt fun f => { f with opReqs := f.opReqs.erase x }) x.2.req else s
  | none => s

/-- EPOCH_APPLIED (R58, R264): the mirrored epoch advances, and the lag falls. -/
def execEpochApplied (epoch : Nat) (s : State) : Res State :=
  if s.felt.pair ≠ .attached then .next s
  else
    let s := s.onEpochs fun e => { e with mirrored := max e.mirrored (min epoch e.closed) }
    let s := s.onFelt fun f => { f with lag := f.lag.filter (epoch < ·.1) }
    .next (finishCloses (detachIfDue s))

/-! ### Twin reads (R119, R147) -/

/-- TWIN_READ (R119, R264): answered from the Curd or a VALID frame, never from the Ream. -/
def execTwinRead (h : FeltHdr) (s : State) : Res State :=
  if s.felt.pair ≠ .attached || (linkAt s h.link).st ≠ .up then .next s
  else if hdrReserved h then .next (discardMsg s h.link)
  else
    let held := ((regionOf s h.region.toNat).bind fun r => hdrPage r h).bind fun p => heldLine s (p * 64 + h.lineIndex % 64)
    match held with
    | some l => .next (sendFelt s h.link (.twinReadData h.tag l))
    | none => .next (sendFelt s h.link (.notResident h.tag))

def twinWaiter (s : State) (tag : U16) : Option HostReq := s.cxl.reqs.find? fun q => !q.write && q.twinAsked && q.mirrorTag = tag

def twinServed (s : State) (n : Nat) : State := setRegion s n fun r => { r with twinServed := r.twinServed + 1 }

/-- TWIN_READ_DATA (R119, R120, R147): it serves the read, the fetch going on; or it is written back to its frame. -/
def execTwinReadData (tag : U16) (data : Line) (s : State) : Res State :=
  if tag = 0xFFFF then .next (discardAny s)
  else match twinWaiter s tag with
  | some q => .next (twinServed (answerRead s q data) q.region)
  | none => match s.vat.recoveries.find? (·.1 = tag) with
    | some x => .next (endRecovery s x (some data))
    | none => .next s

/-- NOT_RESIDENT (R119, R120, R147). -/
def execNotResident (tag : U16) (s : State) : Res State :=
  if tag = 0xFFFF then .next (discardAny s)
  else match twinWaiter s tag with
  | some q => .next (twinFails s q)
  | none => match s.vat.recoveries.find? (·.1 = tag) with
    | some x => .next (endRecovery s x none)
    | none => .next s

/-! ### Page copies (R154, R255, R272) -/

/-- R272: what the holder copies: the newest data of the page, Curd lines over its frame or its Ream copy. -/
def pageContent (s : State) (page : Nat) : PageData :=
  let e := entry s page
  let base := match validFrame s page with
    | some f => f.data
    | none => mergeStaged s page (if e.st = .lost then poisonPage else ((slotAt s e.loc).map (·.data)).getD [])
  let base := (s.curd.evicts.filter fun v => v.addr / 64 = page && v.dirty).foldl (fun d v => putLine d (v.addr % 64) v.data) base
  (s.curd.lines.filter fun l => l.addr / 64 = page && l.st = .dirty).foldl (fun d l => putLine d (l.addr % 64) l.data) base

/-- R106, R272: a page received whole fills a frame, becomes DIRTY and is charged; what stood for the page before goes. -/
def fillCopy (s : State) (page : Nat) (d : PageData) (epoch : U32) : Option State :=
  let s := invalidatePage (touchDirectory s page) page
  let s := s.onReam fun r => { r with stage := r.stage.map fun x => if x.line / 64 = page then { x with valid := false } else x }
  let s := s.onPpu fun p => { p with stageIndex := p.stageIndex.filter (· ≠ page), fetches := p.fetches.filter (·.page ≠ page) }
  match assignFrame s page with
  | none => none
  | some (n, s) =>
    let s := putEntry (fillFrame s page d) { entry s page with frame := some n }
    some (checkFill (pageArrived (chargePage s page epoch) page) page)

def burstOf (s : State) (link : Nat) (tag : U16) : Option Burst := s.felt.bursts.find? fun b => b.link = link && b.tag = tag
def dropBurst (s : State) (link : Nat) (tag : U16) : State :=
  s.onFelt fun f => { f with bursts := f.bursts.filter fun b => !(b.link = link && b.tag = tag) }

/-- R255: a partial burst is discarded, counted, and BURST_ABORT returned on a link that is up. -/
def abortBurst (s : State) (link : Nat) (tag : U16) : State :=
  sendOne (setLink (dropBurst s link tag) link fun l => { l with discarded := l.discarded + 1, aborts := sat32 (l.aborts + 1) }) (.burstAbort tag)

/-- R154: the page is one of a failed channel that the twin copies back. -/
def recoveringPage (s : State) (r : Region) (k : Nat) : Option Nat := (pageAt r.runs k).filter fun p => s.ppu.recovering.contains p

/-- R154, R272: a burst is whole: the page is written, and PAGE_ACK returned. -/
def finishBurst (s : State) (b : Burst) : State :=
  match (regionOf s b.region).bind fun r => pageAt r.runs b.page with
  | none => dropBurst s b.link b.tag
  | some page =>
    match fillCopy s page b.data b.epoch with
    | none => abortBurst s b.link b.tag
    | some s =>
      let s := (dropBurst s b.link b.tag).onPpu fun p => { p with recovering := p.recovering.filter (· ≠ page) }
      let s := progressLong s (· = .resync b.region) 1 (pagePoisoned s page)
      sendOne (s.onFelt fun f => { f with copied := addNew f.copied b.region }) (.pageAck b.region b.page)

/-- One fragment that continues or starts a burst. -/
def takeFragment (s : State) (b : Burst) (i : Nat) (l : Line) : State :=
  let b := { b with data := putLine b.data i l, count := b.count + 1 }
  if b.count = 64 then finishBurst s b
  else (dropBurst s b.link b.tag).onFelt fun f => { f with bursts := f.bursts ++ [b] }

/-- PAGE_COPY (R154, R255, R272, R480): one of the 64 fragments of a burst. -/
def execPageCopy (h : FeltHdr) (fragment : Nat) (data : LineData) (s : State) : Res State :=
  let n := h.region.toNat
  let l : Line := { data := data, poison := h.poison }
  if s.felt.pair ≠ .attached || (linkAt s h.link).st ≠ .up then .next s
  else if hdrReserved h then .next (discardMsg s h.link)
  else if h.first then
    let recovers := ((regionOf s n).bind fun r => recoveringPage s r (h.lineIndex / 64)).isSome
    if (following s n).isNone && !recovers then .next (refuseMsg s h)
    else
      let b : Burst := { link := h.link, tag := h.tag, region := n, page := h.lineIndex / 64, epoch := h.epoch, data := [], count := 0 }
      .next (takeFragment (dropBurst s h.link h.tag) b fragment l)
  else match burstOf s h.link h.tag with
    | some b => if b.count = fragment then .next (takeFragment s b fragment l) else .next (setLink s h.link fun l => { l with discarded := l.discarded + 1 })
    | none => .next (setLink s h.link fun l => { l with discarded := l.discarded + 1 })

/-- PAGE_ZERO (R272, R480): the page is ZERO on the sender. -/
def execPageZero (h : FeltHdr) (s : State) : Res State :=
  if s.felt.pair ≠ .attached || (linkAt s h.link).st ≠ .up then .next s
  else if hdrReserved h then .next (discardMsg s h.link)
  else match following s h.region.toNat with
    | none => .next (refuseMsg s h)
    | some r => match hdrPage r h with
      | none => .next (discardMsg s h.link)
      | some page =>
        let s := putEntry (zeroPage s page) { entry (zeroPage s page) page with epoch := h.epoch }
        let s := progressLong s (· = .resync r.num) 1 0
        .next (sendOne (s.onFelt fun f => { f with copied := addNew f.copied r.num }) (.pageAck r.num (h.lineIndex / 64)))

/-- R43, R105: a page that ZERO_LINES zeroed is in the twin's domain. -/
def zeroAcked (s : State) (tag : U16) : State :=
  s.each (s.cxl.reqs.filter fun q => q.write && q.needAck && 0x10000 ≤ q.hostTag && q.mirrorTag = tag) twinDone

/-- R43, R254: the oldest copy or zero of a page that is on its way is in the twin's domain: it is no longer held. -/
def pageAcked (s : State) (n page : Nat) : State :=
  let mine (m : FeltMsg) : Bool := match m with
    | .pageCopy g k _ _ _ | .pageZero g k _ _ => g = n && k = page
    | _ => false
  match (List.range 8).findSome? fun t => ((linkAt s t).queue.find? mine).map fun m => (t, m) with
  | none => s
  | some (t, m) =>
    let s := setLink s t fun l => { l with queue := l.queue.erase m }
    match m with | .pageZero _ _ _ tag => zeroAcked s tag | _ => s

/-- PAGE_ACK (R43, R105, R270, R272): the copy is in the twin's domain; after the last a pair-wide close makes the region IN_SYNC. -/
def execPageAck (region : U16) (page : Nat) (s : State) : Res State :=
  let n := region.toNat
  if region = 0xFFFF then .next (discardAny s)
  else
    let s := pageAcked s n page
    if !s.felt.resyncOut.contains (n, page) then .next (joinMapping s) else
    let s := s.onFelt fun f => { f with resyncOut := f.resyncOut.erase (n, page) }
    let poisoned := ((regionOf s n).bind fun r => pageAt r.runs page).map (pagePoisoned s)
    let s := progressLong s (fun k => k = .resync n || k = .mirrorOn n) 1 (poisoned.getD 0)
    .next (joinMapping (checkResync s n))

/-- R272: while mirror messages wait, a page copy more would take page copies beyond the resync share of what the links have carried since. -/
def copyHeld (s : State) : Bool := mirrorsWait s.felt && decide (resyncShare s * (s.felt.pairUnits + 80) < 100 * (s.felt.copyUnits + 80))

/-- RESYNC_PAGE_SEND (R261, R272): the next page of a resynchronisation leaves on its own link, within the resync share. -/
def execResyncPageSend (region : U16) (page : Nat) (s : State) : Res State :=
  let n := region.toNat
  if s.felt.pair ≠ .attached || !s.felt.resyncTodo.contains (n, page) then .next s
  else match regionOf s n with
    | none => .next s
    | some r =>
      let p := (pageAt r.runs page).getD 0
      if (foundEntry s p).st ≠ .zero && copyHeld s then .next s else
      let s := touchDirectory s p
      let t := linkOfPage s p
      let (tag, s) := takeTag s t
      let s := s.onFelt fun f => { f with resyncTodo := f.resyncTodo.erase (n, page), resyncOut := f.resyncOut ++ [(n, page)] }
      let e := entry s p
      if e.st = .zero then .next (sendFelt s t (.pageZero n page e.epoch tag))
      else .next (sendFelt s t (.pageCopy n page e.epoch tag (if e.st = .lost then poisonPage else pageContent s p)))

/-- R255: the burst with a tag that still waits on a link. -/
def burstSent (s : State) (t : Nat) (tag : U16) : Option FeltMsg :=
  (linkAt s t).queue.find? fun m => match m with | .pageCopy _ _ _ g _ => g = tag | _ => false

/-- BURST_ABORT (R255): the burst is sent again under a new tag, behind what waits on its own link, which need not be the one that the
abort came on (log entry 145); one that is done is ignored. -/
def execBurstAbort (link : Nat) (tag : U16) (s : State) : Res State :=
  match (link :: List.range 8).find? fun t => (burstSent s t tag).isSome with
  | none => .next s
  | some t => match burstSent s t tag with
    | some (.pageCopy region k ep g d) =>
      let (tag', s) := takeTag s t
      let wasSent := !((linkAt s t).queue.drop ((linkAt s t).queue.length - (linkAt s t).unsent)).contains (.pageCopy region k ep g d)
      let s := setLink s t fun l => { l with queue := l.queue.erase (.pageCopy region k ep g d), aborts := sat32 (l.aborts + 1),
                                             unsent := if wasSent then l.unsent else l.unsent - 1 }
      .next (sendFelt s t (.pageCopy region k ep tag' d))
    | _ => .next s

/-- BURST_TIMEOUT (R255): 1 ms from the last fragment. -/
def execBurstTimeout (link : Nat) (tag : U16) (s : State) : Res State :=
  .next (if (burstOf s link tag).isSome then abortBurst s link tag else s)

/-! ### The twin is lost (R258, R268) -/

/-- R258, R268: the twin is declared down. -/
def twinLoss (s : State) : State := partPair (s.event 7 5 2 (detail := s.felt.twinSerial.toNat)) .twinDown

/-- FELT_TIMEOUT (R258, R268, R273): no good flit on any link. A device whose Couch has committed powers its links off. -/
def execFeltTimeout (s : State) : Res State :=
  if s.felt.pair ≠ .attached then .next s
  else
    let s := twinLoss s
    .next (if s.couch.orch = .committed then linksOff s else s)

/-- COMMIT_NOTICE (R258, R266, R273 to R275): the twin has committed: it is down, and SYNC regions are taken over; a device that
has committed as well only records it. -/
def execCommitNotice (_time _epoch : Nat) (s : State) : Res State :=
  if s.felt.pair ≠ .attached then .next s
  else match s.couch.orch with
    | .committed => .next (rindWrite s 0x0B 0 s.felt.twinSerial.toNat)
    | .serving | .armed =>
      let take := if takeoverOnCommit s then (s.regions.list.filter fun r => flagMirror r.flags = 1 && r.mirror = .inSync && !holdsToken r).map (·.num) else []
      .next ((twinLoss s).each take fun s n => requestClose s [{ change := .takeover n, req := none }])
    | .lifting | .down => .next s

/-- DETACH (R258): the twin ends the pair. -/
def execDetach (s : State) : Res State :=
  .next (if s.felt.pair = .attached then holdLinks (partPair s .detached) else s)

/-! ### Region lists (R257, R271) -/

/-- R257: the entry of a mirrored region. -/
def listEntry (r : Region) : ListEntry :=
  { region := BitVec.ofNat 16 r.num, mode := BitVec.ofNat 8 (flagMirror r.flags), generation := r.generation, size := r.size, holder := r.holder, ec := r.ec }

/-- R257: parts of at most 50 entries. -/
def listParts : Nat → List ListEntry → List (List ListEntry)
  | 0, l => [l]
  | n + 1, l => if l.length ≤ 50 then [l] else l.take 50 :: listParts n (l.drop 50)

/-- R257: a new list is sent. -/
def sendList (s : State) : State :=
  let entries := (s.regions.list.filter isMirrored).map listEntry
  let n := s.felt.listNumber + 1
  let s := s.onFelt fun f => { f with listNumber := n }
  s.each (listParts 1311 entries) fun s p => sendOne s (.regionList n.toNat p)

/-- R271, R272: the region goes to RESYNC. -/
def resync (s : State) (n : Nat) : State := checkResync (startResync s n) n

/-- R271: pages that this device accepted as holder later than E_c. -/
def ownLater (s : State) (r : Region) : Nat := ((regionPages r).filter fun p => laterSerial (foundEntry s p).epoch (lo32 r.ec)).length

/-- R270: the region is DIVERGED here; the event gives the epoch range and the page count. -/
def diverge (s : State) (n pages : Nat) : State :=
  let ec := ((regionOf s n).map (·.ec)).getD 0
  (setRegion s n fun r => { opEnded r .resync with mirror := .diverged, metaDirty := true }).event 7 6 2 (region := n)
    (detail := ec % 2 ^ 32 + 2 ^ 32 * (s.epochs.current % 2 ^ 32) + 2 ^ 64 * pages)

/-- R271: a region that the holder has and this device has not is created here, if it fits; it is filled by resynchronisation. -/
def createFrom (s : State) (x : ListEntry) : State :=
  let n := x.size / extentBytes
  if (allocationError s n 0).isSome then s.event 7 7 2 (region := x.region.toNat)
  else
    let s := createRegion s x.region.toNat x.size (BitVec.ofNat 32 x.mode.toNat ||| 0x10) (chooseRuns s n) s.epochs.closed
    setRegion s x.region.toNat fun r => { r with holder := x.holder, generation := x.generation, ec := x.ec, mirror := .resync }

/-- R271: the holder's size and mirror mode prevail at the follower. -/
def adopt (s : State) (r : Region) (x : ListEntry) : State :=
  let s := if r.size < x.size then
      let more := (x.size - r.size) / extentBytes
      if (allocationError s more r.runs.length).isSome then s.event 7 7 2 (region := r.num) else growRegion s r.num x.size (chooseRuns s more)
    else if x.size < r.size then shrinkRegion s r.num x.size else s
  setRegion s r.num fun r => { r with flags := (r.flags &&& ~~~ (3 : U32)) ||| BitVec.ofNat 32 x.mode.toNat, metaDirty := true }

/-- R270, R271: only a region that lags goes to RESYNC by itself. -/
def rejoin (s : State) (n : Nat) : State :=
  if ((regionOf s n).map fun r => decide (r.mirror = .lagging)).getD false then resync s n else s

/-- R270, R271: one region that both devices list. One that is DIVERGED here stays so until its owner discards, or takes the token by force. -/
def reconcile (s : State) (r : Region) (x : ListEntry) : State :=
  let mine := holdsToken r
  let theirs := x.holder.toNat ≠ ownSerial
  if r.mirror = .diverged then
    if mine && x.generation.toNat < r.generation.toNat then resync s r.num
    else if r.generation.toNat < x.generation.toNat then setRegion s r.num fun r => { r with holder := x.holder, generation := x.generation, metaDirty := true }
    else s
  else if r.generation = x.generation then
    if mine && theirs then diverge s r.num (ownLater s r)
    else rejoin (if mine then s else adopt s r x) r.num
  else if r.generation.toNat < x.generation.toNat then
    let later := if mine then ownLater s r else 0
    let s := setRegion s r.num fun r => { r with holder := x.holder, generation := x.generation, metaDirty := true }
    if later ≠ 0 then diverge s r.num later
    else rejoin (if theirs then adopt s r x else s) r.num
  else rejoin s r.num

/-- R271: the regions of both lists. -/
def reconcileAll (s : State) : State :=
  let peer := s.felt.peerList
  let s := s.each (s.regions.list.filter isMirrored) fun s r =>
    match peer.find? fun x => x.region.toNat = r.num with
    | some x => reconcile s r x
    | none => if holdsToken r then rejoin s r.num else destroyRegion s r.num
  s.each peer fun s x =>
    match regionOf s x.region.toNat with
    | none => if x.holder.toNat = ownSerial then s else createFrom s x
    | some r => if isMirrored r then s else s.event 7 7 2 (region := r.num)

/-- R257: a part with a reserved value is discarded and logged. -/
def partBad (part parts : Nat) (entries : List ListEntry) : Bool :=
  parts = 0 || 1311 < parts || parts ≤ part || 50 < entries.length || (entries.isEmpty && parts ≠ 1) ||
    entries.any fun x => x.region = 0 || x.region = 0xFFFF || x.mode = 0 || 2 < x.mode.toNat

/-- REGION_LIST (R257, R271): the parts of the newest list; the regions are reconciled once every part is here. -/
def execRegionList (link part parts : Nat) (listNumber : U32) (entries : List ListEntry) (s : State) : Res State :=
  if s.felt.pair ≠ .attached then .next s
  else if partBad part parts entries then .next (discardMsg s link)
  else if s.felt.partCount ≠ 0 && laterSerial s.felt.partNumber listNumber then .next s
  else
    let old := if s.felt.partNumber = listNumber && s.felt.partCount = parts then s.felt.parts else []
    let held := insertBy (·.1) (part, entries) old
    let s := s.onFelt fun f => { f with parts := held, partCount := parts, partNumber := listNumber }
    if held.length < parts then .next s
    else .next (reconcileAll (s.onFelt fun f => { f with parts := [], peerList := held.flatMap (·.2) }))

/-- REGION_LIST_TIMEOUT (R257): an incomplete list is asked for again. -/
def execRegionListTimeout (s : State) : Res State :=
  if s.felt.parts.isEmpty then .next s
  else .next (sendOne (s.onFelt fun f => { f with parts := [] }) (.listRequest s.felt.listNumber.toNat))

/-- LIST_REQUEST (R257). -/
def execListRequest (s : State) : Res State := .next (if s.felt.pair = .attached then sendList s else s)

/-- R480: a mirror message of a region, with a tag of which `ok` holds. -/
def mirrorMsg (n : Nat) (ok : U16 → Bool) : FeltMsg → Bool
  | .mirrorWrite g _ _ tag _ _ _ | .pageCopy g _ _ tag _ | .pageZero g _ _ tag => g = n && ok tag
  | _ => false

/-- R270, R480: what a refusal ends on a link: the messages that it names, and those of the region that were not sent yet. -/
def refusedOn (l : Link) (n : Nat) (tags : List U16) : List FeltMsg :=
  let sent := l.queue.length - l.unsent
  (l.queue.take sent).filter (mirrorMsg n tags.contains) ++ (l.queue.drop sent).filter (mirrorMsg n fun _ => true)

/-- R480: the link without them. -/
def withoutRefused (l : Link) (n : Nat) (tags : List U16) : Link :=
  let sent := l.queue.length - l.unsent
  let rest := (l.queue.drop sent).filter fun m => !mirrorMsg n (fun _ => true) m
  { l with queue := ((l.queue.take sent).filter fun m => !mirrorMsg n tags.contains m) ++ rest, unsent := rest.length }

/-- R480: a write, or a page of ZERO_LINES, whose message the twin does not take completes on local durability. -/
def endRefused (s : State) : FeltMsg → State
  | .mirrorWrite n _ li tag _ _ _ => match ackedReq s (msgLine s n li) tag with
    | some q => twinDone s q
    | none => s
  | .pageZero _ _ _ tag => zeroAcked s tag
  | _ => s

/-- MIRROR_REFUSED (R480): the writes named complete here, and the region lags until it is reconciled. -/
def execMirrorRefused (region : U16) (tags : List U16) (s : State) : Res State :=
  if region = 0xFFFF then .next (discardAny s)
  else match regionOf s region.toNat with
  | none => .next s
  | some r =>
    if !isMirrored r || !holdsToken r then .next s
    else
      let s := s.each (s.felt.links.flatMap fun l => refusedOn l r.num tags) endRefused
      let s := s.onFelt fun f => { f with links := f.links.map fun l => withoutRefused l r.num tags
                                          resyncTodo := f.resyncTodo.filter (·.1 ≠ r.num), resyncOut := f.resyncOut.filter (·.1 ≠ r.num) }
      let s := setRegion s r.num fun r =>
        { opEnded r .resync with mirror := .lagging, ec := if r.mirror = .inSync then commonEpoch s r else r.ec, metaDirty := true }
      .next (sendOne (sendList s) (.listRequest s.felt.listNumber.toNat))

/-! ### HELLO, STATUS and the pair's state (R256, R258 to R260) -/

/-- R256: what HELLO fails with. -/
def helloFault (link : Nat) (b : List Byte) : Option Nat :=
  if field b 2 2 ≠ 1 then some 1 else if field b 4 8 = ownSerial then some 2 else if field b 12 1 ≠ link then some 3 else none

def helloRecord (b : List Byte) : Bool :=
  b.length = 64 && field b 0 1 = 1 && field b 1 1 = 1 && (crc32c (b.take 60)).toNat = field b 60 4

/-- R258, R259: the pair forms: epochs are aligned at a local close, the list is sent. -/
def formPair (s : State) (link : Nat) (b : List Byte) : State :=
  let was := s.felt.pair
  let s := s.onFelt fun f =>
    { f with pair := .attached, peerMask := BitVec.ofNat 8 (field b 13 1), twinSerial := BitVec.ofNat 64 (field b 4 8), twinClosed := field b 24 8,
             twinLocked := field b 40 1 = 1, partCount := 0, parts := [], hellos := f.hellos.filter (·.1 ≠ link) }
  let s := s.onEpochs fun e => { e with paired := true }
  let s := (lagRegions s).each ((List.range 8).filter fun t => !linkShared s t) holdLink
  let s := sendList (joinMapping s)
  let s := requestClose s [{ change := .align (max s.epochs.current (field b 16 8)), req := none }]
  if was = .linking then endLongOf s (· = .attach) .ok 0 [] else s

/-- R258: the attach ends without a pair. -/
def attachFails (s : State) (st : Status) (detail : Nat) : State := endLongOf (holdLinks s) (· = .attach) st detail []

/-- R258: HELLO has failed on every link that came up, and no link still trains. -/
def helloLost (s : State) : Bool :=
  let up := (List.range 8).filter fun t => (linkAt s t).st = .up
  (up.all fun t => s.felt.hellos.any (·.1 = t)) && !s.felt.hellos.isEmpty && !(s.felt.links.any fun l => l.st = .fullTrain || l.st = .trained)

/-- HELLO (R256, R258, R259, R271). -/
def execHello (link : Nat) (bytes : List Byte) (s : State) : Res State :=
  if s.felt.pair = .detached || (linkAt s link).st ≠ .up then .next s
  else if !helloRecord bytes then .next (discardMsg s link)
  else match helloFault link bytes with
    | some d =>
      let s := (s.onFelt fun f => { f with hellos := f.hellos.filter (·.1 ≠ link) ++ [(link, d)] }).event 7 3 2 (unitWord 6 link) (detail := d)
      let lost := s.felt.pair = .linking && helloLost s
      let s := if d = 3 then holdLink s link else s
      .next (if lost then attachFails s .conflict d else s)
    | none =>
      if s.felt.pair = .attached then .next (joinMapping (s.onFelt fun f => { f with hellos := f.hellos.filter (·.1 ≠ link) }))
      else .next (formPair s link bytes)

/-- LINKING_TIMEOUT (R258): no link is up within 1 s, or HELLO failed on those that are. -/
def execLinkingTimeout (s : State) : Res State :=
  if s.felt.pair ≠ .linking then .next s
  else match s.felt.hellos.getLast? with
    | some (_, d) => .next (attachFails s .conflict d)
    | none => .next (if s.felt.links.any (·.st = .up) then s else attachFails s .twinDown 0)

/-- R260: the measured offset (log entry 37); one above 50 ns for 1 s is logged. -/
def measureOffset (s : State) : State :=
  let o := Config.feltOffset s.fresh
  let s := s.draw
  let over_ := 50 < o.natAbs
  let since := if over_ then some (s.felt.offsetSince.getD s.now) else none
  let due := over_ && ((s.felt.offsetSince.map fun t => decide (t + second ≤ s.now)).getD false)
  let s := s.onFelt fun f => { f with offset := o, offsetSince := if due then some s.now else since }
  if due then s.event 7 4 1 (detail := o.natAbs) else s

/-- R260: the time master: 0 this device, 1 the twin, 2 both locked. -/
def timeMaster (s : State) : Nat :=
  match s.power.ppsLocked, s.felt.twinLocked with
  | true, true => 2
  | true, false => 0
  | false, true => 1
  | false, false => if timeMasterSetting s = 1 then 0 else if timeMasterSetting s = 2 then 1 else if ownSerial ≤ s.felt.twinSerial.toNat then 0 else 1

/-- R260: the follower of the timebases slews its own toward the twin's, 1 ns in each millisecond at most (log entry 121). -/
def slewTime (s : State) : State :=
  if timeMaster s ≠ 1 || s.felt.offset = 0 || s.now < s.felt.slewAt + 1000000 then s
  else s.onFelt fun f => { f with slew := if 0 < f.offset then 1 else -1, slewAt := s.now }

/-- STATUS (R256, R260, R263): the twin's pressure, energy and epochs. -/
def execStatus (link pressure : Nat) (energy : Energy) (closed _mirrored _sentAt : Nat) (s : State) : Res State :=
  if s.felt.pair ≠ .attached || (linkAt s link).st ≠ .up then .next s
  else .next (slewTime (measureOffset (s.onFelt fun f => { f with twinPressure := pressure, twinEnergy := energy, twinClosed := closed })))

/-- STATUS_SEND_TICK (R256): every 1 ms on every up link; the pressure in units of 0.001. -/
def execStatusSendTick (s : State) : Res State :=
  .next (if s.felt.pair = .attached then sendAll s (.status (pressure s / 10) s.sal.state s.epochs.closed s.epochs.mirrored s.now) else s)

/-- CLOSE (R36, R259): the twin has drained; its close and this device's merge. -/
def execClose (epoch : Nat) (s : State) : Res State :=
  if s.felt.pair ≠ .attached then .next s
  else match s.epochs.running with
    | some c => .next (if c.epoch = epoch then s.onEpochs fun e => { e with running := some { c with peerDone := true } } else s)
    | none => .next (if s.epochs.current = epoch then startClose s [] false true else s)

/-! ### Region operations and tokens (R265, R266) -/

/-- R265 step 2: the follower's check, with the runs that it reserves. -/
def followerCheck (s : State) (n : Nat) (op : RegionOpKind) : OpAnswer × List (Nat × Nat) :=
  let noKey (f : U32) : Bool := flagCipher f && (slotOfRegion s n).isNone && ((starterKey s).isNone || (freeKeySlot s).isNone)
  match op with
  | .create size flags =>
    if (regionOf s n).isSome || (waitingChanges s).any fun c => changeRegion c = n then (.conflict, [])
    else if (allocationError s (size / extentBytes) 0).isSome || noKey flags then (.noSpace, [])
    else (.accepted, chooseRuns s (size / extentBytes))
  | .resize size => match following s n with
    | none => (.conflict, [])
    | some r =>
      if size ≤ r.size then (.accepted, [])
      else if (allocationError s ((size - r.size) / extentBytes) r.runs.length).isSome then (.noSpace, [])
      else (.accepted, chooseRuns s ((size - r.size) / extentBytes))
  | .destroy => if (following s n).isSome then (.accepted, []) else (.conflict, [])
  | .setFlags flags => if (following s n).isNone then (.conflict, []) else if noKey flags then (.noSpace, []) else (.accepted, [])
  | .answer _ => (.conflict, [])

/-- R265 step 3: neither device changes; the reply gives CONFLICT 15 or NO_SPACE 2. -/
def refuseChange (s : State) (j : Joined) (st : Status) (d : Nat) : State :=
  let s := unreserve s (changeRuns j.change)
  let s := match j.change with
    | .shrinkDone n size => endLongOf (setRegion s n fun r => opEnded r .shrink) (· = .shrink n size) st d []
    | .setFlags n _ => s.onCmd fun c => { c with longOps := c.longOps.filter fun o => o.kind ≠ .mirrorOn n && o.kind ≠ .d0fill n }
    | _ => s
  answerJoined s j.req st d []

/-- R265 steps 3 and 4: the follower's answer. -/
def takeAnswer (s : State) (n : Nat) (a : OpAnswer) : State :=
  match s.felt.opReqs.find? fun x => x.1 = n && s.felt.ops.any (·.1 = n) with
  | none => s
  | some x =>
    let s := s.onFelt fun f => { f with opReqs := f.opReqs.erase x, ops := f.ops.filter (·.1 ≠ n) }
    match a with
    | .accepted => requestClose s [x.2]
    | .conflict => refuseChange s x.2 .conflict 15
    | .noSpace => refuseChange s x.2 .noSpace 2

/-- REGION_OP (R265). -/
def execRegionOp (region : U16) (op : RegionOpKind) (s : State) : Res State :=
  let n := region.toNat
  if s.felt.pair ≠ .attached then .next s
  else match op with
    | .answer a => .next (finishCloses (takeAnswer s n a))
    | .create _ _ | .resize _ | .destroy | .setFlags _ =>
      let (a, runs) := followerCheck s n op
      let s := if a = .accepted then
          (reserveRuns s runs).onFelt fun f => { f with reservedOps := f.reservedOps.filter (·.1 ≠ n) ++ [(n, op, runs)] }
        else s
      .next (sendOne s (.regionOp n (.answer a)))

/-- TOKEN_OP (R266): an offer moves the token and is accepted; the acceptance ends the hand-over. -/
def execTokenOp (region : U16) (kind : TokenKind) (generation : U32) (s : State) : Res State :=
  let n := region.toNat
  if s.felt.pair ≠ .attached then .next s
  else match regionOf s n with
    | none => .next s
    | some r =>
      if !isMirrored r then .next s
      else match kind with
        | .offer =>
          let holder := if holdsToken r then s.felt.twinSerial.toNat else ownSerial
          .next (sendOne (takeToken s n holder generation) (.tokenOp n .accept generation))
        | .accept =>
          match s.felt.opReqs.find? fun x => match x.2.change with | .handover m _ => m = n | _ => false with
          | some x =>
            let s := s.onFelt fun f => { f with opReqs := f.opReqs.erase x }
            let s := if x.2.change = .handover n false then takeToken s n ownSerial generation else s
            .next (finishCloses (answerJoined s x.2.req .ok 0 []))
          | none => .next s
        | .force => .next (if r.generation.toNat < generation.toNat then takeToken s n s.felt.twinSerial.toNat generation else s)

/-! ### Group 0x05 (R315) -/

/-- TWIN_ATTACH (R258). -/
def execTwinAttach (r : Req) (s : State) : Res State :=
  .next <| command s r 0x0501 none .owner .service fun s x =>
    checked s r 0x0501 [(s.felt.pair ≠ .detached, .busy, 3)] fun s =>
      startLong s r 0x0501 x .attach 1000 2 fun s => s.onFelt fun f =>
        { f with pair := .linking, hellos := [],
                 links := f.links.zipIdx.map fun (l, t) => if linkAllowed s t then { l with st := .fullTrain } else l }

/-- TWIN_DETACH (R258): pair-wide close, the lag applied, then DETACH. -/
def execTwinDetach (r : Req) (s : State) : Res State :=
  .next <| command s r 0x0502 none .owner .fromLift fun s x =>
    checked s r 0x0502 [(s.felt.pair = .linking, .busy, 3)] fun s =>
      match s.felt.pair with
      | .attached => requestClose (defer s x r) [{ change := .detach, req := some (r, 0x0502, x.num) }]
      | .twinDown => ok (holdLinks s) r 0x0502 []
      | .detached | .linking => ok s r 0x0502 []

def maskOf (p : Nat → Bool) : Nat := ((List.range 8).map fun t => if p t then 2 ^ t else 0).sum

def twinStatusBytes (s : State) : List Byte :=
  let f := s.felt
  le 1 (pairCode f.pair) ++ le 1 (maskOf fun t => (linkAt s t).st = .up) ++ le 1 (maskOf (linkShared s)) ++ le 1 (timeMaster s) ++
    le 8 f.twinSerial.toNat ++ leInt 4 f.offset ++ [BitVec.ofNat 8 (energyCode f.twinEnergy), 0] ++ le 2 f.twinPressure ++ le 8 f.twinClosed ++
    le 4 (s.regions.list.filter isMirrored).length ++ f.links.flatMap fun l => le 4 l.replays ++ le 4 l.aborts

/-- TWIN_STATUS (R315). -/
def execTwinStatus (r : Req) (s : State) : Res State :=
  .next <| command s r 0x0503 none .session .fromLift fun s _ => ok s r 0x0503 (twinStatusBytes s)

def firstReserved (a b : Option (Status × Nat)) : Option (Status × Nat) := match a with | some e => some e | none => b

/-- TWIN_RESYNC (R270 to R272): with the discard flag a DIVERGED device becomes the follower. -/
def execTwinResync (r : Req) (region : U16) (flags : U8) (s : State) : Res State :=
  .next <| command s r 0x0504 (firstReserved (regionReserved region 16) (if 2 ≤ flags.toNat then some (.reservedField, 18) else none)) .owner .service fun s x =>
    withRegion s r 0x0504 x region 16 fun g =>
      let discard := decide (flags = 1)
      let held := g.mirror = .diverged && !discard && !holdsToken g
      checked s r 0x0504
          [(!isMirrored g, .range, 16), (s.felt.pair ≠ .attached, .twinDown, 0), (discard && g.mirror ≠ .diverged, .conflict, 4),
           (held, .conflict, 2), (regionBusy s g, .busy, 3)] fun s =>
        if g.mirror = .inSync then ok s r 0x0504 []
        else
          startLong s r 0x0504 x (.resync g.num) (resyncPages s g).length 1 fun s =>
            let s := if discard then setRegion s g.num fun g => { g with holder := s.felt.twinSerial, metaDirty := true } else s
            resync s g.num

/-- R266, R315: TWIN_ROLE: with the force flag the token is taken at the next local epoch, without it it is handed over. -/
def twinRole (s : State) (r : Req) (region : U16) (flags : U8) : State :=
  let force := flags.getLsbD 0
  let target := flags.getLsbD 1
  command s r 0x0505 (firstReserved (regionReserved region 16) (if 4 ≤ flags.toNat || (force && target) then some (.reservedField, 18) else none))
    .owner .service fun s x =>
    withRegion s r 0x0505 x region 16 fun g =>
      checked s r 0x0505
          [(!isMirrored g, .range, 16), (!force && s.felt.pair ≠ .attached, .twinDown, 0), (!force && g.mirror ≠ .inSync, .conflict, 2),
           (force && s.felt.pair ≠ .twinDown && s.felt.pair ≠ .detached, .conflict, 2), (regionBusy s g, .busy, 3)] fun s =>
        if holdsToken g != target then ok s r 0x0505 []
        else requestClose (defer s x r) [{ change := if force then .force g.num else .handover g.num target, req := some (r, 0x0505, x.num) }]

/-- TWIN_ROLE without the force flag (R266). -/
def execTwinRoleHandover (r : Req) (region : U16) (flags : U8) (s : State) : Res State := .next (twinRole s r region flags)

/-- TWIN_ROLE with the force flag (R266, R267). -/
def execTwinRoleForce (r : Req) (region : U16) (flags : U8) (s : State) : Res State := .next (twinRole s r region flags)

end Sys2Proof.Machine
end

