-- ==== Sys2Proof/Machine/Firmware.lean ====
section
/-! DEFINITION. Firmware: download, verification, activation, confirmation, status, and the diagnostic groups (R302, R323, R324, R422 to R433). -/

namespace Sys2Proof.Machine

/-! ### FW_DOWNLOAD (R323, R417, R432, R433) -/

/-- R323, R417: the largest image that a slot accepts: 24 MiB less 64 KiB for each sector withdrawn. -/
def slotRoom (s : State) (b : Bool) : Nat :=
  24 * 1024 * 1024 - 65536 * (s.ledger.withdrawn.filter fun n => slotSector b ≤ n && n < slotSector b + 384).length

def imageSizeBad (s : State) (size : Nat) : Bool := size % 4 ≠ 0 || size < 4096 || slotRoom s (downloadSlot s) < size

/-- R324: an erase or a verification runs. -/
def fwBusy (s : State) : Bool := longRuns s fun k => k = .fwErase || k = .fwVerify

/-- R323: the offset that the next packet of a download is to carry; 0 where none runs. -/
def expectedOffset (s : State) : Nat := match (slotOf s (downloadSlot s)).st with | .downloading | .erasing => (slotOf s (downloadSlot s)).received | _ => 0

/-- Data written to the slot in ascending offset; the image is complete with its last byte. -/
def appendImage (s : State) (data : List Byte) : State :=
  setSlot s (downloadSlot s) fun f =>
    let n := f.received + data.length
    { f with bytes := f.bytes ++ data, received := n, st := if n = f.declared then .complete else f.st }

/-- FW_DOWNLOAD: offset 0 erases the slot, the packet's data standing in it once it is erased; a later offset continues. -/
def execFwDownload (r : Req) (offset size : U32) (data : List Byte) (s : State) : Res State :=
  .next <| command s r 0x0C01 none .owner .notCouch fun s x =>
    let b := downloadSlot s
    let f := slotOf s b
    let n := size.toNat
    let sizeCheck := (imageSizeBad s n, Status.range, 20)
    let beyond := (decide (n < offset.toNat + data.length), Status.range, 24)
    if offset = 0 then
      checked s r 0x0C01 [sizeCheck, beyond, (s.ledger.trial || slotPending s b, .conflict, 2), (fwBusy s, .busy, 3)] fun s =>
        startLong s r 0x0C01 x .fwErase ((n + 65535) / 65536 * 65536) 0 fun s =>
          fwEraseNext (setSlot s b fun _ => { st := .erasing, image := none, declared := n, received := data.length, bytes := data })
    else if offset.toNat ≠ expectedOffset s then reply s r 0x0C01 .conflict 8 (le 4 (expectedOffset s))
    else checked s r 0x0C01 [sizeCheck, (decide (n ≠ f.declared), .range, 20), beyond, (fwBusy s, .busy, 3)] fun s =>
      let s := appendImage s data
      ok s r 0x0C01 (le 4 (slotOf s b).received)

/-! ### FW_VERIFY (R324, R425) -/

/-- R323: an image stands whole in the slot. -/
def slotWhole (f : FwSlot) : Bool := f.st = .complete || f.st = .verified || f.st = .pending

/-- FW_VERIFY. Its progress counts bytes of the image. -/
def execFwVerify (r : Req) (s : State) : Res State :=
  .next <| command s r 0x0C02 none .owner .notCouch fun s x =>
    let f := slotOf s (downloadSlot s)
    checked s r 0x0C02 [(!slotWhole f, .conflict, 10), (fwBusy s, .busy, 3)] fun s => startLong s r 0x0C02 x .fwVerify f.declared 0 fun s => s

/-- FW_VERIFY_COMPLETE (R425): the slot becomes verified or invalid; `genuine`: its signature checks. -/
def execFwVerifyComplete (genuine : Bool) (s : State) : Res State :=
  if !longRuns s (· = .fwVerify) then .next s
  else
    let b := downloadSlot s
    match slotImage (slotOf s b) genuine with
    | none => .next (endLongOf (setSlot s b fun f => { f with st := .invalid }) (· = .fwVerify) .conflict 10 [])
    | some image =>
    if imageValid s image && decide (image.size = (slotOf s b).declared) then
      .next (endLongOf (setSlot s b fun f => { f with st := .verified, image := some image }) (· = .fwVerify) .ok 0 (le 4 image.version.toNat))
    else .next (endLongOf (setSlot s b fun f => { f with st := .invalid, image := some image }) (· = .fwVerify) .conflict (if image.signatureOk then 10 else 9) [])

/-! ### FW_ACTIVATE and FW_CONFIRM (R37, R40, R324, R424 to R429) -/

/-- R425: the image reads the format 0x0001 that the running image writes and that every generation and stage has. -/
def formatsMissing (s : State) (b : Bool) : Bool := s.cmd.ready ≠ .recovery && !(((slotOf s b).image.map (·.formats.getLsbD 0)).getD false)

/-- R426, R429: the activation record: an unconfirmed ACTIVATE, or in loader recovery a RECOVERY record. -/
def activate_ (s : State) (b now_ : Bool) : State :=
  if s.cmd.ready = .recovery then recovery s b else putRecord s (recordFor s 1 b now_ false)

/-- FW_ACTIVATE: mode 1 is followed by a WARM reset, after the reply. -/
def execFwActivate (r : Req) (mode : U8) (s : State) : Res State :=
  .next <| command s r 0x0C03 (if 1 < mode.toNat then some (.reservedField, 16) else none) .owner .notCouch fun s _ =>
    let b := downloadSlot s
    checked s r 0x0C03
        [((slotOf s b).st ≠ .verified || fwBusy s, .conflict, 10), (formatsMissing s b, .conflict, 11), (s.couch.orch = .armed, .busy, 7)] fun s =>
      let s := ok (activate_ s b (mode = 1)) r 0x0C03 []
      if mode = 1 then warmReset s else s

/-- FW_CONFIRM: the confirm mark, then the fuses, then the reply. -/
def execFwConfirm (r : Req) (s : State) : Res State :=
  .next <| command s r 0x0C04 none .owner .notCouch fun s _ =>
    if s.ledger.trial then
      let s := (putActivations s (confirmNewest s.ledger.running s.ledger.activations)).onLedger fun l => { l with trial := false }
      ok (blowFuses s) r 0x0C04 []
    else ok s r 0x0C04 []

/-! ### FW_STATUS (R323) -/

def slotCode : SlotSt → Nat
  | .erased => 0 | .erasing => 1 | .downloading => 2 | .complete => 3 | .verified => 4 | .pending => 5 | .invalid => 6

/-- The version that a slot's image declares, 0 where none stands. -/
def slotVersion (f : FwSlot) : Nat := match f.image with | some i => i.version.toNat | none => field f.bytes 4 4

/-- R323: the 24 bytes of FW_STATUS. -/
def fwStatusBytes (s : State) : List Byte :=
  let b := !s.ledger.running
  let f := slotOf s b
  le 1 (if s.ledger.running then 1 else 0) ++ le 1 (if s.ledger.trial then 1 else 0) ++
    le 1 (if s.ledger.trial then ((effectiveRecord s).map (·.boots)).getD 0 else 0) ++ le 1 (if slotPending s b then 5 else slotCode f.st) ++
    le 4 (slotVersion s.ledger.slotA) ++ le 4 (slotVersion s.ledger.slotB) ++ le 4 f.received ++ le 4 f.declared ++ le 4 0

/-- FW_STATUS. -/
def execFwStatus (r : Req) (s : State) : Res State :=
  .next <| command s r 0x0C05 none .session .notCouch fun s _ => ok s r 0x0C05 (fwStatusBytes s)

/-! ### The diagnostic groups (R277, R302) -/

/-- The channel's session holds a diagnostic unlock. -/
def unlocked (s : State) (ch : Chan) : Bool := ((sessionOn s ch).map fun x => decide (x.kind = .diagnostic)).getD false

/-- DIAGNOSTIC_OPCODE: locked, it is refused at step 6 of R284; unlocked, the manual gives the opcode no meaning. -/
def execDiagnosticOpcode (r : Req) (opcode : U16) (s : State) : Res State :=
  if readyCode s = 0 || replyQueueFull s r.ch || !recoveryChannel s r.ch then .next s
  else if unlocked s r.ch then .refused .diagnosticOpcodeNotDescribed
  else .next (reject s r opcode .notOwner 4)

end Sys2Proof.Machine
end

