-- ==== Sys2Proof/Machine/Wire.lean ====
section
/-! DEFINITION. The Wire: its links and routers, the checks of a beat, arbitration, retry, and the beats of a replaced engine (R11 to R13, R17, R18, R20 to R29, R448). -/

namespace Sys2Proof.Machine

def bitsOdd : Nat → Nat → Bool
  | 0, _ => false
  | k + 1, n => (n % 2 = 1) ^^ bitsOdd k (n / 2)

/-- R20: byte k of the five flits, tag bytes first. -/
def beatByte (b : Beat) (k : Nat) : Nat := if k < 16 then b.tag.toNat / 256 ^ k % 256 else b.payload.toNat / 256 ^ (k - 16) % 256

/-- R20, R28: every byte agrees with its even-parity bit. -/
def parityGood (b : Beat) : Bool := (List.range 80).all fun k => b.parity.getLsbD k = bitsOdd 8 (beatByte b k)

/-- R22: fields of the tag header. -/
def beatDest (b : Beat) : U16 := b.tag.extractLsb' 112 16
def beatSource (b : Beat) : U16 := b.tag.extractLsb' 96 16
def beatClass (b : Beat) : BitVec 4 := b.tag.extractLsb' 92 4
def beatSequence (b : Beat) : Nat := b.tag.toNat % 2 ^ 28

/-- R24: valid indices of a Wire address class. -/
def wireIndices (cls : Nat) : Nat := [0, 160, 16, 16, 48, 16, 8, 16, 110, 16, 1, 1, 4].getD cls 0

/-- R22, R24: a source is a unit of class 0x1 to 0xB; a destination may be a multicast group. -/
def sourceGood (a : U16) : Bool := a.toNat / 4096 ≤ 11 && a.toNat % 4096 < wireIndices (a.toNat / 4096)
def destGood (a : U16) : Bool := a.toNat % 4096 < wireIndices (a.toNat / 4096)

/-- R24: the island of a destination; a multicast group has none. -/
def wireIsland (a : U16) : Option Island :=
  let i := a.toNat % 4096
  match a.toNat / 4096 with
  | 1 => some (.en (i / 16)) | 2 => some (.cu i) | 3 => some (.mc i) | 4 => some (.fc i) | 5 => some (.hp i) | 6 => some (.tw i)
  | 7 => some .cx | 8 | 9 | 11 => some .sv | 10 => some .px | _ => none

/-- The unit that a Wire address names, where R297 has it. -/
def wireUnit (a : U16) : Option UnitId := (unitField a 0).toOption

/-! ### Links and routers (R20, R21) -/

def wireLinkAt (s : State) (no : Nat) : WireLink :=
  (s.wire.links.find? (·.no = no)).getD { no := no, failures := 0, beat := none, retry := [], beats := [], retries := [], logged := none, fenced := false }

def setWireLink (s : State) (l : WireLink) : State := s.onWire fun w => { w with links := insertBy (·.no) l w.links }

/-- R10: the islands by their index. -/
def islandAt (k : Nat) : Island :=
  if k < 16 then .hp k else if k < 24 then .tw (k - 16) else if k < 40 then .mc (k - 24) else if k < 88 then .fc (k - 40)
  else if k < 104 then .cu (k - 88) else if k = 104 then .px else if k = 105 then .cx else if k < 116 then .en (k - 106) else .sv

/-- What a link direction joins: a router's output to its neighbour, an island to its router, or a router to its island. -/
inductive LinkEnds where
  | mesh (sender receiver : Nat × Nat)
  | up (i : Island)
  | down (i : Island)
  deriving DecidableEq, Repr

/-- The number of a router's output to a neighbour (log entry 34). -/
def meshLink (r : Nat × Nat) (h : Nat) : Nat := ((r.1 % 64) * 64 + r.2 % 64) * 4 + h

/-- The numbers of an island's two link directions (log entry 34). -/
def upLink (i : Island) : Nat := 16384 + 2 * islandIndex i
def downLink (i : Island) : Nat := 16385 + 2 * islandIndex i

/-- The router that an output leads to: 0 east, 1 west, 2 south, 3 north. -/
def neighbour (r : Nat × Nat) (h : Nat) : Nat × Nat :=
  match h with
  | 0 => (r.1, r.2 + 1)
  | 1 => (r.1, r.2 - 1)
  | 2 => (r.1 + 1, r.2)
  | _ => (r.1 - 1, r.2)

/-- What a link number joins. -/
def linkEndsOf (no : Nat) : LinkEnds :=
  if no < 16384 then
    let r := (no / 4 / 64, no / 4 % 64)
    .mesh r (neighbour r (no % 4))
  else if no % 2 = 0 then .up (islandAt ((no - 16384) / 2)) else .down (islandAt ((no - 16384) / 2))

def hopCode : Hop → Nat
  | .east => 0 | .west => 1 | .south => 2 | .north => 3 | .island _ => 4

def hopOf : Nat → Hop
  | 0 => .east | 1 => .west | 2 => .south | _ => .north

/-- The link of a router's output. -/
def hopLink (r : Nat × Nat) : Hop → Nat
  | .island i => downLink i
  | h => meshLink r (hopCode h)

/-- R28: the other direction of a link. -/
def reverseLink (no : Nat) : Nat :=
  match linkEndsOf no with
  | .mesh _ b => meshLink b (no % 4 ^^^ 1)
  | .up i => downLink i
  | .down i => upLink i

/-- R28: the mesh links whose loss the routers route around. -/
def lostMeshLinks (s : State) : List Nat := (s.wire.links.filter fun l => l.fenced && decide (l.no < 16384)).map (·.no)

/-- R21, R28: the output toward an island: along the row first and then along the column, or as the fault route table of the lost
links says. -/
def nextHop (s : State) (r : Nat × Nat) (i : Island) : Hop :=
  let d := routerFor i
  if r = d then .island i
  else match lostMeshLinks s with
    | l :: ls => hopOf (Config.faultRoute (l :: ls) r d)
    | [] => if r.2 < d.2 then .east else if d.2 < r.2 then .west else if r.1 < d.1 then .south else .north

/-! ### Fields of the tag (R22) -/

/-- R22: the priority that orders a beat within its class: 7 only in CTL beats of barriers and epoch closes and, once the Couch has
committed, in CCH beats. -/
def beatPriority (s : State) (b : Beat) : Nat :=
  let p := b.tag.toNat / 2 ^ 28 % 8
  if p = 7 && !((beatClass b = 3 && Config.barrierBeat b.payload) || (beatClass b = 4 && s.wire.cchFirst)) then 6 else p

def beatKeySlot (b : Beat) : Nat := b.tag.toNat / 2 ^ 50 % 1024
def beatKeyGen (b : Beat) : Nat := b.tag.toNat / 2 ^ 48 % 4
def beatRegion (b : Beat) : Nat := b.tag.toNat / 2 ^ 32 % 65536

/-- R22: a beat to or from the cipher complex in a region with cipher on names a generation that its slot does not accept. -/
def keyRefused (s : State) (b : Beat) : Bool :=
  (beatDest b).toNat / 4096 = 7 && ((regionOf s (beatRegion b)).map fun r => flagCipher r.flags).getD false &&
    !((s.cipher.slots.find? (·.slot = beatKeySlot b)).map fun k =>
        decide (beatKeyGen b = k.generation % 4) || decide (beatKeyGen b = (k.generation + 3) % 4)).getD false

/-- R20: the beat with another destination; the even-parity bits of the two bytes that it changes follow. -/
def withDest (b : Beat) (a : U16) : Beat :=
  let c := { b with tag := a ++ b.tag.extractLsb' 0 112 }
  { c with parity := BitVec.ofNat 80 (((List.range 80).map fun k => if (if 14 ≤ k && k < 16 then bitsOdd 8 (beatByte c k) else b.parity.getLsbD k) then 2 ^ k else 0).sum) }

/-! ### Endpoints (R16, R24, R32) -/

/-- The address by which an island receives a broadcast: its first unit, for a cluster its first engine whose messages are not redirected
(log entry 34). -/
def islandAddress (s : State) (i : Island) : U16 :=
  match i with
  | .en k => unitWord 1 (((List.range 16).map (16 * k + ·)).find? (fun e => !s.wire.redirect.any (·.1 = e)) |>.getD (16 * k)) | .cu k => unitWord 2 k | .mc k => unitWord 3 k | .fc k => unitWord 4 k | .hp k => unitWord 5 k
  | .tw k => unitWord 6 k | .cx => unitWord 7 0 | .px => unitWord 10 0 | .sv => unitWord 11 0

/-- R13: an island that is powered and routed. -/
def routed (s : State) (i : Island) : Bool := !s.wire.unrouted.contains i

/-- R17, R32: endpoints that take part in trees and groups: powered, unfenced, and resumed where a spare has replaced an engine. -/
def liveEngines (s : State) : List Nat :=
  (List.range 160).filter fun e => (engineAt s e).unit.st = .inService && !(engineAt s e).resuming && routed s (.en (e / 16))
def livePorts (s : State) : List Nat :=
  (List.range 16).filter fun p => (s.units.ports.getD p .reset).st = .inService && routed s (.hp p)
def liveLinks (s : State) : List Nat :=
  (List.range 8).filter fun t => (s.units.links.getD t .reset).st = .inService && routed s (.tw t)

/-- R34: the epoch participants: host ports, engines and Felt links. -/
def epochParticipants (s : State) : List U16 :=
  (livePorts s).map (unitWord 5) ++ (liveEngines s).map (unitWord 1) ++ (liveLinks s).map (unitWord 6)

/-- R24: the members of a multicast group. -/
def groupMembers (s : State) (g : Nat) : List U16 :=
  match g with
  | 0 => (((List.range 117).map islandAt).filter (routed s)).map (islandAddress s)
  | 1 => (liveEngines s).map (unitWord 1)
  | 2 => (livePorts s).map (unitWord 5)
  | _ => epochParticipants s

/-- R16: the endpoint to which a router delivers a beat: the role redirection table stands before the fenced engine's number. -/
def resolveDest (s : State) (a : U16) : U16 :=
  if a.toNat / 4096 = 1 then
    match s.wire.redirect.find? (·.1 = a.toNat % 4096) with
    | some (_, k) => unitWord 1 k
    | none => a
  else a

/-- R231: engines that a committed Couch halts: all but the Couch/Lift, management, service and Felt engines, and port engines with accepted
requests. -/
def halted (s : State) (e : Engine) : Bool :=
  s.couch.orch = .committed && match e.role with
    | .couch | .management | .service | .felt => false
    | .port => !(s.cxl.reqs.any (·.port = e.instance_))
    | .ream | .tier | .spare | .fenced => true

/-- R17, R231: the issue port of a fenced engine is closed, and a halted one issues nothing. -/
def issueClosed (s : State) (b : Beat) : Bool :=
  let e := engineAt s ((beatSource b).toNat % 4096)
  (beatSource b).toNat / 4096 = 1 && (e.unit.st ≠ .inService || halted s e)

/-! ### Duplicates (R23) -/

/-- R23: the receiver has accepted the beat within the last 2^20 sequence values of its source and class. -/
def duplicate (s : State) (b : Beat) : Bool :=
  s.wire.accepted.any fun x => x.1 = resolveDest s (beatDest b) && x.2.1 = beatSource b && x.2.2.1 = beatClass b && x.2.2.2 = beatSequence b

/-- R22, R23: of two sequence numbers the later, counted modulo 2^28. -/
def laterSequence (a b : Nat) : Nat := if (b + 2 ^ 28 - a) % 2 ^ 28 < 2 ^ 27 then b else a

/-- R23: sequence values that lie 2^20 or more behind the newest of their source and class are forgotten. -/
def remember (s : State) (b : Beat) : State :=
  let d := resolveDest s (beatDest b)
  let same (x : U16 × U16 × BitVec 4 × Nat) : Bool := x.1 = d && x.2.1 = beatSource b && x.2.2.1 = beatClass b
  s.onWire fun w =>
    let newest := ((w.accepted.filter same).map (·.2.2.2)).foldl laterSequence (beatSequence b)
    { w with accepted := (w.accepted ++ [(d, beatSource b, beatClass b, beatSequence b)]).filter fun x =>
        !(same x && 2 ^ 20 ≤ (newest + 2 ^ 28 - x.2.2.2) % 2 ^ 28) }

/-! ### The trace (R448) -/

/-- R448: entries that the buffer holds beside none: 32 bytes each. -/
def traceRoom (t : Trace) : Nat := t.kib * 32

/-- R448: the unit's router, where its captures are staged. -/
def traceRouter (u : U16) : Nat × Nat :=
  routerFor (eventIsland { cls := 1, severity := 0, code := 0, unit := u, head := 255, ld := 255, region := 0xFFFF, address := 0, detail := 0,
                           completion := false, injected := false })

/-- R448: a capture is staged at its router until the service engines, 1 GB/s each, have carried it to the buffer; a full staging of 16
drops it, and a full buffer wraps over its oldest. -/
def traceEntry (now engines : Nat) (t : Trace) (e : Nat × Beat × U16 × Bool) : Trace :=
  let staged := t.staging.filter fun x => decide (now < x.2)
  let r := traceRouter e.2.2.1
  if traceRoom t = 0 || engines = 0 || 16 ≤ (staged.filter (·.1 = r)).length then { t with staging := staged, dropped := t.dropped + 1 }
  else { t with staging := staged ++ [(r, ((staged.getLast?.map (·.2)).getD now) + (32 + engines - 1) / engines)],
                entries := (t.entries ++ [e]).drop (t.entries.length + 1 - traceRoom t), written := t.written + 1 }

/-- R448: the trace names the unit: unit 0x0000 names every host port and every engine. -/
def traced (t : Trace) (u : U16) : Bool := if t.unit = 0 then u.toNat / 4096 = 1 || u.toNat / 4096 = 5 else t.unit = u

/-- R448: a beat that a traced unit sends or receives, in the classes of the mask. -/
def captureBeat (s : State) (b : Beat) (unit : U16) (sent : Bool) : State :=
  match s.cmd.trace with
  | some t =>
    if t.running && t.mask.getLsbD (beatClass b).toNat && traced t unit then
      s.onCmd fun c => { c with trace := some (traceEntry s.now (roleHolders s .service).length t (s.now, b, unit, sent)) }
    else s
  | none => s

/-! ### Work items of engines (R17, R18) -/

/-- R17: a request that an engine issues stands in its work queue until it is answered. -/
def issueWork (s : State) (b : Beat) : State :=
  let c := (beatClass b).toNat
  if (beatSource b).toNat / 4096 = 1 && (c = 0 || c = 2 || c = 4) then
    setEngine s ((beatSource b).toNat % 4096) fun e => { e with work := if e.work.contains b then e.work else e.work ++ [b] }
  else s

/-- R17: a response to an engine ends its oldest item at the responder (log entry 34). -/
def answerWork (s : State) (b : Beat) : State :=
  let d := resolveDest s (beatDest b)
  if d.toNat / 4096 = 1 && ((beatClass b).toNat = 1 || (beatClass b).toNat = 4) then
    setEngine s (d.toNat % 4096) fun e =>
      match e.work.find? fun w => beatDest w = beatSource b && ((beatClass b).toNat = 4) = ((beatClass w).toNat = 4) with
      | some w => { e with work := e.work.erase w }
      | none => e
  else s

/-! ### Routers (R12, R13, R24) -/

/-- R24: the beat cannot be delivered: the router answers its sender, and the event is logged (R13). -/
def undeliverable (s : State) (link : Nat) (b : Beat) : State :=
  (s.emit (.wireUndeliverable link b.tag)).event 1 3 1 (beatDest b) (detail := b.tag.toNat / 2 ^ 96)

/-- R12, R21, R25: a beat waits at a router for its output. -/
def enqueueBeat (s : State) (link : Nat) (r : Nat × Nat) (i : Island) (b : Beat) : State :=
  s.onWire fun w => { w with waiting := w.waiting ++ [{ router := r, hop := nextHop s r i, via := link, beat := b, since := s.now }] }

/-- R13, R16, R21: a beat for one endpoint at a router. -/
def routeBeat (s : State) (link : Nat) (r : Nat × Nat) (b : Beat) : State :=
  match wireIsland (resolveDest s (beatDest b)) with
  | some i => if routed s i then enqueueBeat s link r i b else undeliverable s link b
  | none => s

/-- R24: a beat at a router; one for a group goes to each member. -/
def atRouter (s : State) (link : Nat) (r : Nat × Nat) (b : Beat) : State :=
  if (beatDest b).toNat / 4096 = 12 then
    s.each (groupMembers s ((beatDest b).toNat % 4096)) fun s a => routeBeat s link r (withDest b a)
  else routeBeat s link r b

/-! ### The Wire's rows -/

/-- R28: an accepted beat leaves the sender's retry buffer. -/
def resendDone (s : State) (no : Nat) (b : Beat) : State :=
  let l := wireLinkAt s no
  if l.beat = some b then setWireLink s { l with beat := none, failures := 0, retry := l.retry.erase b }
  else if l.retry.contains b then setWireLink s { l with retry := l.retry.erase b } else s

/-- R29: times of the last second. -/
def lastSecond (now : Nat) (l : List Nat) : List Nat := l.filter fun x => decide (now < x + second)

/-- R29: one more beat of the link in its window of 1 s. -/
def countBeat (s : State) (no : Nat) : State :=
  let l := wireLinkAt s no
  setWireLink s { l with beats := lastSecond s.now l.beats ++ [s.now] }

/-- R29: the window of 1 s that ends now: more than one retry per 10^6 beats is logged, once in its second (log entry 43). -/
def judgeRetries (s : State) (no : Nat) : State :=
  let l := wireLinkAt s no
  let l := { l with beats := lastSecond s.now l.beats, retries := lastSecond s.now l.retries }
  let quiet := (l.logged.map fun t => decide (s.now < t + second)).getD false
  if decide (l.beats.length < l.retries.length * 1000000) && decide (1 < l.retries.length) && !quiet then
    (setWireLink s { l with logged := some s.now }).event 1 1 1 (detail := no)
  else setWireLink s l

/-- R29: every window of 1 s is judged as time passes: each instant ends one. -/
def judgeWindows (s : State) : State :=
  s.each ((s.wire.links.filter fun l => !l.retries.isEmpty).map (·.no)) judgeRetries

/-- R22, R24: the first router discards the beat, counts it and logs it. -/
def discardBeat (s : State) (b : Beat) : State :=
  (s.onWire fun w => { w with discards := w.discards + 1 }).event 1 4 1 (detail := b.tag.toNat / 2 ^ 96)

/-- R22, R24: the tag names a reserved source, class or destination. -/
def reservedTag (b : Beat) : Bool := !sourceGood (beatSource b) || decide (4 < (beatClass b).toNat) || !destGood (beatDest b)

/-- R22, R23, R26: a beat at its endpoint: a duplicate is discarded in silence; a key generation that the slot does not accept is
answered with an error (the event has no code of its own, R440: log entry 34); any other beat is consumed, whatever waits. -/
def atEndpoint (s : State) (link : Nat) (b : Beat) : State :=
  if duplicate s b then s
  else if keyRefused s b then ((remember s b).emit (.wireKeyError link b.tag)).event 1 4 1 (beatDest b) (detail := b.tag.toNat / 2 ^ 96)
  else (captureBeat (answerWork (remember s b) b) b (resolveDest s (beatDest b)) false).emit (.wireAccept link)

/-- R17, R24: a beat at the router to which its sender attaches. -/
def atFirstRouter (s : State) (link : Nat) (i : Island) (b : Beat) : State :=
  if issueClosed s b then s
  else (atRouter (captureBeat (issueWork s b) b (beatSource b) true) link (routerFor i) b).emit (.wireAccept link)

/-- R12: an island that changes its frequency takes no message: the beat stands in its router's buffer again. -/
def holdAtRouter (s : State) (link : Nat) (i : Island) (b : Beat) : State :=
  s.onWire fun w => { w with waiting := { router := routerFor i, hop := .island i, via := link, beat := b, since := s.now } :: w.waiting }

/-- R12, R13: a beat on the link from an island's router: an island that is powered off takes none, and its router answers; one that
changes its frequency takes it later. -/
def atIsland (s : State) (link : Nat) (i : Island) (b : Beat) : State :=
  if !routed s i then undeliverable s link b
  else if s.wire.changing.contains i then holdAtRouter s link i b
  else atEndpoint s link b

/-- R24: a beat that has passed its checks, at the receiver of its link. -/
def receiveBeat (s : State) (link : Nat) (b : Beat) : State :=
  match linkEndsOf link with
  | .up i => atFirstRouter s link i b
  | .mesh _ r => (atRouter s link r b).emit (.wireAccept link)
  | .down i => atIsland s link i b

/-- WIRE_BEAT_RECEIVED (R12, R13, R16, R20 to R28): the checks of a beat at its receiver, and what the receiver does with it. -/
def execWireBeatReceived (link : Nat) (b : Beat) (s : State) : Res State :=
  if (wireLinkAt s link).fenced then .next s
  else
    let s := countBeat s link
    if !parityGood b then .next (s.emit (.wireNak link))
    else
      let s := resendDone s link b
      if reservedTag b then .next (discardBeat s b) else .next (receiveBeat s link b)

/-! ### Loss of a link (R28) -/

/-- R28: an island that can no longer be reached is fenced as a unit; PX and SV are no units that a fence names. -/
def fenceIsland (s : State) (i : Island) : State :=
  match i with
  | .en c => s.each (List.range 16) fun s k => fenceEngine s (16 * c + k)
  | .cu k => if (unitAt s (.slice k)).st = .inService then fenceSlice s k else s
  | .hp k => if (unitAt s (.port k)).st = .inService then fencePort s k else s
  | .tw k => if (unitAt s (.felt k)).st = .inService then fenceFelt s k else s
  | .mc k => if (dramAt s k).st = .online || (dramAt s k).st = .vacating then failChannel s k 4 else s
  | .fc k => if (flashAt s k).st = .online || (flashAt s k).st = .draining then failFlash s k 4 false else s
  | .cx => s.each (List.range 16) fenceCore
  | .px | .sv => s

/-- R28: the router at which a link ends, as its sender or its receiver. -/
def linkRouters (no : Nat) : List (Nat × Nat) :=
  match linkEndsOf no with
  | .mesh a b => [a, b]
  | .up i => [routerFor i]
  | .down i => [routerFor i]

/-- R28: the islands that a fenced link cuts off: its own, and those of a router that has lost a second link. -/
def cutOff (s : State) (no : Nat) : List Island :=
  let own := match linkEndsOf no with | .up i => [i] | .down i => [i] | .mesh _ _ => []
  let lost (r : Nat × Nat) : Bool := s.wire.links.any fun l => l.fenced && l.no ≠ no && l.no ≠ reverseLink no && decide (l.no < 16384) && (linkRouters l.no).contains r
  let twice := if no < 16384 then (linkRouters no).filter lost else []
  own ++ ((List.range 117).map islandAt).filter fun i => twice.contains (routerFor i) && !own.contains i

/-- R28: one direction of a link is taken out of use; its retry buffer is read out by the caller. -/
def closeDirection (s : State) (no : Nat) : State :=
  setWireLink s { wireLinkAt s no with beat := none, failures := 0, retry := [], fenced := true }

/-- R28: the beats of a lost direction of a mesh link go on from their router by another output. -/
def rerouteBeats (s : State) (no : Nat) (beats : List Beat) : State :=
  match linkEndsOf no with
  | .mesh r _ => s.each beats fun s b => routeBeat s no r b
  | .up _ => s
  | .down _ => s

/-- R28: the link is fenced, both of its directions: what waits for it takes the fault routes, and islands out of reach are fenced. -/
def fenceWireLink (s : State) (no : Nat) : State :=
  let l := wireLinkAt s no
  let m := wireLinkAt s (reverseLink no)
  let s := (closeDirection (closeDirection s no) m.no).event 1 2 2 (detail := no)
  let s := s.onWire fun w =>
    { w with waiting := w.waiting.map fun x => match wireIsland (resolveDest s (beatDest x.beat)) with
        | some i => { x with hop := nextHop s x.router i }
        | none => x }
  let s := rerouteBeats (rerouteBeats s no l.retry) m.no m.retry
  s.each (cutOff s no) fenceIsland

/-- R28: the beat is resent, or after its fourth failure in a row the link is fenced. -/
def resend (s : State) (no : Nat) (b : Beat) : State :=
  let l := wireLinkAt s no
  let n := if l.beat = some b then l.failures + 1 else 1
  if 4 ≤ n then fenceWireLink s no
  else (setWireLink s { l with beat := some b, failures := n }).emit (.wireResend no b)

/-- R29: a retry counts in the window that ends with it. -/
def countRetry (s : State) (no : Nat) : State :=
  let l := wireLinkAt s no
  judgeRetries (setWireLink s { l with retries := l.retries ++ [s.now] }) no

/-- WIRE_NAK_RECEIVED (R28, R29): the receiver found a parity error in the beat. -/
def execWireNakReceived (link : Nat) (b : Beat) (s : State) : Res State :=
  if (wireLinkAt s link).fenced then .next s
  else
    let effect (s : State) : State := resend (countRetry s link) link b
    match wireUnit (beatSource b) with
    | some u => .next (withInjection s u 3 effect)
    | none => .next (effect s)

/-! ### The spare's resumption (R17, R18, R23) -/

/-- SPARE_ROLE_RESUMED (R17 steps 4 and 5, R18): the spare resumes the role and reissues its work items with their own sequence
numbers and epochs; the event is logged. -/
def execSpareRoleResumed (fenced : Nat) (s : State) : Res State :=
  match s.wire.redirect.find? (·.1 = fenced) with
  | some (_, k) =>
    if (engineAt s k).resuming then
      let i : Island := .en (k / 16)
      let s := setEngine s k fun x => { x with resuming := false }
      let s := s.each (engineAt s k).work fun s b => atRouter s (upLink i) (routerFor i) b
      .next (s.event 2 1 2 (unitWord 1 fenced) (detail := engineDetail fenced k (engineAt s k).role))
    else .next s
  | none => .next s

/-! ### Arbitration (R25, R26) and the idle step -/

/-- R25: beats of a class that a link direction's buffers take. -/
def classBuffer (c : Nat) : Nat := if c = 3 then 2 else 8

/-- R25, R28: the sender holds a credit of the class, and room in its retry buffer. -/
def linkCredit (s : State) (no c : Nat) : Bool :=
  let l := wireLinkAt s no
  decide (l.retry.length < 16) &&
    decide ((l.retry.filter fun b => (beatClass b).toNat = c).length + (s.wire.waiting.filter fun x => x.via = no && (beatClass x.beat).toNat = c).length < classBuffer c)

/-- R12, R25: a beat that may go on: its output is free, its link stands and has credit, and its island takes beats. -/
def mayGo (s : State) (x : WireWait) : Bool :=
  let no := hopLink x.router x.hop
  !(wireLinkAt s no).fenced && linkCredit s no (beatClass x.beat).toNat &&
    (match x.hop with | .island i => !s.wire.changing.contains i | _ => true)

/-- R25: of two waiting beats the one of higher priority; equal ones keep their order of arrival. -/
def firstOf2 (s : State) (a x : WireWait) : WireWait := if beatPriority s a.beat < beatPriority s x.beat then x else a

/-- R25 step 3: the next beat of one class: the highest priority, or the oldest once any has waited more than 2 µs. -/
def pickBeat (s : State) (l : List WireWait) : Option WireWait :=
  match l with
  | [] => none
  | x :: rest => if l.any fun y => decide (y.since + 2000 < s.now) then some x else some (rest.foldl (firstOf2 s) x)

/-- R25: the class that takes an output's next slot, among those that wait: CCH after the commit, CTL at the eighth slot, else the
next in round-robin. -/
def pickClass (s : State) (a : Arbiter) (waits : Nat → Bool) : Option Nat :=
  if s.wire.cchFirst && waits 4 then some 4
  else if waits 3 && decide (7 ≤ a.sinceCtl) then some 3
  else ((List.range 5).map fun k => (a.last + 1 + k) % 5).find? waits

def arbiterAt (s : State) (r : Nat × Nat) (h : Hop) : Arbiter :=
  (s.wire.arbiters.find? fun a => a.router = r && a.hop = h).getD { router := r, hop := h, last := 4, sinceCtl := 0 }

/-- R25: one slot of a router's output: the chosen beat goes on its link, held in the retry buffer until it is accepted. -/
def outputSlot (s : State) (r : Nat × Nat) (h : Hop) : State :=
  let l := s.wire.waiting.filter fun x => x.router = r && x.hop = h && mayGo s x
  let a := arbiterAt s r h
  match pickClass s a fun c => l.any fun x => (beatClass x.beat).toNat = c with
  | none => s
  | some c =>
    match pickBeat s (l.filter fun x => (beatClass x.beat).toNat = c) with
    | none => s
    | some x =>
      let no := hopLink r h
      let next := { a with last := if s.wire.cchFirst && c = 4 then a.last else c, sinceCtl := if c = 3 then 0 else a.sinceCtl + 1 }
      let s := s.onWire fun w => { w with waiting := w.waiting.erase x, arbiters := (w.arbiters.filter fun y => !(y.router = r && y.hop = h)) ++ [next] }
      let k := wireLinkAt s no
      (setWireLink s { k with retry := k.retry ++ [x.beat] }).emit (.wireForward no x.beat)

/-- R13: beats that wait at a router for an island that has left the routing tables are answered by it. -/
def answerUnrouted (s : State) : State :=
  let out := s.wire.waiting.filter fun x => match x.hop with | .island i => !routed s i | _ => false
  (s.onWire fun w => { w with waiting := w.waiting.filter fun x => !out.contains x }).each out fun s x => undeliverable s x.via x.beat

/-- R20, R25: every output has one beat slot a nanosecond (log entry 34). -/
def wireSlots (s : State) : State :=
  let s := answerUnrouted (judgeWindows s)
  s.each (s.wire.waiting.map fun x => (x.router, x.hop)).dedup fun s x => outputSlot s x.1 x.2

end Sys2Proof.Machine
end

