-- ==== Sys2Proof/Machine/Service.lean ====
section
/-! DEFINITION. Service: units fenced, tested and returned, channels taken out, error injection, and the trace (R153, R155, R319 to R322, R448 to R451). -/

namespace Sys2Proof.Machine

/-! ### Unit fields (R321) -/

/-- R297: what a unit field answers at step 7 of R284. -/
def unitReserved (unit : U16) : Option (Status × Nat) :=
  match unitField unit 16 with
  | .error (.reservedField, off) => some (.reservedField, off)
  | _ => none

/-- R297, R321: the unit of a field, of a class between two; any other is refused with RANGE. -/
def withUnit (s : State) (r : Req) (op : U16) (unit : U16) (low high : Nat) (body : UnitId → State) : State :=
  match unitField unit 16 with
  | .error (st, off) => refuse s r op st off
  | .ok u => if unitCls u < low || high < unitCls u then refuse s r op .range 16 else body u

def inService (s : State) (u : UnitId) : Bool := (unitAt s u).st = .inService

/-! ### UNIT_FENCE (R322, R368, R449) -/

/-- R449: the last up link of an ATTACHED pair. -/
def lastLink (s : State) (t : Nat) : Bool :=
  s.felt.pair = .attached && (linkAt s t).st = .up && !((List.range 8).any fun k => k ≠ t && (linkAt s k).st = .up)

/-- R19, R449: where a fence is refused. -/
def fenceCheck (s : State) : UnitId → Bool × Status × Nat
  | .engine e => (inService s (.engine e) && fenceForbidden s e, .conflict, 2)
  | .dram c => ((dramAt s c).st = .online || (dramAt s c).st = .vacating, .conflict, 6)
  | .flash c => ((flashAt s c).st = .online || (flashAt s c).st = .draining, .conflict, 6)
  | .felt t => (inService s (.felt t) && lastLink s t, .conflict, 2)
  | _ => (false, .ok, 0)

/-- R449: the fence action; a unit already fenced, and a channel out of service, is left as it is. -/
def fenceUnit (s : State) (u : UnitId) : State :=
  if !inService s u then s
  else match u with
    | .engine e => fenceEngine s e
    | .slice i => fenceSlice s i
    | .port i => fencePort s i
    | .felt t => fenceFelt s t
    | .core c => fenceCore s c
    | .dram _ | .flash _ | .sensor _ | .rail _ => s

/-- UNIT_FENCE. -/
def execUnitFence (r : Req) (unit : U16) (s : State) : Res State :=
  .next <| command s r 0x0B01 (unitReserved unit) .owner .fromLift fun s _ =>
    withUnit s r 0x0B01 unit 1 7 fun u => checked s r 0x0B01 [fenceCheck s u] fun s => ok (fenceUnit s u) r 0x0B01 []

/-! ### UNIT_TEST (R95, R322, R450) -/

/-- R322: a test runs on a unit out of service, or a channel that is OFFLINE or FAILED. -/
def testable (s : State) : UnitId → Bool
  | .dram c => (dramAt s c).st = .offline || (dramAt s c).st = .failed
  | .flash c => (flashAt s c).st = .failed
  | u => (unitAt s u).st ≠ .inService

/-- R123: a slice that drains before its bypass. -/
def slicedDraining (s : State) (u : UnitId) : Bool := s.units.fenceWait.contains u

/-- R95: a test that forces WT. -/
def forcesTest : UnitId → Bool
  | .slice _ | .dram _ => true
  | _ => false

/-- UNIT_TEST, action 0. The steps of a test are not given; its progress is one step (log entry 38). -/
def execUnitTest (r : Req) (unit : U16) (s : State) : Res State :=
  .next <| command s r 0x0B02 (unitReserved unit) .owner .fromLift fun s x =>
    withUnit s r 0x0B02 unit 1 7 fun u =>
      checked s r 0x0B02 [(!testable s u, .conflict, 6), ((unitAt s u).st = .testing || slicedDraining s u, .busy, 3)] fun s =>
        startLong s r 0x0B02 x (.test u) 1 3 fun s =>
          let s := setUnit s u fun y => { y with st := .testing }
          if forcesTest u then force s 2 else s

/-- UNIT_TEST_COMPLETE (R121, R322, R450): the last result; MEDIA_ERROR with the unit index. A test that forces WT begins when its drain has
ended. -/
def execUnitTestComplete (unit : UnitId) (pass : Bool) (s : State) : Res State :=
  if (unitAt s unit).st ≠ .testing || (forcesTest unit && s.curd.draining.isSome) then .next s
  else
    let st : UnitSt := match unit with | .dram _ | .flash _ => .inService | _ => .fenced
    let s := setUnit s unit fun y => { y with st := st, result := if pass then 1 else 2 }
    let s := endLongOf s (· = .test unit) (if pass then .ok else .mediaError) (if pass then 0 else unitIndex unit) []
    let more := longRuns s fun k => match k with | .test u => forcesTest u | _ => false
    .next (if forcesTest unit && !more then unforce s 2 else s)

/-- R322: the state of a unit in a status query. -/
def unitState (s : State) (u : UnitId) : Nat :=
  match (unitAt s u).st with
  | .testing => 2
  | .fenced => 1
  | .inService => match u with
    | .dram c => match (dramAt s c).st with | .online | .vacating => 0 | .training | .offline => 4 | .failed => 3 | .absent => 5
    | .flash c => match (flashAt s c).st with | .online | .draining => 0 | .present | .adding | .drained => 4 | .failed => 3 | .absent => 5
    | _ => 0

/-- R322: the 16 bytes of a status query. -/
def unitStatus (s : State) (u : UnitId) : List Byte :=
  let mapping := match u with | .dram c => (dramAt s c).mapping | _ => 0xFF
  let y := unitAt s u
  le 1 (unitState s u) ++ le 1 y.result ++ le 1 mapping ++ [0] ++ le 4 y.corr ++ le 4 y.uncorr ++ le 4 0

/-- UNIT_TEST, action 1 (UNIT_STATUS_QUERY). -/
def execUnitStatusQuery (r : Req) (unit : U16) (s : State) : Res State :=
  .next <| command s r 0x0B02 (unitReserved unit) .session .notCouch fun s _ =>
    withUnit s r 0x0B02 unit 1 7 fun u => ok s r 0x0B02 (unitStatus s u)

/-! ### UNIT_RETURN (R449, R450) -/

def clearCounts (y : Unit_) : Unit_ := { y with corr := 0, uncorr := 0 }

/-- R449, R450: the return action of a class. -/
def returnUnit (s : State) (u : UnitId) : State :=
  let s := setUnit s u fun y => { clearCounts y with st := .inService }
  match u with
  | .engine e =>
    let s := (setEngine s e fun x => { x with role := .spare, instance_ := 255, failing := false, resuming := false }).onWire fun w => { w with redirect := w.redirect.filter (·.1 ≠ e) }
    reroute s (.en (e / 16))
  | .slice i =>
    let s := if s.curd.off then s else reroute s (.cu i)
    s.onCurd fun c => { c with lines := c.lines.filter (sliceOf ·.addr ≠ i), stuckCells := c.stuckCells.filter (·.1 ≠ i),
                               corrected := c.corrected.filter (·.1 ≠ i), spoiled := c.spoiled.filter (·.1 ≠ i) }
  | .port i => reroute s (.hp i)
  | .felt t =>
    let s := reroute s (.tw t)
    if s.felt.pair ≠ .detached && linkAllowed s t then startFull s t else s
  | .core _ => s.onCipher fun c => { c with noVerify := c.noVerify && decide (coresInService s < 8) }
  | .dram _ | .flash _ | .sensor _ | .rail _ => s

/-- UNIT_RETURN. -/
def execUnitReturn (r : Req) (unit : U16) (s : State) : Res State :=
  .next <| command s r 0x0B03 (unitReserved unit) .owner .fromLift fun s _ =>
    withUnit s r 0x0B03 unit 1 7 fun u =>
      match u with
      | .dram c =>
        let acts := (dramAt s c).st ≠ .online && (dramAt s c).st ≠ .training
        checked s r 0x0B03 [((unitAt s u).st = .testing || (acts && s.vat.ch.any (·.changing)), .busy, 3)] fun s =>
          ok (dramOnline (setUnit s u clearCounts) c) r 0x0B03 []
      | .flash _ => refuse s r 0x0B03 .conflict 2
      | u => checked s r 0x0B03 [((unitAt s u).st ≠ .fenced || (unitAt s u).result ≠ 1, .conflict, 2), (slicedDraining s u, .busy, 3)] fun s =>
          ok (returnUnit s u) r 0x0B03 []

/-! ### CHANNEL_OFFLINE and CHANNEL_ONLINE (R87, R153, R155, R322) -/

/-- R155: the refusals for a DRAM channel. -/
def dramOfflineChecks (s : State) (c : Nat) : List (Bool × Status × Nat) :=
  let d := dramAt s c
  let on := (s.vat.ch.filter (·.st = .online)).length
  [(d.st = .online && decide (on = 1), .conflict, 2),
   (d.st = .training || d.st = .vacating || (s.vat.ch.any (·.changing)), .busy, 3), (offlineNoSpace s c, .noSpace, 9)]

/-- R322: the refusals for a flash channel. -/
def flashOfflineChecks (s : State) (c : Nat) : List (Bool × Status × Nat) :=
  let f := flashAt s c
  let other := (groupChannels (c / 12)).any fun k => k ≠ c && (flashAt s k).st = .failed
  [((f.st = .online || f.st = .draining) && other, .conflict, 7), (f.st = .adding, .busy, 3)]

/-- CHANNEL_OFFLINE. -/
def execChannelOffline (r : Req) (unit : U16) (s : State) : Res State :=
  .next <| command s r 0x0B04 (unitReserved unit) .owner .service fun s x =>
    withUnit s r 0x0B04 unit 3 4 fun u =>
      match u with
      | .dram c =>
        let st := (dramAt s c).st
        if st = .offline || st = .failed || st = .absent then ok s r 0x0B04 []
        else checked s r 0x0B04 (dramOfflineChecks s c) fun s =>
          startLong s r 0x0B04 x (.offline c) (vacateBytes s c) 0 fun s => beginVacating s c
      | .flash c => checked s r 0x0B04 (flashOfflineChecks s c) fun s =>
          let st := (flashAt s c).st
          ok (if st = .online || st = .draining then failFlash s c 5 false else s) r 0x0B04 []
      | _ => refuse s r 0x0B04 .range 16

/-- CHANNEL_ONLINE. -/
def execChannelOnline (r : Req) (unit : U16) (s : State) : Res State :=
  .next <| command s r 0x0B05 (unitReserved unit) .owner .service fun s _ =>
    withUnit s r 0x0B05 unit 3 3 fun u =>
      let c := unitIndex u
      let acts := (dramAt s c).st ≠ .online && (dramAt s c).st ≠ .training
      checked s r 0x0B05 [(acts && (s.vat.ch.any (·.changing) || (unitAt s u).st = .testing), .busy, 3)] fun s => ok (dramOnline s c) r 0x0B05 []

/-! ### ERROR_INJECT (R451) -/

/-- R451: the combinations of kind and class. -/
def injectable (kind cls : Nat) : Bool :=
  match kind with
  | 0 => [1, 2, 3, 4].contains cls
  | 1 => [1, 2, 3, 4, 7].contains cls
  | 2 => [2, 3].contains cls
  | 3 => 1 ≤ cls && cls ≤ 7
  | 4 => cls = 6
  | _ => false

/-- R321, R451: a DPA in a region that lies on the unit; 0 where the device chooses, and for the other kinds. -/
def dpaBad (s : State) (u : UnitId) (kind dpa : Nat) : Bool :=
  if dpa = 0 then false
  else if 3 ≤ kind then true
  else match u with
    | .slice i => (regionOfPage s (dpa / pageBytes)).isNone || sliceOf (dpa / 64) ≠ i
    | .dram c => (regionOfPage s (dpa / pageBytes)).isNone || ((frameOf s (dpa / pageBytes)).map fun f => decide (frameChannel f.no ≠ c)).getD true
    | _ => true

/-- R95, R451: an injection begins; one on a Curd slice forces WT while it runs. -/
def inject (s : State) (i : Injection) : State :=
  let s := s.onCmd fun c => { c with injections := c.injections ++ [i] }
  let s := match i.unit with | .slice _ => force s 3 | _ => s
  let s := settleForce (applyInjection s i)
  match i.unit with | .engine e => judgeEngine s e | _ => s

/-- ERROR_INJECT. -/
def execErrorInject (r : Req) (unit : U16) (kind count : U8) (dpa : U64) (s : State) : Res State :=
  .next <| command s r 0x0B06
      (match unitReserved unit with | some e => some e | none => if 4 < kind.toNat then some (.reservedField, 18) else none) .owner .service fun s _ =>
    withUnit s r 0x0B06 unit 1 7 fun u =>
      checked s r 0x0B06
          [(!injectable kind.toNat (unitCls u), .range, 18), (count = 0, .range, 19), (dpaBad s u kind.toNat dpa.toNat, .range, 24),
           (s.cmd.injections.any (·.unit = u), .busy, 3)] fun s =>
        ok (inject s { unit := u, kind := kind.toNat, left := count.toNat, dpa := dpa.toNat }) r 0x0B06 []

/-- INJECTION_TIMEOUT (R95, R451): 10 s after acceptance. -/
def execInjectionTimeout (unit : UnitId) (s : State) : Res State := .next (endInjections s unit)

/-! ### Events that are detections (R438, R441, R449) -/

/-- R438, R449: an event that stands at no port is its island's own detection, and has its effect: a Curd cell that is stuck, a dirty
Curd line that fails SEC-DED, an engine's correctable errors (log entry 142). -/
def detected (s : State) (o : Occurrence) : State :=
  let i := o.unit.toNat % 4096
  if s.log.ports.any (·.occ = o) then s
  else match o.cls, o.code with
    | 2, 3 => if (engineAt s i).unit.st = .inService then fenceEngine s i else s
    | 3, 2 => stickCell s i (o.detail % 2 ^ 64)
    | 3, 3 => poisonDirty s (o.address / 64)
    | _, _ => s

/-- EVENT_ARRIVAL (R438, R441, R442, R449). -/
def execEventArrival (o : Occurrence) (s : State) : Res State := .next (eventArrives (detected s o) o)

/-! ### The trace (R319, R448) -/

/-- R319: a unit that a trace may name: none for all, or a unit of R297. -/
def traceUnitReserved (unit : U16) : Option (Status × Nat) :=
  if unit = 0 then none
  else match unitField unit 18 with
    | .error (.reservedField, off) => some (.reservedField, off)
    | _ => none

/-- R319: bits [31:5] of the class mask are reserved. -/
def maskReserved (mask : U32) : Option (Status × Nat) :=
  if 32 ≤ mask.toNat % 256 then some (.reservedField, 20) else (firstNonzero (le 4 mask.toNat) 1 3).map fun k => (.reservedField, 20 + k)

/-- R448: frames of the free pool go to the buffer, as far as the pool stays above half its target. -/
def takeFrames : Nat → State → State
  | 0, s => s
  | n + 1, s =>
    if 2 * freeFrames s ≤ freeTarget s + 2 then s
    else match freeFrame s with
      | some f => takeFrames n (s.onCmd fun c => { c with trace := c.trace.map fun t => { t with frames := t.frames ++ [f] } })
      | none => s

/-- R448: a trace starts, its buffer taken; a stopped trace is cleared first. -/
def startTrace (s : State) (unit : U16) (mask : U32) (kib : Nat) : State :=
  let t : Trace := { unit := unit, mask := mask, running := true, kib := 0, entries := [], written := 0, dropped := 0, frames := [], staging := [] }
  let s := takeFrames ((kib + 3) / 4) (s.onCmd fun c => { c with trace := some t })
  s.onCmd fun c => { c with trace := c.trace.map fun t => { t with kib := min kib (4 * t.frames.length) } }

/-- TRACE_CONTROL start. -/
def execTraceStart (r : Req) (unit : U16) (mask buffer : U32) (s : State) : Res State :=
  .next <| command s r 0x0A03 (match traceUnitReserved unit with | some e => some e | none => maskReserved mask) .owner .notCouch fun s _ =>
    let named := match unitField unit 18 with | .error (.range, _) => unit ≠ 0 | _ => false
    let n := buffer.toNat
    checked s r 0x0A03
        [(named, .range, 18), (decide (n ≠ 0) && (decide (n < 16) || decide (65536 < n)), .range, 24),
         ((s.cmd.trace.map (·.running)).getD false, .busy, 3)] fun s =>
      ok (startTrace s unit mask (if n = 0 then traceDefaultKib s else n)) r 0x0A03 []

/-- TRACE_CONTROL stop: the buffer is kept. -/
def execTraceStop (r : Req) (s : State) : Res State :=
  .next <| command s r 0x0A03 none .owner .notCouch fun s _ =>
    ok (s.onCmd fun c => { c with trace := c.trace.map fun t => { t with running := false } }) r 0x0A03 []

/-- R448: a trace entry, and the header before them. -/
def traceBytes (e : Nat × Beat × U16 × Bool) : List Byte :=
  let (time, b, unit, sent) := e
  le 8 time ++ le 16 b.tag.toNat ++ le 2 b.control.toNat ++ le 2 unit.toNat ++ le 1 (if sent then 1 else 0) ++ [0, 0, 0]
def traceHeader (t : Trace) : List Byte :=
  le 8 t.dropped ++ le 4 t.kib ++ le 8 t.written ++ le 4 0 ++ le 2 0 ++ le 2 t.unit.toNat ++ [0, 1, 0, 0]

/-- TRACE_CONTROL read: the entries written so far, oldest first, behind the header; without a buffer there is none. -/
def execTraceRead (r : Req) (s : State) : Res State :=
  .next <| command s r 0x0A03 none .owner .notCouch fun s _ =>
    ok s r 0x0A03 (match s.cmd.trace with | some t => traceHeader t ++ t.entries.flatMap traceBytes | none => [])

/-- TRACE_CONTROL clear: the buffer is released. -/
def execTraceClear (r : Req) (s : State) : Res State :=
  .next <| command s r 0x0A03 none .owner .notCouch fun s _ => ok (wakeAll (s.onCmd fun c => { c with trace := none })) r 0x0A03 []

end Sys2Proof.Machine
end

