-- ==== Sys2Proof/Machine/Session.lean ====
section
/-! DEFINITION. Group 0x00: IDENTIFY, sessions, NOP, GET_READY_STATE and RESET (R37 to R40, R288 to R290, R295, R303 to R305). -/

namespace Sys2Proof.Machine

/-! ### IDENTIFY, NOP and GET_READY_STATE (R295, R304, R305) -/

/-- R304: the engine map, role and instance of every engine. -/
def engineBytes (s : State) : List Byte := s.units.engines.flatMap fun e => le 1 (roleCode e.role) ++ le 1 e.instance_

/-- R304: the 424 bytes of IDENTIFY. -/
def identifyBytes (s : State) : List Byte :=
  le 16 Config.serial.toNat ++ [0x42, 0x31, 0x02] ++ le 1 (if s.ledger.running then 1 else 0) ++
    le 4 (((slotOf s s.ledger.running).image.map (·.version.toNat)).getD 0) ++ le 2 1 ++ le 2 1 ++ le 8 (Config.challenge s.cmd.challenges).toNat ++
    le 2 (readyCode s) ++ le 2 0 ++ (s.vat.ch.flatMap fun c => le 1 (dramCode c.st)) ++ (s.ream.ch.flatMap fun c => le 1 (flashCode c.st)) ++
    engineBytes s

/-- IDENTIFY. -/
def execIdentify (r : Req) (s : State) : Res State :=
  .next <| command s r 0x0001 none .anyone .notCouch fun s _ => ok s r 0x0001 (identifyBytes s)

/-- R305: the counters of the session, or of the channel without one, and the channel's discarded bytes. -/
def nopBytes (s : State) (x : Session) : List Byte :=
  let c := channelOf s x.ch
  ((if x.num = 0 then c.counters else x.counters).flatMap (le 4 ·)) ++ le 8 c.discarded ++ le 2 x.num ++ le 2 0

/-- NOP. -/
def execNop (r : Req) (s : State) : Res State :=
  .next <| command s r 0x0004 none .anyone .notCouch fun s x => ok s r 0x0004 (nopBytes s x)

/-- R304: the 16 bytes of GET_READY_STATE. -/
def readyBytes (s : State) : List Byte :=
  le 2 (readyCode s) ++ le 1 (sealCode s.cmd.sealSt) ++ le 1 (orchCode s.couch.orch) ++ le 1 (energyCode s.sal.state) ++ le 1 (pairCode s.felt.pair) ++
    le 1 (if s.cmd.owner = 0 then 0 else 1) ++ [0] ++ le 8 s.now

/-- GET_READY_STATE. -/
def execGetReadyState (r : Req) (s : State) : Res State :=
  .next <| command s r 0x0005 none .anyone .always fun s _ => ok s r 0x0005 (readyBytes s)

/-! ### SESSION_OPEN (R288, R295, R303, R305) -/

/-- R303: reserved values of a SESSION_OPEN. -/
def openReserved (kind head ld : U8) : Option (Status × Nat) :=
  let bad (v : U8) : Bool := v ≠ 0xFF && (kind ≠ 0 || decide (15 < v.toNat))
  firstOf [(decide (2 < kind.toNat), .reservedField, 16), (bad head, .reservedField, 18), (bad ld, .reservedField, 19)]

/-- R305: the identity that a data session takes. -/
def openIdentity (ch : Chan) (head ld : U8) : Nat × Nat :=
  match ch with
  | .mailbox h l => (h, l)
  | _ => (head.toNat, ld.toNat)

/-- R288: an identity named on a mailbox channel is another than its own. -/
def foreignIdentity (ch : Chan) (head ld : U8) : Bool :=
  match ch with
  | .mailbox h l => (head ≠ 0xFF && head.toNat ≠ h) || (ld ≠ 0xFF && ld.toNat ≠ l)
  | _ => false

/-- R297, R332: the identity is not defined in HEADS; the field's offset. -/
def undefinedIdentity (s : State) (i : Nat × Nat) : Option Nat :=
  if 15 < i.1 then some 18 else if ldCount s i.1 ≤ i.2 then some 19 else none

/-- R288: the lowest session number that is free. -/
def freeSession (s : State) : Nat := (findFrom (fun n => (sessionNum s n).isNone) 65 1).getD 1

/-- R305: the refusals of SESSION_OPEN in their order. -/
def openChecks (s : State) (ch : Chan) (kind head ld : U8) (tokenOk : Bool) : List (Bool × Status × Nat) :=
  let where_ := undefinedIdentity s (openIdentity ch head ld)
  [(decide (64 ≤ s.cmd.sessions.length), .noSpace, 10), ((sessionOn s ch).isSome, .conflict, 2), (decide (kind = 1) && decide (s.cmd.owner ≠ 0), .conflict, 2),
   (decide (kind = 0) && foreignIdentity ch head ld, .conflict, 18), (decide (kind = 0) && where_.isSome, .range, where_.getD 18),
   (decide (kind = 2) && !tokenOk, .notOwner, 4)]

/-- R288, R295: the session opens, with the counters that its channel has counted. -/
def openSession (s : State) (ch : Chan) (kind head ld : U8) : State :=
  let n := freeSession s
  let x : Session :=
    { num := n, ch := ch, kind := if kind = 0 then .data else if kind = 1 then .owner else .diagnostic,
      identity := if kind = 0 then some (openIdentity ch head ld) else none, counters := (channelOf s ch).counters, outstanding := [],
      chain := none, pins := [], prefetches := [] }
  let s := setChannel s ch fun c => { c with counters := [0, 0, 0, 0, 0, 0] }
  s.onCmd fun c => { c with sessions := c.sessions ++ [x], owner := if kind = 1 then n else c.owner }

/-- SESSION_OPEN. The challenge is renewed after every diagnostic one. -/
def execSessionOpen (r : Req) (kind head ld : U8) (tokenOk : Bool) (s : State) : Res State :=
  .next <| command s r 0x0002 (openReserved kind head ld) .anyone .notCouch fun s _ =>
    if s.cmd.ready = .recovery && kind ≠ 1 then refuse s r 0x0002 .notReady 4
    else
      let renew (s : State) : State := if kind = 2 then s.onCmd fun c => { c with challenges := c.challenges + 1 } else s
      let checks := openChecks s r.ch kind head ld tokenOk
      let s := if firstOf checks = some (.notOwner, 4) then s.event 16 2 1 else s
      renew (checked s r 0x0002 checks fun s =>
        let n := freeSession s
        ok (openSession s r.ch kind head ld) r 0x0002 (le 2 n ++ le 1 (if kind = 1 then 1 else 0) ++ [0]))

/-! ### SESSION_CLOSE (R289, R290, R305) -/

/-- SESSION_CLOSE: a hand-over waits for the owner's started commands. -/
def execSessionClose (r : Req) (successor : U16) (s : State) : Res State :=
  .next <| command s r 0x0003 (if successor = 0xFFFF then some (.reservedField, 16) else none) .session .notCouch fun s x =>
    let n := successor.toNat
    let named := decide (n ≠ 0)
    checked s r 0x0003
        [(named && !isOwner s x, .notOwner, 2), (named && ((sessionNum s n).isNone || decide (n = x.num)), .range, 16)] fun s =>
      if !named then
        sendReply (endSession s x.num false) r.ch { opcode := 0x0003, tag := r.tag, more := false, urgent := r.urgent, status := .ok, detail := 0, params := [] }
      else finishCloses ((defer s x r).onCmd fun c => { c with closing := c.closing ++ [(r, successor, x.num)] })

/-! ### RESET (R37 to R40, R305) -/

/-- R40, R305: the refusals of RESET beside its object's: 0 SESSION to 4 COLD. -/
def resetBusy (s : State) (scope : Nat) : Bool × Status × Nat := (decide (1 + scope ≤ s.cmd.resetRun), .busy, 6)

/-- R37: the session is reset: it ends, under R290. -/
def execResetSession (r : Req) (object : U16) (s : State) : Res State :=
  .next <| command s r 0x0006 none .session .notCouch fun s x =>
    let n := if object = 0 then x.num else object.toNat
    checked s r 0x0006 [(decide (n ≠ x.num) && !isOwner s x, .notOwner, 2), ((sessionNum s n).isNone, .range, 18), resetBusy s 0] fun s =>
      endSession (ok s r 0x0006 []) n false

/-- R37, R331: the ports of a PORT reset: both islands of a joined pair. -/
def resetPair (s : State) (port : Nat) : List Nat :=
  let pair := port / 2 * 2
  if s.cxl.joined.contains pair then [pair, pair + 1] else [port]

/-- R37, R38: the port's island is re-initialised: its link takes a hot reset, and PORTS and HEADS apply to it again. -/
def reinitPort (s : State) (p : Nat) : State :=
  let s := if s.cxl.linkUp.contains p then linkEnds s p else s
  (s.onCmd fun c => { c with resetPorts := c.resetPorts.filter (· ≠ p) }).emit (.portReset p)

/-- R38: ports in reset whose accepted writes have all completed. -/
def drainedPorts (s : State) : List Nat := s.cmd.resetPorts.filter fun p => decide (outstandingWrites s p = 0)

/-- R38: a PORT reset: accepted writes complete first, then the island is re-initialised; meanwhile the port accepts nothing. -/
def resetPort (s : State) (port : Nat) : State :=
  let s := s.onCmd fun c => { c with resetPorts := (resetPair s port).foldl addNew c.resetPorts }
  s.each (drainedPorts s) reinitPort

/-- R37, R38: a slice is re-initialised: its dirty lines stand in their frames, and its other lines go. -/
def resetSlice (s : State) (i : Nat) : State :=
  s.each (s.curd.lines.filter fun l => sliceOf l.addr = i && l.st ≠ .filling) fun s l =>
    if l.st = .clean then dropLine s l.addr
    else if (validFrame s (l.addr / 64)).isSome then
      dropLine (setFrame s (l.addr / 64) fun f => { f with data := putLine f.data (l.addr % 64) l.data }) l.addr
    else s

/-- R37: a flash channel is re-initialised: its targets are reset, and what ran on them is issued again (log entry 94). -/
def resetFlashUnit (s : State) (c : Nat) : State :=
  let s := setFlash s c fun f => { f with overruns := [], blocks := f.blocks.map fun b => if b.erasing then queueErase s.now b else b }
  s.onPpu fun p => { p with fetches := p.fetches.map fun f => if locChannel (entry s f.page).loc = c then { f with issued := s.now } else f }

/-- R37, R365: a core is re-initialised: it loses the queue that it stays with; requests stand in their queues until their passes end
(log entry 94). -/
def resetCore (s : State) (core : Nat) : State := s.onCipher fun c => { c with turns := c.turns.filter (·.1 ≠ core) }

/-- R37, R142: a DRAM channel is re-initialised and runs the fast retrain, its requests held; one that trains begins again. -/
def resetDramUnit (s : State) (c : Nat) : State :=
  match (dramAt s c).st with
  | .online | .vacating => setDram s c fun d => { d with held := true, verify := true, banks := [] }
  | .training => setDram s c fun d => { d with step := 0, banks := [] }
  | .absent | .offline | .failed => s

/-- R37, R40: a reset of scope UNIT that runs on: the retrain of a channel, or the spare that has not yet resumed. -/
def unitResets (s : State) : Option UnitId → Bool
  | some (.dram c) => (dramAt s c).held
  | some (.engine e) => ((s.wire.redirect.find? (·.1 = e)).map fun x => (engineAt s x.2).resuming).getD false
  | _ => false

/-- R37: the named unit's internal state is lost; an engine is replaced under R17, or kept under R19 with its event. -/
def resetUnitOf (s : State) : UnitId → State
  | .engine e => fenceEngine s e
  | .slice i => resetSlice s i
  | .dram c => resetDramUnit s c
  | .flash c => resetFlashUnit s c
  | .port i => resetPort s i
  | .felt t => linkFalls s t true
  | .core c => resetCore s c
  | .sensor _ | .rail _ => s

/-- R40: the scope of a reset that runs on after its command: 0 when it has ended. -/
def beginReset (s : State) (scope : Nat) (u : Option UnitId) : State :=
  let s := s.onCmd fun c => { c with resetRun := 1 + scope }
  if scope = 3 then warmReset s
  else if scope = 4 then coldReset s
  else
    let s := match u with
      | some x => resetUnitOf (s.onCmd fun c => { c with resetUnit := u }) x
      | none => s
    if s.cmd.resetPorts.isEmpty && !unitResets s s.cmd.resetUnit then s.onCmd fun c => { c with resetRun := 0, resetUnit := none } else s

/-- R40: a reset that is wider than the running one begins when that ends. -/
def requestReset (s : State) (scope : Nat) (u : Option UnitId) : State :=
  if s.cmd.resetRun = 0 then beginReset s scope u else s.onCmd fun c => { c with resetNext := c.resetNext ++ [(scope, u)] }

/-- R40: the running reset has ended: the one that waited begins. -/
def endReset (s : State) : State :=
  let s := s.onCmd fun c => { c with resetRun := 0, resetUnit := none }
  match s.cmd.resetNext with
  | [] => s
  | (scope, u) :: rest => beginReset (s.onCmd fun c => { c with resetNext := rest }) scope u

/-- R38, R40: ports whose writes have drained are re-initialised, and the reset ends with the last port, retrain or spare. -/
def finishResets (s : State) : State :=
  let s := s.each (drainedPorts s) reinitPort
  if s.cmd.resetRun = 0 then s
  else
    let ended := if s.cmd.resetRun ≤ 3 then s.cmd.resetPorts.isEmpty && !unitResets s s.cmd.resetUnit else if s.cmd.resetRun = 4 then s.cmd.ready ≠ .below && s.cmd.ready ≠ .core else aboveCore s
    if ended && s.couch.orch ≠ .committed && s.couch.orch ≠ .down then endReset s else s

/-- RESET of scope PORT. -/
def execResetPort (r : Req) (object : U16) (s : State) : Res State :=
  .next <| command s r 0x0006 none .owner .notCouch fun s _ =>
    checked s r 0x0006 [(decide (15 < object.toNat), .range, 18), resetBusy s 1] fun s => requestReset (ok s r 0x0006 []) 1 (some (.port object.toNat))

/-- RESET of scope UNIT. -/
def execResetUnit (r : Req) (object : U16) (s : State) : Res State :=
  .next <| command s r 0x0006 (match unitField object 18 with | .error (.reservedField, off) => some (.reservedField, off) | _ => none)
      .owner .notCouch fun s _ =>
    match unitField object 18 with
    | .error (st, off) => refuse s r 0x0006 st off
    | .ok u => checked s r 0x0006 [(decide (7 < unitCls u), .range, 18), resetBusy s 2] fun s => requestReset (ok s r 0x0006 []) 2 (some u)

/-- RESET of scope WARM: the Couch commits at once. -/
def execResetWarm (r : Req) (s : State) : Res State :=
  .next <| command s r 0x0006 none .owner .notCouch fun s _ =>
    checked s r 0x0006 [resetBusy s 3] fun s => requestReset (ok s r 0x0006 []) 3 none

/-- RESET of scope COLD. -/
def execResetCold (r : Req) (s : State) : Res State :=
  .next <| command s r 0x0006 none .owner .notCouch fun s _ =>
    checked s r 0x0006 [resetBusy s 4] fun s => requestReset (ok s r 0x0006 []) 4 none

end Sys2Proof.Machine
end

