-- ==== Sys2Proof/Machine/Tables.lean ====
section
/-! DEFINITION. The content checks of parameter table images: frame, reserved values, ranges, consistency and the refusals of running operations (R325 to R348). -/

namespace Sys2Proof.Machine

/-! ### Field forms (R327) -/

/-- What a field of an image may hold. -/
inductive FieldForm where
  | zero                          -- reserved: every byte 0
  | oneOf (values : List Nat)     -- any other value is reserved
  | bits (allowed : Nat)          -- bits outside are reserved
  | range (low high : Nat)
  | signed (low high : Int)
  | orNone (high : Nat)           -- 0 to high, or 0xFF for none
  | zeroOr (low high : Nat)       -- 0, or low to high
  deriving DecidableEq, Repr

structure FieldSpec where
  off : Nat
  width : Nat
  form : FieldForm
  deriving DecidableEq, Repr

/-- The first byte at which a field of an image holds a reserved value (R326 step 5). -/
def reservedAt (image : List Byte) (f : FieldSpec) : Option Nat :=
  match f.form with
  | .zero => firstNonzero image f.off f.width
  | .oneOf vs => if vs.contains (field image f.off f.width) then none else some f.off
  | .bits m => (List.range f.width).findSome? fun k => if (image.getD (f.off + k) 0).toNat &&& (255 - m / 256 ^ k % 256) = 0 then none else some (f.off + k)
  | .range _ _ | .signed _ _ | .orNone _ | .zeroOr _ _ => none

/-- The field's value lies outside its range (R326 step 6). -/
def outsideAt (image : List Byte) (f : FieldSpec) : Option Nat :=
  let v := field image f.off f.width
  let ok := match f.form with
    | .range a b => decide (a ≤ v ∧ v ≤ b)
    | .signed a b => decide (a ≤ sfield image f.off f.width ∧ sfield image f.off f.width ≤ b)
    | .orNone b => decide (v ≤ b) || v = 0xFF
    | .zeroOr a b => v = 0 || decide (a ≤ v ∧ v ≤ b)
    | .zero | .oneOf _ | .bits _ => true
  if ok then none else some f.off

def spec (off width : Nat) (form : FieldForm) : FieldSpec := { off := off, width := width, form := form }
def pad (off width : Nat) : FieldSpec := spec off width .zero
def rangeOf (off width a b : Nat) : FieldSpec := spec off width (.range a b)
def choice (off : Nat) (vs : List Nat) : FieldSpec := spec off 1 (.oneOf vs)

/-! ### The field maps (R331 to R345) -/

/-- R342: the range of a rail's domain index. -/
def domainIndexHigh (domain : Nat) : Nat := if domain = 1 || domain = 2 then 15 else 0

def railSpecs (image : List Byte) (e : Nat) : List FieldSpec :=
  let b := 8 + 12 * e
  [spec b 1 (.orNone 15), spec (b + 1) 1 (.orNone 23), spec (b + 2) 1 (.orNone 15), choice (b + 3) [0, 1, 2, 3],
   rangeOf (b + 4) 1 0 (domainIndexHigh (field image (b + 3) 1)), choice (b + 5) [0, 1], rangeOf (b + 6) 2 0 1000, rangeOf (b + 8) 2 100 1000,
   pad (b + 10) 2]

/-- R339: the fields of CHEMISTRY under the counts that it declares. -/
def chemistrySpecs (image : List Byte) : List FieldSpec :=
  let nT := min 8 (field image 9 1)
  let nR := min 5 (field image 10 1)
  [choice 8 [1, 2, 3, 4], rangeOf 9 1 1 8, rangeOf 10 1 1 5, pad 11 1] ++
    ((List.range 8).map fun k => if k < nT then spec (12 + 2 * k) 2 (.signed (-4000) 8500) else pad (12 + 2 * k) 2) ++
    ((List.range 5).map fun k => if k = 0 || nR ≤ k then pad (28 + 2 * k) 2 else rangeOf (28 + 2 * k) 2 5 1000) ++ [pad 38 2] ++
    ((List.range 168).map fun k => if k % 8 < nT then rangeOf (40 + 4 * k) 4 1 5000000 else pad (40 + 4 * k) 4) ++
    ((List.range 440).map fun k => if k / 5 % 8 < nT && k % 5 < nR then rangeOf (712 + 4 * k) 4 1 1000000 else pad (712 + 4 * k) 4)

/-- The field map of a table, fields in ascending offset. -/
def tableSpecs (s : State) (image : List Byte) : Nat → List FieldSpec
  | 1 => [pad 9 1, rangeOf 12 2 50 5000, rangeOf 14 2 1 3600, spec 20 1 (.zeroOr 8 30), choice 21 [0, 1], spec 22 1 (.bits 3), pad 23 1]
  | 2 => (List.range 16).flatMap fun h => [rangeOf (8 + 4 * h) 1 0 16, pad (9 + 4 * h) 1, rangeOf (10 + 4 * h) 2 1 600]
  | 3 => [choice 8 [0, 1], choice 9 [0, 1, 2], choice 10 [0, 1], rangeOf 11 1 1 5, rangeOf 12 2 1 64, rangeOf 14 2 1 168, rangeOf 16 2 4 256,
          rangeOf 18 2 16 1024, rangeOf 20 2 1 (min 16 (vatGib s / 32 / 16)), pad 22 2]
  | 4 => ((List.range 48).map fun c => spec (8 + c) 1 (.orNone 15)) ++ ((List.range 16).map fun k => spec (56 + k) 1 (.orNone 11)) ++
         [rangeOf 72 1 0 7, choice 73 [0, 1], rangeOf 74 1 1 30, rangeOf 75 1 2 10]
  | 5 => [choice 8 [0, 1, 2], choice 9 [0, 1], rangeOf 10 1 4 32, choice 11 [0, 1], rangeOf 12 2 1 128, rangeOf 14 1 0 75, rangeOf 15 1 50 90,
          rangeOf 16 4 65536 4194304, rangeOf 20 2 0 256, pad 22 2]
  | 6 => [rangeOf 8 4 100 100000, pad 12 4]
  | 7 => [rangeOf 8 1 1 255, rangeOf 9 1 1 50, choice 10 [0, 1], rangeOf 11 1 1 9, rangeOf 12 2 1 128, rangeOf 14 2 1 200, choice 16 [0, 1, 2], pad 17 3]
  | 8 => [rangeOf 8 4 500000 50000000, rangeOf 12 4 0x00010000 0x00C80000, rangeOf 16 2 100 10000, rangeOf 18 2 2000 5000, choice 20 [0, 1], pad 21 1,
          rangeOf 22 2 200 1500]
  | 9 => chemistrySpecs image
  | 10 => [rangeOf 8 4 0 4096, rangeOf 12 1 4 100, rangeOf 13 1 70 95, rangeOf 14 2 10 1200, rangeOf 16 2 10 150, rangeOf 18 2 20 500, rangeOf 20 2 0 200,
           rangeOf 22 1 50 100, pad 23 1]
  | 11 => [spec 8 2 (.bits 0x0FFF), rangeOf 10 2 100 10000, rangeOf 12 2 2000 5000, pad 14 2]
  | 12 => (List.range 16).flatMap (railSpecs image)
  | 13 => [rangeOf 24 1 32 44, pad 25 3]
  | 14 => [rangeOf 12 2 1 1000, rangeOf 14 2 1 10000, rangeOf 16 4 16 65536, pad 20 4]
  | 15 => [choice 16 [0, 1, 2], choice 17 [0, 1], pad 18 2, spec 20 4 (.signed (-10000) 10000)]
  | _ => []

/-! ### Consistency inside a table (R326 step 7) -/

/-- The offset of the first adjacent pair, of `n` fields `step` apart, at which a condition between them fails. -/
def brokenAt (image : List Byte) (off step width n : Nat) (good : Int → Int → Bool) : Option Nat :=
  (List.range (n - 1)).findSome? fun k =>
    if good (sfield image (off + step * k) width) (sfield image (off + step * (k + 1)) width) then none else some (off + step * (k + 1))

/-- R331: address, prefix and gateway agree; the address is unicast. -/
def portsConflict (image : List Byte) : Option Nat :=
  let a := field image 16 4
  let p := field image 20 1
  let g := field image 24 4
  if decide (a = 0) ≠ decide (p = 0) then some 20
  else if g ≠ 0 && (p = 0 || g / 2 ^ (32 - p) ≠ a / 2 ^ (32 - p)) then some 24 else none

/-- R331: a multicast or reserved address is no value of the field. -/
def addressReserved (image : List Byte) : Option Nat :=
  let a := field image 16 4
  if a ≠ 0 && (a / 2 ^ 24 = 0 || 224 ≤ a / 2 ^ 24) then some 16 else none

/-- R332: the LD count is 0 for the odd port of a joined pair, and for no other. -/
def headsConflict (image : List Byte) (joined : Nat → Bool) : Option Nat :=
  (List.range 16).findSome? fun h =>
    let odd := h % 2 = 1 && joined h
    if decide (field image (8 + 4 * h) 1 = 0) = odd then none else some (8 + 4 * h)

/-- R342: sequence positions, power-good and sense inputs are not shared. -/
def railsConflict (image : List Byte) : Option Nat :=
  (List.range 16).findSome? fun e => (List.range 3).findSome? fun k =>
    let at_ (x : Nat) : Nat := field image (8 + 12 * x + k) 1
    if at_ e ≠ 0xFF && (List.range e).any fun x => at_ x = at_ e then some (8 + 12 * e + k) else none

/-- R339: ascending temperatures and rates, nondecreasing voltages, and the class of a vouched pack. -/
def chemistryConflict (s : State) (image : List Byte) : Option Nat :=
  let nT := field image 9 1
  let nR := field image 10 1
  let pack := vouched s && ((s.sal.id.map fun p => decide (p.chemistry ≠ field image 8 1)).getD false)
  let less (a b : Int) : Bool := a < b
  let upTo (a b : Int) : Bool := a ≤ b
  if pack then some 8
  else match brokenAt image 12 2 2 nT less with
    | some o => some o
    | none => match brokenAt image 28 2 2 nR less with
      | some o => some o
      | none => minSome ((List.range nT).filterMap fun t => brokenAt image (40 + 4 * t) 32 4 21 upTo)
where
  /-- The smallest of the offsets found. -/
  minSome : List Nat → Option Nat
    | [] => none
    | x :: xs => some (xs.foldl min x)

/-- The first field that contradicts another. -/
def tableConflict (s : State) (image : List Byte) : Nat → Option Nat
  | 1 => portsConflict image
  | 2 => headsConflict image (joinedPair s)
  | 9 => chemistryConflict s image
  | 12 => railsConflict image
  | 14 => if (field image 8 4) % 2 = 0 then some 8 else none
  | _ => none

/-! ### Running operations (R346) -/

/-- R307: the learning cycle runs. -/
def learning (s : State) : Bool := s.sal.phase ≠ .none || longRuns s (· = .learn)

/-- R346: hold-off on a rail is forbidden. -/
def holdForbidden (s : State) (image : List Byte) (e : Nat) : Bool :=
  let b := 8 + 12 * e
  let i := field image (b + 4) 1
  match field image (b + 3) 1 with
  | 0 => true
  | 1 => let st := (dramAt s i).st; st ≠ .offline && st ≠ .failed && st ≠ .absent
  | 2 => (List.range 48).any fun c =>
      let st := (flashAt s c).st
      carrierOf s c = i && st ≠ .present && st ≠ .drained && st ≠ .failed && st ≠ .absent
  | _ => false

/-- R346: the refusal of an image that an operation running forbids: status and offset. -/
def tableBusy (s : State) (image : List Byte) : Nat → Option (Status × Nat)
  | 4 => ((List.range 48).find? fun c => ((flashAt s c).st = .adding || (flashAt s c).st = .draining) && field image (8 + c) 1 ≠ tableField s 4 (8 + c) 1).map
      fun c => (.conflict, 8 + c)
  | 5 => if frameCount s * field image 14 1 / 100 < pinnedPages s then some (.noSpace, 14) else none
  | 7 => if s.felt.pair = .linking && field image 8 1 ≠ linksEnabled s then some (.busy, 8) else none
  | 8 => if s.couch.orch = .armed then some (.busy, 8) else if learning s then some (.conflict, 8) else none
  | 9 => if learning s then some (.conflict, 8) else none
  | 12 => if s.couch.orch = .armed then some (.busy, 8)
      else ((List.range 16).find? fun e => field image (13 + 12 * e) 1 = 1 && holdForbidden s image e).map fun e => (.conflict, 13 + 12 * e)
  | 13 => if (s.felt.pair = .attached || s.felt.pair = .linking) && (image.drop 8).take 16 ≠ pairContext s then some (.conflict, 8) else none
  | _ => none

/-! ### The checks in order (R326) -/

def first (l : List (Option (Status × Nat))) : Option (Status × Nat) := l.findSome? id

/-- R325, R326 steps 1 to 4: the frame. -/
def frameRefusal (image : List Byte) (id : Nat) : Option (Status × Nat) :=
  let n := image.length
  if field image 0 2 ≠ 1 || n < 2 then some (.version, 0)
  else if field image 2 1 ≠ id || n < 3 then some (.conflict, 2)
  else if field image 4 4 ≠ tableLength id || n ≠ tableLength id then some (.badLength, 4)
  else if field image (n - 4) 4 ≠ (crc32c (image.take (n - 4))).toNat then some (.badCrc, n - 4)
  else none

/-- R326 steps 1 to 7: the refusal of an image's contents. -/
def contentRefusal (s : State) (image : List Byte) (id : Nat) : Option (Status × Nat) :=
  let specs := tableSpecs s image id
  first [frameRefusal image id,
    (firstNonzero image 3 1).map fun o => (.reservedField, o),
    (((specs.filterMap (reservedAt image)) ++ (if id = 1 then (addressReserved image).toList else [])).foldl (fun m o => some (match m with | some x => min x o | none => o)) none).map
      fun o => (.reservedField, o),
    (specs.findSome? (outsideAt image)).map fun o => (.range, o),
    (tableConflict s image id).map fun o => (.conflict, o)]

/-! ### Sealing (R329, R348) -/

/-- R329: tables that are writable while sealed; RAILS in its hold-off bytes. -/
def writableSealed (id : Nat) : Bool := (3 ≤ id && id ≤ 12) || id = 14 || id = 15

/-- R329: a RAILS image that differs from the one in force in more than hold-off bytes and its CRC. -/
def railsBeyondHold (s : State) (image : List Byte) : Bool :=
  let old := tableImage s 12
  (List.range 200).any fun k => !(8 ≤ k && (k - 8) % 12 = 5) && image.getD k 0 ≠ old.getD k 0

/-- R348: the cross-checks that fail, by the lowest table ID of each. -/
def crossFailures (s : State) : List Nat :=
  let heads := headsConflict (tableImage s 2) (joinedPair s)
  let ntc := (List.range 16).any fun k => carrierNtc s k < 12 && !ntcEnabled s (carrierNtc s k)
  let chem := vouched s && ((s.sal.id.map fun p => decide (p.chemistry ≠ tableField s 9 8 1)).getD false)
  (if heads.isSome then [1] else []) ++ (if ntc then [4] else []) ++ (if chem then [9] else [])

/-- R348: the lowest table ID that is unwritten or takes part in a failed check. -/
def sealFailure (s : State) : Option Nat :=
  let unwritten := (List.range 15).filterMap fun k => if (s.cmd.tables.getD k none).isNone then some (k + 1) else none
  match unwritten ++ crossFailures s with
  | [] => none
  | l => some (minOf l)

end Sys2Proof.Machine
end

