-- ==== Sys2Proof/Machine/Params.lean ====
section
/-! DEFINITION. Group 0x01: PARAM_WRITE with its chains and effects, PARAM_READ, CONFIG_SEAL and CONFIG_UNSEAL (R287, R300, R301, R306, R307, R325 to R349). -/

namespace Sys2Proof.Machine

/-! ### Effects of a table (R328 to R345) -/

/-- R330: ports whose join bit, enable bit or LD count differs between two states. -/
def portsChanged (a b : State) : List Nat :=
  (List.range 16).filter fun p =>
    joinedPair a p ≠ joinedPair b p || portEnabled a p ≠ portEnabled b p || ldCount a p ≠ ldCount b p

/-- R330: each affected port takes a RESET of scope PORT; a joined pair takes one. -/
def resetPorts (s : State) (ports : List Nat) : State :=
  s.each ports fun s p => if p % 2 = 1 && s.cxl.joined.contains (p - 1) && ports.contains (p - 1) then s else resetPort s p

/-- R282, R331: Ethernet off ends every UDP session. -/
def endUdp (s : State) : State :=
  s.each (s.cmd.sessions.filter fun x => match x.ch with | .udp _ _ => true | _ => false) fun s x => endSession s x.num false

/-- R157, R333: the run bin follows, and the directory cache area is spread again in the background; the blocks of a channel that is not
ONLINE leave it. -/
def vatWritten (s : State) : State :=
  let on := (s.vat.ch.filter (·.st = .online)).length
  let share := areaUnits s * 16 * 262144 / max 1 on
  let off := (List.range 16).filter fun c => (dramAt s c).st ≠ .online && (dramAt s c).share ≠ 0
  let s := s.onVat fun v =>
    { v with areaTarget := areaUnits s, setCount := on,
             ch := v.ch.map fun c => if c.st = .online then { c with shareTo := share, zeroTo := 0 } else { c with share := 0, shareTo := 0, zeroTo := 0 } }
  areaStep (retargetBin (s.each off fun s c => leaveBlocks s (onChannel c)))

/-- R183, R334: channels take the band of the carrier that they now lie on. -/
def reamWritten (s : State) : State :=
  let s := s.each (List.range 48) fun s c => setFlash s c fun f => { f with band := carrierBand s (carrierOf s c) }
  judgeCarriers s

/-- R10, R337: links no longer enabled go down; links newly enabled train for a pair. -/
def twinWritten (s : State) : State :=
  s.each (List.range 8) fun s t =>
    let l := linkAt s t
    let s := settleIsland s (.tw t) (!(linksEnabled s).testBit t || (unitAt s (.felt t)).st ≠ .inService)
    if !linkAllowed s t then (if l.st = .held then s else if l.st = .up || l.st = .trained then linkFalls s t true else holdLink s t)
    else if l.st = .held && s.felt.pair ≠ .detached then startFull s t else s

/-- R397: a hold-off newly set takes its rail down alone, one cleared brings it up alone. -/
def railsWritten (was s : State) : State :=
  s.each (List.range 16) fun s e =>
    if railHeld s e = railHeld was e then s
    else if railHeld s e then dropRail s e else s.onPower fun p => { p with pendingHold := some e }

/-- R335: the Curd mode of a TIERING image. -/
def imageMode (image : List Byte) : Mode := if field image 8 1 = 0 then .wb else if field image 8 1 = 1 then .wt else .off

/-- The effect of a table on what the tables do not hold themselves. -/
def tableEffect (was s : State) (image : List Byte) : Nat → State
  | 1 => let s := resetPorts s (portsChanged was s)
         if ethernetOn was && !ethernetOn s then endUdp s else s
  | 2 => resetPorts s (portsChanged was s)
  | 3 => vatWritten s
  | 4 => reamWritten s
  | 5 => retarget (s.onCurd fun c => { c with configured := imageMode image })
  | 7 => twinWritten s
  | 8 | 9 => judgeEnergy s
  | 10 => deckleBound s
  | 11 => judgeCarriers s
  | 12 => railsWritten was s
  | 14 => s.onLog fun l => { l with mask := BitVec.ofNat 32 (field image 8 4) }
  | 15 => s.onPower fun p => { p with ppsOut := p.ppsOut && ppsOutputOn s, ppsLocked := p.ppsLocked && decide (ppsInputMode s ≠ 0), ppsPhase := if ppsInputMode s = 0 then 0 else p.ppsPhase }
  | _ => s

/-! ### PARAM_WRITE (R287, R300, R306, R307, R326, R346) -/

def setChain (s : State) (x : Session) (c : Option Chain) : State := setSession s x.num fun x => { x with chain := c }

/-- R307: a refusal of the image's contents: detail 0xFFFF and the offset. -/
def refuseImage (s : State) (r : Req) (st : Status) (off : Nat) : State := reply s r 0x0101 st 0xFFFF (le 4 off)

/-- R122, R335, R346: the Curd mode changes during a drain. -/
def modeChangeDrains (s : State) (image : List Byte) (id : Nat) : Bool := id = 5 && s.curd.draining.isSome && imageMode image ≠ s.curd.configured

/-- R328, R329: the image is in force; a stricter Curd mode answers when its drain ends (R121). -/
def applyTable (s : State) (r : Req) (x : Session) (id : Nat) (image : List Byte) : State :=
  let same := tableImage s id = image
  let w := s.onCmd fun c => { c with tables := c.tables.set (id - 1) (some image) }
  if same then ok w r 0x0101 []
  else if id = 5 then
    let t := tableEffect s w image id
    if t.curd.draining.isSome && s.curd.draining.isNone && t.curd.drainReq.isNone then
      (defer t x r).onCurd fun c => { c with drainReq := some (r, 0x0101, x.num) }
    else ok t r 0x0101 []
  else if id = 1 || id = 2 || id = 12 then tableEffect s (ok w r 0x0101 []) image id
  else ok (tableEffect s w image id) r 0x0101 []

/-- The last element: the image is checked and applied as a whole, or not at all. The seal state comes before the contents (R298). -/
def writeTable (s : State) (r : Req) (x : Session) (id : Nat) (image : List Byte) : State :=
  if id = 12 && s.cmd.sealSt = .sealed && railsBeyondHold s image then refuse s r 0x0101 .sealed 0x000C
  else match contentRefusal s image id with
  | some (st, off) => refuseImage s r st off
  | none =>
    if modeChangeDrains s image id then refuse s r 0x0101 .busy 5
    else match tableBusy s image id with
      | some (st, off) => refuseImage s r st off
      | none => applyTable s r x id image

/-- R287, R298, R307: an element of a chain, or a packet alone. The seal state is judged before the refusals of the entry. -/
def writeElement (s : State) (r : Req) (x : Session) (more : Bool) (id : Nat) (bytes : List Byte) : State :=
  if s.cmd.sealSt = .sealed && !writableSealed id then
    refuse (if (x.chain.map fun c => decide (c.tag = r.tag)).getD false then setChain s x none else s) r 0x0101 .sealed id
  else match x.chain with
  | some c =>
    if c.tag ≠ r.tag then refuse s r 0x0101 .busy 3
    else if c.table ≠ id then refuse (setChain s x none) r 0x0101 .conflict 2
    else step_ (setChain s x none) (c.bytes ++ bytes)
  | none => step_ s bytes
where
  /-- The bytes of the chain so far, this element's included. -/
  step_ (s : State) (image : List Byte) : State :=
    if 1048576 < image.length then refuse s r 0x0101 .noSpace 8
    else if more then replyMore (setChain s x (some { tag := r.tag, table := id, bytes := image })) r 0x0101
    else writeTable s r x id image

/-- R306: a table ID that is reserved. -/
def tableReserved (table : U8) : Option (Status × Nat) := if table = 0 || 15 < table.toNat then some (.reservedField, 16) else none

/-- R287: an element that fails a check discards its chain. -/
def dropChain (s : State) (r : Req) : State :=
  match sessionOn s r.ch with
  | some x => if (x.chain.map fun c => decide (c.tag = r.tag)).getD false then setChain s x none else s
  | none => s

/-- PARAM_WRITE. -/
def execParamWrite (r : Req) (more : Bool) (table : U8) (bytes : List Byte) (s : State) : Res State :=
  let s := if (tableReserved table).isSome || !columnAllows s .fromLift then dropChain s r else s
  .next <| command s r 0x0101 (tableReserved table) .owner .fromLift fun s x => writeElement s r x more table.toNat bytes

/-- PARAM_READ: the written flag and the image in force. -/
def execParamRead (r : Req) (table : U8) (s : State) : Res State :=
  .next <| command s r 0x0102 (tableReserved table) .session .fromLift fun s _ =>
    let written := (s.cmd.tables.getD (table.toNat - 1) none).isSome
    ok s r 0x0102 (le 1 (if written then 1 else 0) ++ [0, 0, 0] ++ tableImage s table.toNat)

/-! ### CONFIG_SEAL and CONFIG_UNSEAL (R49, R87, R92, R95, R114, R301, R348, R349) -/

/-- R114: a D0 region is pinned if it fits under the pin limit; else an event names it. -/
def sealD0 (s : State) (g : Region) : State :=
  if pinWould s (regionPages g) ≤ pinLimit s then pinRegion s g.num else pinLimitEvent s g.num

/-- R49, R50, R87, R92, R95, R114, R347: the safe profile ends: with the bound recomputed at once, and drains resumed. -/
def endSafeProfile (s : State) : State :=
  let s := s.onCmd fun c => { c with safe := false, ready := .service }
  let s := s.each (s.regions.list.filter fun g => flagClass g.flags = 0) sealD0
  deckleBound (resumeDrains (requestClose (unforce s 1) [{ change := .sealGrants, req := none }]))

/-- CONFIG_SEAL: a later seal repeats the checks alone. -/
def execConfigSeal (r : Req) (s : State) : Res State :=
  .next <| command s r 0x0103 none .owner .fromLift fun s _ =>
    if s.cmd.sealSt = .sealed then refuse s r 0x0103 .sealed 0
    else match sealFailure s with
      | some id => reply s r 0x0103 .conflict 19 [BitVec.ofNat 8 id, 0, 0, 0]
      | none =>
        if s.cmd.sessions.any (·.chain.isSome) then refuse s r 0x0103 .busy 3
        else
          let first_ := s.cmd.safe
          let s := s.onCmd fun c => { c with sealSt := .sealed }
          ok (if first_ then endSafeProfile s else s) r 0x0103 []

/-- CONFIG_UNSEAL: full service goes on, with the tables in force. -/
def execConfigUnseal (r : Req) (s : State) : Res State :=
  .next <| command s r 0x0104 none .owner .sealedOnly fun s _ => ok (s.onCmd fun c => { c with sealSt := .unsealed }) r 0x0104 []

end Sys2Proof.Machine
end

