-- ==== Sys2Proof/Machine/Transports.lean ====
section
/-! DEFINITION. The transports of Kolnyx: segments, packets and scan mode, MCTP control, ARP and echo, timeouts, progress reports, and the TAP (R277 to R287, R290, R293, R295, R468). -/

namespace Sys2Proof.Machine

/-! ### Step 7 of R284: parameter lengths and reserved fields -/

/-- R296: the parameter length of an opcode. -/
inductive LengthRule where
  | exactly (n : Nat)
  | oneOf (ns : List Nat)
  | between (low high : Nat)
  deriving DecidableEq, Repr

/-- R303 to R323: the parameter length of each opcode; none for an opcode that is not defined. -/
def lengthRule (params : List Byte) : Nat → Option LengthRule
  | 0x0001 | 0x0004 | 0x0005 | 0x0103 | 0x0104 | 0x0401 | 0x0402 | 0x0501 | 0x0502 | 0x0503 | 0x0601 | 0x0602 | 0x0603 | 0x0605 | 0x0801 | 0x0803
  | 0x0C02 | 0x0C04 | 0x0C05 => some (.exactly 0)
  | 0x0002 => some (.oneOf (if field params 0 1 < 2 then [8] else if field params 0 1 = 2 then [104] else [8, 104]))
  | 0x0101 => some (.between 8 65536)
  | 0x0003 | 0x0102 | 0x0202 | 0x0205 | 0x0207 | 0x0208 | 0x0302 | 0x0304 | 0x0403 | 0x0404 | 0x0405 | 0x0504 | 0x0505 | 0x0606 | 0x0701 | 0x0702 | 0x0902
  | 0x0903 | 0x0B01 | 0x0B02 | 0x0B03 | 0x0B04 | 0x0B05 | 0x0C03 => some (.exactly 4)
  | 0x0006 | 0x0204 | 0x0206 | 0x0802 | 0x0901 | 0x0A02 | 0x0A04 => some (.exactly 8)
  | 0x0A01 => some (.exactly 12)
  | 0x0201 | 0x0203 | 0x0A03 | 0x0B06 => some (.exactly 16)
  | 0x0301 | 0x0303 | 0x0305 => some (.exactly 24)
  | 0x0604 => some (.exactly 64)
  | 0x0904 => some (.oneOf (if field params 0 1 = 0 then [16] else if field params 0 1 = 1 then [48] else [16, 48]))
  | 0x0C01 => some (.between 12 65536)
  | _ => none

/-- R284 step 7, R296: the refusal of a parameter length. -/
def lengthRefusal (rule : LengthRule) (n : Nat) : Option (Status × Nat) :=
  match rule with
  | .exactly k => if n = k then none else some (.badLength, k / 4)
  | .oneOf ks => if ks.contains n then none else some (.badLength, 0)
  | .between a b => if a ≤ n && n ≤ b then none else some (.badLength, 0)

/-- The offset that a reserved value answers, where it is refused with RESERVED_FIELD. -/
def reservedOffset (e : Option (Status × Nat)) : List Nat := (e.map (·.2)).toList

def word16 (params : List Byte) (o : Nat) : U16 := BitVec.ofNat 16 (field params o 2)
def byteAt (params : List Byte) (o : Nat) : U8 := BitVec.ofNat 8 (field params o 1)

/-- R297: the offsets that reserved region and unit values answer. -/
def regionBad (params : List Byte) : List Nat := reservedOffset (regionReserved (word16 params 0) 16)
def unitBad (params : List Byte) : List Nat := reservedOffset (unitReserved (word16 params 0))

/-- R303, R308 to R323: the reserved bytes of an opcode's parameters, as fields of its map. -/
def paramFields (params : List Byte) : Nat → List FieldSpec
  | 0x0002 => [pad 1 1, pad 4 4]
  | 0x0003 => [pad 2 2]
  | 0x0006 => [choice 0 [0, 1, 2, 3, 4], pad 1 1, pad 4 4] ++ (if 3 ≤ field params 0 1 then [pad 2 2] else [])
  | 0x0101 | 0x0102 => [pad 1 3]
  | 0x0201 => [pad 12 4]
  | 0x0202 | 0x0204 | 0x0205 | 0x0207 | 0x0208 | 0x0403 | 0x0404 | 0x0405 | 0x0606 | 0x0902 | 0x0B01 | 0x0B03 | 0x0B04 | 0x0B05 => [pad 2 2]
  | 0x0203 | 0x0301 | 0x0303 | 0x0305 => [pad 2 6]
  | 0x0206 => [choice 4 [0, 1, 2], pad 5 3]
  | 0x0304 => [choice 0 [0, 1, 2, 3], pad 1 3]
  | 0x0504 => [spec 2 1 (.bits 1), pad 3 1]
  | 0x0505 => [choice 2 [0, 1, 2], pad 3 1]
  | 0x0702 | 0x0B02 => [choice 2 [0, 1], pad 3 1]
  | 0x0802 => [pad 6 2]
  | 0x0901 | 0x0A04 => [pad 4 4]
  | 0x0904 => [choice 0 [0, 1], pad 1 7]
  | 0x0A01 => [pad 11 1]
  | 0x0A03 => [choice 0 [0, 1, 2, 3], pad 1 1, spec 4 4 (.bits 0x1F), pad 12 4]
  | 0x0B06 => [choice 2 [0, 1, 2, 3, 4], pad 4 4]
  | 0x0C03 => [choice 0 [0, 1], pad 1 3]
  | _ => []

/-- Reserved values of fields that other rules give: regions, units, flags words, sessions, tables and records. -/
def paramValues (params : List Byte) : Nat → List Nat
  | 0x0002 => reservedOffset (openReserved (byteAt params 0) (byteAt params 2) (byteAt params 3))
  | 0x0003 => if word16 params 0 = 0xFFFF then [16] else []
  | 0x0006 => if field params 0 1 = 2 then (unitBad (params.drop 2)).map (· + 2) else []
  | 0x0101 | 0x0102 => reservedOffset (tableReserved (byteAt params 0))
  | 0x0201 => reservedOffset (flagsReserved (BitVec.ofNat 32 (field params 8 4)) 24)
  | 0x0202 | 0x0203 | 0x0206 | 0x0301 | 0x0303 | 0x0305 | 0x0403 | 0x0404 | 0x0405 | 0x0504 | 0x0505 => regionBad params
  | 0x0204 => regionBad params ++ reservedOffset (flagsReserved (BitVec.ofNat 32 (field params 4 4)) 20)
  | 0x0205 => if word16 params 0 = 0xFFFF then [16] else []
  | 0x0207 | 0x0208 => if 1 < field params 0 1 then [16] else []
  | 0x0604 => reservedOffset (recordReserved params)
  | 0x0901 => (regionBad (params.drop 2)).map (· + 2)
  | 0x0A03 => reservedOffset (traceUnitReserved (word16 params 2))
  | 0x0B01 | 0x0B02 | 0x0B03 | 0x0B04 | 0x0B05 | 0x0B06 => unitBad params
  | _ => []

/-- R284 step 7: length, then the first reserved byte. -/
def stepSeven (op : Nat) (params : List Byte) : Option (Status × Nat) :=
  match lengthRule params op with
  | none => none
  | some rule =>
    match lengthRefusal rule params.length with
    | some e => some e
    | none =>
      match (paramFields params op).filterMap (reservedAt params) |>.map (· + 16) |>.append (paramValues params op) with
      | [] => none
      | l => some (.reservedField, minOf l)

/-! ### Packets of a channel's stream (R277, R283, R284, R286) -/

/-- R277: a parameter length that a header may carry. -/
def lengthValid (n : Nat) : Bool := n % 4 = 0 && n ≤ 65536

/-- R286: whether bytes form a candidate, may still form one, or do not. -/
inductive Cand where
  | no | maybe | yes
  deriving DecidableEq, Repr

def candidateOf (l : List Byte) : Cand :=
  let flags := field l 1 1
  let group := field l 3 1
  if field l 0 1 ≠ 2 || (2 ≤ l.length && (flags % 2 ≠ 0 || 8 ≤ flags)) || (4 ≤ l.length && 0x0C < group && group < 0xF0) ||
      (12 ≤ l.length && !lengthValid (field l 8 4)) then .no
  else if 12 ≤ l.length then .yes else .maybe

/-- R277: the CRC of a whole packet. -/
def packetCrc (p : List Byte) : Bool := (crc32c (p.take 12 ++ [0, 0, 0, 0] ++ p.drop 16)).toNat = field p 12 4

/-- R286, R295: bytes passed over, discarded and counted. -/
def discard (s : State) (ch : Chan) (n : Nat) : State := setChannel s ch fun c => { c with rx := c.rx.drop n, discarded := c.discarded + min n c.rx.length }

/-- R295: the bytes of a discarded segment count on its channel, where that stands. -/
def discardSegment (s : State) (ch : Chan) (n : Nat) : State :=
  if s.cmd.channels.any (·.ch = ch) then setChannel s ch fun c => { c with discarded := c.discarded + n } else s

def setScan (s : State) (ch : Chan) (on : Bool) : State := setChannel s ch fun c => { c with scan := on }

/-- R278: a reply to a packet whose header failed a check. -/
def headerReply (s : State) (ch : Chan) (packet : List Byte) (st : Status) (detail : Nat) : State :=
  let bytes := headerReplyBytes ((packet.drop 2).take 6) st detail
  sendBytes ((countFailure s ch st).emit (.headerReply ch bytes st detail)) ch bytes

/-- R277, R291: a packet of a session whose host tag is in use, or that is beyond the 32 requests that may be outstanding. Elements of
a chain share their host tag (R287). -/
def arrivalRefusal (s : State) (ch : Chan) (tag : U32) (op : Nat) : Option (Status × Nat) :=
  let mine := s.cmd.arrived.filter (·.ch = ch)
  (sessionOn s ch).bind fun x =>
    firstOf [(tagInUse s x tag || mine.any fun a => decide (a.tag = tag) && !(a.more && decide (a.opcode.toNat = op)), .conflict, 1),
             (decide (32 ≤ x.outstanding.length + mine.length), .busy, 0)]

/-- R291: the packet has arrived at the Command Processor. -/
def arrive (s : State) (ch : Chan) (p : List Byte) : State :=
  let flags := field p 1 1
  s.onCmd fun c => { c with
    arrived := c.arrived ++ [{ ch := ch, tag := BitVec.ofNat 32 (field p 4 4), opcode := BitVec.ofNat 16 (field p 2 2), urgent := 4 ≤ flags % 8,
                               more := flags / 2 % 2 = 1, params := p.drop 16, number := c.arrivals }],
    arrivals := c.arrivals + 1 }

/-- R284 steps 5 to 7 of a packet whose CRC holds. -/
def admitPacket (s : State) (ch : Chan) (p : List Byte) : State :=
  let flags := field p 1 1
  let op := field p 2 2
  let r : Req := { ch := ch, tag := BitVec.ofNat 32 (field p 4 4), urgent := 4 ≤ flags % 8 }
  let refused (st : Status) (d : Nat) : State := reject s r (BitVec.ofNat 16 op) st d
  if flags % 2 = 1 || 8 ≤ flags || (flags / 2 % 2 = 1 && op ≠ 0x0101) then refused .reservedField 1
  else if 0xF000 ≤ op then (if unlocked s ch then arrive s ch p else refused .notOwner 4)
  else if (lengthRule [] op).isNone then refused .undefinedOpcode 0
  else match stepSeven op (p.drop 16) with
    | some (st, d) => reject (if op = 0x0101 then dropChain s r else s) r (BitVec.ofNat 16 op) st d
    | none => match arrivalRefusal s ch r.tag op with
      | some (st, d) => refused st d
      | none => arrive s ch p

/-- A whole packet leaves the receive buffer. -/
def takePacket (s : State) (ch : Chan) (n : Nat) : State := setChannel s ch fun c => { c with rx := c.rx.drop n }

/-- R284 steps 1 to 4, in normal mode; none while more bytes are needed. -/
def normalStep (s : State) (ch : Chan) (rx : List Byte) : Option State :=
  let v := field rx 0 1
  if v = 2 then
    if rx.length < 16 then none
    else if !lengthValid (field rx 8 4) then some (setScan (discard (headerReply s ch rx .badLength 0) ch 1) ch true)
    else
      let n := 16 + field rx 8 4
      if rx.length < n then none
      else if !packetCrc (rx.take n) then some (setScan (discard (headerReply s ch rx .badCrc 0) ch 1) ch true)
      else some (admitPacket (takePacket s ch n) ch (rx.take n))
  else if 1 ≤ v && v ≤ 15 then
    if rx.length < 8 then none else some (setScan (discard (headerReply s ch rx .version 2) ch 1) ch true)
  else some (setScan (discard s ch 1) ch true)

/-- R286: scan mode. -/
def scanStep (s : State) (ch : Chan) (rx : List Byte) : Option State :=
  match candidateOf rx with
  | .no => some (discard s ch 1)
  | .maybe => none
  | .yes =>
    let n := 16 + field rx 8 4
    if rx.length < n then none
    else if packetCrc (rx.take n) then some (admitPacket (setScan (takePacket s ch n) ch false) ch (rx.take n))
    else some (discard s ch 1)

/-- R280, R283: packets are taken from the stream; none while the channel's reply queue is full. -/
def consume : Nat → State → Chan → State
  | 0, s, _ => s
  | n + 1, s, ch =>
    let c := channelOf s ch
    if c.rx.isEmpty || replyQueueFull s ch then s
    else match (if c.scan then scanStep s ch c.rx else normalStep s ch c.rx) with
      | some t => consume n t ch
      | none => s

/-- The stream as far as it goes: every turn takes at least one byte. -/
def consumeAll (s : State) (ch : Chan) : State := consume (channelOf s ch).rx.length s ch

/-- R283, R286: a segment arrives; in scan mode one that begins with a candidate displaces what waits. -/
def receive (s : State) (ch : Chan) (seg : List Byte) : State :=
  let c := channelOf s ch
  let s := s.onCmd fun k => { k with uses := k.uses + 1 }
  let s := if c.scan && candidateOf seg = .yes then discard s ch c.rx.length else s
  consumeAll (setChannel s ch fun c => { c with rx := c.rx ++ seg, lastUse := s.cmd.uses }) ch

/-- R279, R429: the Command Processor answers: from READY.CORE on, and in loader recovery over SMBus alone. -/
def answers (s : State) (ch : Chan) : Bool := readyCode s ≠ 0 && recoveryChannel s ch

/-! ### The mailbox (R280) -/

/-- R280: the receive buffer of a channel. -/
def receiveRoom : Nat := 132 * 1024

/-- KOLNYX_WRITE. -/
def execKolnyxWrite (head ld : Nat) (payload : List Byte) (s : State) : Res State :=
  let ch := Chan.mailbox head ld
  if !identityUp s head ld || !answers s ch then .next s
  else if receiveRoom < (channelOf s ch).rx.length + payload.length then .next (s.emit (.mailbox head ld true []))
  else .next (receive (s.emit (.mailbox head ld false [])) ch payload)

/-- R293: reports that waited for room enter the reply queue. -/
def releaseHeld (s : State) (ch : Chan) : State :=
  if replyQueueFull s ch then s else setChannel s ch fun c => { c with replies := c.replies ++ c.held.flatMap Reply.bytes, held := [] }

/-- KOLNYX_READ. -/
def execKolnyxRead (head ld : Nat) (maxLen : U32) (s : State) : Res State :=
  let ch := Chan.mailbox head ld
  if !identityUp s head ld || !answers s ch then .next s
  else
    let n := min maxLen.toNat 4096
    let c := channelOf s ch
    let s := (setChannel s ch fun c => { c with replies := c.replies.drop n }).emit (.mailbox head ld false (c.replies.take n))
    .next (consumeAll (releaseHeld s ch) ch)

/-! ### MCTP (R281) -/

/-- R281, R331: the binding is enabled: an SMBus port in PORTS, a head whose link is up. -/
def busOn (s : State) : Bus → Bool
  | .smbus p => mctpPortEnabled s p
  | .vdm h => s.cxl.linkUp.contains h

def busChan (bus : Bus) (eid : Nat) : Chan :=
  match bus with
  | .smbus p => .smbus p eid
  | .vdm h => .vdm h eid

def busAnswers (s : State) (bus : Bus) (eid : Nat) : Bool := busOn s bus && answers s (busChan bus eid)

/-- MCTP_MESSAGE: byte 0 is the message type with the integrity-check bit, then the enterprise number, then the segment, and the
CRC-32C when that bit is set. -/
def execMctpMessage (bus : Bus) (eid : Nat) (body : List Byte) (s : State) : Res State :=
  let ic := 128 ≤ field body 0 1
  let n := body.length
  let inner := if ic then body.take (n - 4) else body
  let seg := inner.drop 5
  let bad := field body 0 1 % 128 ≠ 0x7F || (body.drop 1).take 4 ≠ [0x00, 0x00, 0xD3, 0xA1] || decide (4096 < seg.length) ||
    (ic && (decide (n < 9) || (crc32c inner).toNat ≠ field body (n - 4) 4))
  if !busAnswers s bus eid then .next s
  else if bad then .next (discardSegment (s.onCmd fun c => { c with mctpDiscards := c.mctpDiscards + 1 }) (busChan bus eid) (if field body 0 1 % 128 = 0x7F && (body.drop 1).take 4 = [0x00, 0x00, 0xD3, 0xA1] then seg.length else 0))
  else .next (receive s (busChan bus eid) seg)

/-- The answer to an MCTP control message: completion code and data. -/
def mctpReply (s : State) (bus : Bus) (src completion : Nat) (data : List Byte) : Res State :=
  .next (if busAnswers s bus src then s.emit (.mctp bus src completion data) else s)

/-- R281: the endpoint ID of a binding; 0 while none is set. -/
def endpointId (s : State) (bus : Bus) : U8 := ((s.cmd.eids.find? (·.1 = bus)).map (·.2)).getD 0

/-- SET_ENDPOINT_ID (log entry 39): 0x00 and 0xFF are no endpoint IDs. -/
def execSetEndpointId (bus : Bus) (src : Nat) (eid : U8) (s : State) : Res State :=
  if !busAnswers s bus src then .next s
  else if eid = 0 || eid = 0xFF then mctpReply s bus src 0x02 []
  else mctpReply (s.onCmd fun c => { c with eids := c.eids.filter (·.1 ≠ bus) ++ [(bus, eid)] }) bus src 0 [0, eid, 0]

/-- GET_ENDPOINT_ID (log entry 39). -/
def execGetEndpointId (bus : Bus) (src : Nat) (s : State) : Res State := mctpReply s bus src 0 [endpointId s bus, 0, 0]

/-- GET_MCTP_VERSION_SUPPORT (log entry 39): the base, the control messages and the vendor-defined type. -/
def execGetMctpVersionSupport (bus : Bus) (src : Nat) (msgType : U8) (s : State) : Res State :=
  if [0xFF, 0x00, 0x7F].contains msgType.toNat then mctpReply s bus src 0 (1 :: (le 4 Config.mctpVersion.toNat).reverse) else mctpReply s bus src 0x80 []

/-- GET_MESSAGE_TYPE_SUPPORT (R281): vendor-defined IANA messages beside control. -/
def execGetMessageTypeSupport (bus : Bus) (src : Nat) (s : State) : Res State := mctpReply s bus src 0 [1, 0x7F]

/-- GET_VENDOR_DEFINED_MESSAGE_SUPPORT (R281): one set, the IANA enterprise number, most significant byte first. -/
def execGetVendorDefinedMessageSupport (bus : Bus) (src : Nat) (selector : U8) (s : State) : Res State :=
  if selector = 0 then mctpReply s bus src 0 [0xFF, 0x01, 0x00, 0x00, 0xD3, 0xA1, 0x00, 0x00] else mctpReply s bus src 0x02 []

/-- MCTP_OTHER_CONTROL_MESSAGE (R281): ERROR_UNSUPPORTED_CMD. -/
def execMctpOtherControlMessage (bus : Bus) (src : Nat) (_command : U8) (s : State) : Res State := mctpReply s bus src 0x05 []

/-! ### Ethernet (R282, R331) -/

/-- R282, R331: the device's IPv4 address: static, or link-local. -/
def ownAddress (s : State) : U32 := if ipv4Address s = 0 then Config.linkLocal else ipv4Address s

/-- R279, R429: Ethernet answers: enabled, from READY.CORE on, and not in loader recovery. -/
def ethernetAnswers (s : State) : Bool := ethernetOn s && readyCode s ≠ 0 && s.cmd.ready ≠ .recovery

def isUdp : Chan → Bool
  | .udp _ _ => true
  | _ => false

/-- R282: a new source beyond 256 UDP channels replaces the least recently used one that holds no session. -/
def makeUdpRoom (s : State) (ch : Chan) : State :=
  let udp := s.cmd.channels.filter fun c => isUdp c.ch
  if (udp.any (·.ch = ch)) || udp.length < 256 then s
  else
    let free := udp.filter fun c => (sessionOn s c.ch).isNone
    match free.find? fun c => c.lastUse = minOf (free.map (·.lastUse)) with
    | some old => s.onCmd fun c => { c with channels := c.channels.filter (·.ch ≠ old.ch) }
    | none => s

/-- UDP_DATAGRAM: a fragment is discarded and counted, a bad checksum discarded. -/
def execUdpDatagram (ip : U32) (port : Nat) (fragmented checksumOk : Bool) (payload : List Byte) (s : State) : Res State :=
  if !ethernetAnswers s then .next s
  else if fragmented then .next (discardSegment (s.onCmd fun c => { c with udpDiscards := c.udpDiscards + 1 }) (.udp ip port) payload.length)
  else if !checksumOk || 1472 < payload.length then .next (discardSegment s (.udp ip port) payload.length)
  else .next (receive (makeUdpRoom s (.udp ip port)) (.udp ip port) payload)

/-- ARP_FRAME: a request for the device's address is answered. -/
def execArpFrame (senderIp : U32) (senderMac : BitVec 48) (targetIp : U32) (s : State) : Res State :=
  .next (if ethernetAnswers s && targetIp = ownAddress s then s.emit (.arp senderIp senderMac) else s)

/-- ICMP_ECHO_REQUEST: the echo reply. -/
def execIcmpEchoRequest (ip : U32) (id seq : U16) (data : List Byte) (s : State) : Res State :=
  .next (if ethernetAnswers s then s.emit (.icmp ip id seq data) else s)

/-! ### Timeouts and progress (R285, R287, R290, R293) -/

/-- R287: the chain of the channel's session times out with its channel. -/
def chainTimesOut (s : State) (ch : Chan) : State :=
  match sessionOn s ch with
  | some x => setChain s x none
  | none => s

/-- REASSEMBLY_TIMEOUT (R285 to R287): an incomplete packet is discarded, with TRUNCATED if its header stands; a waiting candidate is
dropped and the scan goes on. -/
def execReassemblyTimeout (ch : Chan) (s : State) : Res State :=
  if !answers s ch then .next s
  else
    let c := channelOf s ch
    let s := chainTimesOut s ch
    if c.rx.isEmpty || replyQueueFull s ch then .next s
    else if c.scan then .next (consumeAll (discard s ch 1) ch)
    else if 16 ≤ c.rx.length then .next (setScan (takePacket (headerReply s ch c.rx .truncated 0) ch c.rx.length) ch true)
    else .next (setScan (discard s ch c.rx.length) ch true)

/-- SESSION_IDLE_TIMEOUT (R290): MCTP and UDP sessions end. -/
def execSessionIdleTimeout (session : Nat) (s : State) : Res State :=
  match sessionNum s session with
  | some x => match x.ch with
    | .mailbox _ _ => .next s
    | .smbus _ _ | .vdm _ _ | .udp _ _ => .next (endSession s session false)
  | none => .next s

/-- R293: the parameters of a progress report. -/
def progressParams (o : LongOp) : List Byte := le 8 o.done ++ le 8 o.total ++ le 4 o.unit

/-- R293: the operation's progress report; while a mailbox's reply queue is full the newest is kept. -/
def reportProgress (s : State) (o : LongOp) : State :=
  match reportChannel s o with
  | none => s
  | some ch =>
    let p : Reply := { opcode := o.opcode, tag := o.tag, more := true, urgent := false, status := .accepted, detail := 0, params := progressParams o }
    if replyQueueFull s ch then
      setChannel s ch fun c => { c with held := (c.held.filter fun x => !(x.tag = p.tag && x.opcode = p.opcode)) ++ [p] }
    else sendReply s ch p

/-- PROGRESS_REPORT_TICK. -/
def execProgressReportTick (s : State) : Res State := .next (s.each s.cmd.longOps reportProgress)

/-! ### The TAP (R468) -/

/-- R468: EXTEST, HIGHZ and CLAMP act below READY.CORE and in maintenance boot alone. -/
def jtagActs (s : State) : Bool := s.cmd.ready = .below || s.cmd.ready = .maintenance || s.cmd.ready = .recovery

/-- JTAG_INSTRUCTION: at READY.CORE and above the three act as BYPASS. -/
def execJtagInstruction (instruction : Jtag) (s : State) : Res State :=
  let done : Jtag := match instruction with
    | .extest | .highz | .clamp => if jtagActs s then instruction else .bypass
    | .bypass | .idcode | .samplePreload => instruction
  .next ((s.onLedger fun l => { l with jtagLast := done }).emit (.jtag done))

end Sys2Proof.Machine
end

