-- ==== Sys2Proof/Machine/Dispatch.lean ====
section
/-! DEFINITION. exec: one arm per constructor of Instr, each a direct call of its meaning. -/

namespace Sys2Proof.Machine

def exec (i : Instr) (s : State) : Host.Outcome State Fault Refusal :=
  match i with
  | .identify r => Sys2Proof.Machine.execIdentify r s
  | .sessionOpen r kind head ld tokenOk => Sys2Proof.Machine.execSessionOpen r kind head ld tokenOk s
  | .sessionClose r successor => Sys2Proof.Machine.execSessionClose r successor s
  | .nop r => Sys2Proof.Machine.execNop r s
  | .getReadyState r => Sys2Proof.Machine.execGetReadyState r s
  | .resetSession r object => Sys2Proof.Machine.execResetSession r object s
  | .resetPort r object => Sys2Proof.Machine.execResetPort r object s
  | .resetUnit r object => Sys2Proof.Machine.execResetUnit r object s
  | .resetWarm r => Sys2Proof.Machine.execResetWarm r s
  | .resetCold r => Sys2Proof.Machine.execResetCold r s
  | .paramWrite r more table bytes => Sys2Proof.Machine.execParamWrite r more table bytes s
  | .paramRead r table => Sys2Proof.Machine.execParamRead r table s
  | .configSeal r => Sys2Proof.Machine.execConfigSeal r s
  | .configUnseal r => Sys2Proof.Machine.execConfigUnseal r s
  | .regionCreate r size flags => Sys2Proof.Machine.execRegionCreate r size flags s
  | .regionDestroy r region => Sys2Proof.Machine.execRegionDestroy r region s
  | .regionResize r region size => Sys2Proof.Machine.execRegionResize r region size s
  | .regionSetFlags r region flags => Sys2Proof.Machine.execRegionSetFlags r region flags s
  | .regionQuery r region => Sys2Proof.Machine.execRegionQuery r region s
  | .regionGrant r region head ld access => Sys2Proof.Machine.execRegionGrant r region head ld access s
  | .capacityAdd r kind index => Sys2Proof.Machine.execCapacityAdd r kind index s
  | .capacityDrain r kind index => Sys2Proof.Machine.execCapacityDrain r kind index s
  | .tierPin r region offset length => Sys2Proof.Machine.execTierPin r region offset length s
  | .tierUnpin r handle => Sys2Proof.Machine.execTierUnpin r handle s
  | .tierPrefetch r region offset length => Sys2Proof.Machine.execTierPrefetch r region offset length s
  | .cacheControlSet r mode => Sys2Proof.Machine.execCacheControlSet r mode s
  | .cacheControlQuery r => Sys2Proof.Machine.execCacheControlQuery r s
  | .zeroLines r region offset length => Sys2Proof.Machine.execZeroLines r region offset length s
  | .watermarkClose r => Sys2Proof.Machine.execWatermarkClose r s
  | .watermarkQuery r => Sys2Proof.Machine.execWatermarkQuery r s
  | .flushRegion r region => Sys2Proof.Machine.execFlushRegion r region s
  | .snapshotBegin r region => Sys2Proof.Machine.execSnapshotBegin r region s
  | .snapshotEnd r region => Sys2Proof.Machine.execSnapshotEnd r region s
  | .twinAttach r => Sys2Proof.Machine.execTwinAttach r s
  | .twinDetach r => Sys2Proof.Machine.execTwinDetach r s
  | .twinStatus r => Sys2Proof.Machine.execTwinStatus r s
  | .twinResync r region flags => Sys2Proof.Machine.execTwinResync r region flags s
  | .twinRoleHandover r region flags => Sys2Proof.Machine.execTwinRoleHandover r region flags s
  | .twinRoleForce r region flags => Sys2Proof.Machine.execTwinRoleForce r region flags s
  | .energyStatus r => Sys2Proof.Machine.execEnergyStatus r s
  | .energyLearnStart r => Sys2Proof.Machine.execEnergyLearnStart r s
  | .energyLearnAbort r => Sys2Proof.Machine.execEnergyLearnAbort r s
  | .energyLearnedWrite r bytes => Sys2Proof.Machine.execEnergyLearnedWrite r bytes s
  | .deckleStatus r => Sys2Proof.Machine.execDeckleStatus r s
  | .couchRehearse r size => Sys2Proof.Machine.execCouchRehearse r size s
  | .thermalStatus r first count => Sys2Proof.Machine.execThermalStatus r first count s
  | .sensorExclude r sensor => Sys2Proof.Machine.execSensorExclude r sensor s
  | .sensorInclude r sensor => Sys2Proof.Machine.execSensorInclude r sensor s
  | .railStatus r => Sys2Proof.Machine.execRailStatus r s
  | .rindRead r start count => Sys2Proof.Machine.execRindRead r start count s
  | .orderlyPowerDown r => Sys2Proof.Machine.execOrderlyPowerDown r s
  | .keySlotBind r slot region => Sys2Proof.Machine.execKeySlotBind r slot region s
  | .keySlotRetire r slot => Sys2Proof.Machine.execKeySlotRetire r slot s
  | .keyStatus r slot count => Sys2Proof.Machine.execKeyStatus r slot count s
  | .starterProvision r mode serial key => Sys2Proof.Machine.execStarterProvision r mode serial key s
  | .eventRead r first count minSeverity => Sys2Proof.Machine.execEventRead r first count minSeverity s
  | .eventAck r upTo => Sys2Proof.Machine.execEventAck r upTo s
  | .traceStart r unit mask buffer => Sys2Proof.Machine.execTraceStart r unit mask buffer s
  | .traceStop r => Sys2Proof.Machine.execTraceStop r s
  | .traceRead r => Sys2Proof.Machine.execTraceRead r s
  | .traceClear r => Sys2Proof.Machine.execTraceClear r s
  | .alarmMask r mask => Sys2Proof.Machine.execAlarmMask r mask s
  | .unitFence r unit => Sys2Proof.Machine.execUnitFence r unit s
  | .unitTest r unit => Sys2Proof.Machine.execUnitTest r unit s
  | .unitStatusQuery r unit => Sys2Proof.Machine.execUnitStatusQuery r unit s
  | .unitReturn r unit => Sys2Proof.Machine.execUnitReturn r unit s
  | .channelOffline r unit => Sys2Proof.Machine.execChannelOffline r unit s
  | .channelOnline r unit => Sys2Proof.Machine.execChannelOnline r unit s
  | .errorInject r unit kind count dpa => Sys2Proof.Machine.execErrorInject r unit kind count dpa s
  | .fwDownload r offset size data => Sys2Proof.Machine.execFwDownload r offset size data s
  | .fwVerify r => Sys2Proof.Machine.execFwVerify r s
  | .fwActivate r mode => Sys2Proof.Machine.execFwActivate r mode s
  | .fwConfirm r => Sys2Proof.Machine.execFwConfirm r s
  | .fwStatus r => Sys2Proof.Machine.execFwStatus r s
  | .diagnosticOpcode r opcode => Sys2Proof.Machine.execDiagnosticOpcode r opcode s
  | .kolnyxWrite head ld payload => Sys2Proof.Machine.execKolnyxWrite head ld payload s
  | .kolnyxRead head ld maxLen => Sys2Proof.Machine.execKolnyxRead head ld maxLen s
  | .mctpMessage bus eid body => Sys2Proof.Machine.execMctpMessage bus eid body s
  | .setEndpointId bus src eid => Sys2Proof.Machine.execSetEndpointId bus src eid s
  | .getEndpointId bus src => Sys2Proof.Machine.execGetEndpointId bus src s
  | .getMctpVersionSupport bus src msgType => Sys2Proof.Machine.execGetMctpVersionSupport bus src msgType s
  | .getMessageTypeSupport bus src => Sys2Proof.Machine.execGetMessageTypeSupport bus src s
  | .getVendorDefinedMessageSupport bus src selector => Sys2Proof.Machine.execGetVendorDefinedMessageSupport bus src selector s
  | .mctpOtherControlMessage bus src command => Sys2Proof.Machine.execMctpOtherControlMessage bus src command s
  | .udpDatagram ip port fragmented checksumOk payload => Sys2Proof.Machine.execUdpDatagram ip port fragmented checksumOk payload s
  | .arpFrame senderIp senderMac targetIp => Sys2Proof.Machine.execArpFrame senderIp senderMac targetIp s
  | .icmpEchoRequest ip id seq data => Sys2Proof.Machine.execIcmpEchoRequest ip id seq data s
  | .reassemblyTimeout ch => Sys2Proof.Machine.execReassemblyTimeout ch s
  | .sessionIdleTimeout session => Sys2Proof.Machine.execSessionIdleTimeout session s
  | .progressReportTick => Sys2Proof.Machine.execProgressReportTick s
  | .cxlMemRead head ld hostTag hpa => Sys2Proof.Machine.execCxlMemRead head ld hostTag hpa s
  | .cxlMemWrite head ld hostTag hpa data be poison => Sys2Proof.Machine.execCxlMemWrite head ld hostTag hpa data be poison s
  | .hdmDecoderCommit head ld index hpaBase dpaBase size ways => Sys2Proof.Machine.execHdmDecoderCommit head ld index hpaBase dpaBase size ways s
  | .getLdInfo head => Sys2Proof.Machine.execGetLdInfo head s
  | .getLdAllocations head => Sys2Proof.Machine.execGetLdAllocations head s
  | .setLdAllocations head => Sys2Proof.Machine.execSetLdAllocations head s
  | .getDcExtentList head ld => Sys2Proof.Machine.execGetDcExtentList head ld s
  | .dcReleaseResponse head ld region runs => Sys2Proof.Machine.execDcReleaseResponse head ld region runs s
  | .releaseTimeout head ld region => Sys2Proof.Machine.execReleaseTimeout head ld region s
  | .gpfPhase2Request head => Sys2Proof.Machine.execGpfPhase2Request head s
  | .setShutdownState head ld state => Sys2Proof.Machine.execSetShutdownState head ld state s
  | .getEventRecords head ld log => Sys2Proof.Machine.execGetEventRecords head ld log s
  | .clearEventRecords head ld log handles => Sys2Proof.Machine.execClearEventRecords head ld log handles s
  | .getEventInterruptPolicy head ld => Sys2Proof.Machine.execGetEventInterruptPolicy head ld s
  | .setEventInterruptPolicy head ld policy => Sys2Proof.Machine.execSetEventInterruptPolicy head ld policy s
  | .hostLinkUp port joined => Sys2Proof.Machine.execHostLinkUp port joined s
  | .hostLinkDown port => Sys2Proof.Machine.execHostLinkDown port s
  | .wireBeatReceived link b => Sys2Proof.Machine.execWireBeatReceived link b s
  | .wireNakReceived link b => Sys2Proof.Machine.execWireNakReceived link b s
  | .retryResponse age => Sys2Proof.Machine.execRetryResponse age s
  | .engineFaultDetected engine memory => Sys2Proof.Machine.execEngineFaultDetected engine memory s
  | .engineHeartbeatTimeout engine => Sys2Proof.Machine.execEngineHeartbeatTimeout engine s
  | .spareRoleResumed fenced => Sys2Proof.Machine.execSpareRoleResumed fenced s
  | .islandFrequencyChangeDone island => Sys2Proof.Machine.execIslandFrequencyChangeDone island s
  | .epochCloseComplete => Sys2Proof.Machine.execEpochCloseComplete s
  | .autoCloseIntervalExpiry => Sys2Proof.Machine.execAutoCloseIntervalExpiry s
  | .deckleRecompute => Sys2Proof.Machine.execDeckleRecompute s
  | .writeCreditIdleTimeout port => Sys2Proof.Machine.execWriteCreditIdleTimeout port s
  | .pageChargeMessage page => Sys2Proof.Machine.execPageChargeMessage page s
  | .curdFillArrival line => Sys2Proof.Machine.execCurdFillArrival line s
  | .evictionOffer line => Sys2Proof.Machine.execEvictionOffer line s
  | .dramWriteAck line => Sys2Proof.Machine.execDramWriteAck line s
  | .streamTrackerTimeout port tracker => Sys2Proof.Machine.execStreamTrackerTimeout port tracker s
  | .frameReclaim page => Sys2Proof.Machine.execFrameReclaim page s
  | .pageCleanStart page => Sys2Proof.Machine.execPageCleanStart page s
  | .pageCleanComplete page loc => Sys2Proof.Machine.execPageCleanComplete page loc s
  | .curdDrainComplete => Sys2Proof.Machine.execCurdDrainComplete s
  | .curdSlicePowerUpDone => Sys2Proof.Machine.execCurdSlicePowerUpDone s
  | .reamFetchComplete page outcome => Sys2Proof.Machine.execReamFetchComplete page outcome s
  | .deadlineMarginExpiry age => Sys2Proof.Machine.execDeadlineMarginExpiry age s
  | .dramAccessComplete line err => Sys2Proof.Machine.execDramAccessComplete line err s
  | .caParityAlert channel => Sys2Proof.Machine.execCaParityAlert channel s
  | .refreshIntervalTick channel bank => Sys2Proof.Machine.execRefreshIntervalTick channel bank s
  | .refreshWindowExpiry channel => Sys2Proof.Machine.execRefreshWindowExpiry channel s
  | .rowIdleTimeout channel bank => Sys2Proof.Machine.execRowIdleTimeout channel bank s
  | .dramTrainingStepComplete channel step => Sys2Proof.Machine.execDramTrainingStepComplete channel step s
  | .dramFrequencyChangeDone channel ok => Sys2Proof.Machine.execDramFrequencyChangeDone channel ok s
  | .scrubRead frame err => Sys2Proof.Machine.execScrubRead frame err s
  | .rowRepairSpprDone channel row noSpare => Sys2Proof.Machine.execRowRepairSpprDone channel row noSpare s
  | .rowRepairHpprDone channel row => Sys2Proof.Machine.execRowRepairHpprDone channel row s
  | .channelVacateComplete channel => Sys2Proof.Machine.execChannelVacateComplete channel s
  | .spdHubLossTimeout channel => Sys2Proof.Machine.execSpdHubLossTimeout channel s
  | .directoryAreaResizeComplete => Sys2Proof.Machine.execDirectoryAreaResizeComplete s
  | .pageMoveEnd page loc => Sys2Proof.Machine.execPageMoveEnd page loc s
  | .flashTrainingComplete channel result targets found => Sys2Proof.Machine.execFlashTrainingComplete channel result targets found s
  | .nandOperationOverrun channel op => Sys2Proof.Machine.execNandOperationOverrun channel op s
  | .targetStatusTimeout channel target => Sys2Proof.Machine.execTargetStatusTimeout channel target s
  | .flashAbsentProbeTick channel found => Sys2Proof.Machine.execFlashAbsentProbeTick channel found s
  | .stageGatherTimeout => Sys2Proof.Machine.execStageGatherTimeout s
  | .stageProgramComplete => Sys2Proof.Machine.execStageProgramComplete s
  | .nandProgramFailure channel block => Sys2Proof.Machine.execNandProgramFailure channel block s
  | .nandEraseComplete channel block ok => Sys2Proof.Machine.execNandEraseComplete channel block ok s
  | .reclamationStart channel lun block => Sys2Proof.Machine.execReclamationStart channel lun block s
  | .patrolRead channel block neededRetry => Sys2Proof.Machine.execPatrolRead channel block neededRetry s
  | .wearLevelMove channel block => Sys2Proof.Machine.execWearLevelMove channel block s
  | .channelFormatComplete channel pass => Sys2Proof.Machine.execChannelFormatComplete channel pass s
  | .channelDrainComplete channel => Sys2Proof.Machine.execChannelDrainComplete channel s
  | .rebuildStripe page loc => Sys2Proof.Machine.execRebuildStripe page loc s
  | .rebuildComplete channel => Sys2Proof.Machine.execRebuildComplete channel s
  | .salometerSample current voltage temp0 temp1 => Sys2Proof.Machine.execSalometerSample current voltage temp0 temp1 s
  | .autoZeroTick => Sys2Proof.Machine.execAutoZeroTick s
  | .svDiodeSample temp => Sys2Proof.Machine.execSvDiodeSample temp s
  | .lowCurrentModeEntry => Sys2Proof.Machine.execLowCurrentModeEntry s
  | .lowCurrentComparator => Sys2Proof.Machine.execLowCurrentComparator s
  | .pkPresentAsserted => Sys2Proof.Machine.execPkPresentAsserted s
  | .pkPresentDeasserted => Sys2Proof.Machine.execPkPresentDeasserted s
  | .packSwapTimeout => Sys2Proof.Machine.execPackSwapTimeout s
  | .packIdentityPoll => Sys2Proof.Machine.execPackIdentityPoll s
  | .packIdentityReadDone block => Sys2Proof.Machine.execPackIdentityReadDone block s
  | .probeStart => Sys2Proof.Machine.execProbeStart s
  | .probeComplete iPre vPre iPb vPb iPost vPost rmsPre rmsPost => Sys2Proof.Machine.execProbeComplete iPre vPre iPb vPb iPost vPost rmsPre rmsPost s
  | .probeAgeTimeout hour => Sys2Proof.Machine.execProbeAgeTimeout hour s
  | .energyEstimateTick => Sys2Proof.Machine.execEnergyEstimateTick s
  | .fullChargeAnchor => Sys2Proof.Machine.execFullChargeAnchor s
  | .thermistorDisagreement => Sys2Proof.Machine.execThermistorDisagreement s
  | .learnTimeout => Sys2Proof.Machine.execLearnTimeout s
  | .learnInterruptionTimeout => Sys2Proof.Machine.execLearnInterruptionTimeout s
  | .learnedRecordDailyUpdate => Sys2Proof.Machine.execLearnedRecordDailyUpdate s
  | .inputChange powerFail busMv => Sys2Proof.Machine.execInputChange powerFail busMv s
  | .inputLossDetection => Sys2Proof.Machine.execInputLossDetection s
  | .inputPresenceConfirmed => Sys2Proof.Machine.execInputPresenceConfirmed s
  | .commitPoint => Sys2Proof.Machine.execCommitPoint s
  | .couchCurdDrained => Sys2Proof.Machine.execCouchCurdDrained s
  | .couchProgramComplete loc ok => Sys2Proof.Machine.execCouchProgramComplete loc ok s
  | .holdUpTimeLimit => Sys2Proof.Machine.execHoldUpTimeLimit s
  | .couchSealWritten => Sys2Proof.Machine.execCouchSealWritten s
  | .readyLift => Sys2Proof.Machine.execReadyLift s
  | .foldPage page loc => Sys2Proof.Machine.execFoldPage page loc s
  | .rehearsalComplete durationUs rateMb powerMw => Sys2Proof.Machine.execRehearsalComplete durationUs rateMb powerMw s
  | .feltLinkTrained link full ok => Sys2Proof.Machine.execFeltLinkTrained link full ok s
  | .feltLinkSilence link => Sys2Proof.Machine.execFeltLinkSilence link s
  | .fastRetrainTimeout link => Sys2Proof.Machine.execFastRetrainTimeout link s
  | .feltFlitReceived link bytes crc fecOk tagOk => Sys2Proof.Machine.execFeltFlitReceived link bytes crc fecOk tagOk s
  | .flitAckTimeout link sequence => Sys2Proof.Machine.execFlitAckTimeout link sequence s
  | .mirrorWrite h data be => Sys2Proof.Machine.execMirrorWrite h data be s
  | .mirrorAck link tags => Sys2Proof.Machine.execMirrorAck link tags s
  | .epochEnd epoch origin count => Sys2Proof.Machine.execEpochEnd epoch origin count s
  | .epochApplied epoch => Sys2Proof.Machine.execEpochApplied epoch s
  | .twinRead h => Sys2Proof.Machine.execTwinRead h s
  | .twinReadData tag data => Sys2Proof.Machine.execTwinReadData tag data s
  | .notResident tag => Sys2Proof.Machine.execNotResident tag s
  | .pageCopy h fragment data => Sys2Proof.Machine.execPageCopy h fragment data s
  | .pageAck region page => Sys2Proof.Machine.execPageAck region page s
  | .pageZero h => Sys2Proof.Machine.execPageZero h s
  | .burstAbort link tag => Sys2Proof.Machine.execBurstAbort link tag s
  | .mirrorRefused region tags => Sys2Proof.Machine.execMirrorRefused region tags s
  | .hello link bytes => Sys2Proof.Machine.execHello link bytes s
  | .regionList link part parts listNumber entries => Sys2Proof.Machine.execRegionList link part parts listNumber entries s
  | .status link pressure energy closed mirrored sentAt => Sys2Proof.Machine.execStatus link pressure energy closed mirrored sentAt s
  | .commitNotice time epoch => Sys2Proof.Machine.execCommitNotice time epoch s
  | .regionOp region op => Sys2Proof.Machine.execRegionOp region op s
  | .tokenOp region kind generation => Sys2Proof.Machine.execTokenOp region kind generation s
  | .close epoch => Sys2Proof.Machine.execClose epoch s
  | .detach => Sys2Proof.Machine.execDetach s
  | .listRequest => Sys2Proof.Machine.execListRequest s
  | .burstTimeout link tag => Sys2Proof.Machine.execBurstTimeout link tag s
  | .regionListTimeout => Sys2Proof.Machine.execRegionListTimeout s
  | .linkingTimeout => Sys2Proof.Machine.execLinkingTimeout s
  | .feltTimeout => Sys2Proof.Machine.execFeltTimeout s
  | .statusSendTick => Sys2Proof.Machine.execStatusSendTick s
  | .resyncPageSend region page => Sys2Proof.Machine.execResyncPageSend region page s
  | .rekeySweepStep region page loc => Sys2Proof.Machine.execRekeySweepStep region page loc s
  | .keySlotFreed slot => Sys2Proof.Machine.execKeySlotFreed slot s
  | .cipherPassComplete slot core blocks disagreeing => Sys2Proof.Machine.execCipherPassComplete slot core blocks disagreeing s
  | .cipherSelfTestTick core pass => Sys2Proof.Machine.execCipherSelfTestTick core pass s
  | .sensorSample sensor temp fault => Sys2Proof.Machine.execSensorSample sensor temp fault s
  | .spdHubReadTick channel slot temp => Sys2Proof.Machine.execSpdHubReadTick channel slot temp s
  | .mr4ReadTick channel rank temp => Sys2Proof.Machine.execMr4ReadTick channel rank temp s
  | .sensorContinuousTimeout sensor => Sys2Proof.Machine.execSensorContinuousTimeout sensor s
  | .sensorContinuousRetry sensor arrived => Sys2Proof.Machine.execSensorContinuousRetry sensor arrived s
  | .sensorPollTick sensor temp => Sys2Proof.Machine.execSensorPollTick sensor temp s
  | .throttleStepTimer => Sys2Proof.Machine.execThrottleStepTimer s
  | .throttleUnwindTimer => Sys2Proof.Machine.execThrottleUnwindTimer s
  | .thermalRestartHold => Sys2Proof.Machine.execThermalRestartHold s
  | .vaoPowerOn => Sys2Proof.Machine.execVaoPowerOn s
  | .vaoBrownOut => Sys2Proof.Machine.execVaoBrownOut s
  | .calenderGrant => Sys2Proof.Machine.execCalenderGrant s
  | .chainBypassTimeout => Sys2Proof.Machine.execChainBypassTimeout s
  | .railDelayExpiry rail => Sys2Proof.Machine.execRailDelayExpiry rail s
  | .railPowerGood rail => Sys2Proof.Machine.execRailPowerGood rail s
  | .railPgTimeout rail => Sys2Proof.Machine.execRailPgTimeout rail s
  | .caDnOutDelay held => Sys2Proof.Machine.execCaDnOutDelay held s
  | .caDnInChange asserted => Sys2Proof.Machine.execCaDnInChange asserted s
  | .powerDownRailStep => Sys2Proof.Machine.execPowerDownRailStep s
  | .offTimeExpiry => Sys2Proof.Machine.execOffTimeExpiry s
  | .railFault rail => Sys2Proof.Machine.execRailFault rail s
  | .monitorInputFall input => Sys2Proof.Machine.execMonitorInputFall input s
  | .progressWatchTimeout => Sys2Proof.Machine.execProgressWatchTimeout s
  | .serviceButtonPress => Sys2Proof.Machine.execServiceButtonPress s
  | .serviceButtonRelease => Sys2Proof.Machine.execServiceButtonRelease s
  | .buttonHold3s => Sys2Proof.Machine.execButtonHold3s s
  | .buttonStuckTimeout => Sys2Proof.Machine.execButtonStuckTimeout s
  | .ppsInputEdge rising time => Sys2Proof.Machine.execPpsInputEdge rising time s
  | .ppsOutputSecond => Sys2Proof.Machine.execPpsOutputSecond s
  | .bistWaveComplete wave results => Sys2Proof.Machine.execBistWaveComplete wave results s
  | .imageLoadComplete genuine => Sys2Proof.Machine.execImageLoadComplete genuine s
  | .readyCore => Sys2Proof.Machine.execReadyCore s
  | .bootWatchdogExpiry => Sys2Proof.Machine.execBootWatchdogExpiry s
  | .mgmtEngineFeedTimeout engine => Sys2Proof.Machine.execMgmtEngineFeedTimeout engine s
  | .serviceWatchdogExpiry => Sys2Proof.Machine.execServiceWatchdogExpiry s
  | .ledgerWordProgram address data => Sys2Proof.Machine.execLedgerWordProgram address data s
  | .ledgerSectorErase address key => Sys2Proof.Machine.execLedgerSectorErase address key s
  | .ledgerIdentify => Sys2Proof.Machine.execLedgerIdentify s
  | .ledgerReset => Sys2Proof.Machine.execLedgerReset s
  | .ledgerOtherWrite address data => Sys2Proof.Machine.execLedgerOtherWrite address data s
  | .ledgerStatusRead => Sys2Proof.Machine.execLedgerStatusRead s
  | .ledgerOpComplete verifyOk => Sys2Proof.Machine.execLedgerOpComplete verifyOk s
  | .ledgerEraseLimit => Sys2Proof.Machine.execLedgerEraseLimit s
  | .vaoSampleTick millivolts => Sys2Proof.Machine.execVaoSampleTick millivolts s
  | .eventArrival o => Sys2Proof.Machine.execEventArrival o s
  | .coalesceWindowClose key => Sys2Proof.Machine.execCoalesceWindowClose key s
  | .tokenRefill cls => Sys2Proof.Machine.execTokenRefill cls s
  | .dropSummaryTick => Sys2Proof.Machine.execDropSummaryTick s
  | .injectionTimeout unit => Sys2Proof.Machine.execInjectionTimeout unit s
  | .unitTestComplete unit pass => Sys2Proof.Machine.execUnitTestComplete unit pass s
  | .fwVerifyComplete genuine => Sys2Proof.Machine.execFwVerifyComplete genuine s
  | .snapshotScanComplete region => Sys2Proof.Machine.execSnapshotScanComplete region s
  | .starterKeyProgrammingDone ok => Sys2Proof.Machine.execStarterKeyProgrammingDone ok s
  | .jtagInstruction instruction => Sys2Proof.Machine.execJtagInstruction instruction s

end Sys2Proof.Machine
end

