-- ==== Sys2Proof/Machine/Idle.lean ====
section
/-! DEFINITION. The idle step: what happens with time alone (R20, R25, R38, R40, R410, R449). -/

namespace Sys2Proof.Machine

/-- The idle step: with VAO up the timebase counts one nanosecond, the routers give their slots, a slot of the directory cache area is zeroed (R112), resets and fences that have
drained go on, and the Ledger's machine takes what waits (log entries 7, 34 and 94). -/
def idleTick (s : State) : Res State := .next (ledgerNext (finishFences (finishResets (zeroNext (wireSlots (tick s))))))

end Sys2Proof.Machine
end

