-- ==== Sys2Proof/Safety.lean ====
section
/-! DEFINITION. The words that the claims are stated in: what may issue an opcode, which parts of the state a command leaves alone,
and what is well formed in a state. -/

namespace Sys2Proof.Machine

/-! ### Opcodes that reach their own part -/

/-- The session of the packet's channel, or the session that stands for a channel without one. -/
def issuer (s : State) (r : Req) : Session := (sessionOn s r.ch).getD (noSession r.ch)

/-- R284 steps 8 and 9, R291, R292, R298, R300: nothing before the opcode's own refusals stops the packet. -/
def Reaches (s : State) (r : Req) (op : U16) (who : Issuer) (col : Column) : Bool :=
  decide (readyCode s ≠ 0) && !replyQueueFull s r.ch && recoveryChannel s r.ch && mayStart s r op && recoveryAccepts s op && columnAllows s col &&
    match sessionOn s r.ch with
    | none => decide (who = .anyone)
    | some x => !tagInUse s x r.tag && decide (x.outstanding.length < 32) && (decide (who ≠ .owner) || isOwner s x)

/-! ### The opcodes (R284, R298, R300) -/

/-- An opcode's packet: its request, its number, what its fields' reserved values answer, who may issue it, and its row of the
ready-state table. -/
structure Opcode where
  req : Req
  op : U16
  step7 : Option (Status × Nat)
  who : Issuer
  col : Column
  deriving DecidableEq, Repr

/-- The commands that are Kolnyx opcodes of groups 0x00 to 0x0C. -/
def opcodeOf : Instr → Option Opcode
  | .identify r => some ⟨r, 0x0001, none, .anyone, .notCouch⟩
  | .sessionOpen r kind head ld _ => some ⟨r, 0x0002, (openReserved kind head ld), .anyone, .notCouch⟩
  | .sessionClose r successor => some ⟨r, 0x0003, (if successor = 0xFFFF then some (.reservedField, 16) else none), .session, .notCouch⟩
  | .nop r => some ⟨r, 0x0004, none, .anyone, .notCouch⟩
  | .getReadyState r => some ⟨r, 0x0005, none, .anyone, .always⟩
  | .resetCold r => some ⟨r, 0x0006, none, .owner, .notCouch⟩
  | .resetPort r _ => some ⟨r, 0x0006, none, .owner, .notCouch⟩
  | .resetSession r _ => some ⟨r, 0x0006, none, .session, .notCouch⟩
  | .resetUnit r object => 
    some ⟨r, 0x0006, (match unitField object 18 with | .error (.reservedField, off) => some (.reservedField, off) | _ => none),
      .owner, .notCouch⟩
  | .resetWarm r => some ⟨r, 0x0006, none, .owner, .notCouch⟩
  | .paramWrite r _ table _ => some ⟨r, 0x0101, (tableReserved table), .owner, .fromLift⟩
  | .paramRead r table => some ⟨r, 0x0102, (tableReserved table), .session, .fromLift⟩
  | .configSeal r => some ⟨r, 0x0103, none, .owner, .fromLift⟩
  | .configUnseal r => some ⟨r, 0x0104, none, .owner, .sealedOnly⟩
  | .regionCreate r _ flags => some ⟨r, 0x0201, (flagsReserved flags 24), .owner, .service⟩
  | .regionDestroy r region => some ⟨r, 0x0202, (regionReserved region 16), .owner, .service⟩
  | .regionResize r region _ => some ⟨r, 0x0203, (regionReserved region 16), .owner, .service⟩
  | .regionSetFlags r region flags => 
    some ⟨r, 0x0204, (match regionReserved region 16 with | some e => some e | none => flagsReserved flags 20),
      .owner, .service⟩
  | .regionQuery r region => some ⟨r, 0x0205, (if region = 0xFFFF then some (.reservedField, 16) else none), .session, .fromLift⟩
  | .regionGrant r region _ _ access => 
    some ⟨r, 0x0206, (match regionReserved region 16 with | some e => some e | none => if 2 < access.toNat then some (.reservedField, 20) else none),
      .owner, .fromLift⟩
  | .capacityAdd r kind _ => some ⟨r, 0x0207, (if 1 < kind.toNat then some (.reservedField, 16) else none), .owner, .service⟩
  | .capacityDrain r kind _ => some ⟨r, 0x0208, (if 1 < kind.toNat then some (.reservedField, 16) else none), .owner, .service⟩
  | .tierPin r region _ _ => some ⟨r, 0x0301, (regionReserved region 16), .session, .fromLift⟩
  | .tierUnpin r _ => some ⟨r, 0x0302, none, .session, .fromLift⟩
  | .tierPrefetch r region _ _ => some ⟨r, 0x0303, (regionReserved region 16), .session, .fromLift⟩
  | .cacheControlQuery r => some ⟨r, 0x0304, none, .owner, .fromLift⟩
  | .cacheControlSet r mode => some ⟨r, 0x0304, (if 3 < mode.toNat then some (.reservedField, 16) else none), .owner, .fromLift⟩
  | .zeroLines r region _ _ => some ⟨r, 0x0305, (regionReserved region 16), .session, .service⟩
  | .watermarkClose r => some ⟨r, 0x0401, none, .session, .fromLift⟩
  | .watermarkQuery r => some ⟨r, 0x0402, none, .session, .fromLift⟩
  | .flushRegion r region => some ⟨r, 0x0403, (regionReserved region 16), .session, .fromLift⟩
  | .snapshotBegin r region => some ⟨r, 0x0404, (regionReserved region 16), .session, .service⟩
  | .snapshotEnd r region => some ⟨r, 0x0405, (regionReserved region 16), .session, .service⟩
  | .twinAttach r => some ⟨r, 0x0501, none, .owner, .service⟩
  | .twinDetach r => some ⟨r, 0x0502, none, .owner, .fromLift⟩
  | .twinStatus r => some ⟨r, 0x0503, none, .session, .fromLift⟩
  | .twinResync r region flags => 
    some ⟨r, 0x0504, (firstReserved (regionReserved region 16) (if 2 ≤ flags.toNat then some (.reservedField, 18) else none)),
      .owner, .service⟩
  | .twinRoleHandover r region flags =>
    some ⟨r, 0x0505, firstReserved (regionReserved region 16)
      (if 4 ≤ flags.toNat || (flags.getLsbD 0 && flags.getLsbD 1) then some (.reservedField, 18) else none), .owner, .service⟩
  | .twinRoleForce r region flags =>
    some ⟨r, 0x0505, firstReserved (regionReserved region 16)
      (if 4 ≤ flags.toNat || (flags.getLsbD 0 && flags.getLsbD 1) then some (.reservedField, 18) else none), .owner, .service⟩
  | .energyStatus r => some ⟨r, 0x0601, none, .session, .always⟩
  | .energyLearnStart r => some ⟨r, 0x0602, none, .owner, .service⟩
  | .energyLearnAbort r => some ⟨r, 0x0603, none, .owner, .notCouch⟩
  | .energyLearnedWrite r bytes => some ⟨r, 0x0604, (recordReserved bytes), .owner, .fromLift⟩
  | .deckleStatus r => some ⟨r, 0x0605, none, .session, .notCouch⟩
  | .couchRehearse r _ => some ⟨r, 0x0606, none, .owner, .service⟩
  | .thermalStatus r _ _ => some ⟨r, 0x0701, none, .session, .notCouch⟩
  | .sensorExclude r _ => some ⟨r, 0x0702, none, .owner, .notCouch⟩
  | .sensorInclude r _ => some ⟨r, 0x0702, none, .owner, .notCouch⟩
  | .railStatus r => some ⟨r, 0x0801, none, .session, .always⟩
  | .rindRead r _ _ => some ⟨r, 0x0802, none, .session, .notCouch⟩
  | .orderlyPowerDown r => some ⟨r, 0x0803, none, .owner, .fromLift⟩
  | .keySlotBind r _ region => some ⟨r, 0x0901, (regionReserved region 18), .owner, .fromLift⟩
  | .keySlotRetire r _ => some ⟨r, 0x0902, none, .owner, .fromLift⟩
  | .keyStatus r _ _ => some ⟨r, 0x0903, none, .session, .notCouch⟩
  | .starterProvision r mode _ _ => some ⟨r, 0x0904, (if 1 < mode.toNat then some (.reservedField, 16) else none), .owner, .fromLift⟩
  | .eventRead r _ _ _ => some ⟨r, 0x0A01, none, .session, .notCouch⟩
  | .eventAck r _ => some ⟨r, 0x0A02, none, .owner, .notCouch⟩
  | .traceClear r => some ⟨r, 0x0A03, none, .owner, .notCouch⟩
  | .traceRead r => some ⟨r, 0x0A03, none, .owner, .notCouch⟩
  | .traceStart r unit mask _ => 
    some ⟨r, 0x0A03, (match traceUnitReserved unit with | some e => some e | none => maskReserved mask),
      .owner, .notCouch⟩
  | .traceStop r => some ⟨r, 0x0A03, none, .owner, .notCouch⟩
  | .alarmMask r _ => some ⟨r, 0x0A04, none, .owner, .notCouch⟩
  | .unitFence r unit => some ⟨r, 0x0B01, (unitReserved unit), .owner, .fromLift⟩
  | .unitStatusQuery r unit => some ⟨r, 0x0B02, (unitReserved unit), .session, .notCouch⟩
  | .unitTest r unit => some ⟨r, 0x0B02, (unitReserved unit), .owner, .fromLift⟩
  | .unitReturn r unit => some ⟨r, 0x0B03, (unitReserved unit), .owner, .fromLift⟩
  | .channelOffline r unit => some ⟨r, 0x0B04, (unitReserved unit), .owner, .service⟩
  | .channelOnline r unit => some ⟨r, 0x0B05, (unitReserved unit), .owner, .service⟩
  | .errorInject r unit kind _ _ => 
    some ⟨r, 0x0B06, (match unitReserved unit with | some e => some e | none => if 4 < kind.toNat then some (.reservedField, 18) else none),
      .owner, .service⟩
  | .fwDownload r _ _ _ => some ⟨r, 0x0C01, none, .owner, .notCouch⟩
  | .fwVerify r => some ⟨r, 0x0C02, none, .owner, .notCouch⟩
  | .fwActivate r mode => some ⟨r, 0x0C03, (if 1 < mode.toNat then some (.reservedField, 16) else none), .owner, .notCouch⟩
  | .fwConfirm r => some ⟨r, 0x0C04, none, .owner, .notCouch⟩
  | .fwStatus r => some ⟨r, 0x0C05, none, .session, .notCouch⟩
  | _ => none

/-- R284 steps 7 to 9, R291, R292, R298: nothing before the ready state stops the packet. -/
def Admitted (s : State) (o : Opcode) : Bool :=
  decide (readyCode s ≠ 0) && !replyQueueFull s o.req.ch && recoveryChannel s o.req.ch && mayStart s o.req o.op && o.step7.isNone &&
    match sessionOn s o.req.ch with
    | none => decide (o.who = .anyone)
    | some x => !tagInUse s x o.req.tag && decide (x.outstanding.length < 32) && (decide (o.who ≠ .owner) || isOwner s x)

/-- R300: the columns of the ready-state table. -/
inductive Stage where
  | core | lift | svc | couch
  deriving DecidableEq, Repr

/-- R300, R431: the column that a state falls in. -/
def stageOf (s : State) : Option Stage :=
  if s.couch.orch = .committed then some .couch
  else match s.cmd.ready with
    | .below => none
    | .core | .maintenance | .recovery => some .core
    | .lift => some .lift
    | .service => some .svc

/-- R300: the rows of the ready-state table: the columns marked Y. -/
def acceptedIn : Column → List Stage
  | .always => [.core, .lift, .svc, .couch]
  | .notCouch => [.core, .lift, .svc]
  | .fromLift => [.lift, .svc]
  | .service => [.svc]
  | .sealedOnly => [.svc]

/-! ### Frames -/

/-- The parts of the state. -/
inductive Part where
  | pending | out | fresh | wire | cmd | cxl | epochs | regions | ppu | curd | deckle | vat | ream | couch | felt | sal | cipher | cave
  | power | ledger | log | units
  deriving DecidableEq, Repr

/-- A part stands as it was. -/
def Part.same (s t : State) : Part → Prop
  | .pending => t.pending = s.pending
  | .out => t.out = s.out
  | .fresh => t.fresh = s.fresh
  | .wire => t.wire = s.wire
  | .cmd => t.cmd = s.cmd
  | .cxl => t.cxl = s.cxl
  | .epochs => t.epochs = s.epochs
  | .regions => t.regions = s.regions
  | .ppu => t.ppu = s.ppu
  | .curd => t.curd = s.curd
  | .deckle => t.deckle = s.deckle
  | .vat => t.vat = s.vat
  | .ream => t.ream = s.ream
  | .couch => t.couch = s.couch
  | .felt => t.felt = s.felt
  | .sal => t.sal = s.sal
  | .cipher => t.cipher = s.cipher
  | .cave => t.cave = s.cave
  | .power => t.power = s.power
  | .ledger => t.ledger = s.ledger
  | .log => t.log = s.log
  | .units => t.units = s.units

/-- Every part but those named stands as it was. -/
def SameBut (ps : List Part) (s t : State) : Prop := ∀ p, p ∉ ps → p.same s t

/-- A command or the idle tick ends in a next state. -/
def Completes (o : Res State) : Prop := ∃ t, o = .next t

/-! ### What every step keeps -/

/-- R33, R34, R57, R58: the mirrored epoch is not above the closed one, the closed one is below the current one, and a running close
closes an epoch before the current one. -/
def EpochsInOrder (e : Epochs) : Prop := e.mirrored ≤ e.closed ∧ e.closed < e.current ∧ ∀ c, e.running = some c → c.epoch < e.current

/-- The epochs are in order, and the Ledger's array is in its canonical form. -/
def Sound (s : State) : Prop := EpochsInOrder s.epochs ∧ Memory.wf s.ledger.array

end Sys2Proof.Machine
end

