-- ==== Sys2Proof/Certificates/Slice0/Obligations.lean ====
section
/-! DEFINITION. The statements for the provers. -/

open Sys2Proof Sys2Proof.Machine


/-- For every command c and state s, step of s with c at the front of its queue is exec c on s with the queue's rest. (00_scope.md) -/
def Obligations.StepRunsTheFrontCommand : Prop :=
  ∀ (c : Instr) (rest : List Instr) (s : State),
    step { s with pending := c :: rest } = exec c { s with pending := rest }

/-- IDENTIFY, NOP and GET_READY_STATE, on a channel with or without a session, complete with OK and their reply bytes; beside the packet's own arrival and reply the state stands as it was. GET_READY_STATE is answered even while the Couch is committed. (R300, R304, R305, 11_opcode_reference.md) -/
def Obligations.IdentityAndStateQueriesReply : Prop :=
  ∀ (s : State) (r : Req),
    (Reaches s r 0x0001 .anyone .notCouch → exec (.identify r) s = .next (ok (takeArrived s r 0x0001) r 0x0001 (identifyBytes s))) ∧
    (Reaches s r 0x0004 .anyone .notCouch → exec (.nop r) s = .next (ok (takeArrived s r 0x0004) r 0x0004 (nopBytes s (issuer s r)))) ∧
    (Reaches s r 0x0005 .anyone .always → exec (.getReadyState r) s = .next (ok (takeArrived s r 0x0005) r 0x0005
      (le 2 (readyCode s) ++ le 1 (sealCode s.cmd.sealSt) ++ le 1 (orchCode s.couch.orch) ++ le 1 (energyCode s.sal.state) ++
        le 1 (pairCode s.felt.pair) ++ le 1 (if s.cmd.owner = 0 then 0 else 1) ++ [0] ++ le 8 s.power.now)))

/-- A reply that fits one packet is put out as one reply packet on the channel of its request, with the segments that carry it there, with the request's opcode, host tag and urgent flag, more-follows set after ACCEPTED alone, and its status, detail and parameters; of the state it changes only the output, the record of outstanding tags, and, on a mailbox channel, that channel's reply queue, which grows by the packet's bytes. (R278, R280, R287, 10_command_packets.md) -/
def Obligations.ReplyEchoesItsPacket : Prop :=
  ∀ (s : State) (r : Req) (op : U16) (st : Status) (detail : Nat) (params : List Byte), params.length ≤ 65532 →
    let p : Reply := { opcode := op, tag := r.tag, more := st = .accepted, urgent := r.urgent, status := st, detail := detail, params := params }
    let t := reply s r op st detail params
    t.out = s.out ++ replyOut r.ch p ∧ SameBut [.out, .cmd] s t ∧
    { t.cmd with channels := s.cmd.channels } =
      { s.cmd with sessions := s.cmd.sessions.map fun x => if x.ch = r.ch then { x with outstanding := x.outstanding.erase r.tag } else x } ∧
    (∀ h l, r.ch = .mailbox h l → (channelOf t r.ch).replies = (channelOf s r.ch).replies ++ p.bytes) ∧
    (∀ c, c ≠ r.ch → channelOf t c = channelOf s c)

/-- When nothing refuses it, SESSION_OPEN of any kind completes: the channel gains one session, under a number from 1 to 65 that no session had, of the kind asked for, with the identity of a data session and with the counters of the channel; a session of the owner kind becomes the owner, and no other kind does; the challenge moves on after a diagnostic open. The parts other than the Command Processor and the output stand as they were. (R288, R295, R305) -/
def Obligations.SessionOpenOpensASession : Prop :=
  ∀ (s : State) (r : Req) (kind head ld : U8) (tok : Bool),
    Reaches s r 0x0002 .anyone .notCouch → s.cmd.ready ≠ .recovery → openReserved kind head ld = none →
    (openChecks s r.ch kind head ld tok).all (fun c => !c.1) = true →
    ∃ t n, exec (.sessionOpen r kind head ld tok) s = .next t ∧ 1 ≤ n ∧ n ≤ 65 ∧ sessionNum s n = none ∧
      t.cmd.sessions = s.cmd.sessions ++ [{ num := n, ch := r.ch, kind := if kind = 0 then .data else if kind = 1 then .owner else .diagnostic, identity := if kind = 0 then some (openIdentity r.ch head ld) else none, counters := (channelOf s r.ch).counters, outstanding := [], chain := none, pins := [], prefetches := [] }] ∧
      t.cmd.owner = (if kind = 1 then n else s.cmd.owner) ∧
      t.cmd.challenges = s.cmd.challenges + (if kind = 2 then 1 else 0) ∧
      (∃ p, t.out = s.out ++ replyOut r.ch p ∧ p.status = .ok ∧ p.tag = r.tag ∧ p.params = le 2 n ++ le 1 (if kind = 1 then 1 else 0) ++ [0]) ∧
      SameBut [.cmd, .out] s t

/-- SESSION_CLOSE without a successor ends the session and then sends its reply as the last packet; with an open successor named by the owner the hand-over waits for the owner's started commands; RESET of scope SESSION replies and then ends the issuer's own session, or for the owner any open one. (R289, R290, R305, R37) -/
def Obligations.SessionCloseAndSessionResetEndTheSession : Prop :=
  ∀ (s : State) (r : Req) (n : U16),
    (Reaches s r 0x0003 .session .notCouch → exec (.sessionClose r 0) s = .next
      (sendReply (endSession (takeArrived s r 0x0003) (issuer s r).num false) r.ch
        { opcode := 0x0003, tag := r.tag, more := false, urgent := r.urgent, status := .ok, detail := 0, params := [] })) ∧
    (Reaches s r 0x0003 .session .notCouch → n ≠ 0 → n ≠ 0xFFFF → isOwner s (issuer s r) = true → (sessionNum s n.toNat).isSome = true →
      n.toNat ≠ (issuer s r).num → exec (.sessionClose r n) s = .next (finishCloses ((defer (takeArrived s r 0x0003) (issuer s r) r).onCmd fun c =>
        { c with closing := c.closing ++ [(r, n, (issuer s r).num)] }))) ∧
    (Reaches s r 0x0006 .session .notCouch → s.cmd.resetRun = 0 → (sessionNum s (issuer s r).num).isSome = true →
      exec (.resetSession r 0) s = .next (endSession (ok (takeArrived s r 0x0006) r 0x0006 []) (issuer s r).num false)) ∧
    (Reaches s r 0x0006 .session .notCouch → s.cmd.resetRun = 0 → n ≠ 0 → isOwner s (issuer s r) = true → (sessionNum s n.toNat).isSome = true →
      exec (.resetSession r n) s = .next (endSession (ok (takeArrived s r 0x0006) r 0x0006 []) n.toNat false))

/-- From the owner, while no reset of equal or wider scope runs, RESET of scope PORT, of scope UNIT for a unit of class 1 to 7, and of scope WARM and COLD replies OK before its reset; with no reset running that begins at once, and with a narrower one running it waits for the end of that one. (R37, R40, R305) -/
def Obligations.WiderResetsReplyThenReset : Prop :=
  ∀ (s : State) (r : Req) (n : U16),
    Reaches s r 0x0006 .owner .notCouch →
    let after (t : State) (scope : Nat) (u : Option UnitId) : State :=
      if s.cmd.resetRun = 0 then beginReset t scope u else t.onCmd fun c => { c with resetNext := c.resetNext ++ [(scope, u)] }
    (s.cmd.resetRun < 2 → n.toNat ≤ 15 → exec (.resetPort r n) s = .next (after (ok (takeArrived s r 0x0006) r 0x0006 []) 1 (some (.port n.toNat)))) ∧
    (∀ u, s.cmd.resetRun < 3 → unitField n 18 = .ok u → unitCls u ≤ 7 →
      exec (.resetUnit r n) s = .next (after (ok (takeArrived s r 0x0006) r 0x0006 []) 2 (some u))) ∧
    (s.cmd.resetRun < 4 → exec (.resetWarm r) s = .next (after (ok (takeArrived s r 0x0006) r 0x0006 []) 3 none)) ∧
    (s.cmd.resetRun < 5 → exec (.resetCold r) s = .next (after (ok (takeArrived s r 0x0006) r 0x0006 []) 4 none))

/-- PARAM_READ of table 1 to 15 replies with the written flag and the image in force; CONFIG_SEAL of complete and consistent tables with no open chain seals, and ends the safe profile if it still runs; CONFIG_UNSEAL, sealed, unseals. (R300, R301, R307, R348, R349) -/
def Obligations.ParamReadAndSealingComplete : Prop :=
  ∀ (s : State) (r : Req) (table : U8),
    (Reaches s r 0x0102 .session .fromLift → tableReserved table = none →
      exec (.paramRead r table) s = .next (ok (takeArrived s r 0x0102) r 0x0102
        (le 1 (if (s.cmd.tables.getD (table.toNat - 1) none).isSome then 1 else 0) ++ [0, 0, 0] ++ tableImage s table.toNat))) ∧
    (Reaches s r 0x0103 .owner .fromLift → s.cmd.sealSt ≠ .sealed → sealFailure s = none → (s.cmd.sessions.any fun x => x.chain.isSome) = false →
      exec (.configSeal r) s = .next
        (let w := (takeArrived s r 0x0103).onCmd fun c => { c with sealSt := .sealed }
         ok (if s.cmd.safe then endSafeProfile w else w) r 0x0103 [])) ∧
    (Reaches s r 0x0104 .owner .sealedOnly →
      exec (.configUnseal r) s = .next (ok ((takeArrived s r 0x0104).onCmd fun c => { c with sealSt := .unsealed }) r 0x0104 []))

/-- With no chain open, an element of PARAM_WRITE that more elements follow opens a chain with its bytes and is answered OK with more-follows; with a chain of the same tag and table open, a further such element adds its bytes to it and is answered so too. The last element, be it a packet alone or the end of an open chain, which it closes, puts the whole image in force where no check refuses it: an image equal to the one in force is stored and answered OK, one of AUTOCLOSE or CIPHER is stored and answered OK with nothing else done, and any other is stored, has its table's effect and is answered. (R287, R306, R307, R326, R328) -/
def Obligations.ParamWriteChainsAndApplies : Prop :=
  ∀ (s : State) (r : Req) (table : U8) (bytes : List Byte),
    Reaches s r 0x0101 .owner .fromLift → tableReserved table = none → (s.cmd.sealSt ≠ .sealed ∨ writableSealed table.toNat = true) →
    let x := issuer s r
    let T := takeArrived s r 0x0101
    let id := table.toNat
    (x.chain = none → bytes.length ≤ 1048576 → exec (.paramWrite r true table bytes) s =
      .next (replyMore (setChain T x (some { tag := r.tag, table := id, bytes := bytes })) r 0x0101)) ∧
    (∀ old, x.chain = some { tag := r.tag, table := id, bytes := old } → (old ++ bytes).length ≤ 1048576 →
      exec (.paramWrite r true table bytes) s =
        .next (replyMore (setChain (setChain T x none) x (some { tag := r.tag, table := id, bytes := old ++ bytes })) r 0x0101)) ∧
    (∀ whole base, (x.chain = none ∧ whole = bytes ∧ base = T) ∨
        (∃ old, x.chain = some { tag := r.tag, table := id, bytes := old } ∧ whole = old ++ bytes ∧ base = setChain T x none) →
      whole.length ≤ 1048576 → contentRefusal base whole id = none → (id = 12 → s.cmd.sealSt = .sealed → railsBeyondHold base whole = false) →
      modeChangeDrains base whole id = false → tableBusy base whole id = none →
      let stored := base.onCmd fun c => { c with tables := c.tables.set (id - 1) (some whole) }
      (tableImage base id = whole ∨ id = 6 ∨ id = 13 → exec (.paramWrite r false table bytes) s = .next (ok stored r 0x0101 [])) ∧
      (tableImage base id ≠ whole → id = 1 ∨ id = 2 ∨ id = 12 →
        exec (.paramWrite r false table bytes) s = .next (tableEffect base (ok stored r 0x0101 []) whole id)) ∧
      (tableImage base id ≠ whole → id = 3 ∨ id = 4 ∨ 7 ≤ id ∧ id ≤ 11 ∨ 14 ≤ id →
        exec (.paramWrite r false table bytes) s = .next (ok (tableEffect base stored whole id) r 0x0101 [])) ∧
      (tableImage base id ≠ whole → id = 5 →
        let t := tableEffect base stored whole 5
        exec (.paramWrite r false table bytes) s =
          .next (if t.curd.draining.isSome ∧ base.curd.draining = none ∧ t.curd.drainReq = none then (defer t x r).onCurd fun c => { c with drainReq := some (r, 0x0101, x.num) }
            else ok t r 0x0101 [])))

/-- When nothing refuses them, REGION_CREATE reserves its runs and asks for the region, REGION_DESTROY for its end, REGION_RESIZE to a larger size reserves the new runs and asks for the growth, REGION_SET_FLAGS asks for the new flags word and REGION_GRANT for the new access; each request stays outstanding until the epoch boundary of its change. REGION_RESIZE to the size that the region has replies OK at once. (R69, R75, R80, R83, R84, R85, R265) -/
def Obligations.RegionChangesWaitForAnEpochBoundary : Prop :=
  ∀ (s : State) (r : Req) (n : U16) (g : Region),
    let x := issuer s r
    (∀ size flags, Reaches s r 0x0201 .owner .service → flagsReserved flags 24 = none → sizeBad size.toNat = false →
      allocationError s (size.toNat / extentBytes) 0 = none → ∀ m, freeRegionNumber s = some m → (flagStream flags && decide (flagClass flags = 0)) = false →
      exec (.regionCreate r size flags) s =
        let T := takeArrived s r 0x0201
        .next (requestChange (reserveRuns (defer T x r) (chooseRuns T (size.toNat / extentBytes))) m
          (if flagMirror flags = 0 then none else some (.create size.toNat flags))
          { change := .create m size.toNat flags (chooseRuns T (size.toNat / extentBytes)), req := some (r, 0x0201, x.num) })) ∧
    (Reaches s r 0x0202 .owner .service → regionReserved n 16 = none → regionOf s n.toNat = some g → g.grants = [] → holdsToken g = true →
      regionBusy s g = false → exec (.regionDestroy r n) s =
        .next (requestChange (defer (takeArrived s r 0x0202) x r) g.num (if isMirrored g then some .destroy else none)
          { change := .destroy g.num, req := some (r, 0x0202, x.num) })) ∧
    (∀ size, Reaches s r 0x0203 .owner .service → regionReserved n 16 = none → regionOf s n.toNat = some g → sizeBad size.toNat = false →
      holdsToken g = true → regionBusy s g = false →
      (size.toNat = g.size → exec (.regionResize r n size) s = .next (ok (takeArrived s r 0x0203) r 0x0203 [])) ∧
      (g.size < size.toNat →
        let T := takeArrived s r 0x0203
        let runs := chooseRuns T ((size.toNat - g.size) / extentBytes)
        allocationError T ((size.toNat - g.size) / extentBytes) g.runs.length = none → growthExtents T g runs = false →
        exec (.regionResize r n size) s =
          .next (requestChange (reserveRuns (defer T x r) runs) g.num (if isMirrored g then some (.resize size.toNat) else none)
            { change := .grow g.num size.toNat runs, req := some (r, 0x0203, x.num) }))) ∧
    (∀ flags, Reaches s r 0x0204 .owner .service → regionReserved n 16 = none → flagsReserved flags 20 = none → regionOf s n.toNat = some g →
      firstOf (flagChecks s g flags) = none → holdsToken g = true → regionBusy s g = false → longFull s = false →
      flagMirror flags = flagMirror g.flags → flagClass flags = flagClass g.flags →
      exec (.regionSetFlags r n flags) s =
        .next (requestChange (defer (takeArrived s r 0x0204) x r) g.num (if isMirrored g then some (.setFlags flags) else none)
          { change := .setFlags g.num flags, req := some (r, 0x0204, x.num) })) ∧
    (∀ head ld access, Reaches s r 0x0206 .owner .fromLift → regionReserved n 16 = none → regionOf s n.toNat = some g → head.toNat ≤ 15 → ld.toNat ≤ 15 →
      access = 1 ∨ access = 2 → (accessOf g head.toNat ld.toNat = .none → dcExtents s head.toNat ld.toNat + g.runs.length ≤ 4096) → regionBusy s g = false →
      exec (.regionGrant r n head ld access) s =
        .next (requestChange (defer (takeArrived s r 0x0206) x r) g.num none
          { change := .grant g.num head.toNat ld.toNat (if access = 1 then .readOnly else .readWrite), req := some (r, 0x0206, x.num) }))

/-- REGION_QUERY of region 0 lists the regions that the session may name, and of a region that it may name gives its record; CAPACITY_ADD of channels that are all ONLINE replies OK; of channels PRESENT or DRAINED it replies ACCEPTED, and they are ADDING; CAPACITY_DRAIN of ONLINE channels, where capacity and groups allow it, replies ACCEPTED, and they are DRAINING. (R87, R88, R308, R309, R310) -/
def Obligations.CapacityCommandsStartOrReply : Prop :=
  ∀ (s : State) (r : Req) (kind index : U8),
    let x := issuer s r
    let cs := namedChannels s kind.toNat index.toNat
    (Reaches s r 0x0205 .session .fromLift →
      exec (.regionQuery r 0) s = .next (ok (takeArrived s r 0x0205) r 0x0205 (regionListReply s x)) ∧
      ∀ n g, n ≠ 0 → n ≠ 0xFFFF → regionOf s n.toNat = some g → mayName s x g = true →
        exec (.regionQuery r n) s = .next (ok (takeArrived s r 0x0205) r 0x0205 (regionReply g))) ∧
    (Reaches s r 0x0207 .owner .service → kind.toNat ≤ 1 → indexBad kind.toNat index.toNat = false →
      ((∀ c ∈ cs, (flashAt s c).st = .online) → exec (.capacityAdd r kind index) s = .next (ok (takeArrived s r 0x0207) r 0x0207 [])) ∧
      ((∀ c ∈ cs, (flashAt s c).st = .present ∨ (flashAt s c).st = .drained) → cs ≠ [] → longFull s = false →
        exec (.capacityAdd r kind index) s = .next (startLong (takeArrived s r 0x0207) r 0x0207 x (.add cs) (5 * cs.length) 3 fun s =>
          s.each cs fun s c => setFlash (flashState s c .adding 0) c fun f => { f with addStep := 1 }))) ∧
    (Reaches s r 0x0208 .owner .service → kind.toNat ≤ 1 → indexBad kind.toNat index.toNat = false → cs ≠ [] →
      (∀ c ∈ cs, (flashAt s c).st = .online) → allocated s ≤ homeWithout s cs → groupsBroken s cs = false → longFull s = false →
      exec (.capacityDrain r kind index) s = .next (startLong (takeArrived s r 0x0208) r 0x0208 x (.drain cs) (drainBytes s cs) 0 fun s =>
        startDrain s cs))

/-- On a range that lies in a region which the session may name and no command holds, TIER_PIN within the pin limit takes a new handle, adds the pin to the session, pins the pages and replies with the handle and the count of pages missing; TIER_PREFETCH queues what its session's queue of 4,096 has room for, issues it unless the pool is below half its target, and replies with the count, PARTIAL where there was no room; TIER_UNPIN of a handle of the session ends that pin; a CACHE_CONTROL query replies with the modes, and so does a change that begins no drain, while one that begins a drain stays outstanding until the drain ends; ZERO_LINES of up to 1 GiB by a session that may write the region writes the zeros and stays outstanding until they stand. (R105, R113, R114, R115, R121, R311, R312) -/
def Obligations.TierCommandsComplete : Prop :=
  ∀ (s : State) (r : Req),
    let x := issuer s r
    (∀ n g (off len : U64), regionReserved n 16 = none → regionOf s n.toNat = some g → mayName s x g = true →
      Reaches s r 0x0301 .session .fromLift → firstOf (rangeChecks g off.toNat len.toNat 4096) = none → regionHeld g = false →
      pinWould s (rangePages g off.toNat len.toNat) ≤ pinLimit s → x.pins.length < 256 →
      exec (.tierPin r n off len) s =
        let pages := rangePages g off.toNat len.toNat
        let s1 := setSession ((takeArrived s r 0x0301).onCmd fun c => { c with nextHandle := (s.cmd.nextHandle + 1) % 2 ^ 32 }) x.num fun y =>
          { y with pins := y.pins ++ [{ handle := s.cmd.nextHandle, region := g.num, offset := off.toNat, length := len.toNat }] }
        let s2 := s1.each pages resolveBlock
        let missing := (pages.filter fun p => (validFrame s2 p).isNone && needsFetch (entry s2 p)).length
        .next (ok (s2.each pages pinPage) r 0x0301 (le 4 s.cmd.nextHandle ++ le 4 missing))) ∧
    (∀ handle, Reaches s r 0x0302 .session .fromLift → (x.pins.any fun p => p.handle = handle.toNat) = true →
      exec (.tierUnpin r handle) s =
        .next (ok (endPins (takeArrived s r 0x0302) x.num fun p => p.handle = handle.toNat) r 0x0302 [])) ∧
    (∀ n g (off len : U64), regionReserved n 16 = none → regionOf s n.toNat = some g → mayName s x g = true →
      Reaches s r 0x0303 .session .fromLift → firstOf (rangeChecks g off.toNat len.toNat 4096) = none → regionHeld g = false →
      exec (.tierPrefetch r n off len) s =
        let s1 := (takeArrived s r 0x0303).each (rangePages g off.toNat len.toNat) resolveBlock
        let want := (rangePages g off.toNat len.toNat).filter fun p =>
          (frameOf s1 p).isNone && needsFetch (entry s1 p) && !x.prefetches.contains p
        let taken := want.take (4096 - x.prefetches.length)
        let kept := if freeFrames s1 < freeTarget s1 / 2 then [] else taken
        let s2 := setSession s1 x.num fun y => { y with prefetches := y.prefetches ++ kept }
        .next (reply (s2.each kept fun s p => startFetch s p true) r 0x0303 (if taken.length < want.length then .partial_ else .ok) 0 (le 4 taken.length))) ∧
    (Reaches s r 0x0304 .owner .fromLift →
      exec (.cacheControlQuery r) s = .next (ok (takeArrived s r 0x0304) r 0x0304 (cacheReply s)) ∧
      exec (.cacheControlSet r 3) s = .next (ok (takeArrived s r 0x0304) r 0x0304 (cacheReply s)) ∧
      ∀ mode m, (mode = 0 ∧ m = .wb) ∨ (mode = 1 ∧ m = .wt) ∨ (mode = 2 ∧ m = .off) → s.curd.draining = none →
        let t := retarget ((takeArrived s r 0x0304).onCurd fun c => { c with configured := m })
        exec (.cacheControlSet r mode) s = .next (
          if t.curd.draining.isSome && t.curd.drainReq.isNone then (defer t x r).onCurd fun c => { c with drainReq := some (r, 0x0304, x.num) }
          else ok t r 0x0304 (cacheReply t))) ∧
    (∀ n g (off len : U64), regionReserved n 16 = none → regionOf s n.toNat = some g → mayName s x g = true →
      Reaches s r 0x0305 .session .service → firstOf (rangeChecks g off.toNat len.toNat 64) = none → mayZero s x g = true → regionBusy s g = false →
      holdsToken g = true → len.toNat ≤ gib →
      exec (.zeroLines r n off len) s =
        .next (zeroAndAnswer (defer (takeArrived s r 0x0305) x r) g off.toNat len.toNat (some (r, 0x0305, x.num))))

/-- With no close queued, WATERMARK_CLOSE, SNAPSHOT_BEGIN of a region without a record and SNAPSHOT_END of one with a record leave their request outstanding and ask for an epoch close that answers it; WATERMARK_QUERY replies with the epochs; FLUSH_REGION of a region that no command occupies replies ACCEPTED, and ends when no page of the region is dirty. (R36, R64, R313, R314) -/
def Obligations.EpochCommandsJoinACloseOrReply : Prop :=
  ∀ (s : State) (r : Req) (n : U16) (g : Region),
    let x := issuer s r
    (Reaches s r 0x0401 .session .fromLift → s.epochs.queued = none →
      exec (.watermarkClose r) s =
        .next (requestClose (defer (takeArrived s r 0x0401) x r) [{ change := .watermark, req := some (r, 0x0401, x.num) }])) ∧
    (Reaches s r 0x0402 .session .fromLift →
      exec (.watermarkQuery r) s = .next (ok (takeArrived s r 0x0402) r 0x0402
        (le 8 s.epochs.current ++ le 8 s.epochs.closed ++ le 8 (if s.epochs.paired then s.epochs.mirrored else 0) ++
          le 1 (if s.epochs.running.isSome then 1 else 0) ++ le 1 (if s.epochs.queued.isSome then 1 else 0) ++ [0, 0] ++
          le 4 (min s.epochs.duration 0xFFFFFFFF)))) ∧
    (regionReserved n 16 = none → regionOf s n.toNat = some g → mayName s x g = true →
      (Reaches s r 0x0403 .session .fromLift → regionBusy s g = false → longFull s = false →
        exec (.flushRegion r n) s = .next (checkFlush (startLong (takeArrived s r 0x0403) r 0x0403 x (.flush g.num) (dirtyPages s g.num).length 1
          fun s => setRegion s g.num fun g => opBegun g .flush) g.num)) ∧
      (Reaches s r 0x0404 .session .service → regionHeld g = false → g.snapshot = 0 → s.epochs.queued = none →
        exec (.snapshotBegin r n) s =
          .next (requestClose (defer (takeArrived s r 0x0404) x r) [{ change := .snapshotBegin g.num, req := some (r, 0x0404, x.num) }])) ∧
      (Reaches s r 0x0405 .session .service → regionHeld g = false → g.snapshot ≠ 0 →
        (longRuns s fun k => match k with | .snapshot m _ _ => m = g.num | _ => false) = false → s.epochs.queued = none → longFull s = false →
        exec (.snapshotEnd r n) s =
          .next (requestClose ((defer (takeArrived s r 0x0405) x r).onCmd fun c => { c with longOps := c.longOps ++
            [{ kind := .snapshot g.num g.snapshot 0, session := x.num, ch := r.ch, opcode := 0x0405, tag := r.tag, done := 0,
               total := g.size / pageBytes, unit := 1 }] }) [{ change := .snapshotEnd g.num, req := some (r, 0x0405, x.num) }])))

/-- DETACHED, TWIN_ATTACH replies ACCEPTED, and the pair is LINKING with every link that the TWIN table allows in full training; TWIN_DETACH asks an attached pair for its last close, holds the links of a pair that is TWIN_DOWN, and does nothing to one that is DETACHED; TWIN_STATUS replies; TWIN_RESYNC of a mirrored region of an attached pair replies OK when it is IN_SYNC and else starts the resynchronisation; TWIN_ROLE replies OK when the role already stands, and else asks for a close at which the token is handed over or, with the force flag, taken. (R258, R265, R266, R270, R271, R315) -/
def Obligations.TwinCommandsComplete : Prop :=
  ∀ (s : State) (r : Req) (n : U16) (g : Region),
    let x := issuer s r
    (Reaches s r 0x0501 .owner .service → s.felt.pair = .detached → longFull s = false →
      exec (.twinAttach r) s = .next (startLong (takeArrived s r 0x0501) r 0x0501 x .attach 1000 2 fun s => s.onFelt fun f =>
        { f with pair := .linking, hellos := [],
                 links := f.links.zipIdx.map fun (l, t) => if linkAllowed s t then { l with st := .fullTrain } else l })) ∧
    (Reaches s r 0x0502 .owner .fromLift →
      (s.felt.pair = .attached → exec (.twinDetach r) s =
        .next (requestClose (defer (takeArrived s r 0x0502) x r) [{ change := .detach, req := some (r, 0x0502, x.num) }])) ∧
      (s.felt.pair = .twinDown → exec (.twinDetach r) s = .next (ok (holdLinks (takeArrived s r 0x0502)) r 0x0502 [])) ∧
      (s.felt.pair = .detached → exec (.twinDetach r) s = .next (ok (takeArrived s r 0x0502) r 0x0502 []))) ∧
    (Reaches s r 0x0503 .session .fromLift → exec (.twinStatus r) s = .next (ok (takeArrived s r 0x0503) r 0x0503 (twinStatusBytes s))) ∧
    (regionReserved n 16 = none → regionOf s n.toNat = some g → isMirrored g = true → regionBusy s g = false →
      (Reaches s r 0x0504 .owner .service → s.felt.pair = .attached →
        (g.mirror = .inSync → exec (.twinResync r n 0) s = .next (ok (takeArrived s r 0x0504) r 0x0504 [])) ∧
        (g.mirror = .lagging → longFull s = false → exec (.twinResync r n 0) s =
          .next (startLong (takeArrived s r 0x0504) r 0x0504 x (.resync g.num) (resyncPages s g).length 1 fun s => resync s g.num))) ∧
      (Reaches s r 0x0505 .owner .service →
        (s.felt.pair = .attached → g.mirror = .inSync →
          (holdsToken g = true → exec (.twinRoleHandover r n 0) s = .next (ok (takeArrived s r 0x0505) r 0x0505 []) ∧
            exec (.twinRoleHandover r n 2) s =
              .next (requestClose (defer (takeArrived s r 0x0505) x r) [{ change := .handover g.num true, req := some (r, 0x0505, x.num) }])) ∧
          (holdsToken g = false → exec (.twinRoleHandover r n 0) s =
            .next (requestClose (defer (takeArrived s r 0x0505) x r) [{ change := .handover g.num false, req := some (r, 0x0505, x.num) }]))) ∧
        (s.felt.pair = .twinDown ∨ s.felt.pair = .detached → holdsToken g = false → exec (.twinRoleForce r n 1) s =
          .next (requestClose (defer (takeArrived s r 0x0505) x r) [{ change := .force g.num, req := some (r, 0x0505, x.num) }]))))

/-- The two status opcodes reply and change nothing else; ENERGY_LEARN_START with a usable pack in its window and no rehearsal replies ACCEPTED and the learning cycle charges; ENERGY_LEARN_ABORT replies OK with the cycle disqualified under cause 8; ENERGY_LEARNED_WRITE of a record with a good CRC stores it at confidence LOW; COUCH_REHEARSE with room for it replies ACCEPTED and forces write-through. (R208, R209, R213, R214, R247, R316, R317, R318) -/
def Obligations.EnergyCommandsComplete : Prop :=
  ∀ (s : State) (r : Req),
    let x := issuer s r
    (Reaches s r 0x0601 .session .always → exec (.energyStatus r) s = .next (ok (takeArrived s r 0x0601) r 0x0601 (energyStatusBytes s))) ∧
    (Reaches s r 0x0605 .session .notCouch → exec (.deckleStatus r) s = .next (ok (takeArrived s r 0x0605) r 0x0605 (deckleStatusBytes s))) ∧
    (Reaches s r 0x0602 .owner .service → s.sal.phase = .none → s.sal.state ≠ .absent → probeLoadFitted s = true → s.sal.learnWindow = true →
      s.couch.rehearsing = none → longFull s = false → exec (.energyLearnStart r) s =
        .next (startLong (takeArrived s r 0x0602) r 0x0602 x .learn 6 3 fun s =>
          learnStep (s.onSal fun y => { y with lowCurrent := false, qDis := 0, qRes := 0, qChg := 0 }) .charging 1)) ∧
    (Reaches s r 0x0603 .owner .notCouch → exec (.energyLearnAbort r) s = .next (ok (disqualify (takeArrived s r 0x0603) 8) r 0x0603 [])) ∧
    (∀ b, Reaches s r 0x0604 .owner .fromLift → recordReserved b = none → (crc32c (b.take 60)).toNat = field b 60 4 → s.sal.phase = .none →
      exec (.energyLearnedWrite r b) s =
        let t := putLearned (takeArrived s r 0x0604) { high := false, packId := field b 4 8, qmax := field b 12 4, fR := field b 16 4, time := field b 20 8, temp := sfield b 28 2, cycles := field b 30 2, shunt := field b 32 4, divider := field b 36 4, sequence := 0 }
        .next (ok (judgeEnergy (publish (t.onSal fun y => { y with ageWarned := false }))) r 0x0604 [])) ∧
    (∀ size : U16, Reaches s r 0x0606 .owner .service →
      let g := if size = 0 then 16 else size.toNat
      g ≤ 256 → s.couch.rehearsing = none → s.couch.orch ≠ .armed → s.sal.phase = .none → g * gib + boundNow s ≤ imageCapacity s → longFull s = false →
      exec (.couchRehearse r size) s =
        .next (startLong (takeArrived s r 0x0606) r 0x0606 x (.rehearse g) (g * gib * 1000 / max 1 (rateData s)) 2 fun s =>
          force (s.onCouch fun c => { c with rehearsing := some g, rehearsedAt := s.now }) 4))

/-- THERMAL_STATUS of a range inside the 110 sensors and RAIL_STATUS reply and change nothing else; RIND_READ of 1 to 1,000 records returns those that stand, oldest first; SENSOR_EXCLUDE sets the commanded flag of a sensor whose exclusion is allowed, and its include action clears both flags and the counts of a sensor that has either; ORDERLY_POWER_DOWN replies and then commits the Couch at once toward DOWN. (R320, R369, R373, R374, R409, R227) -/
def Obligations.ThermalRailAndRindCommandsComplete : Prop :=
  ∀ (s : State) (r : Req),
    (∀ first count : U16, Reaches s r 0x0701 .session .notCouch → first.toNat < 110 → first.toNat + count.toNat ≤ 110 →
      exec (.thermalStatus r first count) s = .next (ok (takeArrived s r 0x0701) r 0x0701
        (tenthBytes (tjOf s) ++ le 1 (tjCode s.cave.tj) ++ [0] ++
          (List.range (if count = 0 then 110 - first.toNat else count.toNat)).flatMap fun k => sensorEntry s (first.toNat + k)))) ∧
    (∀ n : U16, Reaches s r 0x0702 .owner .notCouch → n.toNat < 110 →
      ((sensorAt s n.toNat).commanded = true ∨ exclusionForbidden s n.toNat = false →
        exec (.sensorExclude r n) s =
          .next (ok (setSensor (takeArrived s r 0x0702) n.toNat fun c => { c with commanded := true }) r 0x0702 [])) ∧
      exec (.sensorInclude r n) s = .next (ok (setSensor (takeArrived s r 0x0702) n.toNat fun c =>
        if c.crossed || c.commanded then { c with crossed := false, commanded := false, agreeing := 0, deviating := 0, exclusions := 0 } else c) r 0x0702 [])) ∧
    (Reaches s r 0x0801 .session .always → exec (.railStatus r) s = .next (ok (takeArrived s r 0x0801) r 0x0801
      (le 4 s.power.pg.toNat ++ le 2 (enableWord s).toNat ++ le 2 s.power.sns.toNat ++ le 4 s.power.glitches ++ le 1 s.power.firstRail ++ [0, 0, 0]))) ∧
    (∀ (start : U32) (count : U16), Reaches s r 0x0802 .session .notCouch → 1 ≤ count.toNat → count.toNat ≤ 1000 →
      exec (.rindRead r start count) s =
        let recs := (s.ledger.rind.drop start.toNat).take count.toNat
        .next (ok (takeArrived s r 0x0802) r 0x0802
          (le 4 (start.toNat + recs.length) ++ le 2 recs.length ++ le 2 (min 0xFFFF (tornAmong s start.toNat recs)) ++ recs.flatMap rindBytes))) ∧
    (Reaches s r 0x0803 .owner .fromLift →
      exec (.orderlyPowerDown r) s = .next (couchCommit (ok (takeArrived s r 0x0803) r 0x0803 []) true .orderly true false 255))

/-- KEY_SLOT_BIND of a FREE slot to a region without one, with a starter key in place, asks for an epoch close that binds it; KEY_SLOT_RETIRE of a slot that no region with cipher on holds retires it; KEY_STATUS of slots in range replies; STARTER_PROVISION with a blank bank, no key in place and the unit's own serial number starts programming the drawn or the given key and leaves its request outstanding; the end of the programming leaves the key or a consumed bank in the lowest blank bank, and answers. (R350, R351, R357, R358, R320) -/
def Obligations.KeyCommandsComplete : Prop :=
  ∀ (s : State) (r : Req),
    let x := issuer s r
    (∀ (slot n : U16) g, Reaches s r 0x0901 .owner .fromLift → regionReserved n 18 = none → slot.toNat ≤ 1023 → regionOf s n.toNat = some g →
      (starterKey s).isSome = true → keySlotAt s slot.toNat = none → slotOfRegion s g.num = none → waitingChanges s = [] → regionHeld g = false →
      exec (.keySlotBind r slot n) s =
        .next (requestClose (defer (takeArrived s r 0x0901) x r) [{ change := .bindKey g.num slot.toNat, req := some (r, 0x0901, x.num) }])) ∧
    (∀ (slot : U16), Reaches s r 0x0902 .owner .fromLift → slot.toNat ≤ 1023 →
      (∀ k g, keySlotAt s slot.toNat = some k → regionOf s k.region = some g → k.retired = true ∨ flagCipher g.flags = false) →
      exec (.keySlotRetire r slot) s = .next (ok (retireSlot (takeArrived s r 0x0902) slot.toNat) r 0x0902 [])) ∧
    (∀ (slot count : U16), Reaches s r 0x0903 .session .notCouch → 1 ≤ count.toNat → slot.toNat + count.toNat ≤ 1024 →
      exec (.keyStatus r slot count) s = .next (ok (takeArrived s r 0x0903) r 0x0903
        ((List.range count.toNat).flatMap fun i => keyStatusBytes s (slot.toNat + i)))) ∧
    (∀ (mode : U8) (serial : U64) key, Reaches s r 0x0904 .owner .fromLift → mode.toNat ≤ 1 → s.cipher.banks = [.blank, .blank] →
      s.cipher.programming = none → serial.toNat = ownSerial →
      exec (.starterProvision r mode serial key) s =
        .next ((defer (takeArrived s r 0x0904) x r).onCipher fun c =>
          { c with programming := some (if mode = 0 then Config.drbgKey s.cipher.drawn else key, some (r, 0x0904, x.num)),
                   drawn := if mode = 0 then c.drawn + 1 else c.drawn })) ∧
    (∀ k q, s.cipher.programming = some (k, q) →
      let done (b : KeyBank) : State := s.onCipher fun c => { c with programming := none, banks := putBank c.banks b }
      exec (.starterKeyProgrammingDone true) s = .next (finishCloses (answerJoined (done (.valid k)) q .ok 0 (checkValue k))) ∧
      exec (.starterKeyProgrammingDone false) s = .next (finishCloses (answerJoined (done .consumed) q .internal 0 [])))

/-- EVENT_READ of 1 to 1,000 records returns the visible records from its sequence on; EVENT_ACK acknowledges every record up to its sequence; ALARM_MASK with the FATAL bit set replaces the mask and returns the one before; TRACE_CONTROL starts a trace of every unit or of a named one where none runs, stops it, reads it, and clears it with its buffer released. (R319, R320, R445, R446, R448) -/
def Obligations.EventAndTraceCommandsComplete : Prop :=
  ∀ (s : State) (r : Req),
    let x := issuer s r
    (∀ (first : U64) (count : U16) (sev : U8), Reaches s r 0x0A01 .session .notCouch → 1 ≤ count.toNat → count.toNat ≤ 1000 → sev.toNat ≤ 3 →
      exec (.eventRead r first count sev) s =
        let start := if first = 0 then ((s.log.ring.find? fun e => !e.acked).map fun e => e.sequence).getD s.log.next else first.toNat
        let got := readEvents s x sev.toNat (s.log.ring.filter fun e => start ≤ e.sequence) count.toNat start []
        .next (ok (takeArrived s r 0x0A01) r 0x0A01 (le 8 got.1 ++ le 2 got.2.length ++ [0, 0] ++ got.2.flatMap eventBytes))) ∧
    (∀ upTo : U64, Reaches s r 0x0A02 .owner .notCouch → exec (.eventAck r upTo) s =
      .next (ok ((takeArrived s r 0x0A02).onLog fun l =>
        { l with ring := l.ring.map fun e => if e.sequence ≤ upTo.toNat then { e with acked := true } else e }) r 0x0A02 [])) ∧
    (∀ m : U32, Reaches s r 0x0A04 .owner .notCouch → m.getLsbD 0 = true → exec (.alarmMask r m) s =
      .next (ok ((takeArrived s r 0x0A04).onLog fun l => { l with mask := m }) r 0x0A04 (le 4 s.log.mask.toNat))) ∧
    (Reaches s r 0x0A03 .owner .notCouch →
      (∀ (unit : U16) (mask buffer : U32), unit = 0 ∨ (∃ u, unitField unit 18 = .ok u) → traceUnitReserved unit = none → maskReserved mask = none →
        buffer = 0 ∨ (16 ≤ buffer.toNat ∧ buffer.toNat ≤ 65536) →
        (s.cmd.trace.map fun t => t.running).getD false = false → exec (.traceStart r unit mask buffer) s =
          .next (ok (startTrace (takeArrived s r 0x0A03) unit mask (if buffer = 0 then traceDefaultKib s else buffer.toNat)) r 0x0A03 [])) ∧
      exec (.traceStop r) s = .next (ok ((takeArrived s r 0x0A03).onCmd fun c =>
        { c with trace := c.trace.map fun t => { t with running := false } }) r 0x0A03 []) ∧
      (∀ t, s.cmd.trace = some t →
        exec (.traceRead r) s = .next (ok (takeArrived s r 0x0A03) r 0x0A03 (traceHeader t ++ t.entries.flatMap traceBytes))) ∧
      exec (.traceClear r) s = .next (ok (wakeAll ((takeArrived s r 0x0A03).onCmd fun c => { c with trace := none })) r 0x0A03 []))

/-- UNIT_FENCE of a unit that may leave service replies OK with the unit fenced; UNIT_TEST of a unit out of service replies ACCEPTED, and the unit is testing; the status query replies; UNIT_RETURN of a fenced unit whose last test passed returns it; CHANNEL_OFFLINE of an ONLINE DRAM channel that can be spared replies ACCEPTED and the channel is vacated, and of an ONLINE flash channel without a failed neighbour replies OK with it failed; CHANNEL_ONLINE of an OFFLINE channel brings it back; ERROR_INJECT of an injectable kind starts an injection. (R321, R322, R449, R450, R451, R153, R155) -/
def Obligations.UnitCommandsComplete : Prop :=
  ∀ (s : State) (r : Req) (w : U16) (u : UnitId),
    let x := issuer s r
    unitField w 16 = .ok u → unitCls u ≤ 7 →
    (Reaches s r 0x0B01 .owner .fromLift → (fenceCheck s u).1 = false →
      exec (.unitFence r w) s = .next (ok (fenceUnit (takeArrived s r 0x0B01) u) r 0x0B01 [])) ∧
    (Reaches s r 0x0B02 .owner .fromLift → testable s u = true → (unitAt s u).st ≠ .testing → slicedDraining s u = false → longFull s = false →
      exec (.unitTest r w) s = .next (startLong (takeArrived s r 0x0B02) r 0x0B02 x (.test u) 1 3 fun s =>
        if forcesTest u then force (setUnit s u fun y => { y with st := .testing }) 2 else setUnit s u fun y => { y with st := .testing })) ∧
    (Reaches s r 0x0B02 .session .notCouch → exec (.unitStatusQuery r w) s = .next (ok (takeArrived s r 0x0B02) r 0x0B02 (unitStatus s u))) ∧
    (Reaches s r 0x0B03 .owner .fromLift → unitCls u ≠ 3 → unitCls u ≠ 4 → (unitAt s u).st = .fenced → (unitAt s u).result = 1 →
      slicedDraining s u = false → exec (.unitReturn r w) s = .next (ok (returnUnit (takeArrived s r 0x0B03) u) r 0x0B03 [])) ∧
    (Reaches s r 0x0B04 .owner .service →
      (∀ c, u = .dram c → (dramAt s c).st = .online → firstOf (dramOfflineChecks s c) = none → longFull s = false →
        exec (.channelOffline r w) s = .next (startLong (takeArrived s r 0x0B04) r 0x0B04 x (.offline c) (vacateBytes s c) 0 fun s => beginVacating s c)) ∧
      (∀ c, u = .flash c → (flashAt s c).st = .online → firstOf (flashOfflineChecks s c) = none →
        exec (.channelOffline r w) s = .next (ok (failFlash (takeArrived s r 0x0B04) c 5 false) r 0x0B04 []))) ∧
    (Reaches s r 0x0B05 .owner .service → ∀ c, u = .dram c → (unitAt s u).st ≠ .testing → (s.vat.ch.any fun d => d.changing) = false →
      exec (.channelOnline r w) s = .next (ok (dramOnline (takeArrived s r 0x0B05) c) r 0x0B05 [])) ∧
    (∀ (kind count : U8) (dpa : U64), Reaches s r 0x0B06 .owner .service → kind.toNat ≤ 4 → injectable kind.toNat (unitCls u) = true → count ≠ 0 →
      dpaBad s u kind.toNat dpa.toNat = false → (s.cmd.injections.any fun i => i.unit = u) = false →
      exec (.errorInject r w kind count dpa) s =
        .next (ok (inject (takeArrived s r 0x0B06) { unit := u, kind := kind.toNat, left := count.toNat, dpa := dpa.toNat }) r 0x0B06 []))

/-- A first packet of FW_DOWNLOAD into a slot that may be written replies ACCEPTED and erases the slot; a packet at the offset expected adds its data; FW_VERIFY of a whole image replies ACCEPTED; FW_ACTIVATE of a verified image whose formats cover the media records the activation, and mode 1 then resets the device; FW_CONFIRM of a trial sets the confirm mark of the running image and blows the fuses; FW_STATUS replies. The end of a verification leaves the image verified where it is valid and of the declared size, else invalid, and reports it. (R323, R324, R424, R425, R426, R432) -/
def Obligations.FirmwareCommandsComplete : Prop :=
  ∀ (s : State) (r : Req),
    let x := issuer s r
    let b := downloadSlot s
    (∀ (size : U32) data, Reaches s r 0x0C01 .owner .notCouch → imageSizeBad s size.toNat = false → data.length ≤ size.toNat →
      s.ledger.trial = false → slotPending s b = false → fwBusy s = false → longFull s = false →
      exec (.fwDownload r 0 size data) s =
        .next (startLong (takeArrived s r 0x0C01) r 0x0C01 x .fwErase ((size.toNat + 65535) / 65536 * 65536) 0 fun s =>
          fwEraseNext (setSlot s b fun _ => { st := .erasing, image := none, declared := size.toNat, received := data.length, bytes := data }))) ∧
    (∀ (off size : U32) data, Reaches s r 0x0C01 .owner .notCouch → off ≠ 0 → off.toNat = expectedOffset s → imageSizeBad s size.toNat = false →
      size.toNat = (slotOf s b).declared → off.toNat + data.length ≤ size.toNat → fwBusy s = false →
      exec (.fwDownload r off size data) s =
        let t := appendImage (takeArrived s r 0x0C01) data
        .next (ok t r 0x0C01 (le 4 (slotOf t b).received))) ∧
    (Reaches s r 0x0C02 .owner .notCouch → slotWhole (slotOf s b) = true → fwBusy s = false → longFull s = false →
      exec (.fwVerify r) s = .next (startLong (takeArrived s r 0x0C02) r 0x0C02 x .fwVerify (slotOf s b).declared 0 fun s => s)) ∧
    (Reaches s r 0x0C03 .owner .notCouch → (slotOf s b).st = .verified → fwBusy s = false → formatsMissing s b = false → s.couch.orch ≠ .armed →
      exec (.fwActivate r 0) s = .next (ok (activate_ (takeArrived s r 0x0C03) b false) r 0x0C03 []) ∧
      exec (.fwActivate r 1) s = .next (warmReset (ok (activate_ (takeArrived s r 0x0C03) b true) r 0x0C03 []))) ∧
    (Reaches s r 0x0C04 .owner .notCouch →
      (s.ledger.trial = false → exec (.fwConfirm r) s = .next (ok (takeArrived s r 0x0C04) r 0x0C04 [])) ∧
      (s.ledger.trial = true → exec (.fwConfirm r) s =
        .next (ok (blowFuses ((putActivations (takeArrived s r 0x0C04) (confirmNewest s.ledger.running s.ledger.activations)).onLedger fun l =>
          { l with trial := false })) r 0x0C04 []))) ∧
    (Reaches s r 0x0C05 .session .notCouch → exec (.fwStatus r) s = .next (ok (takeArrived s r 0x0C05) r 0x0C05 (fwStatusBytes s))) ∧
    (∀ genuine, longRuns s (fun k => k = .fwVerify) = true →
      (slotImage (slotOf s b) genuine = none → exec (.fwVerifyComplete genuine) s =
        .next (endLongOf (setSlot s b fun f => { f with st := .invalid }) (fun k => k = .fwVerify) .conflict 10 [])) ∧
      (∀ image, slotImage (slotOf s b) genuine = some image →
        (imageValid s image = true ∧ image.size = (slotOf s b).declared → exec (.fwVerifyComplete genuine) s =
          .next (endLongOf (setSlot s b fun f => { f with st := .verified, image := some image }) (fun k => k = .fwVerify) .ok 0 (le 4 image.version.toNat))) ∧
        (imageValid s image = false ∨ image.size ≠ (slotOf s b).declared → exec (.fwVerifyComplete genuine) s =
          .next (endLongOf (setSlot s b fun f => { f with st := .invalid, image := some image }) (fun k => k = .fwVerify) .conflict
            (if image.signatureOk then 10 else 9) []))))

/-- From READY.CORE on, with room in the reply queue, an opcode of groups 0xF0 to 0xFF in a session that is no diagnostic session is answered NOT_OWNER with detail 4 and has no other effect; in an unlocked diagnostic session the machine refuses it by name, since the manual does not describe the diagnostic opcodes. (R277, R302, R284) -/
def Obligations.DiagnosticOpcodesAreLockedOrNotDescribed : Prop :=
  ∀ (s : State) (r : Req) (op : U16), readyCode s ≠ 0 → replyQueueFull s r.ch = false → recoveryChannel s r.ch = true →
    ((∀ x, sessionOn s r.ch = some x → x.kind ≠ .diagnostic) →
      exec (.diagnosticOpcode r op) s = .next (sendReply s r.ch
        { opcode := op, tag := r.tag, more := false, urgent := r.urgent, status := .notOwner, detail := 4, params := [] })) ∧
    (∀ x, sessionOn s r.ch = some x → x.kind = .diagnostic → exec (.diagnosticOpcode r op) s = .refused .diagnosticOpcodeNotDescribed)

/-- On a mailbox channel of an identity whose link is up, while the Command Processor answers: KOLNYX_WRITE whose payload fits the 132 KiB receive buffer returns Success and appends it to the request stream, which is then examined; one that does not fit returns Busy and takes no byte. KOLNYX_READ returns up to the stated length, at most 4,096, of the oldest reply bytes, removes them, and lets held reports and waiting packets follow. (R279, R280, R283) -/
def Obligations.MailboxCommandsCarryTheStream : Prop :=
  ∀ (s : State) (h l : Nat) (p : List Byte) (n : U32),
    let ch := Chan.mailbox h l
    identityUp s h l = true → answers s ch = true →
    ((channelOf s ch).rx.length + p.length ≤ 135168 →
      exec (.kolnyxWrite h l p) s = .next (receive (s.emit (.mailbox h l false [])) ch p)) ∧
    (135168 < (channelOf s ch).rx.length + p.length → exec (.kolnyxWrite h l p) s = .next (s.emit (.mailbox h l true []))) ∧
    exec (.kolnyxRead h l n) s =
      let c := channelOf s ch
      let t := (setChannel s ch fun c => { c with replies := c.replies.drop (min n.toNat 4096) }).emit
        (.mailbox h l false (c.replies.take (min n.toNat 4096)))
      .next (consumeAll (releaseHeld t ch) ch)

/-- A KOLNYX_WRITE whose payload is one packet that passes steps 1 to 7 of R284 (version 2, a valid parameter length that is the packet's, a good CRC, no reserved flag, a defined opcode below group 0xF0 that may carry its more-follows flag, and nothing reserved in its parameters), on a channel in normal mode with an empty stream, puts the packet behind those that have arrived, in order of arrival, leaves the stream empty and in normal mode, and returns Success; the parts other than the Command Processor and the output stand as they were. (R277, R283, R284, R291) -/
def Obligations.AWholePacketArrives : Prop :=
  ∀ (s : State) (h l : Nat) (p : List Byte),
    let ch := Chan.mailbox h l
    let flags := field p 1 1
    let op := field p 2 2
    identityUp s h l = true → answers s ch = true → replyQueueFull s ch = false → (channelOf s ch).rx = [] → (channelOf s ch).scan = false →
    p.length = 16 + field p 8 4 → field p 0 1 = 2 → lengthValid (field p 8 4) = true → packetCrc p = true →
    flags % 2 = 0 → flags < 8 → (flags / 2 % 2 = 1 → op = 0x0101) → op < 0xF000 → (lengthRule [] op).isSome = true → stepSeven op (p.drop 16) = none →
    ∃ t, exec (.kolnyxWrite h l p) s = .next t ∧
      t.cmd.arrived = s.cmd.arrived ++ [{ ch := ch, tag := BitVec.ofNat 32 (field p 4 4), opcode := BitVec.ofNat 16 op, urgent := decide (4 ≤ flags % 8), more := decide (flags / 2 % 2 = 1), params := p.drop 16, number := s.cmd.arrivals }] ∧
      t.cmd.arrivals = s.cmd.arrivals + 1 ∧ (channelOf t ch).rx = [] ∧ (channelOf t ch).scan = false ∧
      t.out = s.out ++ [.mailbox h l false []] ∧ t.cmd.sessions = s.cmd.sessions ∧ SameBut [.cmd, .out] s t

/-- On an enabled MCTP binding, while the Command Processor answers: a vendor-defined IANA message with the Balahus enterprise number and at most 4,096 segment bytes gives its segment to the channel of its source endpoint; one with another number, or a longer one, is discarded and counted; Set Endpoint ID records a new endpoint ID for the binding; the other four supported control messages are answered and change nothing else; any other control message is answered with ERROR_UNSUPPORTED_CMD (completion codes and field layouts: log entry 39). While the management Ethernet is enabled and answers: a whole datagram of at most 1,472 bytes with a good checksum gives its segment to the channel of its source; a fragment is discarded and counted, one with a bad checksum discarded, the bytes of both counting on a channel that stands (R295); a request for the device's address is answered by ARP, and an echo request by its reply, with nothing else changed. (R281, 10_command_packets.md, R282, R283) -/
def Obligations.MctpAndEthernetMessagesAreTakenDiscardedOrAnswered : Prop :=
  (
  ∀ (s : State) (b : Bus) (e : Nat), busAnswers s b e = true →
    (∀ seg : List Byte, seg.length ≤ 4096 →
      exec (.mctpMessage b e ([0x7F, 0x00, 0x00, 0xD3, 0xA1] ++ seg)) s = .next (receive s (busChan b e) seg)) ∧
    (∀ (n : List Byte) (seg : List Byte), n.length = 4 → n ≠ [0x00, 0x00, 0xD3, 0xA1] ∨ 4096 < seg.length →
      exec (.mctpMessage b e (0x7F :: n ++ seg)) s = .next (discardSegment (s.onCmd fun c => { c with mctpDiscards := c.mctpDiscards + 1 }) (busChan b e)
        (if n = [0x00, 0x00, 0xD3, 0xA1] then seg.length else 0))) ∧
    (∀ id : U8, (id ≠ 0 → id ≠ 0xFF → exec (.setEndpointId b e id) s =
      .next ((s.onCmd fun c => { c with eids := c.eids.filter (·.1 ≠ b) ++ [(b, id)] }).emit (.mctp b e 0 [0, id, 0]))) ∧
      (id = 0 ∨ id = 0xFF → exec (.setEndpointId b e id) s = .next (s.emit (.mctp b e 2 [])))) ∧
    exec (.getEndpointId b e) s = .next (s.emit (.mctp b e 0 [endpointId s b, 0, 0])) ∧
    (∀ t : U8, t = 0xFF ∨ t = 0x00 ∨ t = 0x7F →
      exec (.getMctpVersionSupport b e t) s = .next (s.emit (.mctp b e 0 (1 :: (le 4 Config.mctpVersion.toNat).reverse)))) ∧
    exec (.getMessageTypeSupport b e) s = .next (s.emit (.mctp b e 0 [1, 0x7F])) ∧
    exec (.getVendorDefinedMessageSupport b e 0) s = .next (s.emit (.mctp b e 0 [0xFF, 0x01, 0x00, 0x00, 0xD3, 0xA1, 0x00, 0x00])) ∧
    (∀ c : U8, exec (.mctpOtherControlMessage b e c) s = .next (s.emit (.mctp b e 5 [])))) ∧
  (
  ∀ (s : State) (ip : U32) (port : Nat) (p : List Byte), ethernetAnswers s = true →
    (p.length ≤ 1472 → exec (.udpDatagram ip port false true p) s = .next (receive (makeUdpRoom s (.udp ip port)) (.udp ip port) p)) ∧
    (∀ good, exec (.udpDatagram ip port true good p) s = .next (discardSegment (s.onCmd fun c => { c with udpDiscards := c.udpDiscards + 1 }) (.udp ip port) p.length)) ∧
    (exec (.udpDatagram ip port false false p) s = .next (discardSegment s (.udp ip port) p.length)) ∧
    (∀ mac, exec (.arpFrame ip mac (ownAddress s)) s = .next (s.emit (.arp ip mac))) ∧
    (∀ id seq, exec (.icmpEchoRequest ip id seq p) s = .next (s.emit (.icmp ip id seq p))))

/-- At the reassembly timeout an incomplete packet whose header stands in the stream is discarded with TRUNCATED and the channel enters scan mode, and a shorter rest is discarded and counted; a channel in scan mode drops one byte and scans on; and the open chain of the channel's session ends with it. A session of an MCTP or UDP channel ends at its idle timeout. A progress report goes out for every long operation, with status ACCEPTED and more-follows set. EXTEST, HIGHZ and CLAMP act below READY.CORE and in maintenance boot, and as BYPASS at READY.CORE and above. (R285, R287, R290, R293, R468) -/
def Obligations.TimeoutsOfChannelsAndSessions : Prop :=
  ∀ (s : State),
    (∀ ch t, answers s ch = true → (channelOf s ch).rx ≠ [] → replyQueueFull t ch = false →
      (sessionOn s ch = none ∧ t = s ∨ ∃ x, sessionOn s ch = some x ∧ t = setChain s x none) →
      let c := channelOf s ch
      exec (.reassemblyTimeout ch) s = .next (if c.scan then consumeAll (discard t ch 1) ch
        else if 16 ≤ c.rx.length then setScan (takePacket (headerReply t ch c.rx .truncated 0) ch c.rx.length) ch true
        else setScan (discard t ch c.rx.length) ch true)) ∧
    (∀ n x, sessionNum s n = some x → (∀ h l, x.ch ≠ .mailbox h l) → exec (.sessionIdleTimeout n) s = .next (endSession s n false)) ∧
    exec .progressReportTick s = .next (s.each s.cmd.longOps reportProgress) ∧
    (∀ o ch, reportChannel s o = some ch → replyQueueFull s ch = false → reportProgress s o = sendReply s ch
      { opcode := o.opcode, tag := o.tag, more := true, urgent := false, status := .accepted, detail := 0, params := le 8 o.done ++ le 8 o.total ++ le 4 o.unit }) ∧
    (∀ j, let done := if j = .extest ∨ j = .highz ∨ j = .clamp then (if s.cmd.ready = .below ∨ s.cmd.ready = .maintenance ∨ s.cmd.ready = .recovery then j else .bypass) else j
      exec (.jtagInstruction j) s = .next ((s.onLedger fun l => { l with jtagLast := done }).emit (.jtag done)))

/-- A port that is not open gives no credit. On an open port: a read that no decoder maps, or that falls in a free extent or in a region not granted, returns zeros with its event, and such a write, or one to a region served read-only or to a region with cipher on and no usable key, is discarded with its completion returned and its event; a granted write without credit waits with no effect but its place among the waiting writes; any other read takes the next age and is served, and a granted write with credit takes the next age and the current epoch, is mirrored and is served; the write that takes the ASYNC bytes of the epoch to 64 MiB asks for a close. (R43, R47, R82, R100, R225) -/
def Obligations.HostAccessesFollowTheAccessTable : Prop :=
  ∀ (s : State) (h l tag a : Nat) (data : LineData) (be : BitVec 64) (poison : Bool),
    (portOpen s h = false → exec (.cxlMemRead h l tag a) s = .next (s.emit (.noCredit h)) ∧
      exec (.cxlMemWrite h l tag a data be poison) s = .next (s.emit (.noCredit h))) ∧
    (portOpen s h = true →
    let dpa := decodeHpa s h l a
    let d := dpa.getD 0
    (classify s h l dpa = .unmapped →
      exec (.cxlMemRead h l tag a) s = .next ((s.emit (.readData h l tag zeroLine)).eventFor 6 1 1 h l 0xFFFF d) ∧
      exec (.cxlMemWrite h l tag a data be poison) s = .next (((stopWaiting s h l tag).emit (.writeDone h l tag)).eventFor 6 1 1 h l 0xFFFF d)) ∧
    (∀ n, classify s h l dpa = .violation n →
      exec (.cxlMemRead h l tag a) s = .next ((s.emit (.readData h l tag zeroLine)).eventFor 6 2 1 h l n d) ∧
      exec (.cxlMemWrite h l tag a data be poison) s = .next (((stopWaiting s h l tag).emit (.writeDone h l tag)).eventFor 6 2 1 h l n d)) ∧
    (∀ r, classify s h l dpa = .readOnly r →
      exec (.cxlMemWrite h l tag a data be poison) s = .next (((stopWaiting s h l tag).emit (.writeDone h l tag)).eventFor 6 3 1 h l r.num d)) ∧
    (∀ r, classify s h l dpa = .unkeyed r →
      exec (.cxlMemWrite h l tag a data be poison) s = .next (((stopWaiting s h l tag).emit (.writeDone h l tag)).eventFor 6 5 1 h l r.num d)) ∧
    (∀ r, classify s h l dpa = .granted r ∨ classify s h l dpa = .readOnly r ∨ classify s h l dpa = .unkeyed r →
      exec (.cxlMemRead h l tag a) s = .next (acceptReq (s.onCxl fun c => { c with nextAge := c.nextAge + 1 })
        { age := s.cxl.nextAge, write := false, port := h, ld := l, hostTag := tag, line := d / 64, data := 0, be := 0, poison := false, epoch := s.epochs.current, region := r.num, accepted := s.now, st := .line, credit := false, needAck := false, localDone := false, twinAsked := false, mirrorTag := 0xFFFF, deadline := deadlineOf r, late := false, marked := false })) ∧
    (∀ r, classify s h l dpa = .granted r →
      (admitWrite s h (d / 4096) (isMirrored r) = none →
        exec (.cxlMemWrite h l tag a data be poison) s = .next ((startWaiting s h l tag (isMirrored r)).emit (.noCredit h))) ∧
      (∀ c t, admitWrite s h (d / 4096) (isMirrored r) = some (c, t) →
        let m := mirrorWrite (stopWaiting (t.onCxl fun c => { c with nextAge := c.nextAge + 1 }) h l tag) r
          { age := t.cxl.nextAge, write := true, port := h, ld := l, hostTag := tag, line := d / 64, data := data, be := be, poison := poison, epoch := t.epochs.current, region := r.num, accepted := t.now, st := .line, credit := c, needAck := false, localDone := false, twinAsked := false, mirrorTag := 0xFFFF, deadline := none, late := false, marked := false }
        let u := acceptReq m.1 m.2
        exec (.cxlMemWrite h l tag a data be poison) s =
          .next (if t.epochs.asyncBytes < 67108864 && 67108864 ≤ u.epochs.asyncBytes then requestClose u [] else u))))

/-- RETRY_RESPONSE serves the waiting request again with its original age, where no older request of its page, or of those that the same unit turned away, waits; a port whose credits have stood 10 µs unused returns its pool; a stream tracker of a port that no write extends closes; when the deadline margin of a read's fetch passes, the twin is asked if it may serve the read. (R27, R101, R119, R225) -/
def Obligations.ReissuesAndIdleCreditsAndTrackers : Prop :=
  ∀ (s : State) (q : HostReq),
    (q.st = .retry → (s.cxl.reqs.find? fun x => x.age = q.age && x.st = .retry) = some q → olderRetry s q = false →
      exec (.retryResponse q.age) s = .next (serve (dropReq s q.age) q)) ∧
    (∀ port, exec (.writeCreditIdleTimeout port) s = .next (s.onDeckle fun d => { d with pool := d.pool.set port 0 })) ∧
    (∀ port k, exec (.streamTrackerTimeout port k) s =
      .next (s.onCurd fun c => { c with trackers := c.trackers.filter fun x => !(some x = (c.trackers.filter (·.1 = port))[k]?) })) ∧
    ((s.cxl.reqs.find? fun x => x.age = q.age && !x.write && x.st = .fetch) = some q →
      exec (.deadlineMarginExpiry q.age) s = .next (if twinMayServe s q then askTwin s q else s))

/-- HDM_DECODER_COMMIT of one way whose bases and size are multiples of 256 MiB inside the DPA space is committed, and any other reports Error Not Committed; the FM API commands answer the LD count and binding that HEADS fixes, and Set LD Allocations answers Unsupported; Get Dynamic Capacity Extent List answers the runs held; the event record commands read and clear one LD's own log and its interrupt policy; Set Shutdown State is recorded in the Rind log and does nothing else. (R63, R77, R78, R79, R447) -/
def Obligations.CxlManagementCommandsComplete : Prop :=
  ∀ (s : State) (h l : Nat),
    (∀ i hb db n w, exec (.hdmDecoderCommit h l i hb db n w) s =
      let good := decide (w = 1) && decide (hb % 2 ^ 28 = 0) && decide (db % 2 ^ 28 = 0) && decide (n % 2 ^ 28 = 0) && decide (db + n ≤ dpaSpace)
      .next ((setLd s h l fun d => { d with decoders := insertBy (·.index) { index := i, hpaBase := hb, dpaBase := db, size := n, committed := good } d.decoders }).emit (.decoderResult h l i good))) ∧
    exec (.getLdInfo h) s = .next (s.emit (.ldInfo h (ldCount s h))) ∧
    exec (.getLdAllocations h) s = .next (s.emit (.ldAllocations h (List.range (ldCount s h)))) ∧
    exec (.setLdAllocations h) s = .next (s.emit (.unsupported h)) ∧
    (∀ st : U8, exec (.setShutdownState h l st) s = .next (rindWrite s 0x0A 0 st.toNat)) ∧
    (∀ p, exec (.setEventInterruptPolicy h l p) s = .next (setLd s h l fun d => { d with policy := p })) ∧
    (∀ d, ldOf s h l = some d →
      exec (.getDcExtentList h l) s = .next (s.emit (.extentList h l d.held)) ∧
      (∀ k, exec (.getEventRecords h l k) s = .next (s.emit (.events h l k (d.logs.getD k []) (d.overflow.getD k 0)))) ∧
      exec (.getEventInterruptPolicy h l) s = .next (s.emit (.policy h l d.policy)) ∧
      (∀ k hs, exec (.clearEventRecords h l k hs) s = .next (setLd s h l fun d =>
        { d with logs := d.logs.modify k fun r => r.filter fun e => !hs.contains e.handle, overflow := d.overflow.set k 0 })))

/-- When an identity acknowledges every run of a running release, the release completes, and when its timeout expires the missing runs are forced, a CAPACITY 0x0005 event is logged, and it completes; a trained head comes up, and each of its LDs is offered what is granted to it; a link that goes down ends what ends with it, and the sixteenth link-down of a port in 60 s fences the port. (R77, R80, R81, R449) -/
def Obligations.ReleasesAndLinksComplete : Prop :=
  ∀ (s : State) (h l : Nat),
    (∀ n x, ((ldOf s h l).bind fun d => d.releases.find? (·.region = n)) = some x →
      (∀ runs, x.runs.all runs.contains = true → exec (.dcReleaseResponse h l n runs) s = .next (completeRelease s h l x)) ∧
      (∀ runs, x.runs.all runs.contains = false → exec (.dcReleaseResponse h l n runs) s = .next (setLd s h l fun d =>
        { d with releases := d.releases.map fun y => if y = x then { x with runs := x.runs.filter fun k => !runs.contains k } else y
                 held := d.held.filter fun k => !(k.1 = n && x.runs.contains k.2 && runs.contains k.2) })) ∧
      exec (.releaseTimeout h l n) s = .next (completeRelease ((s.emit (.releaseCapacity h l n x.runs true)).eventFor 13 5 1 h l n 0) h l x)) ∧
    (s.couch.orch ≠ .committed → exec (.gpfPhase2Request h) s = .next (requestClose s [{ change := .gpf h, req := none }])) ∧
    (∀ joined, aboveCore s = true → (s.units.ports.getD h .reset).st = .inService → portEnabled s h = true → s.cxl.linkUp.contains h = false →
      (h % 2 = 1 → s.cxl.joined.contains (h - 1) = false) →
      exec (.hostLinkUp h joined) s =
        let t := s.onCxl fun c => { c with linkUp := c.linkUp ++ [h], joined := if joined && h % 2 = 0 then addNew c.joined h else c.joined.filter (· ≠ h) }
        let u := t.each (portIslands t h) fun t i => settleIsland t i false
        .next (u.each (headLds u h) fun t l => offerIdentity t h l)) ∧
    (s.cxl.linkUp.contains h = true → exec (.hostLinkDown h) s =
      let t := (linkEnds s h).onUnits fun u => { u with portDowns := (u.portDowns ++ [(h, (linkEnds s h).now)]).filter fun d => (linkEnds s h).now ≤ d.2 + 60000000000 }
      .next (if 16 ≤ (t.units.portDowns.filter (·.1 = h)).length then
        fencePort t h
      else t))

/-- On a Wire link direction that is not fenced, each beat counts for the link; a beat with a byte of wrong parity is answered with a NAK and nothing more; one with good parity that names a reserved source, class or destination ends a resend of itself and is discarded, counted and logged. On the link from an island, a beat of an engine that has left service goes nowhere, and any other stands in its engine's work queue if it is a request, is traced where the trace asks, and is routed; between routers it is routed. A beat for a multicast group goes to every member; a beat for one endpoint waits at its router for the output toward it, or, where the island of the endpoint is powered off or unrouted, is returned as undeliverable with an event. At its island's link a beat whose island is unrouted is returned so too, and one whose island changes its frequency stands at the router again. At the endpoint a duplicate is discarded silently, a key generation that the slot does not accept is answered with an error and an event, and any other beat is remembered, ends the work item it answers, is traced and accepted. (R12, R13, R16, R17, R20, R22, R23, R24, R28) -/
def Obligations.WireBeatsAreCheckedAndAccepted : Prop :=
  ∀ (s : State) (l : Nat) (b : Beat), (wireLinkAt s l).fenced = false →
    let t := resendDone (countBeat s l) l b
    (parityGood b = false → exec (.wireBeatReceived l b) s = .next ((countBeat s l).emit (.wireNak l))) ∧
    (parityGood b = true → reservedTag b = true → exec (.wireBeatReceived l b) s =
      .next ((t.onWire fun w => { w with discards := w.discards + 1 }).event 1 4 1 (detail := b.tag.toNat / 2 ^ 96))) ∧
    (parityGood b = true → reservedTag b = false →
      (∀ i, linkEndsOf l = .up i →
        (issueClosed t b = true → exec (.wireBeatReceived l b) s = .next t) ∧
        (issueClosed t b = false → exec (.wireBeatReceived l b) s =
          .next ((atRouter (captureBeat (issueWork t b) b (beatSource b) true) l (routerFor i) b).emit (.wireAccept l)))) ∧
      (∀ q r, linkEndsOf l = .mesh q r → exec (.wireBeatReceived l b) s = .next ((atRouter t l r b).emit (.wireAccept l))) ∧
      (∀ i, linkEndsOf l = .down i →
        (routed t i = false → exec (.wireBeatReceived l b) s =
          .next ((t.emit (.wireUndeliverable l b.tag)).event 1 3 1 (beatDest b) (detail := b.tag.toNat / 2 ^ 96))) ∧
        (routed t i = true → t.wire.changing.contains i = true → exec (.wireBeatReceived l b) s = .next (t.onWire fun w =>
          { w with waiting := { router := routerFor i, hop := .island i, via := l, beat := b, since := t.now } :: w.waiting }))) ∧
      (∀ i, linkEndsOf l = .down i → routed t i = true → t.wire.changing.contains i = false →
        (duplicate t b = true → exec (.wireBeatReceived l b) s = .next t) ∧
        (duplicate t b = false → keyRefused t b = true → exec (.wireBeatReceived l b) s =
          .next (((remember t b).emit (.wireKeyError l b.tag)).event 1 4 1 (beatDest b) (detail := b.tag.toNat / 2 ^ 96))) ∧
        (duplicate t b = false → keyRefused t b = false → exec (.wireBeatReceived l b) s =
          .next ((captureBeat (answerWork (remember t b) b) b (resolveDest t (beatDest b)) false).emit (.wireAccept l))))) ∧
    (∀ (u : State) r, (beatDest b).toNat / 4096 = 12 →
      atRouter u l r b = u.each (groupMembers u ((beatDest b).toNat % 4096)) fun u a => routeBeat u l r (withDest b a)) ∧
    (∀ (u : State) r i, (beatDest b).toNat / 4096 ≠ 12 → wireIsland (resolveDest u (beatDest b)) = some i →
      (u.wire.unrouted.contains i = false → atRouter u l r b =
        u.onWire fun w => { w with waiting := w.waiting ++ [{ router := r, hop := nextHop u r i, via := l, beat := b, since := u.now }] }) ∧
      (u.wire.unrouted.contains i = true → atRouter u l r b =
        (u.emit (.wireUndeliverable l b.tag)).event 1 3 1 (beatDest b) (detail := b.tag.toNat / 2 ^ 96)))

/-- On a Wire link that is not fenced, for a beat whose source is no unit under an injection of link errors: a NAK of a beat that has failed fewer than three times in a row resends that beat and counts the failure; at the fourth failure in a row the link is fenced in both of its directions, the beat is not resent, and the islands cut off are fenced. No other link's record changes. (R28, 01_architecture.md) -/
def Obligations.ANakedBeatIsResentUpToThreeTimes : Prop :=
  ∀ (s : State) (l : Nat) (b : Beat), (wireLinkAt s l).fenced = false →
    (∀ u, wireUnit (beatSource b) = some u → injecting s u 3 = false) →
    let n := if (wireLinkAt s l).beat = some b then (wireLinkAt s l).failures + 1 else 1
    ∃ t, exec (.wireNakReceived l b) s = .next t ∧
      (n < 4 → (wireLinkAt t l).beat = some b ∧ (wireLinkAt t l).failures = n ∧ (wireLinkAt t l).fenced = false ∧ Out.wireResend l b ∈ t.out) ∧
      (4 ≤ n → t = fenceWireLink (countRetry s l) l ∧ (wireLinkAt t l).fenced = true ∧ (wireLinkAt t (reverseLink l)).fenced = true) ∧
      (∀ k, k ≠ l → (4 ≤ n → k ≠ reverseLink l) → wireLinkAt t k = wireLinkAt s k)

/-- An engine fault, an error of its own memory (counted as uncorrectable, and first taken from a running injection), or a missed heartbeat fences the engine: unless the fence would leave its role with no engine, the engine leaves its role and its in-service state, and a spare, where one remains, takes its role, its instance and its work items, and its Wire messages are redirected to the spare, and where none remains another engine of the role takes its items and its messages, with an event, as a fenced spare has its event alone; a fence that would leave a role with no engine marks the engine failing with a FATAL event and changes nothing else; when the spare reports that it has resumed the role it reissues the work items and an ENGINE event names both; an island whose frequency change is done takes Wire messages again. (R12, R16, R17, R19, R449) -/
def Obligations.EngineFaultsFenceToASpare : Prop :=
  ∀ (s : State) (e : Nat),
    exec (.engineFaultDetected e false) s = .next (fenceEngine s e) ∧
    exec (.engineFaultDetected e true) s = .next (withInjection s (.engine e) 1 fun s => fenceEngine (countError s (.engine e) true) e) ∧
    exec (.engineHeartbeatTimeout e) s = .next (fenceEngine s e) ∧
    (∀ k, (engineAt s e).unit.st = .inService → fenceForbidden s e = false → (engineAt s e).role ≠ .spare → spareFor s e = some k →
      fenceEngine s e =
        let t := setEngine (endInjections s (.engine e)) e fun x => { x with role := .fenced, instance_ := 255, failing := false, resuming := false, work := [], unit := { x.unit with st := .fenced } }
        let t := setEngine t k fun y => { y with role := (engineAt s e).role, instance_ := (engineAt s e).instance_, resuming := true }
        clusterOff (redirectTo (setEngine t k fun y => { y with work := y.work ++ (engineAt s e).work }) e k) (e / 16)) ∧
    ((engineAt s e).unit.st = .inService → fenceForbidden s e = false → (engineAt s e).role = .spare ∨ spareFor s e = none →
      fenceEngine s e =
        let t := setEngine (endInjections s (.engine e)) e fun x => { x with role := .fenced, instance_ := 255, failing := false, resuming := false, work := [], unit := { x.unit with st := .fenced } }
        if (engineAt s e).role = .spare then clusterOff (t.event 2 1 2 (unitWord 1 e) (detail := engineDetail e 0xFF .spare)) (e / 16)
        else
          let t := match takeOver t (engineAt s e).role (engineAt s e).instance_ with
            | some k => redirectTo (handWork t k (engineAt s e).work) e k
            | none => t
          let t := clusterOff (t.event 2 2 2 (unitWord 1 e) (detail := engineDetail e 0xFF (engineAt s e).role)) (e / 16)
          if (engineAt s e).role = .couch then deckleImmediate t else t) ∧
    ((engineAt s e).unit.st = .inService → fenceForbidden s e = true → fenceEngine s e =
      (setEngine s e fun x => { x with failing := true }).event 0 1 3 (unitWord 1 e) (detail := engineDetail e 0xFF (engineAt s e).role)) ∧
    (∀ k, s.wire.redirect.find? (·.1 = e) = some (e, k) → (engineAt s k).resuming = true →
      exec (.spareRoleResumed e) s =
        let t := setEngine s k fun x => { x with resuming := false }
        let t := t.each (engineAt t k).work fun u b => atRouter u (upLink (.en (k / 16))) (routerFor (.en (k / 16))) b
        .next (t.event 2 1 2 (unitWord 1 e) (detail := engineDetail e k (engineAt t k).role))) ∧
    (∀ i, exec (.islandFrequencyChangeDone i) s = .next (s.onWire fun w => { w with changing := w.changing.filter (· ≠ i) }))

/-- While no close runs, or a write of its epoch has not drained, EPOCH_CLOSE_COMPLETE changes nothing. A drained close that is not pair-wide ends: its epoch is closed, none below it is open, and the changes, hand-overs and requests that wait for its end follow. In a drained pair-wide close the local end sends CLOSE to the twin once, and the close ends when the twin's CLOSE is in too. From READY.LIFT on until the Couch commits AUTO_CLOSE_INTERVAL_EXPIRY requests a close: with none running the current epoch begins to close and the next one begins, with one running one close is queued; before and after it changes nothing. DECKLE_RECOMPUTE takes the cleaning rate of the last interval, lets the channels join or leave the Couch set, recomputes C and B with their terms, and from them the demand and the two grants, logs a new risk, overcommitment or pack current, drops prefetches where the pool is low, and accepts what waits for credit. (R34, R36, R49, R57, R59, R221, R224, R225) -/
def Obligations.EpochClosesAndRecomputes : Prop :=
  ∀ (s : State),
    (s.epochs.running = none → exec .epochCloseComplete s = .next s) ∧
    (∀ c, s.epochs.running = some c →
      (drained s c.epoch = false → exec .epochCloseComplete s = .next s) ∧
      (drained s c.epoch = true → pairWide s c = false → exec .epochCloseComplete s = .next (finishCloses (finishClose s c)) ∧
        max s.epochs.closed c.epoch ≤ (finishClose s c).epochs.closed) ∧
      (drained s c.epoch = true → pairWide s c = true →
        let t := if c.localDone then s else sendAll (s.onEpochs fun e => { e with running := some { c with localDone := true } }) (.close c.epoch)
        exec .epochCloseComplete s = .next (if c.peerDone then finishCloses (finishClose t c) else t))) ∧
    (let runs := (s.cmd.ready = .lift ∨ s.cmd.ready = .service) ∧ s.couch.orch ≠ .committed ∧ s.couch.orch ≠ .down;
      (runs → s.epochs.running = none → exec .autoCloseIntervalExpiry s =
        let c : Close := { epoch := s.epochs.current, joined := [], started := s.now, localDone := false, peerDone := false, couch := false }
        .next (s.onEpochs fun e => { e with running := some c, current := e.current + 1, began := s.now, asyncBytes := 0 })) ∧
      (runs → ∀ c, s.epochs.running = some c → exec .autoCloseIntervalExpiry s = .next (s.onEpochs fun e => { e with queued := some (e.queued.getD []) })) ∧
      (¬ runs → exec .autoCloseIntervalExpiry s = .next s)) ∧
    (exec .deckleRecompute s =
      let a := s.onDeckle fun d => { d with rateClean := d.cleaned * 100, cleaned := 0, spent := List.replicate 16 0, spentM := List.replicate 16 0 }
      let a := a.onReam fun r => { r with ch := r.ch.map fun c => { c with joined := couchFit c } }
      let a := a.onReam fun r => { r with imageCapacity := imageCapacity a }
      let C := couchCapacity a
      let B := dirtyBound a
      .next (deckleJudge (a.onDeckle fun d => { d with capacity := C.1, cTerm := C.2, bound := B.1, bTerm := B.2, stagePath := onStagePath a }))) ∧
    (let x := pressure s
     let t := s.onDeckle fun d => { d with demand := demandOf s x, grant := grantRate s x, grantM := grantRate s (pairPressure s) }
     let risk := decide (s.deckle.capacity < dirtyBytes t)
     let t := if risk && !t.deckle.atRisk then t.event 9 2 2 (detail := dirtyBytes t - s.deckle.capacity) else t
     let full := decide (homeCapacity t < allocated t)
     let t := if full && !t.deckle.overcommitted then t.event 13 1 2 (detail := allocated t - homeCapacity t) else t
     let t := if packCurrentExceeded t && decide (t.deckle.packCurrentLogged ≠ (t.sal.id.map (·.packId)).getD 0) then
         (t.event 9 3 1 (detail := couchPower t)).onDeckle fun d => { d with packCurrentLogged := (t.sal.id.map (·.packId)).getD 0 } else t
     deckleJudge s = wakeCredit (dropPrefetches (t.onDeckle fun d => { d with atRisk := risk, overcommitted := full })))

/-- A close requested while none runs starts, and one requested while one runs joins the one queued close, so that at most one waits; beginning a close moves the current epoch past the epoch it closes; ending a close records the closed epoch as at least the close's own and never below the one before, and after the Couch's own close, where no detach joined it, none is left running. (R36, R57, R75) -/
def Obligations.ClosesAreSerialisedAndTheClosedEpochNeverFalls : Prop :=
  ∀ (s : State) (js : List Joined) (c : Close),
    (s.epochs.running = none → (requestClose s js).epochs =
      { s.epochs with running := some { epoch := s.epochs.current, joined := js, started := s.now, localDone := false, peerDone := false, couch := false }, current := s.epochs.current + 1, began := s.now, asyncBytes := 0 }) ∧
    (s.epochs.running = some c → (requestClose s js).epochs = { s.epochs with queued := some (s.epochs.queued.getD [] ++ js) }) ∧
    max s.epochs.closed c.epoch ≤ (finishClose s c).epochs.closed ∧
    (s.epochs.queued = none → c.couch = true → (∀ j ∈ c.joined, j.change ≠ .detach) → (finishClose s c).epochs.running = none)

/-- A fill whose frame is valid and whose read has left the channel's queue arrives in its slice with the frame's line. An offer of a dirty eviction entry whose page has a valid frame writes the line to the frame's channel and charges the page; a clean entry is dropped and only marks its frame referenced. When the channel's next write is the line's, its acknowledgement counts its column command, takes it out of the queue, retires the line's offered entries and completes the writes that waited for it (in a stage, where the stage path is in force by then). A drain that has no dirty line and no dirty entry left, and toward OFF no filling line, ends: toward OFF every line is invalidated and the slices are powered off, its request is answered with OK, and the next target is taken up. Slices that have powered up start empty and routed. (R94, R97, R98, R100, R102, R121, R122) -/
def Obligations.CurdLinesFillAndRetire : Prop :=
  ∀ (s : State) (line : Nat),
    (∀ f, validFrame s (line / 64) = some f → ((dramAt s (frameChannel f.no)).queue.any fun d => d.line = line && !d.write && d.curd) = false →
      exec (.curdFillArrival line) s = .next (fillLine s line (frameLine f line))) ∧
    (∀ e, (s.curd.evicts.find? fun e => e.addr = line && !e.offered) = some e →
      let t := s.onCurd fun c => { c with evicts := c.evicts.map fun x => if x = e then { e with offered := true } else x }
      (e.dirty = true → (validFrame t (line / 64)).isSome = true →
        exec (.evictionOffer line) s = .next (chargePage (writeFrame t line e.data false) (line / 64) e.epoch)) ∧
      (e.dirty = false → exec (.evictionOffer line) s = .next
        ((setFrame s (line / 64) fun f => if f.valid then { f with referenced := true } else f).onCurd fun c => { c with evicts := c.evicts.filter (· ≠ e) }))) ∧
    (∀ p d, lineBank s line = some p → nextRequest s p.channel (line % 2) true = some d → d.line = line → d.rmw = false →
      let t := setDram (columnCommand s p.channel p.bank p.row false) p.channel fun c => { c with queue := c.queue.erase d }
      let t := (watermark t p.channel (line % 2)).onCurd fun c => { c with evicts := c.evicts.filter fun e => !(e.addr = line && e.dirty && e.offered) }
      exec (.dramWriteAck line) s =
        .next (walkDrain (t.each (t.cxl.reqs.filter fun q => q.line = line && q.st = .dramWrite) throughPlaced))) ∧
    (let t := bypassSlices (walkDrain s)
     ∀ m, t.curd.draining = some m → t.curd.lines.any (·.st = .dirty) = false → t.curd.evicts.any (·.dirty) = false →
      (m = .off → t.curd.lines.any (·.st = .filling) = false) →
      let u := t.onCurd fun c => { c with draining := none, lines := if m = .off then [] else c.lines, evicts := if m = .off then [] else c.evicts, off := m = .off }
      let u := if m = .off then u.each ((List.range 16).map Island.cu) unroute else u
      let q := u.curd.drainReq
      let u := u.onCurd fun c => { c with drainReq := none }
      exec .curdDrainComplete s = .next (finishCloses (retarget (releaseForced (answerJoined u q .ok 0
        (match q with | some (_, op, _) => if op = 0x0304 then cacheReply u else [] | none => [])))))) ∧
    (s.curd.powering = true → exec .curdSlicePowerUpDone s =
      .next ((s.each (((List.range 16).filter fun i => (unitAt s (.slice i)).st = .inService).map Island.cu) reroute).onCurd fun c =>
        { c with powering := false, lines := [], plru := [] }))

/-- A page charge message whose page can have a frame charges the page to its port and lets what waits for the page go on, and one whose page finds no frame waits; one whose directory block must be read from the Ream fetches the block first. Of the fetches that their LUN serves, one that finds the slot of its page and decodes, with a tag that names the page and its region, fills its frame at the read level of its temperature; after a retry or soft decode it counts a corrected error of the channel first; one rebuilt from its stripe, or whose tag is refused, counts an uncorrectable error, fills the frame and starts the move of the page to its new location; one that no step recovers counts an uncorrectable error and the page is LOST, as it is where the slot holds another page. The fetch of a directory block loads the block. A clean that ends at a free home location enters the new location with the page CLEAN and uncharged, and a write in between leaves it DIRTY and charged. A reclaimable frame that was referenced is passed over once, and one that was not is freed. (R70, R72, R90, R98, R107, R108, R110, R111, R166, R170, R176, R177) -/
def Obligations.ChargesFetchesAndCleansEnd : Prop :=
  ∀ (s : State) (page : Nat),
    (∀ m, s.ppu.charges.find? (·.page = page) = some m →
      let t := touchDirectory (s.onPpu fun p => { p with charges := p.charges.erase m }) page
      (∀ u, blockAbsent s page = false → frameForCharge (if (entry t page).st = .lost then t else formStaged t page) page = some u →
        exec (.pageChargeMessage page) s = .next (pageArrived (chargeFor u page m.epoch m.port true) page)) ∧
      (blockAbsent s page = false → frameForCharge (if (entry t page).st = .lost then t else formStaged t page) page = none →
        exec (.pageChargeMessage page) s = .next s) ∧
      (blockAbsent s page = true → exec (.pageChargeMessage page) s = .next (fetchBlock s (blockOf page)))) ∧
    (∀ f t, s.ppu.fetches.find? (·.page = page) = some f → fetchIssued s f = some t →
      let loc := (entry t page).loc
      let region := (entry t page).region
      let u := UnitId.flash (locChannel loc)
      let w := chooseLevel (targetAnswers t loc .read) loc
      (page < directoryBase → ∀ x, slotAt t loc = some x → x.page = page → x.region = region →
        exec (.reamFetchComplete page .decoded) s = .next (fetchDone w page x.data) ∧
        (∀ tag new, exec (.reamFetchComplete page (.misread tag new)) s =
          .next (if pageTagged tag page region then fetchDone w page x.data else slotRecovered w page x new)) ∧
        exec (.reamFetchComplete page .retried) s = .next (withInjection w u 0 fun t => fetchDone (countError t u false) page x.data) ∧
        exec (.reamFetchComplete page .soft) s = .next (withInjection w u 0 fun t => fetchDone (countError t u false) page x.data) ∧
        (∀ new, exec (.reamFetchComplete page (.rebuilt new)) s = .next (withInjection w u 1 fun t => slotRecovered t page x (some new))) ∧
        exec (.reamFetchComplete page .lost) s = .next (slotRecovered w page x none)) ∧
      (page < directoryBase → ∀ o, (∀ x, slotAt t loc = some x → x.page ≠ page ∨ x.region ≠ region) →
        exec (.reamFetchComplete page o) s = .next (fetchLost (if (slotAt t loc).isSome then countError t u true else t) page)) ∧
      (directoryBase ≤ page → ∀ o, exec (.reamFetchComplete page o) s = .next (blockFetched t (page - directoryBase) o))) ∧
    (∀ (w : State) x new,
      let l := (entry w page).loc
      let u := countError w (.flash (locChannel l)) true
      let v := fetchDone (suspectBlock (u.event 5 3 1 (unitIdWord (.flash (locChannel l))) (entry w page).region (page * 4096) page) l) page x.data
      (recoverable u l = true → slotRecovered w page x (some new) =
        if rebuildTarget v l new && (entry v page).st ≠ .moving && (entry v page).loc = l && cleaningRuns v
        then startMove (writeSlot v { x with loc := new, generation := 0 } 0) page .rebuild x.data new else v) ∧
      (recoverable u l = false → slotRecovered w page x (some new) = fetchLost u page) ∧
      slotRecovered w page x none = fetchLost u page) ∧
    (∀ m loc, page < directoryBase → (s.ppu.moves.find? fun m => m.page = page && m.kind = .clean) = some m →
      progTarget s loc .home m.since = true → readsWait s (lunOf loc) m.since = false →
      let e := entry s page
      let k := keyWord s e.region
      let t := (writeSlot (targetAnswers s loc) { loc := loc, page := page, region := e.region, epoch := wideEpoch s m.epoch, keySlot := k.1, keyGen := k.2.1, cipher := k.2.2, generation := 0, data := m.data } e.loc).onPpu fun p => { p with moves := p.moves.erase m }
      let t := progressLong (t.onDeckle fun d => { d with cleaned := d.cleaned + 4096 }) (fun x => x = .flush e.region) 1 (poisonedData m.data)
      exec (.pageCleanComplete page loc) s = .next (beginMoves (checkFlush (resumeMoves (retireStaged (putEntry t
        { e with loc := loc, keyGen := BitVec.ofNat 2 k.2.1, st := if e.wrote then .dirty else .clean, wrote := false, charged := e.wrote }) page m.order) page) e.region))) ∧
    (∀ f, frameOf s page = some f → freeFrames s < freeTarget s / 2 → reclaimable s page = true →
      s.ppu.frames.any (fun f => reclaimable s f.page && reclaimClass s f.page < reclaimClass s page) = false →
      exec (.frameReclaim page) s = .next (if f.referenced then setFrame s page fun f => { f with referenced := false }
        else wakeAll (putEntry (invalidatePage (dropFrame s page) page) { entry s page with st := .home, frame := none })))

/-- PAGE_CLEAN_START, while no Couch has committed, on a page that is cleaned next (no page that the order of cleaning places before it is ready), puts the page in MOVING with its data gathered and its state before remembered, and asks the cipher; on a page in MOVING that must be cleaned again it answers with a retry. PAGE_MOVE_END of a page that drains or relocates to a free home location, once no read goes before it, copies its slot there and settles the entry: DIRTY if a write arrived in between, else the state before the move; of a rebuilt or folded page it enters the location programmed; of a page whose frame is vacated it gives the page the new frame, with what is queued for it, once the migration rate has let it be read, and its entry changes with no charge of the directory block unless a write arrived. PAGE_MOVE_END of a directory block that stands on a DRAINING channel moves the block whole to the free location. (R71, R72, R110, R152) -/
def Obligations.CleansStartAndMovesEnd : Prop :=
  ∀ (s : State) (page : Nat) (loc : BitVec 40), cleaningRuns s = true →
    (directoryBase ≤ page → dirTarget s loc = true → s.cmd.safe = false →
      (s.ream.root.any fun x => x.1 / 2 = page - directoryBase && (flashAt s (locChannel x.2.1)).st = .draining) = true →
      exec (.pageMoveEnd page loc) s = .next (moveDirectory s (page - directoryBase) loc)) ∧
    (page < directoryBase →
    (let u := frameForClean s page
     ∀ f, (entry s page).st ≠ .moving → cleanFirst s page = true → cleanable u page = true → validFrame (gatherPage u page) page = some f →
      exec (.pageCleanStart page) s =
        let t := pageCommand (gatherPage u page) f.no
        let e := entry t page
        let v := putEntry (t.onPpu fun p => { p with moves := p.moves ++ [{ page := page, kind := .clean, data := f.data, epoch := e.epoch, target := 0, since := t.now, order := t.ream.stageOrder }] })
          { e with prev := e.st, st := .moving, wrote := false }
        .next (cipherRequest v (entry (gatherPage u page) page).region 4)) ∧
    ((entry s page).st = .moving → (entry s page).wrote = true ∨ (entry s page).charged = true ∨ isStaged s page = true → (validFrame s page).isSome = true →
      exec (.pageCleanStart page) s = .next ((s.onPpu fun p => { p with retried := addNew p.retried { page := page, kind := .clean, loc := (entry s page).loc } }).emit (.retryResponse page))) ∧
    (∀ m, (s.ppu.moves.find? fun m => m.page = page && m.kind ≠ .clean && m.kind ≠ .rekey) = some m →
      let e := entry s m.page
      (m.kind = .drain ∨ m.kind = .relocate → progTarget s loc .home m.since = true → readsWait s (lunOf loc) m.since = false →
        let t := endMove (copySlot (targetAnswers s loc) e.loc loc) m { e with loc := loc }
        exec (.pageMoveEnd page loc) s = .next (beginMoves (if m.kind = .drain then
          progressLong t (fun k => match k with | .drain cs => cs.contains (locChannel e.loc) | _ => false) 4096 (poisonedData m.data) else t))) ∧
      (m.kind = .rebuild ∨ m.kind = .fold → loc = m.target → exec (.pageMoveEnd page loc) s = .next (beginMoves (releaseFolded
        (endMove (s.onReam fun r => { r with slots := r.slots.filter fun y => !(y.loc = e.loc && y.generation = 0) }) m { e with loc := loc })))) ∧
      (m.kind = .vacate → validFrame s m.page = none → exec (.pageMoveEnd page loc) s = .next (beginMoves (endMove s m e))) ∧
      (m.kind = .vacate → ∀ f n, validFrame s m.page = some f → m.since + migrationTime s (frameChannel f.no) ≤ s.now →
        frameElsewhere s (frameChannel f.no) = some n →
        let c := frameChannel f.no
        let t := s.onPpu fun p => { p with frames := insertBy (·.no) { f with no := n } (p.frames.filter (·.no ≠ f.no)) }
        let t := setDram t c fun d => { d with queue := d.queue.filter fun x => x.line / 64 ≠ m.page }
        let t := setDram (pageCommand t n) (frameChannel n) fun d => { d with queue := d.queue ++ (dramAt s c).queue.filter fun d => d.line / 64 = m.page }
        let t := progressLong t (fun k => k = .offline c) 4096 (poisonedData f.data)
        exec (.pageMoveEnd page loc) s = .next (beginMoves (endMove t m { entry t m.page with frame := some n })))) ∧
    (∀ (t : State) m e, endMove t m e =
      let u := t.onPpu fun p => { p with moves := p.moves.erase m }
      let n := { e with st := if e.st = .moving then movedState u e (decide (m.kind ≠ .vacate)) else e.st, prev := .free, wrote := false }
      resumeMoves (if m.kind ≠ .vacate ∨ e.wrote = true then putEntry u n else putQuiet u n) m.page))

/-- When the channel's next request is the read of a line (or the read half of a partial write), the burst is issued: the read leaves its queue, its column command is counted, and the outcome follows the error table: a good or a poisoned line is delivered as read; a corrected one is counted against its device and row, written back where no write of the line waits, and delivered; an erasure is counted and delivered; an uncorrectable line is released and refetched, read from the twin, or poisoned. A scrub read of a written frame reads all of it, and each of its lines that is not good counts in the same way: a corrected line is counted and written back unless a write of it is queued, an erasure is counted, poison is only logged, and an uncorrectable line is counted, recovered from the twin or else only logged; a scrub read of a directory block reads its lines so too, and a burst of one under an access is taken from the copy that decodes. Symbols in error of one device are corrected, those of two are not. (R133, R144, R147, R148, R150) -/
def Obligations.DramAccessesFollowTheErrorTable : Prop :=
  (∀ (s : State) (line : Nat) err, directoryBase ≤ line / 64 → exec (.dramAccessComplete line err) s = .next (directoryAccess s line err)) ∧
  ∀ (s : State) (line : Nat) (f : Frame) (d : DramReq), line / 64 < directoryBase → frameOf s (line / 64) = some f →
    let c := frameChannel f.no
    let p := placeOf (dramAt s c) (f.no / 16)
    d.line = line →
    (d.write = false ∧ nextRequest s c (line % 2) false = some d) ∨ (d.write = true ∧ d.rmw = true ∧ nextRequest s c (line % 2) false = none ∧ nextRequest s c (line % 2) true = some d) →
    let t := setDram s c fun x => { x with queue := if d.write then x.queue.map fun y => if y = d then { d with rmw := false } else y else x.queue.erase d, caFails := 0 }
    let t := columnCommand t c (bankOf (line % 2) p) p.row false
    let done (t : State) : State := vacateStep (deliver t d d.data) c
    (∀ err, decoded (dramAt t c).marks (p.rank * 2 + line % 2) err = .good ∨ decoded (dramAt t c).marks (p.rank * 2 + line % 2) err = .poison →
      exec (.dramAccessComplete line err) s = .next (done t)) ∧
    (∀ err k, decoded (dramAt t c).marks (p.rank * 2 + line % 2) err = .corrected k →
      let u := correctable t f.no line k
      exec (.dramAccessComplete line err) s =
        .next (done (if queuedWrite u line || (validFrame u (line / 64)).isNone then u else writeFrame u line (frameLine f line) false))) ∧
    (∀ err, decoded (dramAt t c).marks (p.rank * 2 + line % 2) err = .erased none →
      exec (.dramAccessComplete line err) s = .next (done (countError t (.dram c) false))) ∧
    (∀ err k, decoded (dramAt t c).marks (p.rank * 2 + line % 2) err = .erased (some k) →
      exec (.dramAccessComplete line err) s = .next (done (corrected (countError t (.dram c) false) f.no line k))) ∧
    (∀ err, decoded (dramAt t c).marks (p.rank * 2 + line % 2) err = .bad →
      exec (.dramAccessComplete line err) s =
        .next (uncorrectable (setDram t c fun x => { x with queue := if d.write then x.queue.erase { d with rmw := false } else x.queue }) f.no d)) ∧
    (∀ (u : State) (n : Nat) g, (u.ppu.frames.find? fun g => g.no = n && g.valid) = some g → scrubMay u (n % 16) 0 = true → scrubMay u (n % 16) 1 = true →
      ∀ errs, exec (.scrubRead n errs) u = .next ((pageCommand u n).each (errs.filter fun x => decide (x.1 < 64)) fun v x => scrubLine v g x.1 x.2)) ∧
    (∀ (u : State) (n : Nat) b, u.ppu.frames.any (fun g => g.no = n && g.valid) = false → (u.ppu.blocks.find? fun b => blockOn b fun k => k = n) = some b →
      scrubMay u (n % 16) 0 = true → scrubMay u (n % 16) 1 = true →
      ∀ errs, exec (.scrubRead n errs) u = .next ((pageCommand u n).each (errs.filter fun x => decide (x.1 < 64)) fun v x => scrubBlock v n b.1 x.1 x.2)) ∧
    (∀ (u : State) g i err,
      let c := frameChannel g.no
      let l := g.page * 64 + i
      let answer := decoded (dramAt u c).marks ((placeOf (dramAt u c) (g.no / 16)).rank * 2 + l % 2) err
      (dramAt u c).st = .online ∨ (dramAt u c).st = .vacating →
        (answer = .good → scrubLine u g i err = u) ∧
        (answer = .poison → scrubLine u g i err = dramEvent u 5 2 g.no l 15 .poison (entry u g.page).region (l * 64)) ∧
        (answer = .erased none → scrubLine u g i err = countError u (.dram c) false) ∧
        (∀ k, answer = .erased (some k) → scrubLine u g i err = corrected (countError u (.dram c) false) g.no l k) ∧
        (∀ k, answer = .corrected k → scrubLine u g i err =
          if queuedWrite (correctable u g.no l k) l then correctable u g.no l k else queueWrite (correctable u g.no l k) l (frameLine g l) false) ∧
        (answer = .bad → scrubLine u g i err =
          let v := countError u (.dram c) true
          let e := entry u g.page
          rowBad (if e.charged = false ∧ e.st = .clean then dramEvent v 3 1 g.no l 15 .uncorrectable e.region g.page
            else if twinHolds v e then recoverLine v { line := l, write := false, curd := true, data := frameLine g l, rmw := false, since := v.now }
            else dramEvent v 5 2 g.no l 15 .uncorrectable e.region (l * 64)) c (rowOf (placeOf (dramAt u c) (g.no / 16))))) ∧
    (∀ marks unit l, (marks.any fun m : Nat × Nat => m.1 = unit) = false → ∀ k rest, l = k :: rest →
      ((∀ x ∈ rest, deviceOf x = deviceOf k) → decoded marks unit (.symbols l) = .corrected (deviceOf k)) ∧
      ((∃ x ∈ rest, deviceOf x ≠ deviceOf k) → decoded marks unit (.symbols l) = .bad))

/-- A refresh interval refreshes the bank, or with all-bank refresh every bank of its rank and subchannel: with requests queued for it a refresh pulled in before is used up, then up to four are postponed (five where save reads wait), and the next closes the row; with none queued what was postponed is issued. The refresh window clears the activation trackers; an idle row closes unless a queued request targets it, and its bank's counter rises, as it does behind an auto-precharge; ranks in self-refresh and channels that are not in use take no refresh and raise no alert; a CA parity alert logs, counts, retrains at the third in a row and fails the channel at the next; the sPPR of a vacated candidate row logs and goes on to hPPR, which ends the repair, and either ends it with the row withheld where no spare row is left; a hub silent for 100 ms fails a channel in use or in training, and in any other channel is noted; a vacated channel goes OFFLINE and off the Wire and its operation ends with OK; a resize of the directory area whose shares have moved ends. (R135, R139, R140, R147, R151, R153, R157) -/
def Obligations.DramTicksAndRepairsComplete : Prop :=
  ∀ (s : State) (c b row : Nat),
    let d := dramAt s c
    let k := bankAt d b
    (d.st = .online ∨ d.st = .vacating →
      (d.asleep.contains (b % 1024 / 32) = false → exec (.refreshIntervalTick c b) s = .next (setDram (setBank s c k) c fun x => { x with
        timing := timingSet x.reduced x.band
        banks := x.banks.map fun y => if refreshed (setBank s c k) b y then refreshBank (refreshBusy s c b || refreshCch s c b) (refreshCch s c b) y else y })) ∧
      (let t := s.event 4 6 1 (unitWord 3 c) (detail := d.caFails + 1)
       exec (.caParityAlert c) s = .next (if 3 ≤ d.caFails then failChannel t c 3
          else if d.caFails = 2 then setDram t c fun x => { x with caFails := 3, held := true, verify := true }
          else setDram t c fun x => { x with caFails := x.caFails + 1 })) ∧
      exec (.spdHubLossTimeout c) s = .next (failChannel (setDram s c fun x => { x with lost := true }) c 4)) ∧
    ((d.st ≠ .online ∧ d.st ≠ .vacating) ∨ d.asleep.contains (b % 1024 / 32) = true → exec (.refreshIntervalTick c b) s = .next s) ∧
    (d.st = .training → exec (.spdHubLossTimeout c) s = .next (dramFailed (setDram s c fun x => { x with lost := true }) c 4)) ∧
    (d.st = .absent ∨ d.st = .offline ∨ d.st = .failed → exec (.spdHubLossTimeout c) s = .next (setDram s c fun x => { x with lost := true })) ∧
    (d.st ≠ .online → d.st ≠ .vacating → exec (.caParityAlert c) s = .next s) ∧
    (∀ (y : Bank) cch, refreshBank false cch y = { y with postponed := 0, openRow := none, pulledIn := min 4 (y.pulledIn + 1) } ∧
      (0 < y.pulledIn → refreshBank true cch y = { y with pulledIn := y.pulledIn - 1 }) ∧
      (y.pulledIn = 0 → refreshBank true cch y = if y.postponed < (if cch then 5 else 4) then { y with postponed := y.postponed + 1 } else { y with openRow := none })) ∧
    exec (.refreshWindowExpiry c) s = .next (setDram s c fun x => { x with banks := x.banks.map fun b => { b with tracker := [], neighbour := 0, told := false, rfms := 0 } }) ∧
    (∀ r, k.openRow = some r → bankWanted s c b (some r) = false →
      exec (.rowIdleTimeout c b) s = .next (setBank s c { k with openRow := none, judged := true, predictor := if k.judged then k.predictor else min 3 (k.predictor + 1) })) ∧
    (∀ r, k.openRow = some r → bankWanted s c b (some r) = true → exec (.rowIdleTimeout c b) s = .next s) ∧
    (k.openRow = none → exec (.rowIdleTimeout c b) s = .next (if k.judged then s else setBank s c { k with judged := true, predictor := min 3 (k.predictor + 1) })) ∧
    (∀ x, repairAt s c row 1 = some x → rowVacated s c row = true → s.couch.orch ≠ .committed →
      exec (.rowRepairSpprDone c row false) s =
        (let t := setDram s c fun y => { y with repair := y.repair.map fun z => if z = x then (row, 2, x.2.2) else z, withheld := y.withheld.erase row, sppr := y.sppr ++ [(row, x.2.2)] }
         .next (wakeAll (vacateWithheld (dramEvent t 8 1 (rowLocation t c row) 0 x.2.2 .repair 0xFFFF row) c))) ∧
      exec (.rowRepairSpprDone c row true) s = .next (noSpareRow s c x)) ∧
    (∀ x, repairAt s c row 2 = some x → bankVacated s c row = true → s.couch.orch ≠ .committed →
      exec (.rowRepairHpprDone c ⟨row, false⟩) s = .next (wakeAll (setDram s c fun y => { y with repair := y.repair.erase x, hppr := addNew y.hppr (row, x.2.2) })) ∧
      exec (.rowRepairHpprDone c ⟨row, true⟩) s = .next (noSpareRow s c x)) ∧
    (let t := vacateStep (leaveBlocks s (onChannel c)) c
     d.st = .vacating → s.couch.orch ≠ .committed → t.ppu.frames.any (fun f => onChannel c f.no) = false → (dramAt t c).queue = [] → t.ppu.blocks.any (fun y => blockOn y (onChannel c)) = false →
      exec (.channelVacateComplete c) s = .next (endLongOf (setDram (dramState t c .offline 0) c fun x =>
        { x with banks := [], repair := [] }) (· = .offline c) .ok 0 [])) ∧
    (let t := areaStep s
     t.vat.areaTarget ≠ 0 → (∀ x ∈ t.vat.ch, x.share = x.shareTo) → exec .directoryAreaResizeComplete s = .next (t.onVat fun v => { v with areaTarget := 0 }))

/-- A channel in training, or absent at the boot, whose hubs declare a supported population goes on to step 1, verifying held results of the same hubs, and one that declares an unsupported population FAILS with cause 1 and the item that failed; each step passed in order advances, step 6 holds the results, and step 7 brings the channel ONLINE; a failed step k FAILS the channel with cause 0x10 + k; a verification that passes brings it ONLINE and one that fails starts the full sequence. A channel in use whose requests are held retrains by the same steps, and goes on with its requests when it passes. A frequency change whose earlier requests have been served ends with the channel at its new bin with its banks precharged, and one whose read-back fails retrains with an event (causes: log entry 136). (R125, R126, R141, R142, R143) -/
def Obligations.DramTrainingRunsItsSteps : Prop :=
  ∀ (s : State) (c : Nat), let x := dramAt s c
    (∀ d, x.st = .training ∨ (x.st = .absent ∧ s.power.seq = .booting) → 0 < d.count → x.step = 0 → x.held = false →
      exec (.dramTrainingStepComplete c (.spdRead d)) s =
        (let t := setDram (if x.st = .absent then dramState s c .training 0 else s) c fun x => { x with dimms := some d }
         .next (if supported d then setDram t c fun x => { x with step := 1, verify := x.results = some d.spdId } else dramFailed t c 1 (unsupportedItem d)))) ∧
    (x.st = .training →
      (x.verify = false → x.held = false →
        (x.step < 6 → exec (.dramTrainingStepComplete c (.passed (x.step + 1))) s =
          .next (setDram s c fun y => { y with step := x.step + 1, results := if x.step + 1 = 6 then y.dimms.map (·.spdId) else y.results })) ∧
        (x.step = 6 → exec (.dramTrainingStepComplete c (.passed 7)) s = .next (enterOnline (setDram s c fun y => { y with step := 7 }) c)) ∧
        exec (.dramTrainingStepComplete c (.failed (x.step + 1))) s = .next (dramFailed s c (0x10 + (x.step + 1)))) ∧
      (x.verify = true → x.step ≠ 0 → x.held = false →
        exec (.dramTrainingStepComplete c .verified) s = .next (enterOnline s c) ∧
        exec (.dramTrainingStepComplete c .verifyFailed) s = .next (setDram s c fun y => { y with verify := false, step := 1 }))) ∧
    (x.held = true → x.st = .online ∨ x.st = .vacating → x.verify = true → x.step ≠ 0 → exec (.dramTrainingStepComplete c .verified) s =
      .next (setDram s c fun y => { y with held := false, verify := false, step := 7 })) ∧
    (x.held = true → x.st = .online ∨ x.st = .vacating → x.verify = false →
      (x.step < 6 → exec (.dramTrainingStepComplete c (.passed (x.step + 1))) s =
        .next (setDram s c fun y => { y with step := x.step + 1, results := if x.step + 1 = 6 then y.dimms.map (·.spdId) else y.results })) ∧
      (x.step = 6 → exec (.dramTrainingStepComplete c (.passed 7)) s = .next (setDram s c fun y => { y with held := false, verify := false, step := 7 })) ∧
      exec (.dramTrainingStepComplete c (.failed (x.step + 1))) s = .next (trainingFails s c (x.step + 1))) ∧
    (x.changing = true → changeWaits x = false → ∀ good,
      let t := setDram s c fun y => runAt s y.target { y with changing := false, held := y.held || !good, verify := y.verify || !good,
                                                              banks := y.banks.map fun b => { b with openRow := none, judged := true, hits := 0, postponed := 0 } }
      let t := t.onWire fun w => { w with changing := w.changing.filter (· ≠ .mc c) }
      let t := if good then t else t.event 4 9 0 (unitWord 3 c) (detail := changeDetail (dramCode x.st) (dramCode x.st) 0x21)
      exec (.dramFrequencyChangeDone c good) s =
        .next (if t.vat.ch.any (·.changing) then t else retargetBin (t.onVat fun v => { v with pendingReduced := none })))

/-- At power-up a channel whose targets train and are supported joins its group by its metadata, at the reduced rate with an event; unsupported targets FAIL it with cause 1 and the item, and failed training with cause 2. A channel in service that retrains keeps its state at the rate it reached, and fails where the training fails; one being added goes on to its format once it trains and is supported, and its addition fails otherwise. A format that passes waits for the home window, then writes the next membership generation and brings the channel ONLINE, and one that fails ends the addition. The first overrun of an operation of a LUN that has had its maximum time is noted and the operation issued once more, and a second one before such an operation succeeds, or a status timeout, fails the target. An empty connector that is found occupied becomes PRESENT; a DRAINING channel without pages becomes DRAINED, and its operation goes on with the channels left or ends with OK; a FAILED one without pages becomes PRESENT, or ABSENT when it was removed; the page of a lost slot whose stripe can be read is rebuilt at a free location through MOVING, and another is written anew from its frame, or is lost; a page in MOVING gets a retry response; a directory page is rebuilt from its block. (R72, R87, R90, R158, R159, R160, R161, R185, R186, R188) -/
def Obligations.FlashChannelsTrainFormatAndProbe : Prop :=
  ∀ (s : State) (c : Nat), let f := flashAt s c
    (aboveCore s = false → f.st = .absent → ∀ r t m,
      (r = .failed → exec (.flashTrainingComplete c r t m) s = .next (flashState s c .failed 2)) ∧
      (r ≠ .failed → exec (.flashTrainingComplete c r t m) s =
        let u := setFlash (setSlow s c (decide (r = .fallback))) c fun f => { f with targets := some t, found := some m, deadTargets := [], overruns := [] }
        .next (if targetsSupported t then joinGroup u c m else flashState u c .failed (unsupportedCause t)))) ∧
    (f.st = .online ∨ f.st = .draining → ∀ t m,
      exec (.flashTrainingComplete c .full t m) s = .next (setSlow s c false) ∧ exec (.flashTrainingComplete c .fallback t m) s = .next (setSlow s c true) ∧
      exec (.flashTrainingComplete c .failed t m) s = .next (failFlash s c 2 false)) ∧
    (aboveCore s = true → f.st = .adding → f.addStep = 1 → ∀ r t m,
      (r = .failed → exec (.flashTrainingComplete c r t m) s = .next (failFlash s c 2 false)) ∧
      (r ≠ .failed → exec (.flashTrainingComplete c r t m) s =
        let u := setFlash (setSlow s c (decide (r = .fallback))) c fun f => { f with targets := some t, found := some m, deadTargets := [], overruns := [] }
        .next (if targetsSupported t then setFlash u c fun f => { f with addStep := 3 } else failFlash u c (unsupportedCause t) false))) ∧
    (f.st = .adding → 3 ≤ f.addStep →
      exec (.channelFormatComplete c false) s = .next (failFlash s c 0 false) ∧
      (homeWindow f = false → exec (.channelFormatComplete c true) s = .next (holdFormat s c)) ∧
      (homeWindow f = true → ∃ t, exec (.channelFormatComplete c true) s = .next t ∧
        t.ream.membership = s.ream.membership.set (c / 12) (s.ream.membership.getD (c / 12) 0 + 1) ∧ (c < s.ream.ch.length → (flashAt t c).st = .online))) ∧
    (∀ n, exec (.targetStatusTimeout c n) s = .next (failTarget s c n)) ∧
    (∀ op : NandOp, overdue s c op = true → exec (.nandOperationOverrun c op) s =
      .next (if f.overruns.contains op then failTarget s c op.target else setFlash s c fun f => { f with
        overruns := f.overruns ++ [op]
        blocks := f.blocks.map fun b => if op.kind = .erase && b.erasing && b.id / 2 ^ 26 = 4 * op.target + op.lun then { b with eraseSince := s.now } else b })) ∧
    (∀ found, exec (.flashAbsentProbeTick c found) s = .next (if f.st = .absent && found then presenceEvent (flashState s c .present 0) c true else s)) ∧
    (f.st = .draining → pagesOn s c = [] → directoryOn s c = [] → s.cmd.safe = false → cleaningRuns s = true →
      let t := setFlash (flashState s c .drained 0) c fun f => { f with drainMark := false }
      let mine (o : LongOp) : Bool := match o.kind with | .drain cs => cs.contains c | _ => false
      (t.cmd.longOps.find? mine = none → exec (.channelDrainComplete c) s = .next t) ∧
      (∀ o, t.cmd.longOps.find? mine = some o → o.kind = .drain [c] → exec (.channelDrainComplete c) s = .next (endLong t o .ok 0 [])) ∧
      (∀ o cs, t.cmd.longOps.find? mine = some o → o.kind = .drain cs → cs ≠ [c] → exec (.channelDrainComplete c) s =
        .next (t.onCmd fun k => { k with longOps := k.longOps.map fun y => if y = o then { o with kind := .drain (cs.filter (· ≠ c)) } else y }))) ∧
    (∀ page o, directoryBase ≤ page → exec (.rebuildStripe page o) s = .next (rebuildDirectory s (page - directoryBase) o)) ∧
    (∀ page, page < directoryBase → needsRebuild s (entry s page).loc = true → cleaningRuns s = true →
      (∀ o, (entry s page).st = .moving → exec (.rebuildStripe page o) s = .next (s.emit (.retryResponse page))) ∧
      ((entry s page).st ≠ .moving →
        (∀ l x, recoverable s (entry s page).loc = true → slotAt s (entry s page).loc = some x → rebuildTarget s (entry s page).loc l = true →
          exec (.rebuildStripe page (some l)) s = .next (startMove (writeSlot s { x with loc := l, generation := 0 } 0) page .rebuild x.data l)) ∧
        (∀ o, o = none ∨ recoverable s (entry s page).loc = false →
          ((validFrame s page).isSome = true → exec (.rebuildStripe page o) s = .next (putEntry s { entry s page with loc := 0, keyGen := 0, st := .dirty, charged := true })) ∧
          (validFrame s page = none → exec (.rebuildStripe page o) s = .next (fetchLost s page))))) ∧
    (f.st = .failed → pagesOn s c = [] → directoryOn s c = [] →
      let t := setFlash (s.onReam fun r => { r with slots := r.slots.filter fun x => locChannel x.loc ≠ c || x.generation ≠ 0 }) c fun f => { f with drainMark := false }
      (f.removed = false → exec (.rebuildComplete c) s = .next (flashState t c .present 0)) ∧
      (f.removed = true → exec (.rebuildComplete c) s = .next (presenceEvent (setFlash (flashState t c .absent 0) c fun f => { f with removed := false }) c false)))

/-- A gathering stage page closes at its timeout, and a closed one that is programmed in the pair of blocks that takes it completes its writes. A program failure makes the block a grown bad block; an erase for which no read waits, of a block whose stripe is out of use, that ends well joins the block to the erased ones with one more erase, and one that fails makes it bad; an erase of a rehearsal block gives its space back. Reclamation of the best closed stripe of a LUN short of erased blocks, and wear levelling, on the least erased block of a channel whose spread exceeds 5 % of the endurance, move the valid slots and queue the erase; patrol reads a closed home block once in an interval, counts its read and moves a block that needed read-retry, counting a corrected error. (R169, R171, R173, R177, R179, R180, R181) -/
def Obligations.StagesAndBlocksComplete : Prop :=
  ∀ (s : State) (c id : Nat) (b : Block),
    (s.ream.gathering = true → exec .stageGatherTimeout s =
      .next (s.onReam fun r => { r with gathering := false, stageClosed := (r.stage.filter (!·.programmed)).length })) ∧
    (∀ k w, s.ream.stageClosed ≠ 0 → stageTarget s = some (k, w) → exec .stageProgramComplete s =
      let n := min stagePageRecords w.ream.stageClosed
      let p := programRecords n k.seq w.ream.stage
      let t := (w.onReam fun r => { r with stage := p.2, stageClosed := r.stageClosed - n, stageBlocks := r.stageBlocks.map fun x => if x.seq = k.seq then { x with pages := x.pages + 1 } else x }).onCipher fun c =>
        { c with requests := dropStageRequests n c.requests }
      .next (t.each p.1 fun s r =>
        match s.cxl.reqs.find? fun q => q.line = r.line && q.st = .stage with
        | some q => localPlaced s q
        | none => s)) ∧
    (blockAt s c id = none → exec (.nandProgramFailure c id) s = .next (growBad s c id) ∧ ∀ ok,
      exec (.nandEraseComplete c id ok) s = .next (if ok && !s.couch.eraseHold && homeWindow (flashAt s c) then s.onReam fun r => { r with rehearsal := r.rehearsal - slcBlock (flashAt s c) } else s)) ∧
    (blockAt s c id = some b → b.bad = false →
      exec (.nandProgramFailure c id) s = .next (growBad s c id) ∧
      (b.erasing = true → stripeIdle s c id = true → eraseBarred s c b = false → windowSince (flashAt s c) b.eraseSince = true →
        readsWait s (32 * c + id / 2 ^ 26) b.eraseSince = false →
        exec (.nandEraseComplete c id false) s = .next (growBad s c id) ∧
        exec (.nandEraseComplete c id true) s =
          let t := leaveStripe ((targetAnswers s (BitVec.ofNat 40 (c * 2 ^ 33 + id * 4)) .erase).onReam fun r => { r with slots := r.slots.filter fun x => !(locChannel x.loc = c && blockId x.loc = id) }) c id
          let t := setFlash t c fun f => { f with blocks := f.blocks.map fun x => if x.id = id then { blankBlock id with erases := x.erases + 1 } else x }
          .next (if !wearHigh (flashAt s c) && wearHigh (flashAt t c) then t.event 5 6 1 (unitWord 4 c) else t)) ∧
      (b.erasing = false → b.sequence ≠ 0 → cleaningRuns s = true →
        (b.closed = true → b.seg = .home → patrolledNow s b = false →
         let t := (setFlash s c fun f => { f with blocks := f.blocks.map fun x => if x.id = id then { x with patrolled := some s.now } else x }).onReam fun r => { r with patrolled := r.patrolled + 1 }
         exec (.patrolRead c id true) s = .next (emptyBlock (countError t (.flash c) false) c id) ∧ exec (.patrolRead c id false) s = .next t) ∧
        (let f := flashAt s c
         (f.targets.map (·.endurance)).getD 0 < 20 * ((f.blocks.map (·.erases)).foldl max 0 - b.erases) →
          f.blocks.all (fun x => b.erases ≤ x.erases || (validSlots s c x.id).isEmpty) = true → validSlots s c id ≠ [] →
          exec (.wearLevelMove c id) s = .next (emptyBlock s c id)))) ∧
    (∀ l p, let t := reclaimStage s
      stripeAt t c id = some p → reclaims t c l p = true → (lunErased t c l).1 * 100 < (lunErased t c l).2 * reclaimPercent t → cleaningRuns t = true →
      bestScore t c l p = true → exec (.reclamationStart c l id) s = .next (emptyStripe t p))

/-- While VAO is up a sample updates the readings, the charge count and the 1 s mean, acts on an overrange of either channel, judges the pack's temperature bands while a pack is present, takes the empty anchor at the cutoff of a learning discharge, and lets the Couch watch; auto-zero takes the next modulator; an SV diode reading in range is used and one out of range is logged once and not used; the low-current mode is entered once the 1 s mean has stayed below 0.5 % of the range for 10 s and left at the comparator. Assertion of PK_PRESENT_N starts an identity read, and deassertion makes the energy state ABSENT at once, with the Deckle's bound following; a deassertion beyond 100 ms is a swap; polls start a read; a failed read is retried twice and then logged, and a good identity is taken: reserved fields of it are logged once for each pack, another pack's is a swap after which the energy state is DEGRADED, and a chemistry that differs from the written table's is logged. (R193, R194, R195, R197, R198, R201, R212) -/
def Obligations.SalometerSamplesAndPresence : Prop :=
  ∀ (s : State),
    (∀ i v temp0 temp1, s.power.vao = true →
      let us := if s.sal.lowCurrent && !s.sal.probing then 15625 else 1000
      let t := secondMean (countCharge (thermistorSample (probeTime (s.onSal fun x => { x with current := i, voltage := v }) us) temp0 temp1) i us) i us
      let t := if currentRange t < i.natAbs then overrangeSample t i else t
      let t := if voltageRange t < v then judgeEnergy (t.onSal fun x => { x with ocvOk := false }) else t
      let t := if t.sal.present then packBands t else t
      exec (.salometerSample i v temp0 temp1) s =
        .next (couchWatch (if t.sal.phase = .discharge && v ≤ (t.sal.id.map fun p => p.cutoffMv * 1000).getD 0 then emptyAnchor t else t))) ∧
    exec .autoZeroTick s = .next (s.onSal fun x => { x with zeroChannel := (x.zeroChannel + 1) % 4 }) ∧
    (∀ t, inRange t = true → exec (.svDiodeSample t) s = .next (judgeEnergy (s.onSal fun x => { x with diode := some t, diodeBad := false }))) ∧
    (∀ t, inRange t = false → exec (.svDiodeSample t) s = .next (judgeEnergy (if s.sal.diodeBad then s.onSal fun x => { x with diodeBad := true }
      else (s.onSal fun x => { x with diodeBad := true }).event 10 8 1 (detail := t.natAbs)))) ∧
    (10000000 ≤ s.sal.lowTime →
      exec .lowCurrentModeEntry s = .next (s.onSal fun x => { x with lowCurrent := true })) ∧
    exec .lowCurrentComparator s = .next (s.onSal fun x => { x with lowCurrent := false }) ∧
    (s.sal.present = false → exec .pkPresentAsserted s =
      .next (s.onSal fun x => { x with present := true, swapped := false, unread := true, reading := true, idRetries := 0, firstProbe := false, ocvOk := false, probes := 0 })) ∧
    (s.sal.present = true → exec .pkPresentDeasserted s = .next (deckleImmediate (couchWatch (setEnergy (publish ((disqualify s 5).onSal fun x =>
      { x with present := false, swapped := false, reading := false, probing := false, probeEn := false, firstProbe := false, before := if x.state = .absent then x.before else some x.state, beforePack := (x.id.map (·.packId)).getD 0 })) .absent false)))) ∧
    (s.sal.present = false → s.sal.swapped = false → exec .packSwapTimeout s = .next (packSwap (s.onSal fun x => { x with before := none, id := none, swapped := true }))) ∧
    (s.sal.present = true → s.sal.reading = false → exec .packIdentityPoll s = .next (s.onSal fun x => { x with reading := true, idRetries := 2 })) ∧
    (s.sal.present = true → s.sal.reading = true →
      (∀ o, (∀ b, o = some b → identityCrc b = false) → exec (.packIdentityReadDone o) s = .next (if s.sal.idRetries < 2 then s.onSal fun x => { x with idRetries := x.idRetries + 1 }
        else (s.onSal fun x => { x with reading := false }).event 10 1 1)) ∧
      (∀ b, identityCrc b = true →
        let p := parseIdentity b
        let t := s.onSal fun x => { x with reading := false, unread := false }
        let t := if (decide (field b 3 1 ≠ 0) || decide (field b 24 4 ≠ 0)) && !s.sal.reservedLogged.contains p.packId then
          (t.event 10 7 1 (detail := p.packId)).onSal fun x => { x with reservedLogged := p.packId :: x.reservedLogged } else t
        (∀ q, s.sal.id = some q → q.packId ≠ p.packId → exec (.packIdentityReadDone (some b)) s =
          let t := (packSwap t).onSal fun x => { x with id := some p, before := none }
          let t := if p.usable && (t.cmd.tables.getD 8 none).isSome && (chemistryWritten t).isNone then t.event 9 5 1 (detail := p.chemistry) else t
          .next (judgeEnergy (if t.sal.state ≠ .absent && p.usable then deckleImmediate (setEnergy (publish t) .degraded false) else t))) ∧
        (∀ q, s.sal.id = some q → q.packId = p.packId → exec (.packIdentityReadDone (some b)) s = .next (judgeEnergy (t.onSal fun x => { x with id := some p }))) ∧
        (s.sal.id = none → exec (.packIdentityReadDone (some b)) s =
          let t := t.onSal fun x => { x with id := some p }
          .next (judgeEnergy (if p.usable && (t.cmd.tables.getD 8 none).isSome && (chemistryWritten t).isNone then t.event 9 5 1 (detail := p.chemistry) else t)))))

/-- A probe starts on a present, usable pack that nothing suspends, is vouched for or awaits its first probe; a probe whose result is accepted anchors and re-publishes, and one that is not is only counted. The 10 ms tick publishes the estimate and judges the energy state. A full-charge anchor sets the SoC to full, moves a charging cycle on to its discharge and ends a recharging one. A disagreement of the thermistors declares the one farther from the SV die failed. A learning cycle without its anchor in 12 h is disqualified under cause 6, and one interrupted under cause 3; the daily update adds the equivalent full cycles. (R203, R204, R205, R208, R209, R214, R215) -/
def Obligations.ProbesAnchorsAndLearning : Prop :=
  ∀ (s : State),
    (probeBlocked s = false → s.sal.unread = false → (s.sal.id.map (·.usable)).getD false = true → s.sal.probing = false → s.sal.firstProbe = false ∨ s.sal.ocvOk = true →
      exec .probeStart s = .next (s.onSal fun x => { x with probing := true, probeEn := true, probeUs := 0 })) ∧
    (∀ a b c d e f g h, s.sal.probing = true →
      let p := probeResult a b c d e f
      let t := s.onSal fun x => { x with probing := false, probeEn := false, lowCurrent := x.lowCurrent && decide ((e.natAbs : Int) * 200 < currentRange s) }
      exec (.probeComplete a b c d e f g h) s = .next (if probeAccepted t p.1 p.2.1 a e g h then judgeEnergy (publish (acceptProbe t p.2.1 p.2.2.toNat))
        else t.onSal fun x => { x with probes := x.probes + 1 })) ∧
    exec (.probeAgeTimeout false) s = .next (judgeEnergy (s.onSal fun x => { x with aged300 := true })) ∧
    exec (.probeAgeTimeout true) s = .next (judgeEnergy (s.onSal fun x => { x with aged1h := true })) ∧
    exec .energyEstimateTick s = .next (couchWatch (slew (judgeEnergy (publish (ageWarning (finishCopy s)))))) ∧
    (∀ p, s.sal.id = some p → s.sal.present = true → 995 * p.chargeMv * 1000 ≤ s.sal.voltage * 1000 → -(ratedCurrent s : Int) < s.sal.current * 20 →
      let t := (anchorAt s full).onSal fun x => { x with anchorLow := false, disagree := 0 }
      (t.sal.phase = .none ∨ t.sal.phase = .discharge → exec .fullChargeAnchor s = .next (judgeEnergy (publish t))) ∧
      (t.sal.phase = .recharge → exec .fullChargeAnchor s = .next (judgeEnergy (publish (finishLearn t)))) ∧
      (t.sal.phase = .charging → exec .fullChargeAnchor s =
        .next (judgeEnergy (publish (learnStep (t.onSal fun x => { x with probeEn := true, probing := false, qDis := 0 }) .discharge 2))))) ∧
    (∀ a b, s.sal.ntc0 = some a → s.sal.ntc1 = some b → 1000 < (a - b).natAbs → s.sal.ntcFailed = 0 →
      let bad := if (a - dieTemp s).natAbs < (b - dieTemp s).natAbs then 2 else 1
      exec .thermistorDisagreement s = .next (judgeEnergy ((s.onSal fun x => { x with ntcFailed := bad }).event 10 2 1 (detail := bad - 1)))) ∧
    (s.sal.phase = .charging ∨ s.sal.phase = .recharge → exec .learnTimeout s = .next (disqualify s 6)) ∧
    (s.sal.phase = .recharge ∧ 0 ≤ s.sal.current ∨ s.sal.phase = .discharge ∧ s.sal.current.natAbs * 50 < ratedCurrent s →
      exec .learnInterruptionTimeout s = .next (disqualify s 3)) ∧
    (∀ r p, s.sal.learned = some r → s.sal.id = some p → p.packId = r.packId → max 1 r.qmax * 1000000000 ≤ s.sal.throughput →
      exec .learnedRecordDailyUpdate s = .next (judgeEnergy (putLearned (s.onSal fun x => { x with throughput := x.throughput % (max 1 r.qmax * 1000000000) })
        { r with cycles := min 65535 (r.cycles + s.sal.throughput / (max 1 r.qmax * 1000000000)) })))

/-- With VAO up, a change of the input pins records them, stamps or forgets the falls, and counts as a glitch a loss that ends before its detection. A detection notes the supply failure; before input was seen it does no more; in SERVING it also writes its Rind record and arms the Couch, or commits at once after three cancellations in 10 s; in COMMITTED it writes the record, in LIFTING it also starts the power-down, and in DOWN it follows the power sequence; the commit point of an armed Couch commits, and no other one does. With the epoch closed and the slices drained the save list stands; each page of it that can be read is programmed at a free reserve location; the hold-up limit stops the programming; a failed program makes the block bad; the seal ends the Couch with an internal warm reset where input is present and nothing asked for DOWN or a COLD reset, and else starts the power-down. (R226, R227, R228, R229, R232, R233, R234) -/
def Obligations.InputLossArmsAndCommitsTheCouch : Prop :=
  ∀ (s : State),
    (∀ pf mv, s.power.vao = true → exec (.inputChange pf mv) s =
      let t := if mv < busThreshold s then stampFall s 0x30 else clearFall s 0x30
      let t := if pf then stampFall t 0x31 else clearFall t 0x31
      let lost := pf || decide (mv < busThreshold s)
      let t := t.onPower fun p => { p with powerFail := pf, busMv := mv, glitches := if t.couch.raw && !lost && t.couch.inputPresent then sat32 (p.glitches + 1) else p.glitches }
      .next ((if lost then t.onSal fun x => { x with lowCurrent := false } else t).onCouch fun c => { c with raw := lost })) ∧
    (s.couch.raw = true → s.couch.inputPresent = true → s.power.vao = true →
      let t := supplyFails ((s.onPower fun p => { p with absentSince := some p.now }).onCouch fun c => { c with inputPresent := false })
      let e := endLedgerErase (t.onPower fun p => { p with firstRail := capture t })
      let u := rindWrite e 2 (newestGeneration e) (dirtyBytes e) (capture t)
      let v := u.onCouch fun c => { c with detected := some u.now }
      (s.couch.inputSeen = false → exec .inputLossDetection s = .next t) ∧
      (s.couch.inputSeen = true →
        (s.couch.orch = .down → exec .inputLossDetection s = .next (detectDown t (capture t))) ∧
        (s.couch.orch = .serving → exec .inputLossDetection s =
          .next (if threeCancels v then couchCommit (v.event 12 6 1 (detail := 3)) false .inputAbsent false false (capture t) else arm v)) ∧
        (s.couch.orch = .committed → exec .inputLossDetection s = .next (u.onCouch fun c => { c with detected := some (c.detected.getD u.now) })) ∧
        (s.couch.orch = .lifting → exec .inputLossDetection s = .next (startPowerDown (u.onCouch fun c => { c with firstRail := capture t }) .inputAbsent)))) ∧
    (s.couch.orch = .armed → exec .commitPoint s = .next (couchCommit s false .inputAbsent false false s.power.firstRail)) ∧
    (s.couch.orch ≠ .armed → exec .commitPoint s = .next s) ∧
    (s.couch.orch = .committed → s.couch.curdDrained = true → s.couch.stopped = true →
      exec .couchSealWritten s = let t := rindComplete (leaveGeneration s true) 4
        .next (if t.couch.inputPresent && !t.couch.toDown && !t.couch.cold then internalReset t
          else startPowerDown (t.onCouch fun c => { c with sealed := true }) t.couch.cause)) ∧
    (∀ page loc, s.couch.orch = .committed → s.couch.curdDrained = true → s.couch.stopped = false → s.couch.sealed = false →
      s.couch.set.contains (locChannel loc) = true → couchFit (flashAt s (locChannel loc)) = true → freeLoc s loc .image = true →
      (s.couch.todo.find? (savable s) = some page → exec (.couchProgramComplete loc true) s = .next (saveAt s page loc)) ∧
      exec (.couchProgramComplete loc false) s = .next (abandonMoves (growBad s (locChannel loc) (blockId loc)))) ∧
    (s.couch.orch = .committed → s.couch.stopped = false → s.couch.sealed = false → s.couch.detected.isSome = true → s.couch.gen.isSome = true →
      exec .holdUpTimeLimit s = .next (rindWrite (s.onCouch fun c => { c with stopped := true, stop := c.stop ||| 4 }) 14 ((s.couch.gen.map (·.num)).getD 0)
        (if s.couch.curdDrained then s.couch.todo.length else chargedPages s)))

/-- COUCH_CURD_DRAINED of a committed Couch with its writes and its close done, no charge message and no line that is dirty or filling takes the slices off, loses the charged pages without a frame, sets the save list, opens the summary records of the generation, puts the ranks that hold none of its frames to sleep, and stops the programming where it is empty. READY_LIFT after READY.CORE with an unreadable format is only logged; with a readable one it sets the current epoch one above the highest on the media with the one before it closed, and serves every region read-only with WT forced for the Lift instead of for start-up. FOLD_PAGE writes the next page of the oldest generation to a home location through MOVING; a page in MOVING gets a retry response, and where the page holds nothing of that generation, a generation without live pages is released. The end of a rehearsal reports it and replaces m by the factor, at most 0.92. Confirmed presence records it: within 2 ms of the detection in ARMED it cancels the Couch, in SERVING, COMMITTED and LIFTING it does no more, in DOWN it ends a wait for input, and a power-down that stays down after an absence of 100 ms. (R56, R92, R227, R232, R241, R244, R247) -/
def Obligations.CouchDrainsAndLiftsAndRehearses : Prop :=
  ∀ (s : State),
    (s.couch.orch = .committed → s.couch.curdDrained = false → s.couch.stopped = false → writesOut s = false → s.epochs.running = none → s.ppu.charges = [] →
      s.curd.lines.any (·.st ≠ .clean) = false → s.curd.evicts.any (·.dirty) = false →
      let t := (s.onCurd fun c => { c with lines := [], evicts := [], draining := none, off := true }).each ((List.range 16).map Island.cu) unroute
      let t := t.each ((chargedEntries t).filter fun e => (frameOf t e.page).isNone) fun t e => losePage t e.page
      let todo := if t.couch.gen.isSome then saveList t else []
      let u := t.onCouch fun c => { c with curdDrained := true, todo := todo }
      let v := sleepRanks (u.couch.gen.elim u fun g => openSummaries u { g with openEpoch := u.epochs.closed, manifest := u.ppu.dirtyBlocks })
      exec .couchCurdDrained s = .next (if todo.isEmpty && !v.couch.stopped then stopCouch v 1 else v)) ∧
    (s.cmd.ready = .core → s.couch.orch = .lifting → formatReadable s = false → exec .readyLift s = .next (s.event 0 9 3 (detail := newestGeneration s))) ∧
    (s.cmd.ready = .core → s.couch.orch = .lifting → formatReadable s = true → ∃ u t, exec .readyLift s = .next t ∧ t = unforce (force u 1) 0 ∧
      t.epochs.current = highestEpoch s + 1 ∧ t.epochs.closed = highestEpoch s ∧ t.regions.readOnly = true ∧ t.cmd.ready = .lift ∧
      t.couch.orch = .serving ∧ t.couch.folding = true) ∧
    (∀ page loc x, foldingRuns s = true → page < directoryBase →
      let r := resolveBlock s page
      let e := entry r page
      let oldest := (r.ream.generations.head?.map (·.num)).getD 0
      (slotAt r e.loc = none → exec (.foldPage page loc) s = .next (releaseFolded s)) ∧
      (slotAt r e.loc = some x →
        (x.generation = 0 ∨ x.generation ≠ oldest → exec (.foldPage page loc) s = .next (releaseFolded s)) ∧
        (x.generation ≠ 0 → x.generation = oldest →
          (e.st = .moving → exec (.foldPage page loc) s = .next (r.emit (.retryResponse page))) ∧
          (homeTarget r loc = true → e.st = .couched ∨ e.st = .home ∨ e.st = .clean → (r.ream.generations.head?.map fun g => foldsNext r g e.loc) = some true →
            exec (.foldPage page loc) s = .next (startMove (writeSlot r { x with loc := loc, generation := 0 } 0) page .fold x.data loc))))) ∧
    (s.power.vao = true → s.couch.inputPresent = false → inputGood s = true →
      let t := ((s.onPower fun p => { p with absentSince := absenceKept s }).onCouch fun c => { c with inputPresent := true }).onSal fun x => { x with suspended := x.suspended.map fun _ => s.now }
      (s.couch.orch = .armed → exec .inputPresenceConfirmed s = .next (if s.now < s.couch.detected.getD s.now + 2000000 then cancelCouch t else t)) ∧
      (s.couch.orch = .serving ∨ s.couch.orch = .committed ∨ s.couch.orch = .lifting → exec .inputPresenceConfirmed s = .next t) ∧
      (s.couch.orch = .down → s.power.seq = .waitInput → exec .inputPresenceConfirmed s = .next (inputArrives t)) ∧
      (s.couch.orch = .down → s.power.seq = .stayDown → exec .inputPresenceConfirmed s = .next (if longAbsent s
        then inputArrives (t.onPower fun p => { p with lockout := false, restarts := [], seq := .waitInput }) else t))) ∧
    (∀ g us mb mw, s.couch.rehearsing = some g → s.curd.draining = none → exec (.rehearsalComplete us mb mw) s =
      let f := min 0xFFFFFFFF (mb * 1000000 * 10000 / max 1 (rateData s))
      let t := (rehearsed s (g * gib)).onDeckle fun d => { d with m := min 9200 f }
      .next (endRehearsal t .ok 0 (le 4 us ++ le 4 mb ++ le 4 mw ++ le 4 f ++ le 4 (planMs t f))))

/-- Full training that ends well starts a new session with fresh sequences, credits and buffers; a failure is noted, and the third in 60 s fences the link; a fast retrain that ends well brings the link up and replays what was not acknowledged, or only trained where it was not yet authenticated, and one that fails, or lasts too long, goes to full training with an event. Silence of 100 µs takes a trained or up link of a pair that is not detached to a fast retrain, with an event. On a link that is trained or up a flit with a bad CRC or a reserved field is answered with a NAK that names the last sequence received; one whose tag is wrong is too, and the second in a row takes the link down; a good one of another session is discarded; a good one of this session brings a trained link up, returns its credits and takes its ack, and in sequence it moves the sequence on and its messages are taken, but for a fault among them; a repeated one is dropped and one beyond the next is answered with a NAK. A flit not acknowledged in time is replayed with every later one. (R250, R251, R252, R261, R449) -/
def Obligations.FeltLinksTrainAndReplay : Prop :=
  ∀ (s : State) (t : Nat), let l := linkAt s t
    (l.st = .fullTrain → exec (.feltLinkTrained t true true) s = .next (setLink s t fun l =>
      { l with st := .trained, authentic := false, session := (l.session + 1) % 2 ^ 32, rxSeq := 0, txSeq := 0, retryBuf := [], replayed := [], tagFails := 0, flits := 0, fullFails := [], dataCredits := 1024, ctlCredits := 32 })) ∧
    (l.st = .fullTrain → exec (.feltLinkTrained t true false) s =
      let fails := (l.fullFails.filter fun x => s.now ≤ x + 60 * second) ++ [s.now]
      let u := setLink s t fun l => { l with fullFails := fails }
      .next (if 3 ≤ fails.length then fenceFelt u t else u)) ∧
    (l.st = .fastRetrain →
      (let u := setLink s t fun l => { l with st := if l.authentic then .up else .trained }
       exec (.feltLinkTrained t false true) s = .next (pump (if l.retryBuf.isEmpty then u else u.emit (.flitReplay t l.retryBuf)) t)) ∧
      exec (.feltLinkTrained t false false) s = .next (startFull (s.event 7 2 1 (unitWord 6 t)) t) ∧
      exec (.fastRetrainTimeout t) s = .next (startFull (s.event 7 2 1 (unitWord 6 t)) t)) ∧
    exec (.feltLinkSilence t) s = .next (linkFalls s t false) ∧
    (l.st = .up ∨ l.st = .trained → s.felt.pair ≠ .detached → linkAllowed s t = true →
      exec (.feltLinkSilence t) s = .next (setLink (s.event 7 1 1 (unitWord 6 t)) t fun l => { l with st := .fastRetrain })) ∧
    (l.st = .up → ∀ seq, l.retryBuf.contains seq = true → exec (.flitAckTimeout t seq) s = .next (replayFlits s t (l.retryBuf.dropWhile (· ≠ seq)))) ∧
    (l.st = .up ∨ l.st = .trained → ∀ bytes crc fault,
      let nak := Out.flitNak t ((l.rxSeq + 4095) % 4096)
      let good := crc32c (bytes.take 240) = crc ∧ field bytes 0 2 / 4096 < 2 ∧ field bytes 2 2 < 8192
      (∀ fec tag, fec = false ∨ ¬ good → exec (.feltFlitReceived t ⟨bytes, fault⟩ crc fec tag) s = .next ((setLink s t fun l => { l with tagFails := 0 }).emit nak)) ∧
      (good →
        (1 ≤ l.tagFails → exec (.feltFlitReceived t ⟨bytes, fault⟩ crc true false) s =
          .next (linkFalls (setLink (s.emit nak) t fun l => { l with tagFails := 0 }) t true)) ∧
        (l.tagFails = 0 → exec (.feltFlitReceived t ⟨bytes, fault⟩ crc true false) s =
          .next (setLink ((s.emit nak).event 16 1 2 (unitWord 6 t)) t fun l => { l with tagFails := l.tagFails + 1 })) ∧
        (let u := setLink s t fun l => { l with tagFails := 0 }
         (field bytes 4 4 / 65536 ≠ l.session % 65536 → exec (.feltFlitReceived t ⟨bytes, fault⟩ crc true true) s =
          .next (setLink u t fun l => { l with discarded := l.discarded + 1 })) ∧
         (field bytes 4 4 / 65536 = l.session % 65536 →
          let c := field bytes 4 4
          let v := if l.st = .trained then linkRises u t else u
          let v := setLink v t fun l => { l with dataCredits := min 1024 (l.dataCredits + c % 2048), ctlCredits := min 32 (l.ctlCredits + c / 2048 % 32) }
          let v := takeAck v t (field bytes 2 2 % 4096) (4096 ≤ field bytes 2 2)
          (field bytes 0 2 / 4096 = 1 → exec (.feltFlitReceived t ⟨bytes, fault⟩ crc true true) s = .next v) ∧
          (field bytes 0 2 / 4096 = 0 → field bytes 0 2 % 4096 = l.rxSeq → exec (.feltFlitReceived t ⟨bytes, fault⟩ crc true true) s =
            .next (takePayload (setLink v t fun l => { l with rxSeq := (l.rxSeq + 1) % 4096 }) t fault)) ∧
          (field bytes 0 2 / 4096 = 0 → field bytes 0 2 % 4096 ≠ l.rxSeq → exec (.feltFlitReceived t ⟨bytes, fault⟩ crc true true) s =
            .next (if (l.rxSeq + 4096 - field bytes 0 2 % 4096) % 4096 ≤ 2048 then v else flitBad v t))))))

/-- On an up link of an attached pair: a write of a SYNC region that this device follows is placed in its own domain, and one of an ASYNC region is staged and acknowledged; a message for a region that it does not follow is refused, counted and logged; a reserved region or tag, or a page outside the region, is discarded, counted and logged. A page declared ZERO becomes ZERO with the sender's epoch and is acknowledged; the fragments of a copy, also of a page that this device recovers, are gathered in order, and one out of order is discarded and counted; an end marker lets complete epochs be applied in order; a twin read is answered from the Curd or a valid frame, else NOT_RESIDENT. (R58, R119, R253, R255, R262, R264, R272, R480) -/
def Obligations.MirrorMessagesReachTheFollower : Prop :=
  ∀ (s : State) (h : FeltHdr) (d : LineData) (be : BitVec 64), s.felt.pair = .attached → (linkAt s h.link).st = .up →
    let en := if h.byteEnables then be else BitVec.allOnes 64
    (hdrReserved h = true → exec (.mirrorWrite h d be) s = .next (discardMsg s h.link) ∧ exec (.pageZero h) s = .next (discardMsg s h.link) ∧
      (∀ i, exec (.pageCopy h i d) s = .next (discardMsg s h.link)) ∧ exec (.twinRead h) s = .next (discardMsg s h.link)) ∧
    (hdrReserved h = false →
      (following s h.region.toNat = none → exec (.mirrorWrite h d be) s = .next (refuseMsg s h) ∧ exec (.pageZero h) s = .next (refuseMsg s h)) ∧
      (∀ r p, following s h.region.toNat = some r → hdrPage r h = some p →
        (flagMirror r.flags ≠ 2 → exec (.mirrorWrite h d be) s =
          .next (placeMirror s h.link h.tag p (h.lineIndex % 64) r.num d en h.poison (wideEpoch s h.epoch))) ∧
        (flagMirror r.flags = 2 → exec (.mirrorWrite h d be) s = .next (sendFelt (stageTwin s
          { epoch := wideEpoch s h.epoch, origin := h.link, region := r.num, line := h.lineIndex, data := d, be := en, poison := h.poison }) h.link (.mirrorAck [h.tag]))) ∧
        exec (.pageZero h) s = .next (sendOne ((progressLong (putEntry (zeroPage s p) { entry (zeroPage s p) p with epoch := h.epoch }) (· = .resync r.num) 1 0).onFelt fun f =>
          { f with copied := addNew f.copied r.num }) (.pageAck r.num (h.lineIndex / 64)))) ∧
      (∀ r, following s h.region.toNat = some r → hdrPage r h = none →
        exec (.mirrorWrite h d be) s = .next (discardMsg s h.link) ∧ exec (.pageZero h) s = .next (discardMsg s h.link)) ∧
      (let own := (following s h.region.toNat).isSome || ((regionOf s h.region.toNat).bind fun r => recoveringPage s r (h.lineIndex / 64)).isSome
       h.first = true → ∀ i,
        (own = true → exec (.pageCopy h i d) s = .next (takeFragment (dropBurst s h.link h.tag)
          { link := h.link, tag := h.tag, region := h.region.toNat, page := h.lineIndex / 64, epoch := h.epoch, data := [], count := 0 } i { data := d, poison := h.poison })) ∧
        (own = false → exec (.pageCopy h i d) s = .next (refuseMsg s h))) ∧
      (h.first = false →
        (∀ b i, burstOf s h.link h.tag = some b → exec (.pageCopy h i d) s =
          .next (if b.count = i then takeFragment s b i { data := d, poison := h.poison } else setLink s h.link fun l => { l with discarded := l.discarded + 1 })) ∧
        (∀ i, burstOf s h.link h.tag = none → exec (.pageCopy h i d) s = .next (setLink s h.link fun l => { l with discarded := l.discarded + 1 }))) ∧
      (let held := ((regionOf s h.region.toNat).bind fun r => hdrPage r h).bind fun p => heldLine s (p * 64 + h.lineIndex % 64)
       (∀ l, held = some l → exec (.twinRead h) s = .next (sendFelt s h.link (.twinReadData h.tag l))) ∧
       (held = none → exec (.twinRead h) s = .next (sendFelt s h.link (.notResident h.tag))))) ∧
    (∀ e o n, exec (.epochEnd e o n) s =
      .next (applyReady (s.onFelt fun f => { f with ends := (f.ends.filter fun x => !(x.1 = e && x.2.1 = o)) ++ [(e, o, n)] })))

/-- The tags of a MIRROR_ACK are taken in turn: an acknowledged mirror write leaves its queue, and its host write that was durable here is answered, or is staged where the energy state asks for it, and one that was not yet waits no more for the twin; then links join and a committed Couch gives the links up. EPOCH_APPLIED moves the mirrored epoch, never past the closed one, and ends the lag. Twin read data serve a read that fetches, the fetch going on, or recover a line of a frame; NOT_RESIDENT leaves the fetch, or poisons the line; the reserved tag is discarded, counted and logged, and so are PAGE_ACK and MIRROR_REFUSED of the reserved region. PAGE_ACK takes its page's message off its queue and ends its page's copy; an aborted burst is sent again under a new tag; a burst that stopped is discarded and aborted. The next page of a resynchronisation leaves as PAGE_ZERO or, while the resync share lets it, as PAGE_COPY. A list is sent on request, a part with a reserved value is discarded, one of an older list is ignored, and the list is asked for again where parts are missing, and reconciled when whole. MIRROR_REFUSED makes a region held here lag, its refused writes and those not sent yet done. (R43, R58, R119, R147, R255, R257, R261, R264, R271, R272, R480) -/
def Obligations.MirroringIsAcknowledgedReadAndCopied : Prop :=
  ∀ (s : State),
    (∀ link tags, exec (.mirrorAck link tags) s = .next (feltSettles (joinMapping (s.each (tags.filter (· ≠ 0xFFFF)) fun s g => ackTag s link g)))) ∧
    (∀ link tag region ep li d be p,
      ((linkAt s link).queue.find? fun m => match m with | .mirrorWrite _ _ _ g _ _ _ => g = tag | _ => false) = some (.mirrorWrite region ep li tag d be p) →
      let t := setLink s link fun l => { l with queue := l.queue.erase (.mirrorWrite region ep li tag d be p) }
      (ackedReq t (msgLine t region li) tag = none → ackTag s link tag = t) ∧
      (∀ q, ackedReq t (msgLine t region li) tag = some q →
        (q.localDone = false → ackTag s link tag = keepReq t { q with needAck := false }) ∧
        (q.localDone = true →
          ((mustStage t (q.line / 64) && !isStagedLine t q.line) = false ∨ heldLine t q.line = none → ackTag s link tag = answerWrite t { q with needAck := false }) ∧
          (∀ l, (mustStage t (q.line / 64) && !isStagedLine t q.line) = true → heldLine t q.line = some l →
            ackTag s link tag = stageLine t { q with needAck := false, credit := false } l)))) ∧
    (∀ e, s.felt.pair = .attached → exec (.epochApplied e) s =
      .next (finishCloses (detachIfDue ((s.onEpochs fun x => { x with mirrored := max x.mirrored (min e x.closed) }).onFelt fun f =>
        { f with lag := f.lag.filter (e < ·.1) })))) ∧
    (∀ d, exec (.twinReadData 0xFFFF d) s = .next (discardAny s) ∧ exec (.notResident 0xFFFF) s = .next (discardAny s)) ∧
    (∀ tag q d, tag ≠ 0xFFFF → twinWaiter s tag = some q →
      exec (.twinReadData tag d) s = .next (twinServed (answerRead s q d) q.region) ∧
      exec (.notResident tag) s = .next (keepReq s { q with mirrorTag := 0xFFFF })) ∧
    (∀ tag x d, tag ≠ 0xFFFF → twinWaiter s tag = none → s.vat.recoveries.find? (·.1 = tag) = some x →
      let t := s.onVat fun v => { v with recoveries := v.recoveries.erase x }
      exec (.twinReadData tag d) s = .next (recovered t x.2 d) ∧ exec (.notResident tag) s = .next (spoilAccess t x.2)) ∧
    (∀ page, exec (.pageAck 0xFFFF page) s = .next (discardAny s)) ∧
    (∀ region : U16, ∀ page, region ≠ 0xFFFF →
      let t := pageAcked s region.toNat page
      let u := t.onFelt fun f => { f with resyncOut := f.resyncOut.erase (region.toNat, page) }
      (t.felt.resyncOut.contains (region.toNat, page) = false → exec (.pageAck region page) s = .next (joinMapping t)) ∧
      (t.felt.resyncOut.contains (region.toNat, page) = true → exec (.pageAck region page) s = .next (joinMapping (checkResync
        (progressLong u (fun k => k = .resync region.toNat || k = .mirrorOn region.toNat) 1
          ((((regionOf u region.toNat).bind fun r => pageAt r.runs page).map (pagePoisoned u)).getD 0)) region.toNat)))) ∧
    (∀ link t tag region k ep d, ((link :: List.range 8).find? fun t => (burstSent s t tag).isSome) = some t →
      burstSent s t tag = some (.pageCopy region k ep tag d) →
      ∃ u, exec (.burstAbort link tag) s = .next (sendFelt u t (.pageCopy region k ep (takeTag s t).1 d)) ∧
        (t < s.felt.links.length → (linkAt u t).queue = (linkAt s t).queue.erase (.pageCopy region k ep tag d) ∧ (linkAt u t).aborts = sat32 ((linkAt s t).aborts + 1))) ∧
    (∀ link tag, (burstOf s link tag).isSome = true → exec (.burstTimeout link tag) s = .next (abortBurst s link tag)) ∧
    (∀ region : U16, ∀ page r, s.felt.pair = .attached → s.felt.resyncTodo.contains (region.toNat, page) = true → regionOf s region.toNat = some r →
      let p := (pageAt r.runs page).getD 0
      ((foundEntry s p).st ≠ .zero → copyHeld s = true → exec (.resyncPageSend region page) s = .next s) ∧
      ((foundEntry s p).st = .zero ∨ copyHeld s = false →
      let t := touchDirectory s p
      let u := (takeTag t (linkOfPage t p)).2.onFelt fun f =>
        { f with resyncTodo := f.resyncTodo.erase (region.toNat, page), resyncOut := f.resyncOut ++ [(region.toNat, page)] }
      exec (.resyncPageSend region page) s = .next (sendFelt u (linkOfPage t p)
        (if (entry u p).st = .zero then .pageZero region.toNat page (entry u p).epoch (takeTag t (linkOfPage t p)).1
         else .pageCopy region.toNat page (entry u p).epoch (takeTag t (linkOfPage t p)).1 (if (entry u p).st = .lost then poisonPage else pageContent u p))))) ∧
    (s.felt.pair = .attached → exec .listRequest s = .next (sendList s) ∧
      ∀ link part parts n entries,
        (partBad part parts entries = true → exec (.regionList link part parts n entries) s = .next (discardMsg s link)) ∧
        (partBad part parts entries = false → s.felt.partCount ≠ 0 → laterSerial s.felt.partNumber n = true → exec (.regionList link part parts n entries) s = .next s) ∧
        (partBad part parts entries = false → s.felt.partCount = 0 ∨ laterSerial s.felt.partNumber n = false →
        let held := insertBy (·.1) (part, entries) (if s.felt.partNumber = n && s.felt.partCount = parts then s.felt.parts else [])
        let t := s.onFelt fun f => { f with parts := held, partCount := parts, partNumber := n }
        exec (.regionList link part parts n entries) s = .next (if held.length < parts then t
          else reconcileAll (t.onFelt fun f => { f with parts := [], peerList := held.flatMap (·.2) })))) ∧
    (s.felt.parts ≠ [] → exec .regionListTimeout s = .next (sendOne (s.onFelt fun f => { f with parts := [] }) (.listRequest s.felt.listNumber.toNat))) ∧
    (∀ tags, exec (.mirrorRefused 0xFFFF tags) s = .next (discardAny s)) ∧
    (∀ region : U16, ∀ tags r, region ≠ 0xFFFF → regionOf s region.toNat = some r → isMirrored r = true → holdsToken r = true →
      let t := s.each (s.felt.links.flatMap fun l => refusedOn l r.num tags) endRefused
      let u := t.onFelt fun f => { f with links := f.links.map (fun l => withoutRefused l r.num tags), resyncTodo := f.resyncTodo.filter (·.1 ≠ r.num), resyncOut := f.resyncOut.filter (·.1 ≠ r.num) }
      let v := setRegion u r.num fun r =>
        { opEnded r .resync with mirror := .lagging, ec := if r.mirror = .inSync then commonEpoch u r else r.ec, metaDirty := true }
      exec (.mirrorRefused region tags) s = .next (sendOne (sendList v) (.listRequest v.felt.listNumber.toNat)))

/-- HELLO with a record that is not sound is discarded, counted and logged; a sound one of another device on its own link forms the pair, or clears the link of a pair that stands; a wrong revision, the own serial number or a wrong link number is logged, and a wrong link is held. STATUS brings the twin's pressure, energy and closed epoch, and every 1 ms this device sends its own on every link. The twin's CLOSE marks the close that runs or starts the current epoch's, and one of another epoch is ignored. A region operation is checked, its space reserved, and answered; an accepted one changes at the next close, a refused one not. An offered token moves and is accepted; an acceptance ends the hand-over. Linking that times out ends CONFLICT where a HELLO was at fault, and TWIN_DOWN where no link is up, and waits else. Silence of every link, a commit notice and DETACH part the pair. (R36, R256, R258, R259, R260, R265, R266, R268, R273, R274, R315) -/
def Obligations.ThePairFormsExchangesAndParts : Prop :=
  ∀ (s : State),
    (∀ link b, s.felt.pair ≠ .detached → (linkAt s link).st = .up → helloRecord b = false → exec (.hello link b) s = .next (discardMsg s link)) ∧
    (∀ link b, s.felt.pair ≠ .detached → (linkAt s link).st = .up → helloRecord b = true →
      (helloFault link b = none → s.felt.pair = .attached → exec (.hello link b) s = .next (joinMapping (s.onFelt fun f => { f with hellos := f.hellos.filter (·.1 ≠ link) }))) ∧
      (helloFault link b = none → s.felt.pair ≠ .attached → exec (.hello link b) s = .next (formPair s link b)) ∧
      (∀ d, helloFault link b = some d →
        let t := (s.onFelt fun f => { f with hellos := f.hellos.filter (·.1 ≠ link) ++ [(link, d)] }).event 7 3 2 (unitWord 6 link) (detail := d)
        let u := if d = 3 then holdLink t link else t
        exec (.hello link b) s = .next (if t.felt.pair = .linking && helloLost t then attachFails u .conflict d else u))) ∧
    (s.felt.pair = .linking →
      (s.felt.hellos = [] → exec .linkingTimeout s = .next (if s.felt.links.any (·.st = .up) then s else attachFails s .twinDown 0)) ∧
      (∀ l d, s.felt.hellos.getLast? = some (l, d) → exec .linkingTimeout s = .next (attachFails s .conflict d))) ∧
    (s.felt.pair = .attached →
      (∀ link p e c m at_, (linkAt s link).st = .up →
        exec (.status link p e c m at_) s = .next (slewTime (measureOffset (s.onFelt fun f => { f with twinPressure := p, twinEnergy := e, twinClosed := c })))) ∧
      exec .statusSendTick s = .next (sendAll s (.status (pressure s / 10) s.sal.state s.epochs.closed s.epochs.mirrored s.now)) ∧
      (∀ c e, s.epochs.running = some c → exec (.close e) s = .next (if c.epoch = e then s.onEpochs fun x => { x with running := some { c with peerDone := true } } else s)) ∧
      (∀ e, s.epochs.running = none → exec (.close e) s = .next (if s.epochs.current = e then startClose s [] false true else s)) ∧
      (∀ (n : U16) op, (∀ a, op ≠ .answer a) →
        let (a, runs) := followerCheck s n.toNat op
        exec (.regionOp n op) s = .next (sendOne (if a = .accepted then (reserveRuns s runs).onFelt fun f =>
          { f with reservedOps := f.reservedOps.filter (·.1 ≠ n.toNat) ++ [(n.toNat, op, runs)] } else s) (.regionOp n.toNat (.answer a)))) ∧
      (∀ (n : U16) x, (s.felt.opReqs.find? fun x => x.1 = n.toNat && s.felt.ops.any (·.1 = n.toNat)) = some x →
        let t := s.onFelt fun f => { f with opReqs := f.opReqs.erase x, ops := f.ops.filter (·.1 ≠ n.toNat) }
        exec (.regionOp n (.answer .accepted)) s = .next (finishCloses (requestClose t [x.2])) ∧
        exec (.regionOp n (.answer .conflict)) s = .next (finishCloses (refuseChange t x.2 .conflict 15)) ∧
        exec (.regionOp n (.answer .noSpace)) s = .next (finishCloses (refuseChange t x.2 .noSpace 2))) ∧
      (∀ (n : U16) g r, regionOf s n.toNat = some r → isMirrored r = true →
        exec (.tokenOp n .offer g) s = .next (sendOne (takeToken s n.toNat (if holdsToken r then s.felt.twinSerial.toNat else ownSerial) g)
          (.tokenOp n.toNat .accept g)) ∧
        exec (.tokenOp n .force g) s = .next (if r.generation.toNat < g.toNat then takeToken s n.toNat s.felt.twinSerial.toNat g else s) ∧
        (∀ x, (s.felt.opReqs.find? fun x => match x.2.change with | .handover m _ => m = n.toNat | _ => false) = some x →
          let t := s.onFelt fun f => { f with opReqs := f.opReqs.erase x }
          exec (.tokenOp n .accept g) s = .next (finishCloses (answerJoined
            (if x.2.change = .handover n.toNat false then takeToken t n.toNat ownSerial g else t) x.2.req .ok 0 [])))) ∧
      exec .feltTimeout s = .next (if (twinLoss s).couch.orch = .committed then linksOff (twinLoss s) else twinLoss s) ∧
      exec .detach s = .next (holdLinks (partPair s .detached)) ∧
      (∀ at_ e, (s.couch.orch = .lifting ∨ s.couch.orch = .down → exec (.commitNotice at_ e) s = .next s) ∧ (s.couch.orch = .committed → exec (.commitNotice at_ e) s = .next (rindWrite s 0x0B 0 s.felt.twinSerial.toNat)) ∧
        (s.couch.orch = .serving ∨ s.couch.orch = .armed → exec (.commitNotice at_ e) s = .next ((twinLoss s).each
          (if takeoverOnCommit s then (s.regions.list.filter fun r => flagMirror r.flags = 1 && r.mirror = .inSync && !holdsToken r).map (·.num) else [])
          fun s n => requestClose s [{ change := .takeover n, req := none }]))))

/-- A pass of a core in service, whose turn it is where a request of the slot waits, is counted, and so are its blocks for its key slot; a core that disagrees, or fails its self-test, is fenced, unless fewer than four would stay: then it is marked failing with a FATAL event. A live slot of the generation before is enciphered again under the current one and moved, a COUCHED page then being HOME; a page without a slot leaves the sweep to be judged ended, and so does one that the step cannot take. A RETIRED slot without a live slot or a request becomes FREE. (R357, R360, R362, R365, R366, R367, R368) -/
def Obligations.CoresAreFencedAndKeySlotsSweepAndFree : Prop :=
  ∀ (s : State),
    (∀ slot c blocks, (s.units.cores.getD c .reset).st = .inService → s.cipher.requests.any (·.slot = slot) = false ∨ cipherTurn s c = some slot →
      let t := (takeCipher s c slot).onCipher fun x => { x with passes := x.passes + 1 }
      let u := match slot with | some n => countUsage t n blocks | none => t
      exec (.cipherPassComplete slot c blocks none) s = .next u ∧
      ∀ d, exec (.cipherPassComplete slot c blocks (some d)) s = .next (withInjection u (.core d) 1 fun u => fenceCore u d)) ∧
    (∀ n k blocks, keySlotAt s n = some k → k.usage + blocks < 4 * usageLimit s → k.usage / (usageLimit s / 64) = (k.usage + blocks) / (usageLimit s / 64) →
      countUsage s n blocks = setKeySlot s n fun k' => { k' with usage := k.usage + blocks, inflight := k'.inflight - 1 }) ∧
    (∀ c, exec (.cipherSelfTestTick c true) s = .next s) ∧
    (∀ c, (s.units.cores.getD c .reset).st = .inService →
      (4 < coresInService s → exec (.cipherSelfTestTick c false) s = .next ((setUnit s (.core c) fun u => { u with st := .fenced }).event 8 1 2 (unitWord 7 c))) ∧
      (coresInService s ≤ 4 → exec (.cipherSelfTestTick c false) s =
        .next ((s.onUnits fun u => { u with coreFailing := addNew u.coreFailing c }).event 0 5 3 (unitWord 7 c)))) ∧
    (∀ (region : U16) page loc k x, slotOfRegion s region.toNat = some k → slotAt s (entry s page).loc = some x → k.sweep = true → x.keySlot = k.slot →
      x.cipher = true → x.keyGen + 1 = k.generation → (entry s page).region = region.toNat → (entry s page).st ≠ .moving → homeTarget s loc = true →
      cleaningRuns s = true → s.cmd.safe = false →
      let e := entry s page
      exec (.rekeySweepStep region page loc) s = .next (endSweep (cipherRequest (putEntry (writeSlot s { x with loc := loc, keyGen := k.generation, generation := 0 } e.loc)
        { e with loc := loc, keyGen := BitVec.ofNat 2 k.generation, st := if e.st = .couched then .home else e.st }) region.toNat 5) k.slot)) ∧
    (∀ (region : U16) page loc k, slotOfRegion s region.toNat = some k →
      (slotAt s (entry s page).loc = none → exec (.rekeySweepStep region page loc) s = .next (endSweep s k.slot)) ∧
      (∀ x, slotAt s (entry s page).loc = some x → k.sweep = false ∨ x.keySlot ≠ k.slot ∨ x.cipher = false ∨ x.keyGen + 1 ≠ k.generation ∨ (entry s page).st = .moving ∨
        homeTarget s loc = false → exec (.rekeySweepStep region page loc) s = .next (endSweep s k.slot))) ∧
    (∀ n k, keySlotAt s n = some k → k.retired = true → liveAny s n = false → k.inflight = 0 →
      exec (.keySlotFreed n) s = .next (s.onCipher fun c => { c with slots := c.slots.filter (·.slot ≠ n) }))

/-- A sample of a converted sensor on its continuous path is converted and its bands are judged; a fault, or 2 ms of silence, makes it polled, and a sample at a retry ends that, a retry without one not. A polled conversion is judged as a sample; one that fails makes the sensor failed. A hub reading and a rank's MR4 indication judge their DRAM channel. In THROTTLE, outside a commit, with Tj not fallen by 1.0 degC since the last step, the timer takes the next step, and with Tj fallen so far it takes none; after THROTTLE the unwinding undoes one. After a thermal shutdown the power-up goes on once Tj is at most 90.0 degC. (R369, R371, R377, R378, R379, R380) -/
def Obligations.SensorsAreSampledAndTheClocksStep : Prop :=
  ∀ (s : State),
    (∀ n, convertible s n = true →
      ((sensorAt s n).polled = false →
        (∀ temp, exec (.sensorSample n temp false) s = .next (judgeSensor (convert s n temp) n)) ∧
        (∀ temp, exec (.sensorSample n temp true) s = .next (setSensor s n fun c => { c with polled := true }))) ∧
      exec (.sensorContinuousTimeout n) s = .next (setSensor s n fun c => { c with polled := true }) ∧
      exec (.sensorContinuousRetry n false) s = .next s ∧
      exec (.sensorContinuousRetry n true) s = .next (setSensor s n fun c => { c with polled := false }) ∧
      ((sensorAt s n).polled = true →
        (∀ temp, exec (.sensorPollTick n (some temp)) s = .next (judgeSensor (convert s n temp) n)) ∧
        exec (.sensorPollTick n none) s = .next (judgeSensor (failSensor s n) n))) ∧
    (∀ c slot temp, s.power.vao = true → hubSensor (64 + 2 * c + slot) = true → sensorPresent s (64 + 2 * c + slot) = true →
      exec (.spdHubReadTick c slot temp) s = .next (judgeChannel (convert s (64 + 2 * c + slot) temp) c)) ∧
    (∀ c rank temp, (dramAt s c).dimms.isSome = true → rank < channelRanks (dramAt s c) →
      exec (.mr4ReadTick c rank temp) s = .next (judgeChannel (setDram s c fun d => { d with mr4 := insertBy (·.1) (rank, temp) d.mr4 }) c)) ∧
    (s.cave.tj = .throttle → s.couch.orch ≠ .committed → s.cave.step < 3 →
      (∀ t, tjOf s = some t → s.cave.stepTj < t + 10 → exec .throttleStepTimer s = .next (takeStep s)) ∧
      (tjOf s = none → exec .throttleStepTimer s = .next (takeStep s)) ∧
      (∀ t, tjOf s = some t → t + 10 ≤ s.cave.stepTj → exec .throttleStepTimer s = .next s)) ∧
    (s.cave.unwinding = true → s.cave.tj ≠ .throttle → s.cave.step ≠ 0 → exec .throttleUnwindTimer s = .next (undoStep s)) ∧
    (∀ t, s.power.seq = .waitCool → s.couch.inputPresent = true → tjOf s = some t → t ≤ 900 →
      exec .thermalRestartHold s = .next (toGrant (s.onCave fun c => { c with tj := .normal, tjHist := [], rise := none })))

/-- When VAO comes up the sequencer waits for input with the learned record read from its copies, and an event says if no key can ever be stored. The grant, or its time-out with a record and an event, starts the first position; a time-out during a thermal hold is kept for its end. A rail's delay, or the one of a lone rail that comes back, enables it where it is not yet; its power-good, or the time-out of a rail without that input, makes it good, and the next position follows when all of this one are. After the settle delay the chain goes on and the boot starts, a button held then counting from there. CA_DN_IN is passed up while all rails stand. VAO losing its level leaves an unsealed generation and only what needs no VAO, and what the Ledger was changing indeterminate. An edge of the selected direction locks the timebase to its phase; the PPS output follows its setting. A button pressed in DOWN starts a power-up; released after 3 s at the boot it asks for maintenance; held 3 s in service it asks for service; stuck for 60 s it is ignored. (R260, R389, R390, R394, R397, R398, R399, R411, R418, R430, R466) -/
def Obligations.ThePowerUpRunsRailByRail : Prop :=
  ∀ (s : State),
    (s.power.vao = false →
      let u := s.onPower fun p => { p with vao := true, seq := .waitInput, pg := idlePg s, glitches := 0, now := (s.ledger.rind.getLast?.map fun r => r.time + 1000000).getD 0 }
      let t := u.onSal fun x => { x with learned := readLearned u, fR := ((readLearned u).map (·.fR)).getD 0x10000 }
      exec .vaoPowerOn s = .next (if s.cipher.banks.all fun b => b = .consumed then t.event 0 4 3 else t)) ∧
    (s.power.vao = true →
      let t := if s.couch.orch = .committed && !s.couch.sealed then leaveGeneration s false else s
      exec .vaoBrownOut s = .next (svLost (islandsReset (ledgerStop (tearRecords (tearRind (t.onCouch fun c =>
        { c with absentDirty := c.absentDirty || (c.orch ≠ .committed && t.sal.state = .absent && dirtyBytes t ≠ 0) }))))))) ∧
    (s.power.seq ≠ .waitGrant → exec .calenderGrant s = .next (s.onPower fun p => { p with upIn := true })) ∧
    (s.power.seq = .waitCool → exec .chainBypassTimeout s = .next (s.onPower fun p => { p with bypassDue := true })) ∧
    (s.power.seq = .waitGrant → exec .calenderGrant s = .next (toPosition (s.onPower fun p => { p with upIn := true }) 0) ∧
      exec .chainBypassTimeout s = .next (toPosition ((rindWrite s 12 0 0).event 12 2 1) 0)) ∧
    (∀ p e, s.power.seq = .rails p → railUsed s e = true → railPosition s e = p → (railAt s e).enabled = false →
      exec (.railDelayExpiry e) s = .next (setRail s e fun r => { r with enabled := true, good := false, failed := false })) ∧
    (∀ e, s.power.seq = .running → s.power.pendingHold = some e →
      ((railAt s e).enabled = false → exec (.railDelayExpiry e) s = .next (setRail s e fun r => { r with enabled := true, good := false, failed := false })) ∧
      ((railAt s e).enabled = true → (railAt s e).good = false → exec (.railPowerGood e) s =
        .next ((clearFall (railInputs (setRail s e fun r => { r with good := true }) e true) e).onPower fun p => { p with pendingHold := none }))) ∧
    (∀ p e, s.power.seq = .rails p → (railAt s e).enabled = true → (railAt s e).good = false →
      let t := clearFall (railInputs (setRail s e fun r => { r with good := true }) e true) e
      let u := if (List.range 16).all fun e => !(railUsed t e && railPosition t e = p) || (railAt t e).good then toPosition t (p + 1) else t
      exec (.railPowerGood e) s = .next u ∧ (railPg s e = 0xFF → exec (.railPgTimeout e) s = .next u)) ∧
    (s.power.seq = .settle → ∀ held, exec (.caDnOutDelay held) s = .next (bootStart (s.onPower fun p =>
      { p with dnOut := true, button := if held && p.button.isNone then some p.now else p.button }) false)) ∧
    (∀ b, exec (.caDnInChange b) s = .next (s.onPower fun p => { p with dnIn := b, upOut := b && railsStand s })) ∧
    (s.power.vao = true → ∀ rising at_, ppsInputMode s = (if rising then 1 else 2) →
      exec (.ppsInputEdge rising at_) s = .next (s.onPower fun p => { p with ppsLocked := true, ppsPhase := ppsPhase s at_ }) ∧
      exec (.ppsInputEdge (!rising) at_) s = .next s) ∧
    exec .ppsOutputSecond s = .next (s.onPower fun p => { p with ppsOut := p.vao && ppsOutputOn s }) ∧
    (s.power.vao = true → s.power.button = none → exec .serviceButtonPress s = .next (wakeDown (s.onPower fun p => { p with button := some p.now, held3 := false }))) ∧
    (∀ at_, s.power.button = some at_ →
      let t := s.onPower fun p => { p with button := none, held3 := false, stuck := false }
      (s.power.waitButton = true → exec .serviceButtonRelease s = .next (bootChoose t (s.power.held3 || decide (at_ + 3 * second ≤ s.now)))) ∧
      (s.power.waitButton = false → exec .serviceButtonRelease s = .next t) ∧
      (s.power.stuck = false →
        let u := s.onPower fun p => { p with held3 := true }
        let v := (s.onPower fun p => { p with stuck := true }).event 14 4 1
        exec .buttonHold3s s = .next (if aboveCore u then u.event 14 3 0 else u) ∧
        exec .buttonStuckTimeout s = .next (if s.power.waitButton then bootChoose v false else v)))

/-- A rail with a power-good input that times out in the power-up leaves its record and starts the power-down with cause fault; one that comes up later is taken down. A dip of a judged input of a rail that is ON, shorter than its filter, is counted as a glitch; a rail that is ON and fails is recorded: one of a DRAM channel or of a flash carrier is dropped and its channels fail, one of the core commits a Couch that then goes DOWN, or starts the power-down where there is nothing to commit. An input of the monitor that no rail uses is recorded. The progress watch of a commit leaves the generation unsealed and starts the power-down. In the power-down order each step drops the next rail. After the off-time a lock-out or an orderly power-down stays down unless input has meanwhile returned after 100 ms or more, else the power-up starts again. (R388, R391, R392, R393, R394, R395, R396) -/
def Obligations.RailsFallAndTheDeviceStaysDownWhereItMust : Prop :=
  ∀ (s : State) (e : Nat),
    ((railAt s e).enabled = true → (railAt s e).good = false → railPg s e ≠ 0xFF →
      let t := railRecord s e
      (∀ p, s.power.seq = .rails p → exec (.railPgTimeout e) s = .next (startPowerDown (t.onCouch fun c => { c with firstRail := t.power.firstRail }) .fault)) ∧
      ((∀ p, s.power.seq ≠ .rails p) → exec (.railPgTimeout e) s = .next ((dropRail t e).onPower fun p => { p with pendingHold := none }))) ∧
    (∀ sense, (∀ l, s.power.seq ≠ .powerDown l) → (railAt s e).good = true → (railAt s e).failed = false → railJudged s e sense = true →
      exec (.railFault ⟨e, sense, true⟩) s = .next (s.onPower fun p => { p with glitches := sat32 (p.glitches + 1) }) ∧
      (let t := setRail s e fun r => { r with failed := true }
       let t := railRecord (stampFall (if sense then railSenseInput t e false else railPgInput t e false) e) e
       (railDomain t e = 1 → exec (.railFault ⟨e, sense, false⟩) s = .next (failChannel (dropRail t e) (railIndex t e) 4)) ∧
       (railDomain t e = 2 → exec (.railFault ⟨e, sense, false⟩) s = .next ((dropRail t e).each ((List.range 48).filter fun c => carrierOf t c = railIndex t e)
         fun u c => failFlash u c 3 true)) ∧
       (railDomain t e ≠ 1 → railDomain t e ≠ 2 →
         (t.couch.orch = .serving ∨ t.couch.orch = .armed → exec (.railFault ⟨e, sense, false⟩) s =
           .next ((couchCommit t true .fault true false 255).onPower fun p => { p with watching := true })) ∧
         (t.couch.orch = .lifting ∨ t.couch.orch = .down → exec (.railFault ⟨e, sense, false⟩) s =
           .next (startPowerDown (t.onCouch fun c => { c with firstRail := t.power.firstRail }) .fault)) ∧
         (t.couch.orch = .committed → exec (.railFault ⟨e, sense, false⟩) s =
           .next ((t.onCouch fun c => { c with toDown := true, cause := .fault }).onPower fun p => { p with watching := true }))))) ∧
    (s.power.vao = true → e < 24 → (List.range 16).any (fun r => railPg s r = e) = false → exec (.monitorInputFall e) s =
      .next ((rindWrite (stampFall (clearFall (s.onPower fun p => { p with pg := p.pg &&& ~~~ ((1 : BitVec 24) <<< e) }) (0x10 + e)) (0x10 + e)) 13 0 e).event 12 3 1 (detail := e))) ∧
    (s.couch.orch = .committed → s.power.watching = true → exec .progressWatchTimeout s = .next (startPowerDown (leaveGeneration
      (rindWrite s 15 ((s.couch.gen.map (·.num)).getD 0) ((s.couch.gen.map (·.pages.length)).getD 0)) false) .fault)) ∧
    (∀ rails, s.power.seq = .powerDown rails → exec .powerDownRailStep s = .next (fallStep s rails)) ∧
    (s.power.seq = .offTime →
      let back := s.couch.inputPresent && s.power.absentSince.isSome
      ((s.power.lockout = true ∨ s.couch.cause = .orderly) → back = false → exec .offTimeExpiry s = .next (s.onPower fun p => { p with seq := .stayDown })) ∧
      ((s.power.lockout = false ∧ s.couch.cause ≠ .orderly) ∨ back = true →
        let t := s.onPower fun p => { p with seq := .waitInput, lockout := false, restarts := if staysDown s then [] else p.restarts }
        exec .offTimeExpiry s = .next (if s.couch.inputPresent then inputArrives t else t)))

/-- In a boot a wave fences each unit in service that failed, in order. A loaded image that is valid and matches its record runs, and one that was the second choice runs in loader recovery's terms; another loading follows one that is missing, not valid or not the recorded one. With every DRAM channel trained and one ONLINE, READY.CORE blows the fuses, reserves the directory area and marks the boot, and the ready state is READY.CORE, or maintenance; with none ONLINE a FATAL event is logged once. The boot watchdog starts the boot again, on trial or at its first two expiries with the same image, at its third with the other one, and at its fourth the loading fails. A management engine that does not feed its watchdog is fenced; the service watchdog logs an event and resets WARM. (R241, R418, R420, R421, R425, R427, R434) -/
def Obligations.BootsRunToReadyCoreOrStartAgain : Prop :=
  ∀ (s : State),
    (s.power.seq = .booting → s.power.waitButton = false →
      (∀ n rs changed, exec (.bistWaveComplete n ⟨rs, changed⟩) s =
        (let t := if changed && s.ledger.loadTries = 0 then s.onLedger fun l => { l with loadTries := 1 } else s
         .next (t.each (rs.filter (!·.pass)) fun s x => if (unitAt s x.unit).st = .inService then fenceAtBoot s x.unit else s))) ∧
      (∀ genuine, s.ledger.loadTries ≠ 0 →
        (slotImage (slotOf s s.ledger.chosen) genuine = none → exec (.imageLoadComplete genuine) s = .next (loadFails s)) ∧
        (∀ i, slotImage (slotOf s s.ledger.chosen) genuine = some i →
          (imageValid s i = true → s.ledger.loadTries = 2 ∨ ((loadRecord s).map fun r => decide (r.digest = i.digest)).getD true = true →
            let t := setSlot s s.ledger.chosen fun f => { f with image := some i }
            exec (.imageLoadComplete genuine) s = .next ((if s.ledger.loadTries = 2 then recovery t s.ledger.chosen else t).onLedger fun l =>
              { l with running := s.ledger.chosen, loadTries := 0 })) ∧
          (imageValid s i = false ∨ (s.ledger.loadTries ≠ 2 ∧ ((loadRecord s).map fun r => decide (r.digest = i.digest)).getD true = false) →
            exec (.imageLoadComplete genuine) s = .next (loadFails s)))) ∧
      (s.cmd.ready = .below → s.ledger.loadTries = 0 → s.vat.ch.any (·.st = .training) = false →
        ((s.vat.ch.filter (·.st = .online)).isEmpty = true → s.log.noDram = false → exec .readyCore s =
          .next ((s.onLog fun l => { l with noDram := true }).event 0 6 3)) ∧
        ((s.vat.ch.filter (·.st = .online)).isEmpty = false →
          let t := (s.onPower fun p => { p with seq := .running, done := true }).onLedger fun l => { l with expiries := 0 }
          let u := rindComplete (blowFuses (reserveArea t)) 1
          exec .readyCore s = .next (u.onCmd fun c => { c with ready := if u.power.maintenance then .maintenance else .core }))) ∧
      (let t := islandsReset (s.onCmd fun c => { c with resetRun := max c.resetRun 4 })
       (t.ledger.trial = true → exec .bootWatchdogExpiry s = .next (bootStart t (s.ledger.loadTries = 0))) ∧
       (t.ledger.trial = false → t.ledger.expiries < 2 →
        exec .bootWatchdogExpiry s = .next ((bootStart t (s.ledger.loadTries = 0)).onLedger fun l => { l with expiries := l.expiries + 1 })) ∧
       (t.ledger.trial = false → 2 < t.ledger.expiries → exec .bootWatchdogExpiry s = .next (loadFails (t.onLedger fun l => { l with loadTries := 2 }))) ∧
       (t.ledger.trial = false → t.ledger.expiries = 2 → exec .bootWatchdogExpiry s =
         .next (t.onLedger fun l => { l with expiries := 3, chosen := !l.chosen, loadTries := 2 })))) ∧
    (∀ e, (engineAt s e).role = .management → exec (.mgmtEngineFeedTimeout e) s = .next (fenceEngine (s.onUnits fun u => { u with fed := addNew u.fed e }) e)) ∧
    (s.cmd.ready ≠ .below → exec .serviceWatchdogExpiry s = .next (warmReset (s.event 2 2 2 (detail := 2 ^ 64 * (0xFF + 256 * roleCode .management)))))

/-- A program or erase that finds the machine free, with none waiting, starts it with clear status, and any other waits in the queue; a wrong erase key or address leaves it reading; identify and the unlock cycles follow the machine's table, a wrong cycle leaving it reading. A completed program ANDs its word into the array and a completed erase makes its sector, and what it stood for, read as erased, each in the sector that stands for it; a failed verify sets the error bit and replaces the sector. While an operation runs, a status read gives the word and toggles bit 6. A reset stops it with indeterminate data. An erase past its limit makes the sector grown bad. A faster read timing needs 10 ms of a VAO level 50 mV inside its band; a lower level slows it at once; a level between restarts the 10 ms. (R412, R413, R414, R415, R416, R417) -/
def Obligations.LedgerCommandsProgramEraseAndReport : Prop :=
  ∀ (s : State),
    (ledgerBusy s = false → s.ledger.queue = [] → ∀ (a : BitVec 25) (d : U16),
      exec (.ledgerWordProgram a d) s = .next (s.onLedger fun l => { l with st := .busyProgram a.toNat d, toggle := false, error := false, byReset := false }) ∧
      (d = 0x00A5 → a.toNat % 32768 = 0 → exec (.ledgerSectorErase a d) s =
        .next (s.onLedger fun l => { l with st := .busyErase (a.toNat / 32768), toggle := false, error := false, byReset := false })) ∧
      (d ≠ 0x00A5 ∨ a.toNat % 32768 ≠ 0 → exec (.ledgerSectorErase a d) s = .next (s.onLedger fun l => { l with st := .read })) ∧
      exec .ledgerIdentify s = .next ((s.onLedger fun l => { l with st := .identify }).emit .identityRead)) ∧
    (ledgerBusy s = true ∨ s.ledger.queue ≠ [] → ∀ (a : BitVec 25) (d : U16),
      exec (.ledgerWordProgram a d) s = .next (s.onLedger fun l => { l with queue := l.queue ++ [.program a.toNat d] }) ∧
      exec (.ledgerSectorErase a d) s = .next (s.onLedger fun l => { l with queue := l.queue ++ [.erase a.toNat d] }) ∧
      exec .ledgerIdentify s = .next (s.onLedger fun l => { l with queue := l.queue ++ [.identify] })) ∧
    (s.ledger.st = .read → exec (.ledgerOtherWrite 0x1E1E 0x00C3) s = .next (s.onLedger fun l => { l with st := .unlock1 })) ∧
    (s.ledger.st = .unlock1 → exec (.ledgerOtherWrite 0x0E1E 0x003C) s = .next (s.onLedger fun l => { l with st := .unlock2 })) ∧
    (s.ledger.st = .unlock2 →
      exec (.ledgerOtherWrite 0x1E1E 0x004B) s = .next (s.onLedger fun l => { l with st := .program }) ∧
      exec (.ledgerOtherWrite 0x1E1E 0x005A) s = .next (s.onLedger fun l => { l with st := .erase })) ∧
    (∀ (a : BitVec 25) (d : U16), (s.ledger.st = .read ∧ ¬ (a = 0x1E1E ∧ d = 0x00C3)) ∨ (s.ledger.st = .unlock1 ∧ ¬ (a = 0x0E1E ∧ d = 0x003C)) ∨
        (s.ledger.st = .unlock2 ∧ a ≠ 0x1E1E) → exec (.ledgerOtherWrite a d) s = .next (s.onLedger fun l => { l with st := .read })) ∧
    (∀ a d, s.ledger.st = .busyProgram a d → fwErase s = none →
      let w := sectorOf s (a / 32768) * 32768 + a % 32768
      exec (.ledgerOpComplete true) s = .next ((putWord s w (ledgerWord s w &&& d)).onLedger fun l => { l with st := .read }) ∧
      exec .ledgerReset s = .next (((putWord s w (Config.indeterminate s.fresh)).draw).onLedger fun l => { l with st := .read, byReset := true }) ∧
      exec .ledgerStatusRead s = .next ((s.emit (.ledgerWord (ledgerStatus s))).onLedger fun l => { l with toggle := !l.toggle })) ∧
    (∀ n, s.ledger.st = .busyErase n → fwErase s = none →
      exec (.ledgerOpComplete true) s = .next (setLedger (eraseHeld (eraseArray s (sectorOf s n)) n) .read) ∧
      exec (.ledgerOpComplete false) s =
        (let t := (growBadSector s (sectorOf s n)).onLedger fun l => { l with error := true }
         .next (fwErased (setLedger (eraseHeld (eraseArray t (sectorOf t n)) n) .read) (some n))) ∧
      exec .ledgerEraseLimit s =
        (let t := growBadSector s (sectorOf s n)
         let t := spoilWords (eraseHeld (eraseArray t (sectorOf t n)) n) ((List.range 32768).map (sectorOf s n * 32768 + ·))
         .next (fwErased (t.onLedger fun l => { l with st := .read, byReset := true }) (some n)))) ∧
    (∀ mv, let t := s.onPower fun p => { p with vaoMv := mv }
      (s.ledger.band < 2 → bandEdge (s.ledger.band + 1) + 50 ≤ mv → exec (.vaoSampleTick mv) s =
        .next (if s.ledger.bandSince + 10000000 ≤ s.now then t.onLedger fun l => { l with band := s.ledger.band + 1, bandSince := s.now } else t)) ∧
      (0 < s.ledger.band → s.ledger.band ≤ 2 → mv < bandEdge s.ledger.band + 50 → exec (.vaoSampleTick mv) s =
        .next (t.onLedger fun l => { l with band := if s.ledger.band = 2 && bandEdge 1 + 50 ≤ mv then 1 else 0, bandSince := s.now })) ∧
      (s.ledger.band ≤ 2 → s.ledger.band = 0 ∨ bandEdge s.ledger.band + 50 ≤ mv → s.ledger.band = 2 ∨ mv < bandEdge (s.ledger.band + 1) + 50 →
        exec (.vaoSampleTick mv) s = .next (t.onLedger fun l => { l with bandSince := s.now })))

/-- An arrived event leaves its port and is written at once where it is never coalesced; one of an open window counts in it, the first of its count giving the summary its address and first time; one with a token is written and opens a window; one without opens a counting window. One that stands at no port is a detection of its island, whose effect there happens first (log entry 142). A window that closes with nothing counted goes, else its summary is written if its class has a token. A refill adds a token, up to the rate limit, and writes the oldest closed window. A tick writes the drop summaries that are due. An injection ends 10 s after its start; a test ends with its result, and MEDIA_ERROR with the unit index where it failed, and the forcing of write-through with the last test of a slice or DRAM channel, which its drain precedes; a snapshot scan reports the runs of changed pages and clears the record. (R314, R442, R443, R450, R451) -/
def Obligations.EventsAreCoalescedAndReported : Prop :=
  ∀ (s : State),
    (∀ o p, s.log.ports.find? (·.occ = o) = some p →
      let t := s.onLog fun l => { l with ports := l.ports.eraseP (·.occ = o) }
      (neverCoalesced o = true → exec (.eventArrival o) s = .next (writeRecord t o p.time p.time 1 false)) ∧
      (neverCoalesced o = false →
        (s.log.windows.any (sameKey ·.occ o) = true → exec (.eventArrival o) s = .next (t.onLog fun l =>
          { l with windows := l.windows.map fun w => if sameKey w.occ o then joinWindow w o p.time else w })) ∧
        (s.log.windows.any (sameKey ·.occ o) = false →
          (s.log.tokens.getD o.cls 0 = 0 → s.log.windows.length < 512 → exec (.eventArrival o) s =
            .next (t.onLog fun l => { l with windows := l.windows ++ [{ occ := o, first := p.time, last := p.time, count := 1, closed := false }] })) ∧
          (s.log.tokens.getD o.cls 0 ≠ 0 → exec (.eventArrival o) s = .next ((writeRecord t o p.time p.time 1 false).onLog fun l =>
            { l with tokens := l.tokens.modify o.cls (· - 1),
                     windows := if l.windows.length < 512 then l.windows ++ [{ occ := o, first := p.time, last := p.time, count := 0, closed := false }] else l.windows }))))) ∧
    (∀ o, s.log.ports.any (·.occ = o) = false → exec (.eventArrival o) s = .next (eventArrives (detected s o) o)) ∧
    (∀ k w, s.log.windows[k]? = some w → w.closed = false →
      (w.count = 0 → exec (.coalesceWindowClose k) s = .next (s.onLog fun l => { l with windows := s.log.windows.eraseIdx k })) ∧
      (w.count ≠ 0 → exec (.coalesceWindowClose k) s = .next (writeSummary (s.onLog fun l =>
        { l with windows := s.log.windows.eraseIdx k ++ [{ w with closed := true }] }) { w with closed := true }))) ∧
    (∀ c, (s.log.windows.find? fun w => w.closed && w.occ.cls = c) = none → exec (.tokenRefill c) s =
      .next (s.onLog fun l => { l with tokens := l.tokens.modify c fun t => min (rateLimit s) (t + 1) })) ∧
    exec .dropSummaryTick s = .next (s.each (List.range 17) dropSummary) ∧
    (∀ u, exec (.injectionTimeout u) s = .next (settleForce (s.onCmd fun c => { c with injections := c.injections.filter (·.unit ≠ u) }))) ∧
    (∀ u ok, (unitAt s u).st = .testing →
      let t := setUnit s u fun y => { y with st := (match u with | .dram _ | .flash _ => .inService | _ => .fenced), result := if ok then 1 else 2 }
      let t := endLongOf t (· = .test u) (if ok then .ok else .mediaError) (if ok then 0 else unitIndex u) []
      (forcesTest u = false → exec (.unitTestComplete u ok) s = .next t) ∧
      (forcesTest u = true → s.curd.draining = none → exec (.unitTestComplete u ok) s =
        .next (if longRuns t (fun k => match k with | .test u => forcesTest u | _ => false) then t else unforce t 2))) ∧
    (∀ (n : U16) g eb ee, regionOf s n.toNat = some g →
      (s.cmd.longOps.findSome? fun o => match o.kind with | .snapshot r eb ee => if r = n.toNat && ee ≠ 0 then some (eb, ee) else none | _ => none) = some (eb, ee) →
      exec (.snapshotScanComplete n) s = .next (endLongOf (setRegion s n.toNat fun g => { g with snapshot := 0 }) (fun k => k = .snapshot n.toNat eb ee)
        (if 2 ^ 31 ≤ ee - eb then .partial_ else .ok) 0 ((pageRuns (snapshotPages s g eb ee)).flatMap fun (f, k) => le 8 f ++ le 4 k ++ le 4 0)))

/-- For every opcode of groups 0x00 to 0x0C and every state in which the earlier steps of the packet check let it pass: in a column of the ready-state table that is not marked for the opcode, or for CONFIG_UNSEAL in service unless sealed, the command completes with the one reply NOT_READY, and its segments on the channel, whose detail is the ready-state code of GET_READY_STATE, and nothing but the Command Processor and the output changes. In a marked column the ready state does not stop it. PARAM_WRITE while sealed of a table that is not writable in service is refused with SEALED and the table ID as detail; the tables 3 to 12, 14 and 15 are not refused so: a lone element is handed to the check of the image. (R300) -/
def Obligations.OpcodesAreRefusedOutsideTheirReadyStates : Prop :=
  (∀ (i : Instr) (o : Opcode) (s : State), opcodeOf i = some o → Admitted s o = true →
    ((∃ g, stageOf s = some g ∧ (g ∉ acceptedIn o.col ∨ (o.col = .sealedOnly ∧ s.cmd.sealSt ≠ .sealed))) →
      ∃ t, exec i s = .next t ∧ SameBut [.out, .cmd] s t ∧
        t.out = s.out ++ replyOut o.req.ch { opcode := o.op, tag := o.req.tag, more := false, urgent := o.req.urgent, status := .notReady, detail := readyCode s, params := [] }) ∧
    (∀ g, stageOf s = some g → g ∈ acceptedIn o.col → (o.col = .sealedOnly → s.cmd.sealSt = .sealed) →
      s.cmd.ready ≠ .recovery → Reaches s o.req o.op o.who o.col = true)) ∧
  (∀ (r : Req) (more : Bool) (table : U8) (bytes : List Byte) (s : State),
    Reaches s r 0x0101 .owner .fromLift = true → tableReserved table = none → (issuer s r).chain = none → s.cmd.sealSt = .sealed →
    (table.toNat ∉ [3, 4, 5, 6, 7, 8, 9, 10, 11, 12, 14, 15] →
      exec (.paramWrite r more table bytes) s = .next (refuse (takeArrived s r 0x0101) r 0x0101 .sealed table.toNat)) ∧
    (table.toNat ∈ [3, 4, 5, 6, 7, 8, 9, 10, 11, 12, 14, 15] → more = false → bytes.length ≤ 1048576 →
      exec (.paramWrite r more table bytes) s = .next (writeTable (takeArrived s r 0x0101) r (issuer s r) table.toNat bytes)))

/-- For every DRAM channel: CHANNEL_OFFLINE of the last ONLINE channel is refused with CONFLICT; else, of a channel that is TRAINING or VACATING, or while any channel changes frequency, with BUSY; else, of a channel that is ONLINE, with NO_SPACE where the pinned pages exceed the pin limit percentage, or the charged pages the dirty frame ceiling percentage, of the frames that remain without the channel. An OFFLINE or FAILED channel is answered with OK and no action, and so is CHANNEL_ONLINE of a channel that is ONLINE or TRAINING. The details of the three codes are those of the cause table. (R155) -/
def Obligations.ChannelOfflineIsRefusedAsTheVatSays : Prop :=
  ∀ (r : Req) (c : Nat) (s : State), c < 16 →
    let u := BitVec.ofNat 16 (0x3000 + c)
    let d := dramAt s c
    let a := takeArrived s r 0x0B04
    let last := d.st = .online ∧ (s.vat.ch.filter (·.st = .online)).length = 1
    let busy := d.st = .training ∨ d.st = .vacating ∨ ∃ x ∈ s.vat.ch, x.changing = true
    let left := frameCount s - channelFrames d
    (Reaches s r 0x0B04 .owner .service = true →
      (d.st = .offline ∨ d.st = .failed → exec (.channelOffline r u) s = .next (ok a r 0x0B04 [])) ∧
      (last → exec (.channelOffline r u) s = .next (refuse a r 0x0B04 .conflict 2)) ∧
      (d.st ∈ [.online, .training, .vacating] → ¬ last → busy → exec (.channelOffline r u) s = .next (refuse a r 0x0B04 .busy 3)) ∧
      (d.st = .online → ¬ last → ¬ busy →
        left * pinLimitPercent s / 100 < pinnedPages s ∨ left * dirtyCeilingPercent s / 100 < (s.ppu.dir.filter (·.charged)).length →
        exec (.channelOffline r u) s = .next (refuse a r 0x0B04 .noSpace 9))) ∧
    (Reaches s r 0x0B05 .owner .service = true → d.st = .online ∨ d.st = .training →
      exec (.channelOnline r u) s = .next (ok (takeArrived s r 0x0B05) r 0x0B05 []))

/-- At reset the mirrored epoch is not above the closed one, the closed one is below the current one, no close runs, and the Ledger's array lists its programmed bytes at strictly rising addresses and no erased byte: no byte at all. (R56, R57, R414) -/
def Obligations.ResetIsSound : Prop :=
  Sound State.reset ∧ State.reset.ledger.array = [] ∧ State.reset.epochs.current = 1

/-- From every state, reached or not, in which the mirrored epoch is not above the closed one, the closed one is below the current one, a running close is of an epoch before the current one, and the Ledger's array lists strictly rising addresses and no erased byte, every step of every command, and the idle tick, that answers a next state leads to such a state again. (R33, R34, R56, R57, R58, R414) -/
def Obligations.EveryStepKeepsTheEpochsAndTheArray : Prop :=
  ∀ (s t : State), Sound s → step s = .next t → Sound t
end

