-- ==== Sys2Proof/Laws/Memory.lean ====
section
/-! SUPPORT. The Ledger's array (R412 to R414): its canonical form under every operation on it, and a byte read after a byte stored. -/

namespace Sys2Proof.Machine

theorem mem_putCell {a : Nat} {b : Byte} {l : List Host.Cell} {c : Host.Cell} (h : c ∈ putCell a b l) :
    c ∈ l ∨ (c = (a, b) ∧ b ≠ 0xFF) := by
  induction l with
  | nil => unfold putCell at h; split at h <;> simp_all
  | cons d l ih =>
    unfold putCell at h
    split at h
    · split at h <;> simp_all; tauto
    · split at h
      · split at h <;> simp_all; tauto
      · rcases List.mem_cons.mp h with h | h
        · simp [h]
        · rcases ih h with h | h
          · simp [h]
          · exact .inr h

/-- R414: storing a byte keeps the canonical form. -/
theorem putCell_wf {a : Nat} {b : Byte} {l : List Host.Cell} (h : Memory.wf l) : Memory.wf (putCell a b l) := by
  refine ⟨?_, fun c hc => ?_⟩
  · obtain ⟨h, -⟩ := h
    induction l with
    | nil => unfold putCell; split <;> simp
    | cons d l ih =>
      have hd : ∀ c ∈ l, d.1 < c.1 := fun c hc => List.rel_of_pairwise_cons h hc
      unfold putCell
      split
      · split
        · exact h
        · refine List.pairwise_cons.mpr ⟨fun c hc => ?_, h⟩
          rcases List.mem_cons.mp hc with e | hc
          · subst e; assumption
          · exact Nat.lt_trans (by assumption) (hd c hc)
      · split
        · split
          · exact h.of_cons
          · exact List.pairwise_cons.mpr ⟨fun c hc => by have := hd c hc; simp_all, h.of_cons⟩
        · refine List.pairwise_cons.mpr ⟨fun c hc => ?_, ih h.of_cons⟩
          rcases mem_putCell hc with hc | ⟨e, -⟩
          · exact hd c hc
          · subst e; dsimp only; omega
  · rcases mem_putCell hc with hc | ⟨e, hb⟩
    · exact h.2 c hc
    · subst e; exact hb

/-- R412: a byte reads as it was last stored, and every other byte as before. -/
theorem readCell_putCell {a x : Nat} {b : Byte} {l : List Host.Cell} (h : Memory.wf l) :
    readCell (putCell a b l) x = if x = a then b else readCell l x := by
  obtain ⟨h, -⟩ := h
  have none_below : ∀ {l : List Host.Cell}, (∀ c ∈ l, a < c.1) → readCell l a = 0xFF := fun {l} hl => by
    have : l.find? (·.1 = a) = none := List.find?_eq_none.mpr fun c hc e => ?_
    · simp [readCell, this]
    · have := hl c hc
      simp at e; omega
  induction l with
  | nil => unfold putCell readCell; split <;> split <;> simp_all [List.find?, eq_comm]
  | cons d l ih =>
    have hd := fun c (hc : c ∈ l) => List.rel_of_pairwise_cons h hc
    have ih := ih h.of_cons
    unfold putCell
    by_cases e : x = a
    · subst e
      split
      · have := none_below (l := d :: l) fun c hc => by
          rcases List.mem_cons.mp hc with e | hc
          · subst e; assumption
          · have := hd c hc; omega
        split
        · simp_all only [if_true]
        · simp [readCell]
      · split
        · have := none_below (l := l) fun c hc => by have := hd c hc; omega
          split
          · simp_all only [if_true]
          · simp [readCell]
        · have : d.1 ≠ x := fun e => by omega
          simp only [readCell, List.find?_cons, this, decide_false] at ih ⊢
          exact ih
    · simp only [e, if_false] at ih ⊢
      split
      · split <;> simp [readCell, List.find?_cons, Ne.symm e]
      · split
        · have : d.1 ≠ x := fun e' => by omega
          split <;> simp [readCell, Ne.symm e, this]
        · simp only [readCell, List.find?_cons] at ih ⊢
          split <;> simp_all

theorem putWord_wf {s : State} {w : Nat} {v : U16} (h : Memory.wf s.ledger.array) : Memory.wf (putWord s w v).ledger.array :=
  putCell_wf (putCell_wf h)

theorem eraseArray_wf {s : State} {n : Nat} (h : Memory.wf s.ledger.array) : Memory.wf (eraseArray s n).ledger.array :=
  ⟨h.1.filter _, fun c hc => h.2 c (List.mem_filter.mp hc).1⟩

theorem foldl_putCell_wf {m l : List Host.Cell} (h : Memory.wf l) : Memory.wf (m.foldl (fun a c => putCell c.1 c.2 a) l) := by
  induction m generalizing l with
  | nil => exact h
  | cons c m ih => exact ih (putCell_wf h)

theorem spoilWords_wf {s : State} {ws : List Nat} (h : Memory.wf s.ledger.array) : Memory.wf (spoilWords s ws).ledger.array := by
  unfold spoilWords State.each
  induction ws generalizing s with
  | nil => exact h
  | cons w ws ih => exact ih (s := (putWord s w (Config.indeterminate s.fresh)).draw) (putWord_wf h)

/-- R415: the array after reset lists nothing. -/
theorem reset_wf : Memory.wf State.reset.ledger.array := by decide

end Sys2Proof.Machine
end

