-- ==== Sys2Proof/Laws/State.lean ====
section
/-! SUPPORT. One lemma per part of State per named update: what the update reads as, and that it leaves every other part alone. -/

namespace Sys2Proof.Machine

@[simp] theorem onWire_pending (s : State) (f : Wire → Wire) : (s.onWire f).pending = s.pending := rfl
@[simp] theorem onWire_out (s : State) (f : Wire → Wire) : (s.onWire f).out = s.out := rfl
@[simp] theorem onWire_fresh (s : State) (f : Wire → Wire) : (s.onWire f).fresh = s.fresh := rfl
@[simp] theorem onWire_wire (s : State) (f : Wire → Wire) : (s.onWire f).wire = f s.wire := rfl
@[simp] theorem onWire_cmd (s : State) (f : Wire → Wire) : (s.onWire f).cmd = s.cmd := rfl
@[simp] theorem onWire_cxl (s : State) (f : Wire → Wire) : (s.onWire f).cxl = s.cxl := rfl
@[simp] theorem onWire_epochs (s : State) (f : Wire → Wire) : (s.onWire f).epochs = s.epochs := rfl
@[simp] theorem onWire_regions (s : State) (f : Wire → Wire) : (s.onWire f).regions = s.regions := rfl
@[simp] theorem onWire_ppu (s : State) (f : Wire → Wire) : (s.onWire f).ppu = s.ppu := rfl
@[simp] theorem onWire_curd (s : State) (f : Wire → Wire) : (s.onWire f).curd = s.curd := rfl
@[simp] theorem onWire_deckle (s : State) (f : Wire → Wire) : (s.onWire f).deckle = s.deckle := rfl
@[simp] theorem onWire_vat (s : State) (f : Wire → Wire) : (s.onWire f).vat = s.vat := rfl
@[simp] theorem onWire_ream (s : State) (f : Wire → Wire) : (s.onWire f).ream = s.ream := rfl
@[simp] theorem onWire_couch (s : State) (f : Wire → Wire) : (s.onWire f).couch = s.couch := rfl
@[simp] theorem onWire_felt (s : State) (f : Wire → Wire) : (s.onWire f).felt = s.felt := rfl
@[simp] theorem onWire_sal (s : State) (f : Wire → Wire) : (s.onWire f).sal = s.sal := rfl
@[simp] theorem onWire_cipher (s : State) (f : Wire → Wire) : (s.onWire f).cipher = s.cipher := rfl
@[simp] theorem onWire_cave (s : State) (f : Wire → Wire) : (s.onWire f).cave = s.cave := rfl
@[simp] theorem onWire_power (s : State) (f : Wire → Wire) : (s.onWire f).power = s.power := rfl
@[simp] theorem onWire_ledger (s : State) (f : Wire → Wire) : (s.onWire f).ledger = s.ledger := rfl
@[simp] theorem onWire_log (s : State) (f : Wire → Wire) : (s.onWire f).log = s.log := rfl
@[simp] theorem onWire_units (s : State) (f : Wire → Wire) : (s.onWire f).units = s.units := rfl
@[simp] theorem onCmd_pending (s : State) (f : Cmd → Cmd) : (s.onCmd f).pending = s.pending := rfl
@[simp] theorem onCmd_out (s : State) (f : Cmd → Cmd) : (s.onCmd f).out = s.out := rfl
@[simp] theorem onCmd_fresh (s : State) (f : Cmd → Cmd) : (s.onCmd f).fresh = s.fresh := rfl
@[simp] theorem onCmd_wire (s : State) (f : Cmd → Cmd) : (s.onCmd f).wire = s.wire := rfl
@[simp] theorem onCmd_cmd (s : State) (f : Cmd → Cmd) : (s.onCmd f).cmd = f s.cmd := rfl
@[simp] theorem onCmd_cxl (s : State) (f : Cmd → Cmd) : (s.onCmd f).cxl = s.cxl := rfl
@[simp] theorem onCmd_epochs (s : State) (f : Cmd → Cmd) : (s.onCmd f).epochs = s.epochs := rfl
@[simp] theorem onCmd_regions (s : State) (f : Cmd → Cmd) : (s.onCmd f).regions = s.regions := rfl
@[simp] theorem onCmd_ppu (s : State) (f : Cmd → Cmd) : (s.onCmd f).ppu = s.ppu := rfl
@[simp] theorem onCmd_curd (s : State) (f : Cmd → Cmd) : (s.onCmd f).curd = s.curd := rfl
@[simp] theorem onCmd_deckle (s : State) (f : Cmd → Cmd) : (s.onCmd f).deckle = s.deckle := rfl
@[simp] theorem onCmd_vat (s : State) (f : Cmd → Cmd) : (s.onCmd f).vat = s.vat := rfl
@[simp] theorem onCmd_ream (s : State) (f : Cmd → Cmd) : (s.onCmd f).ream = s.ream := rfl
@[simp] theorem onCmd_couch (s : State) (f : Cmd → Cmd) : (s.onCmd f).couch = s.couch := rfl
@[simp] theorem onCmd_felt (s : State) (f : Cmd → Cmd) : (s.onCmd f).felt = s.felt := rfl
@[simp] theorem onCmd_sal (s : State) (f : Cmd → Cmd) : (s.onCmd f).sal = s.sal := rfl
@[simp] theorem onCmd_cipher (s : State) (f : Cmd → Cmd) : (s.onCmd f).cipher = s.cipher := rfl
@[simp] theorem onCmd_cave (s : State) (f : Cmd → Cmd) : (s.onCmd f).cave = s.cave := rfl
@[simp] theorem onCmd_power (s : State) (f : Cmd → Cmd) : (s.onCmd f).power = s.power := rfl
@[simp] theorem onCmd_ledger (s : State) (f : Cmd → Cmd) : (s.onCmd f).ledger = s.ledger := rfl
@[simp] theorem onCmd_log (s : State) (f : Cmd → Cmd) : (s.onCmd f).log = s.log := rfl
@[simp] theorem onCmd_units (s : State) (f : Cmd → Cmd) : (s.onCmd f).units = s.units := rfl
@[simp] theorem onCxl_pending (s : State) (f : Cxl → Cxl) : (s.onCxl f).pending = s.pending := rfl
@[simp] theorem onCxl_out (s : State) (f : Cxl → Cxl) : (s.onCxl f).out = s.out := rfl
@[simp] theorem onCxl_fresh (s : State) (f : Cxl → Cxl) : (s.onCxl f).fresh = s.fresh := rfl
@[simp] theorem onCxl_wire (s : State) (f : Cxl → Cxl) : (s.onCxl f).wire = s.wire := rfl
@[simp] theorem onCxl_cmd (s : State) (f : Cxl → Cxl) : (s.onCxl f).cmd = s.cmd := rfl
@[simp] theorem onCxl_cxl (s : State) (f : Cxl → Cxl) : (s.onCxl f).cxl = f s.cxl := rfl
@[simp] theorem onCxl_epochs (s : State) (f : Cxl → Cxl) : (s.onCxl f).epochs = s.epochs := rfl
@[simp] theorem onCxl_regions (s : State) (f : Cxl → Cxl) : (s.onCxl f).regions = s.regions := rfl
@[simp] theorem onCxl_ppu (s : State) (f : Cxl → Cxl) : (s.onCxl f).ppu = s.ppu := rfl
@[simp] theorem onCxl_curd (s : State) (f : Cxl → Cxl) : (s.onCxl f).curd = s.curd := rfl
@[simp] theorem onCxl_deckle (s : State) (f : Cxl → Cxl) : (s.onCxl f).deckle = s.deckle := rfl
@[simp] theorem onCxl_vat (s : State) (f : Cxl → Cxl) : (s.onCxl f).vat = s.vat := rfl
@[simp] theorem onCxl_ream (s : State) (f : Cxl → Cxl) : (s.onCxl f).ream = s.ream := rfl
@[simp] theorem onCxl_couch (s : State) (f : Cxl → Cxl) : (s.onCxl f).couch = s.couch := rfl
@[simp] theorem onCxl_felt (s : State) (f : Cxl → Cxl) : (s.onCxl f).felt = s.felt := rfl
@[simp] theorem onCxl_sal (s : State) (f : Cxl → Cxl) : (s.onCxl f).sal = s.sal := rfl
@[simp] theorem onCxl_cipher (s : State) (f : Cxl → Cxl) : (s.onCxl f).cipher = s.cipher := rfl
@[simp] theorem onCxl_cave (s : State) (f : Cxl → Cxl) : (s.onCxl f).cave = s.cave := rfl
@[simp] theorem onCxl_power (s : State) (f : Cxl → Cxl) : (s.onCxl f).power = s.power := rfl
@[simp] theorem onCxl_ledger (s : State) (f : Cxl → Cxl) : (s.onCxl f).ledger = s.ledger := rfl
@[simp] theorem onCxl_log (s : State) (f : Cxl → Cxl) : (s.onCxl f).log = s.log := rfl
@[simp] theorem onCxl_units (s : State) (f : Cxl → Cxl) : (s.onCxl f).units = s.units := rfl
@[simp] theorem onEpochs_pending (s : State) (f : Epochs → Epochs) : (s.onEpochs f).pending = s.pending := rfl
@[simp] theorem onEpochs_out (s : State) (f : Epochs → Epochs) : (s.onEpochs f).out = s.out := rfl
@[simp] theorem onEpochs_fresh (s : State) (f : Epochs → Epochs) : (s.onEpochs f).fresh = s.fresh := rfl
@[simp] theorem onEpochs_wire (s : State) (f : Epochs → Epochs) : (s.onEpochs f).wire = s.wire := rfl
@[simp] theorem onEpochs_cmd (s : State) (f : Epochs → Epochs) : (s.onEpochs f).cmd = s.cmd := rfl
@[simp] theorem onEpochs_cxl (s : State) (f : Epochs → Epochs) : (s.onEpochs f).cxl = s.cxl := rfl
@[simp] theorem onEpochs_epochs (s : State) (f : Epochs → Epochs) : (s.onEpochs f).epochs = f s.epochs := rfl
@[simp] theorem onEpochs_regions (s : State) (f : Epochs → Epochs) : (s.onEpochs f).regions = s.regions := rfl
@[simp] theorem onEpochs_ppu (s : State) (f : Epochs → Epochs) : (s.onEpochs f).ppu = s.ppu := rfl
@[simp] theorem onEpochs_curd (s : State) (f : Epochs → Epochs) : (s.onEpochs f).curd = s.curd := rfl
@[simp] theorem onEpochs_deckle (s : State) (f : Epochs → Epochs) : (s.onEpochs f).deckle = s.deckle := rfl
@[simp] theorem onEpochs_vat (s : State) (f : Epochs → Epochs) : (s.onEpochs f).vat = s.vat := rfl
@[simp] theorem onEpochs_ream (s : State) (f : Epochs → Epochs) : (s.onEpochs f).ream = s.ream := rfl
@[simp] theorem onEpochs_couch (s : State) (f : Epochs → Epochs) : (s.onEpochs f).couch = s.couch := rfl
@[simp] theorem onEpochs_felt (s : State) (f : Epochs → Epochs) : (s.onEpochs f).felt = s.felt := rfl
@[simp] theorem onEpochs_sal (s : State) (f : Epochs → Epochs) : (s.onEpochs f).sal = s.sal := rfl
@[simp] theorem onEpochs_cipher (s : State) (f : Epochs → Epochs) : (s.onEpochs f).cipher = s.cipher := rfl
@[simp] theorem onEpochs_cave (s : State) (f : Epochs → Epochs) : (s.onEpochs f).cave = s.cave := rfl
@[simp] theorem onEpochs_power (s : State) (f : Epochs → Epochs) : (s.onEpochs f).power = s.power := rfl
@[simp] theorem onEpochs_ledger (s : State) (f : Epochs → Epochs) : (s.onEpochs f).ledger = s.ledger := rfl
@[simp] theorem onEpochs_log (s : State) (f : Epochs → Epochs) : (s.onEpochs f).log = s.log := rfl
@[simp] theorem onEpochs_units (s : State) (f : Epochs → Epochs) : (s.onEpochs f).units = s.units := rfl
@[simp] theorem onRegions_pending (s : State) (f : Regions → Regions) : (s.onRegions f).pending = s.pending := rfl
@[simp] theorem onRegions_out (s : State) (f : Regions → Regions) : (s.onRegions f).out = s.out := rfl
@[simp] theorem onRegions_fresh (s : State) (f : Regions → Regions) : (s.onRegions f).fresh = s.fresh := rfl
@[simp] theorem onRegions_wire (s : State) (f : Regions → Regions) : (s.onRegions f).wire = s.wire := rfl
@[simp] theorem onRegions_cmd (s : State) (f : Regions → Regions) : (s.onRegions f).cmd = s.cmd := rfl
@[simp] theorem onRegions_cxl (s : State) (f : Regions → Regions) : (s.onRegions f).cxl = s.cxl := rfl
@[simp] theorem onRegions_epochs (s : State) (f : Regions → Regions) : (s.onRegions f).epochs = s.epochs := rfl
@[simp] theorem onRegions_regions (s : State) (f : Regions → Regions) : (s.onRegions f).regions = f s.regions := rfl
@[simp] theorem onRegions_ppu (s : State) (f : Regions → Regions) : (s.onRegions f).ppu = s.ppu := rfl
@[simp] theorem onRegions_curd (s : State) (f : Regions → Regions) : (s.onRegions f).curd = s.curd := rfl
@[simp] theorem onRegions_deckle (s : State) (f : Regions → Regions) : (s.onRegions f).deckle = s.deckle := rfl
@[simp] theorem onRegions_vat (s : State) (f : Regions → Regions) : (s.onRegions f).vat = s.vat := rfl
@[simp] theorem onRegions_ream (s : State) (f : Regions → Regions) : (s.onRegions f).ream = s.ream := rfl
@[simp] theorem onRegions_couch (s : State) (f : Regions → Regions) : (s.onRegions f).couch = s.couch := rfl
@[simp] theorem onRegions_felt (s : State) (f : Regions → Regions) : (s.onRegions f).felt = s.felt := rfl
@[simp] theorem onRegions_sal (s : State) (f : Regions → Regions) : (s.onRegions f).sal = s.sal := rfl
@[simp] theorem onRegions_cipher (s : State) (f : Regions → Regions) : (s.onRegions f).cipher = s.cipher := rfl
@[simp] theorem onRegions_cave (s : State) (f : Regions → Regions) : (s.onRegions f).cave = s.cave := rfl
@[simp] theorem onRegions_power (s : State) (f : Regions → Regions) : (s.onRegions f).power = s.power := rfl
@[simp] theorem onRegions_ledger (s : State) (f : Regions → Regions) : (s.onRegions f).ledger = s.ledger := rfl
@[simp] theorem onRegions_log (s : State) (f : Regions → Regions) : (s.onRegions f).log = s.log := rfl
@[simp] theorem onRegions_units (s : State) (f : Regions → Regions) : (s.onRegions f).units = s.units := rfl
@[simp] theorem onPpu_pending (s : State) (f : Ppu → Ppu) : (s.onPpu f).pending = s.pending := rfl
@[simp] theorem onPpu_out (s : State) (f : Ppu → Ppu) : (s.onPpu f).out = s.out := rfl
@[simp] theorem onPpu_fresh (s : State) (f : Ppu → Ppu) : (s.onPpu f).fresh = s.fresh := rfl
@[simp] theorem onPpu_wire (s : State) (f : Ppu → Ppu) : (s.onPpu f).wire = s.wire := rfl
@[simp] theorem onPpu_cmd (s : State) (f : Ppu → Ppu) : (s.onPpu f).cmd = s.cmd := rfl
@[simp] theorem onPpu_cxl (s : State) (f : Ppu → Ppu) : (s.onPpu f).cxl = s.cxl := rfl
@[simp] theorem onPpu_epochs (s : State) (f : Ppu → Ppu) : (s.onPpu f).epochs = s.epochs := rfl
@[simp] theorem onPpu_regions (s : State) (f : Ppu → Ppu) : (s.onPpu f).regions = s.regions := rfl
@[simp] theorem onPpu_ppu (s : State) (f : Ppu → Ppu) : (s.onPpu f).ppu = f s.ppu := rfl
@[simp] theorem onPpu_curd (s : State) (f : Ppu → Ppu) : (s.onPpu f).curd = s.curd := rfl
@[simp] theorem onPpu_deckle (s : State) (f : Ppu → Ppu) : (s.onPpu f).deckle = s.deckle := rfl
@[simp] theorem onPpu_vat (s : State) (f : Ppu → Ppu) : (s.onPpu f).vat = s.vat := rfl
@[simp] theorem onPpu_ream (s : State) (f : Ppu → Ppu) : (s.onPpu f).ream = s.ream := rfl
@[simp] theorem onPpu_couch (s : State) (f : Ppu → Ppu) : (s.onPpu f).couch = s.couch := rfl
@[simp] theorem onPpu_felt (s : State) (f : Ppu → Ppu) : (s.onPpu f).felt = s.felt := rfl
@[simp] theorem onPpu_sal (s : State) (f : Ppu → Ppu) : (s.onPpu f).sal = s.sal := rfl
@[simp] theorem onPpu_cipher (s : State) (f : Ppu → Ppu) : (s.onPpu f).cipher = s.cipher := rfl
@[simp] theorem onPpu_cave (s : State) (f : Ppu → Ppu) : (s.onPpu f).cave = s.cave := rfl
@[simp] theorem onPpu_power (s : State) (f : Ppu → Ppu) : (s.onPpu f).power = s.power := rfl
@[simp] theorem onPpu_ledger (s : State) (f : Ppu → Ppu) : (s.onPpu f).ledger = s.ledger := rfl
@[simp] theorem onPpu_log (s : State) (f : Ppu → Ppu) : (s.onPpu f).log = s.log := rfl
@[simp] theorem onPpu_units (s : State) (f : Ppu → Ppu) : (s.onPpu f).units = s.units := rfl
@[simp] theorem onCurd_pending (s : State) (f : Curd → Curd) : (s.onCurd f).pending = s.pending := rfl
@[simp] theorem onCurd_out (s : State) (f : Curd → Curd) : (s.onCurd f).out = s.out := rfl
@[simp] theorem onCurd_fresh (s : State) (f : Curd → Curd) : (s.onCurd f).fresh = s.fresh := rfl
@[simp] theorem onCurd_wire (s : State) (f : Curd → Curd) : (s.onCurd f).wire = s.wire := rfl
@[simp] theorem onCurd_cmd (s : State) (f : Curd → Curd) : (s.onCurd f).cmd = s.cmd := rfl
@[simp] theorem onCurd_cxl (s : State) (f : Curd → Curd) : (s.onCurd f).cxl = s.cxl := rfl
@[simp] theorem onCurd_epochs (s : State) (f : Curd → Curd) : (s.onCurd f).epochs = s.epochs := rfl
@[simp] theorem onCurd_regions (s : State) (f : Curd → Curd) : (s.onCurd f).regions = s.regions := rfl
@[simp] theorem onCurd_ppu (s : State) (f : Curd → Curd) : (s.onCurd f).ppu = s.ppu := rfl
@[simp] theorem onCurd_curd (s : State) (f : Curd → Curd) : (s.onCurd f).curd = f s.curd := rfl
@[simp] theorem onCurd_deckle (s : State) (f : Curd → Curd) : (s.onCurd f).deckle = s.deckle := rfl
@[simp] theorem onCurd_vat (s : State) (f : Curd → Curd) : (s.onCurd f).vat = s.vat := rfl
@[simp] theorem onCurd_ream (s : State) (f : Curd → Curd) : (s.onCurd f).ream = s.ream := rfl
@[simp] theorem onCurd_couch (s : State) (f : Curd → Curd) : (s.onCurd f).couch = s.couch := rfl
@[simp] theorem onCurd_felt (s : State) (f : Curd → Curd) : (s.onCurd f).felt = s.felt := rfl
@[simp] theorem onCurd_sal (s : State) (f : Curd → Curd) : (s.onCurd f).sal = s.sal := rfl
@[simp] theorem onCurd_cipher (s : State) (f : Curd → Curd) : (s.onCurd f).cipher = s.cipher := rfl
@[simp] theorem onCurd_cave (s : State) (f : Curd → Curd) : (s.onCurd f).cave = s.cave := rfl
@[simp] theorem onCurd_power (s : State) (f : Curd → Curd) : (s.onCurd f).power = s.power := rfl
@[simp] theorem onCurd_ledger (s : State) (f : Curd → Curd) : (s.onCurd f).ledger = s.ledger := rfl
@[simp] theorem onCurd_log (s : State) (f : Curd → Curd) : (s.onCurd f).log = s.log := rfl
@[simp] theorem onCurd_units (s : State) (f : Curd → Curd) : (s.onCurd f).units = s.units := rfl
@[simp] theorem onDeckle_pending (s : State) (f : Deckle → Deckle) : (s.onDeckle f).pending = s.pending := rfl
@[simp] theorem onDeckle_out (s : State) (f : Deckle → Deckle) : (s.onDeckle f).out = s.out := rfl
@[simp] theorem onDeckle_fresh (s : State) (f : Deckle → Deckle) : (s.onDeckle f).fresh = s.fresh := rfl
@[simp] theorem onDeckle_wire (s : State) (f : Deckle → Deckle) : (s.onDeckle f).wire = s.wire := rfl
@[simp] theorem onDeckle_cmd (s : State) (f : Deckle → Deckle) : (s.onDeckle f).cmd = s.cmd := rfl
@[simp] theorem onDeckle_cxl (s : State) (f : Deckle → Deckle) : (s.onDeckle f).cxl = s.cxl := rfl
@[simp] theorem onDeckle_epochs (s : State) (f : Deckle → Deckle) : (s.onDeckle f).epochs = s.epochs := rfl
@[simp] theorem onDeckle_regions (s : State) (f : Deckle → Deckle) : (s.onDeckle f).regions = s.regions := rfl
@[simp] theorem onDeckle_ppu (s : State) (f : Deckle → Deckle) : (s.onDeckle f).ppu = s.ppu := rfl
@[simp] theorem onDeckle_curd (s : State) (f : Deckle → Deckle) : (s.onDeckle f).curd = s.curd := rfl
@[simp] theorem onDeckle_deckle (s : State) (f : Deckle → Deckle) : (s.onDeckle f).deckle = f s.deckle := rfl
@[simp] theorem onDeckle_vat (s : State) (f : Deckle → Deckle) : (s.onDeckle f).vat = s.vat := rfl
@[simp] theorem onDeckle_ream (s : State) (f : Deckle → Deckle) : (s.onDeckle f).ream = s.ream := rfl
@[simp] theorem onDeckle_couch (s : State) (f : Deckle → Deckle) : (s.onDeckle f).couch = s.couch := rfl
@[simp] theorem onDeckle_felt (s : State) (f : Deckle → Deckle) : (s.onDeckle f).felt = s.felt := rfl
@[simp] theorem onDeckle_sal (s : State) (f : Deckle → Deckle) : (s.onDeckle f).sal = s.sal := rfl
@[simp] theorem onDeckle_cipher (s : State) (f : Deckle → Deckle) : (s.onDeckle f).cipher = s.cipher := rfl
@[simp] theorem onDeckle_cave (s : State) (f : Deckle → Deckle) : (s.onDeckle f).cave = s.cave := rfl
@[simp] theorem onDeckle_power (s : State) (f : Deckle → Deckle) : (s.onDeckle f).power = s.power := rfl
@[simp] theorem onDeckle_ledger (s : State) (f : Deckle → Deckle) : (s.onDeckle f).ledger = s.ledger := rfl
@[simp] theorem onDeckle_log (s : State) (f : Deckle → Deckle) : (s.onDeckle f).log = s.log := rfl
@[simp] theorem onDeckle_units (s : State) (f : Deckle → Deckle) : (s.onDeckle f).units = s.units := rfl
@[simp] theorem onVat_pending (s : State) (f : Vat → Vat) : (s.onVat f).pending = s.pending := rfl
@[simp] theorem onVat_out (s : State) (f : Vat → Vat) : (s.onVat f).out = s.out := rfl
@[simp] theorem onVat_fresh (s : State) (f : Vat → Vat) : (s.onVat f).fresh = s.fresh := rfl
@[simp] theorem onVat_wire (s : State) (f : Vat → Vat) : (s.onVat f).wire = s.wire := rfl
@[simp] theorem onVat_cmd (s : State) (f : Vat → Vat) : (s.onVat f).cmd = s.cmd := rfl
@[simp] theorem onVat_cxl (s : State) (f : Vat → Vat) : (s.onVat f).cxl = s.cxl := rfl
@[simp] theorem onVat_epochs (s : State) (f : Vat → Vat) : (s.onVat f).epochs = s.epochs := rfl
@[simp] theorem onVat_regions (s : State) (f : Vat → Vat) : (s.onVat f).regions = s.regions := rfl
@[simp] theorem onVat_ppu (s : State) (f : Vat → Vat) : (s.onVat f).ppu = s.ppu := rfl
@[simp] theorem onVat_curd (s : State) (f : Vat → Vat) : (s.onVat f).curd = s.curd := rfl
@[simp] theorem onVat_deckle (s : State) (f : Vat → Vat) : (s.onVat f).deckle = s.deckle := rfl
@[simp] theorem onVat_vat (s : State) (f : Vat → Vat) : (s.onVat f).vat = f s.vat := rfl
@[simp] theorem onVat_ream (s : State) (f : Vat → Vat) : (s.onVat f).ream = s.ream := rfl
@[simp] theorem onVat_couch (s : State) (f : Vat → Vat) : (s.onVat f).couch = s.couch := rfl
@[simp] theorem onVat_felt (s : State) (f : Vat → Vat) : (s.onVat f).felt = s.felt := rfl
@[simp] theorem onVat_sal (s : State) (f : Vat → Vat) : (s.onVat f).sal = s.sal := rfl
@[simp] theorem onVat_cipher (s : State) (f : Vat → Vat) : (s.onVat f).cipher = s.cipher := rfl
@[simp] theorem onVat_cave (s : State) (f : Vat → Vat) : (s.onVat f).cave = s.cave := rfl
@[simp] theorem onVat_power (s : State) (f : Vat → Vat) : (s.onVat f).power = s.power := rfl
@[simp] theorem onVat_ledger (s : State) (f : Vat → Vat) : (s.onVat f).ledger = s.ledger := rfl
@[simp] theorem onVat_log (s : State) (f : Vat → Vat) : (s.onVat f).log = s.log := rfl
@[simp] theorem onVat_units (s : State) (f : Vat → Vat) : (s.onVat f).units = s.units := rfl
@[simp] theorem onReam_pending (s : State) (f : Ream → Ream) : (s.onReam f).pending = s.pending := rfl
@[simp] theorem onReam_out (s : State) (f : Ream → Ream) : (s.onReam f).out = s.out := rfl
@[simp] theorem onReam_fresh (s : State) (f : Ream → Ream) : (s.onReam f).fresh = s.fresh := rfl
@[simp] theorem onReam_wire (s : State) (f : Ream → Ream) : (s.onReam f).wire = s.wire := rfl
@[simp] theorem onReam_cmd (s : State) (f : Ream → Ream) : (s.onReam f).cmd = s.cmd := rfl
@[simp] theorem onReam_cxl (s : State) (f : Ream → Ream) : (s.onReam f).cxl = s.cxl := rfl
@[simp] theorem onReam_epochs (s : State) (f : Ream → Ream) : (s.onReam f).epochs = s.epochs := rfl
@[simp] theorem onReam_regions (s : State) (f : Ream → Ream) : (s.onReam f).regions = s.regions := rfl
@[simp] theorem onReam_ppu (s : State) (f : Ream → Ream) : (s.onReam f).ppu = s.ppu := rfl
@[simp] theorem onReam_curd (s : State) (f : Ream → Ream) : (s.onReam f).curd = s.curd := rfl
@[simp] theorem onReam_deckle (s : State) (f : Ream → Ream) : (s.onReam f).deckle = s.deckle := rfl
@[simp] theorem onReam_vat (s : State) (f : Ream → Ream) : (s.onReam f).vat = s.vat := rfl
@[simp] theorem onReam_ream (s : State) (f : Ream → Ream) : (s.onReam f).ream = f s.ream := rfl
@[simp] theorem onReam_couch (s : State) (f : Ream → Ream) : (s.onReam f).couch = s.couch := rfl
@[simp] theorem onReam_felt (s : State) (f : Ream → Ream) : (s.onReam f).felt = s.felt := rfl
@[simp] theorem onReam_sal (s : State) (f : Ream → Ream) : (s.onReam f).sal = s.sal := rfl
@[simp] theorem onReam_cipher (s : State) (f : Ream → Ream) : (s.onReam f).cipher = s.cipher := rfl
@[simp] theorem onReam_cave (s : State) (f : Ream → Ream) : (s.onReam f).cave = s.cave := rfl
@[simp] theorem onReam_power (s : State) (f : Ream → Ream) : (s.onReam f).power = s.power := rfl
@[simp] theorem onReam_ledger (s : State) (f : Ream → Ream) : (s.onReam f).ledger = s.ledger := rfl
@[simp] theorem onReam_log (s : State) (f : Ream → Ream) : (s.onReam f).log = s.log := rfl
@[simp] theorem onReam_units (s : State) (f : Ream → Ream) : (s.onReam f).units = s.units := rfl
@[simp] theorem onCouch_pending (s : State) (f : Couch → Couch) : (s.onCouch f).pending = s.pending := rfl
@[simp] theorem onCouch_out (s : State) (f : Couch → Couch) : (s.onCouch f).out = s.out := rfl
@[simp] theorem onCouch_fresh (s : State) (f : Couch → Couch) : (s.onCouch f).fresh = s.fresh := rfl
@[simp] theorem onCouch_wire (s : State) (f : Couch → Couch) : (s.onCouch f).wire = s.wire := rfl
@[simp] theorem onCouch_cmd (s : State) (f : Couch → Couch) : (s.onCouch f).cmd = s.cmd := rfl
@[simp] theorem onCouch_cxl (s : State) (f : Couch → Couch) : (s.onCouch f).cxl = s.cxl := rfl
@[simp] theorem onCouch_epochs (s : State) (f : Couch → Couch) : (s.onCouch f).epochs = s.epochs := rfl
@[simp] theorem onCouch_regions (s : State) (f : Couch → Couch) : (s.onCouch f).regions = s.regions := rfl
@[simp] theorem onCouch_ppu (s : State) (f : Couch → Couch) : (s.onCouch f).ppu = s.ppu := rfl
@[simp] theorem onCouch_curd (s : State) (f : Couch → Couch) : (s.onCouch f).curd = s.curd := rfl
@[simp] theorem onCouch_deckle (s : State) (f : Couch → Couch) : (s.onCouch f).deckle = s.deckle := rfl
@[simp] theorem onCouch_vat (s : State) (f : Couch → Couch) : (s.onCouch f).vat = s.vat := rfl
@[simp] theorem onCouch_ream (s : State) (f : Couch → Couch) : (s.onCouch f).ream = s.ream := rfl
@[simp] theorem onCouch_couch (s : State) (f : Couch → Couch) : (s.onCouch f).couch = f s.couch := rfl
@[simp] theorem onCouch_felt (s : State) (f : Couch → Couch) : (s.onCouch f).felt = s.felt := rfl
@[simp] theorem onCouch_sal (s : State) (f : Couch → Couch) : (s.onCouch f).sal = s.sal := rfl
@[simp] theorem onCouch_cipher (s : State) (f : Couch → Couch) : (s.onCouch f).cipher = s.cipher := rfl
@[simp] theorem onCouch_cave (s : State) (f : Couch → Couch) : (s.onCouch f).cave = s.cave := rfl
@[simp] theorem onCouch_power (s : State) (f : Couch → Couch) : (s.onCouch f).power = s.power := rfl
@[simp] theorem onCouch_ledger (s : State) (f : Couch → Couch) : (s.onCouch f).ledger = s.ledger := rfl
@[simp] theorem onCouch_log (s : State) (f : Couch → Couch) : (s.onCouch f).log = s.log := rfl
@[simp] theorem onCouch_units (s : State) (f : Couch → Couch) : (s.onCouch f).units = s.units := rfl
@[simp] theorem onFelt_pending (s : State) (f : Felt → Felt) : (s.onFelt f).pending = s.pending := rfl
@[simp] theorem onFelt_out (s : State) (f : Felt → Felt) : (s.onFelt f).out = s.out := rfl
@[simp] theorem onFelt_fresh (s : State) (f : Felt → Felt) : (s.onFelt f).fresh = s.fresh := rfl
@[simp] theorem onFelt_wire (s : State) (f : Felt → Felt) : (s.onFelt f).wire = s.wire := rfl
@[simp] theorem onFelt_cmd (s : State) (f : Felt → Felt) : (s.onFelt f).cmd = s.cmd := rfl
@[simp] theorem onFelt_cxl (s : State) (f : Felt → Felt) : (s.onFelt f).cxl = s.cxl := rfl
@[simp] theorem onFelt_epochs (s : State) (f : Felt → Felt) : (s.onFelt f).epochs = s.epochs := rfl
@[simp] theorem onFelt_regions (s : State) (f : Felt → Felt) : (s.onFelt f).regions = s.regions := rfl
@[simp] theorem onFelt_ppu (s : State) (f : Felt → Felt) : (s.onFelt f).ppu = s.ppu := rfl
@[simp] theorem onFelt_curd (s : State) (f : Felt → Felt) : (s.onFelt f).curd = s.curd := rfl
@[simp] theorem onFelt_deckle (s : State) (f : Felt → Felt) : (s.onFelt f).deckle = s.deckle := rfl
@[simp] theorem onFelt_vat (s : State) (f : Felt → Felt) : (s.onFelt f).vat = s.vat := rfl
@[simp] theorem onFelt_ream (s : State) (f : Felt → Felt) : (s.onFelt f).ream = s.ream := rfl
@[simp] theorem onFelt_couch (s : State) (f : Felt → Felt) : (s.onFelt f).couch = s.couch := rfl
@[simp] theorem onFelt_felt (s : State) (f : Felt → Felt) : (s.onFelt f).felt = f s.felt := rfl
@[simp] theorem onFelt_sal (s : State) (f : Felt → Felt) : (s.onFelt f).sal = s.sal := rfl
@[simp] theorem onFelt_cipher (s : State) (f : Felt → Felt) : (s.onFelt f).cipher = s.cipher := rfl
@[simp] theorem onFelt_cave (s : State) (f : Felt → Felt) : (s.onFelt f).cave = s.cave := rfl
@[simp] theorem onFelt_power (s : State) (f : Felt → Felt) : (s.onFelt f).power = s.power := rfl
@[simp] theorem onFelt_ledger (s : State) (f : Felt → Felt) : (s.onFelt f).ledger = s.ledger := rfl
@[simp] theorem onFelt_log (s : State) (f : Felt → Felt) : (s.onFelt f).log = s.log := rfl
@[simp] theorem onFelt_units (s : State) (f : Felt → Felt) : (s.onFelt f).units = s.units := rfl
@[simp] theorem onSal_pending (s : State) (f : Sal → Sal) : (s.onSal f).pending = s.pending := rfl
@[simp] theorem onSal_out (s : State) (f : Sal → Sal) : (s.onSal f).out = s.out := rfl
@[simp] theorem onSal_fresh (s : State) (f : Sal → Sal) : (s.onSal f).fresh = s.fresh := rfl
@[simp] theorem onSal_wire (s : State) (f : Sal → Sal) : (s.onSal f).wire = s.wire := rfl
@[simp] theorem onSal_cmd (s : State) (f : Sal → Sal) : (s.onSal f).cmd = s.cmd := rfl
@[simp] theorem onSal_cxl (s : State) (f : Sal → Sal) : (s.onSal f).cxl = s.cxl := rfl
@[simp] theorem onSal_epochs (s : State) (f : Sal → Sal) : (s.onSal f).epochs = s.epochs := rfl
@[simp] theorem onSal_regions (s : State) (f : Sal → Sal) : (s.onSal f).regions = s.regions := rfl
@[simp] theorem onSal_ppu (s : State) (f : Sal → Sal) : (s.onSal f).ppu = s.ppu := rfl
@[simp] theorem onSal_curd (s : State) (f : Sal → Sal) : (s.onSal f).curd = s.curd := rfl
@[simp] theorem onSal_deckle (s : State) (f : Sal → Sal) : (s.onSal f).deckle = s.deckle := rfl
@[simp] theorem onSal_vat (s : State) (f : Sal → Sal) : (s.onSal f).vat = s.vat := rfl
@[simp] theorem onSal_ream (s : State) (f : Sal → Sal) : (s.onSal f).ream = s.ream := rfl
@[simp] theorem onSal_couch (s : State) (f : Sal → Sal) : (s.onSal f).couch = s.couch := rfl
@[simp] theorem onSal_felt (s : State) (f : Sal → Sal) : (s.onSal f).felt = s.felt := rfl
@[simp] theorem onSal_sal (s : State) (f : Sal → Sal) : (s.onSal f).sal = f s.sal := rfl
@[simp] theorem onSal_cipher (s : State) (f : Sal → Sal) : (s.onSal f).cipher = s.cipher := rfl
@[simp] theorem onSal_cave (s : State) (f : Sal → Sal) : (s.onSal f).cave = s.cave := rfl
@[simp] theorem onSal_power (s : State) (f : Sal → Sal) : (s.onSal f).power = s.power := rfl
@[simp] theorem onSal_ledger (s : State) (f : Sal → Sal) : (s.onSal f).ledger = s.ledger := rfl
@[simp] theorem onSal_log (s : State) (f : Sal → Sal) : (s.onSal f).log = s.log := rfl
@[simp] theorem onSal_units (s : State) (f : Sal → Sal) : (s.onSal f).units = s.units := rfl
@[simp] theorem onCipher_pending (s : State) (f : Cipher → Cipher) : (s.onCipher f).pending = s.pending := rfl
@[simp] theorem onCipher_out (s : State) (f : Cipher → Cipher) : (s.onCipher f).out = s.out := rfl
@[simp] theorem onCipher_fresh (s : State) (f : Cipher → Cipher) : (s.onCipher f).fresh = s.fresh := rfl
@[simp] theorem onCipher_wire (s : State) (f : Cipher → Cipher) : (s.onCipher f).wire = s.wire := rfl
@[simp] theorem onCipher_cmd (s : State) (f : Cipher → Cipher) : (s.onCipher f).cmd = s.cmd := rfl
@[simp] theorem onCipher_cxl (s : State) (f : Cipher → Cipher) : (s.onCipher f).cxl = s.cxl := rfl
@[simp] theorem onCipher_epochs (s : State) (f : Cipher → Cipher) : (s.onCipher f).epochs = s.epochs := rfl
@[simp] theorem onCipher_regions (s : State) (f : Cipher → Cipher) : (s.onCipher f).regions = s.regions := rfl
@[simp] theorem onCipher_ppu (s : State) (f : Cipher → Cipher) : (s.onCipher f).ppu = s.ppu := rfl
@[simp] theorem onCipher_curd (s : State) (f : Cipher → Cipher) : (s.onCipher f).curd = s.curd := rfl
@[simp] theorem onCipher_deckle (s : State) (f : Cipher → Cipher) : (s.onCipher f).deckle = s.deckle := rfl
@[simp] theorem onCipher_vat (s : State) (f : Cipher → Cipher) : (s.onCipher f).vat = s.vat := rfl
@[simp] theorem onCipher_ream (s : State) (f : Cipher → Cipher) : (s.onCipher f).ream = s.ream := rfl
@[simp] theorem onCipher_couch (s : State) (f : Cipher → Cipher) : (s.onCipher f).couch = s.couch := rfl
@[simp] theorem onCipher_felt (s : State) (f : Cipher → Cipher) : (s.onCipher f).felt = s.felt := rfl
@[simp] theorem onCipher_sal (s : State) (f : Cipher → Cipher) : (s.onCipher f).sal = s.sal := rfl
@[simp] theorem onCipher_cipher (s : State) (f : Cipher → Cipher) : (s.onCipher f).cipher = f s.cipher := rfl
@[simp] theorem onCipher_cave (s : State) (f : Cipher → Cipher) : (s.onCipher f).cave = s.cave := rfl
@[simp] theorem onCipher_power (s : State) (f : Cipher → Cipher) : (s.onCipher f).power = s.power := rfl
@[simp] theorem onCipher_ledger (s : State) (f : Cipher → Cipher) : (s.onCipher f).ledger = s.ledger := rfl
@[simp] theorem onCipher_log (s : State) (f : Cipher → Cipher) : (s.onCipher f).log = s.log := rfl
@[simp] theorem onCipher_units (s : State) (f : Cipher → Cipher) : (s.onCipher f).units = s.units := rfl
@[simp] theorem onCave_pending (s : State) (f : Cave → Cave) : (s.onCave f).pending = s.pending := rfl
@[simp] theorem onCave_out (s : State) (f : Cave → Cave) : (s.onCave f).out = s.out := rfl
@[simp] theorem onCave_fresh (s : State) (f : Cave → Cave) : (s.onCave f).fresh = s.fresh := rfl
@[simp] theorem onCave_wire (s : State) (f : Cave → Cave) : (s.onCave f).wire = s.wire := rfl
@[simp] theorem onCave_cmd (s : State) (f : Cave → Cave) : (s.onCave f).cmd = s.cmd := rfl
@[simp] theorem onCave_cxl (s : State) (f : Cave → Cave) : (s.onCave f).cxl = s.cxl := rfl
@[simp] theorem onCave_epochs (s : State) (f : Cave → Cave) : (s.onCave f).epochs = s.epochs := rfl
@[simp] theorem onCave_regions (s : State) (f : Cave → Cave) : (s.onCave f).regions = s.regions := rfl
@[simp] theorem onCave_ppu (s : State) (f : Cave → Cave) : (s.onCave f).ppu = s.ppu := rfl
@[simp] theorem onCave_curd (s : State) (f : Cave → Cave) : (s.onCave f).curd = s.curd := rfl
@[simp] theorem onCave_deckle (s : State) (f : Cave → Cave) : (s.onCave f).deckle = s.deckle := rfl
@[simp] theorem onCave_vat (s : State) (f : Cave → Cave) : (s.onCave f).vat = s.vat := rfl
@[simp] theorem onCave_ream (s : State) (f : Cave → Cave) : (s.onCave f).ream = s.ream := rfl
@[simp] theorem onCave_couch (s : State) (f : Cave → Cave) : (s.onCave f).couch = s.couch := rfl
@[simp] theorem onCave_felt (s : State) (f : Cave → Cave) : (s.onCave f).felt = s.felt := rfl
@[simp] theorem onCave_sal (s : State) (f : Cave → Cave) : (s.onCave f).sal = s.sal := rfl
@[simp] theorem onCave_cipher (s : State) (f : Cave → Cave) : (s.onCave f).cipher = s.cipher := rfl
@[simp] theorem onCave_cave (s : State) (f : Cave → Cave) : (s.onCave f).cave = f s.cave := rfl
@[simp] theorem onCave_power (s : State) (f : Cave → Cave) : (s.onCave f).power = s.power := rfl
@[simp] theorem onCave_ledger (s : State) (f : Cave → Cave) : (s.onCave f).ledger = s.ledger := rfl
@[simp] theorem onCave_log (s : State) (f : Cave → Cave) : (s.onCave f).log = s.log := rfl
@[simp] theorem onCave_units (s : State) (f : Cave → Cave) : (s.onCave f).units = s.units := rfl
@[simp] theorem onPower_pending (s : State) (f : Power → Power) : (s.onPower f).pending = s.pending := rfl
@[simp] theorem onPower_out (s : State) (f : Power → Power) : (s.onPower f).out = s.out := rfl
@[simp] theorem onPower_fresh (s : State) (f : Power → Power) : (s.onPower f).fresh = s.fresh := rfl
@[simp] theorem onPower_wire (s : State) (f : Power → Power) : (s.onPower f).wire = s.wire := rfl
@[simp] theorem onPower_cmd (s : State) (f : Power → Power) : (s.onPower f).cmd = s.cmd := rfl
@[simp] theorem onPower_cxl (s : State) (f : Power → Power) : (s.onPower f).cxl = s.cxl := rfl
@[simp] theorem onPower_epochs (s : State) (f : Power → Power) : (s.onPower f).epochs = s.epochs := rfl
@[simp] theorem onPower_regions (s : State) (f : Power → Power) : (s.onPower f).regions = s.regions := rfl
@[simp] theorem onPower_ppu (s : State) (f : Power → Power) : (s.onPower f).ppu = s.ppu := rfl
@[simp] theorem onPower_curd (s : State) (f : Power → Power) : (s.onPower f).curd = s.curd := rfl
@[simp] theorem onPower_deckle (s : State) (f : Power → Power) : (s.onPower f).deckle = s.deckle := rfl
@[simp] theorem onPower_vat (s : State) (f : Power → Power) : (s.onPower f).vat = s.vat := rfl
@[simp] theorem onPower_ream (s : State) (f : Power → Power) : (s.onPower f).ream = s.ream := rfl
@[simp] theorem onPower_couch (s : State) (f : Power → Power) : (s.onPower f).couch = s.couch := rfl
@[simp] theorem onPower_felt (s : State) (f : Power → Power) : (s.onPower f).felt = s.felt := rfl
@[simp] theorem onPower_sal (s : State) (f : Power → Power) : (s.onPower f).sal = s.sal := rfl
@[simp] theorem onPower_cipher (s : State) (f : Power → Power) : (s.onPower f).cipher = s.cipher := rfl
@[simp] theorem onPower_cave (s : State) (f : Power → Power) : (s.onPower f).cave = s.cave := rfl
@[simp] theorem onPower_power (s : State) (f : Power → Power) : (s.onPower f).power = f s.power := rfl
@[simp] theorem onPower_ledger (s : State) (f : Power → Power) : (s.onPower f).ledger = s.ledger := rfl
@[simp] theorem onPower_log (s : State) (f : Power → Power) : (s.onPower f).log = s.log := rfl
@[simp] theorem onPower_units (s : State) (f : Power → Power) : (s.onPower f).units = s.units := rfl
@[simp] theorem onLedger_pending (s : State) (f : Ledger → Ledger) : (s.onLedger f).pending = s.pending := rfl
@[simp] theorem onLedger_out (s : State) (f : Ledger → Ledger) : (s.onLedger f).out = s.out := rfl
@[simp] theorem onLedger_fresh (s : State) (f : Ledger → Ledger) : (s.onLedger f).fresh = s.fresh := rfl
@[simp] theorem onLedger_wire (s : State) (f : Ledger → Ledger) : (s.onLedger f).wire = s.wire := rfl
@[simp] theorem onLedger_cmd (s : State) (f : Ledger → Ledger) : (s.onLedger f).cmd = s.cmd := rfl
@[simp] theorem onLedger_cxl (s : State) (f : Ledger → Ledger) : (s.onLedger f).cxl = s.cxl := rfl
@[simp] theorem onLedger_epochs (s : State) (f : Ledger → Ledger) : (s.onLedger f).epochs = s.epochs := rfl
@[simp] theorem onLedger_regions (s : State) (f : Ledger → Ledger) : (s.onLedger f).regions = s.regions := rfl
@[simp] theorem onLedger_ppu (s : State) (f : Ledger → Ledger) : (s.onLedger f).ppu = s.ppu := rfl
@[simp] theorem onLedger_curd (s : State) (f : Ledger → Ledger) : (s.onLedger f).curd = s.curd := rfl
@[simp] theorem onLedger_deckle (s : State) (f : Ledger → Ledger) : (s.onLedger f).deckle = s.deckle := rfl
@[simp] theorem onLedger_vat (s : State) (f : Ledger → Ledger) : (s.onLedger f).vat = s.vat := rfl
@[simp] theorem onLedger_ream (s : State) (f : Ledger → Ledger) : (s.onLedger f).ream = s.ream := rfl
@[simp] theorem onLedger_couch (s : State) (f : Ledger → Ledger) : (s.onLedger f).couch = s.couch := rfl
@[simp] theorem onLedger_felt (s : State) (f : Ledger → Ledger) : (s.onLedger f).felt = s.felt := rfl
@[simp] theorem onLedger_sal (s : State) (f : Ledger → Ledger) : (s.onLedger f).sal = s.sal := rfl
@[simp] theorem onLedger_cipher (s : State) (f : Ledger → Ledger) : (s.onLedger f).cipher = s.cipher := rfl
@[simp] theorem onLedger_cave (s : State) (f : Ledger → Ledger) : (s.onLedger f).cave = s.cave := rfl
@[simp] theorem onLedger_power (s : State) (f : Ledger → Ledger) : (s.onLedger f).power = s.power := rfl
@[simp] theorem onLedger_ledger (s : State) (f : Ledger → Ledger) : (s.onLedger f).ledger = f s.ledger := rfl
@[simp] theorem onLedger_log (s : State) (f : Ledger → Ledger) : (s.onLedger f).log = s.log := rfl
@[simp] theorem onLedger_units (s : State) (f : Ledger → Ledger) : (s.onLedger f).units = s.units := rfl
@[simp] theorem onLog_pending (s : State) (f : Log → Log) : (s.onLog f).pending = s.pending := rfl
@[simp] theorem onLog_out (s : State) (f : Log → Log) : (s.onLog f).out = s.out := rfl
@[simp] theorem onLog_fresh (s : State) (f : Log → Log) : (s.onLog f).fresh = s.fresh := rfl
@[simp] theorem onLog_wire (s : State) (f : Log → Log) : (s.onLog f).wire = s.wire := rfl
@[simp] theorem onLog_cmd (s : State) (f : Log → Log) : (s.onLog f).cmd = s.cmd := rfl
@[simp] theorem onLog_cxl (s : State) (f : Log → Log) : (s.onLog f).cxl = s.cxl := rfl
@[simp] theorem onLog_epochs (s : State) (f : Log → Log) : (s.onLog f).epochs = s.epochs := rfl
@[simp] theorem onLog_regions (s : State) (f : Log → Log) : (s.onLog f).regions = s.regions := rfl
@[simp] theorem onLog_ppu (s : State) (f : Log → Log) : (s.onLog f).ppu = s.ppu := rfl
@[simp] theorem onLog_curd (s : State) (f : Log → Log) : (s.onLog f).curd = s.curd := rfl
@[simp] theorem onLog_deckle (s : State) (f : Log → Log) : (s.onLog f).deckle = s.deckle := rfl
@[simp] theorem onLog_vat (s : State) (f : Log → Log) : (s.onLog f).vat = s.vat := rfl
@[simp] theorem onLog_ream (s : State) (f : Log → Log) : (s.onLog f).ream = s.ream := rfl
@[simp] theorem onLog_couch (s : State) (f : Log → Log) : (s.onLog f).couch = s.couch := rfl
@[simp] theorem onLog_felt (s : State) (f : Log → Log) : (s.onLog f).felt = s.felt := rfl
@[simp] theorem onLog_sal (s : State) (f : Log → Log) : (s.onLog f).sal = s.sal := rfl
@[simp] theorem onLog_cipher (s : State) (f : Log → Log) : (s.onLog f).cipher = s.cipher := rfl
@[simp] theorem onLog_cave (s : State) (f : Log → Log) : (s.onLog f).cave = s.cave := rfl
@[simp] theorem onLog_power (s : State) (f : Log → Log) : (s.onLog f).power = s.power := rfl
@[simp] theorem onLog_ledger (s : State) (f : Log → Log) : (s.onLog f).ledger = s.ledger := rfl
@[simp] theorem onLog_log (s : State) (f : Log → Log) : (s.onLog f).log = f s.log := rfl
@[simp] theorem onLog_units (s : State) (f : Log → Log) : (s.onLog f).units = s.units := rfl
@[simp] theorem onUnits_pending (s : State) (f : Units → Units) : (s.onUnits f).pending = s.pending := rfl
@[simp] theorem onUnits_out (s : State) (f : Units → Units) : (s.onUnits f).out = s.out := rfl
@[simp] theorem onUnits_fresh (s : State) (f : Units → Units) : (s.onUnits f).fresh = s.fresh := rfl
@[simp] theorem onUnits_wire (s : State) (f : Units → Units) : (s.onUnits f).wire = s.wire := rfl
@[simp] theorem onUnits_cmd (s : State) (f : Units → Units) : (s.onUnits f).cmd = s.cmd := rfl
@[simp] theorem onUnits_cxl (s : State) (f : Units → Units) : (s.onUnits f).cxl = s.cxl := rfl
@[simp] theorem onUnits_epochs (s : State) (f : Units → Units) : (s.onUnits f).epochs = s.epochs := rfl
@[simp] theorem onUnits_regions (s : State) (f : Units → Units) : (s.onUnits f).regions = s.regions := rfl
@[simp] theorem onUnits_ppu (s : State) (f : Units → Units) : (s.onUnits f).ppu = s.ppu := rfl
@[simp] theorem onUnits_curd (s : State) (f : Units → Units) : (s.onUnits f).curd = s.curd := rfl
@[simp] theorem onUnits_deckle (s : State) (f : Units → Units) : (s.onUnits f).deckle = s.deckle := rfl
@[simp] theorem onUnits_vat (s : State) (f : Units → Units) : (s.onUnits f).vat = s.vat := rfl
@[simp] theorem onUnits_ream (s : State) (f : Units → Units) : (s.onUnits f).ream = s.ream := rfl
@[simp] theorem onUnits_couch (s : State) (f : Units → Units) : (s.onUnits f).couch = s.couch := rfl
@[simp] theorem onUnits_felt (s : State) (f : Units → Units) : (s.onUnits f).felt = s.felt := rfl
@[simp] theorem onUnits_sal (s : State) (f : Units → Units) : (s.onUnits f).sal = s.sal := rfl
@[simp] theorem onUnits_cipher (s : State) (f : Units → Units) : (s.onUnits f).cipher = s.cipher := rfl
@[simp] theorem onUnits_cave (s : State) (f : Units → Units) : (s.onUnits f).cave = s.cave := rfl
@[simp] theorem onUnits_power (s : State) (f : Units → Units) : (s.onUnits f).power = s.power := rfl
@[simp] theorem onUnits_ledger (s : State) (f : Units → Units) : (s.onUnits f).ledger = s.ledger := rfl
@[simp] theorem onUnits_log (s : State) (f : Units → Units) : (s.onUnits f).log = s.log := rfl
@[simp] theorem onUnits_units (s : State) (f : Units → Units) : (s.onUnits f).units = f s.units := rfl
@[simp] theorem emit_pending (s : State) (o : Out) : (s.emit o).pending = s.pending := rfl
@[simp] theorem emit_out (s : State) (o : Out) : (s.emit o).out = s.out ++ [o] := rfl
@[simp] theorem emit_fresh (s : State) (o : Out) : (s.emit o).fresh = s.fresh := rfl
@[simp] theorem emit_wire (s : State) (o : Out) : (s.emit o).wire = s.wire := rfl
@[simp] theorem emit_cmd (s : State) (o : Out) : (s.emit o).cmd = s.cmd := rfl
@[simp] theorem emit_cxl (s : State) (o : Out) : (s.emit o).cxl = s.cxl := rfl
@[simp] theorem emit_epochs (s : State) (o : Out) : (s.emit o).epochs = s.epochs := rfl
@[simp] theorem emit_regions (s : State) (o : Out) : (s.emit o).regions = s.regions := rfl
@[simp] theorem emit_ppu (s : State) (o : Out) : (s.emit o).ppu = s.ppu := rfl
@[simp] theorem emit_curd (s : State) (o : Out) : (s.emit o).curd = s.curd := rfl
@[simp] theorem emit_deckle (s : State) (o : Out) : (s.emit o).deckle = s.deckle := rfl
@[simp] theorem emit_vat (s : State) (o : Out) : (s.emit o).vat = s.vat := rfl
@[simp] theorem emit_ream (s : State) (o : Out) : (s.emit o).ream = s.ream := rfl
@[simp] theorem emit_couch (s : State) (o : Out) : (s.emit o).couch = s.couch := rfl
@[simp] theorem emit_felt (s : State) (o : Out) : (s.emit o).felt = s.felt := rfl
@[simp] theorem emit_sal (s : State) (o : Out) : (s.emit o).sal = s.sal := rfl
@[simp] theorem emit_cipher (s : State) (o : Out) : (s.emit o).cipher = s.cipher := rfl
@[simp] theorem emit_cave (s : State) (o : Out) : (s.emit o).cave = s.cave := rfl
@[simp] theorem emit_power (s : State) (o : Out) : (s.emit o).power = s.power := rfl
@[simp] theorem emit_ledger (s : State) (o : Out) : (s.emit o).ledger = s.ledger := rfl
@[simp] theorem emit_log (s : State) (o : Out) : (s.emit o).log = s.log := rfl
@[simp] theorem emit_units (s : State) (o : Out) : (s.emit o).units = s.units := rfl

end Sys2Proof.Machine
end

