-- ==== Sys2Proof/Laws/Packets.lean ====
section
/-! SUPPORT. What the operations shared by the Kolnyx opcodes do, each once. -/

namespace Sys2Proof.Machine

/-! ### takeArrived touches the arrival queue alone -/

theorem takeArrived_eq (s : State) (r : Req) (op : U16) :
    ∃ l n, takeArrived s r op = s.onCmd fun c => { c with arrived := l, arrivals := n } := by
  unfold takeArrived State.onCmd
  by_cases h : (s.cmd.arrived.any fun a => a.ch = r.ch && a.tag = r.tag && a.opcode = op) = true
  · exact ⟨_, s.cmd.arrivals, by simp only [h, if_true]; rfl⟩
  · exact ⟨s.cmd.arrived, _, by simp only [h]; rfl⟩

@[simp] theorem takeArrived_sessionOn (s : State) (r : Req) (op : U16) (ch : Chan) : sessionOn (takeArrived s r op) ch = sessionOn s ch := by
  obtain ⟨l, n, h⟩ := takeArrived_eq s r op; rw [h]; rfl
@[simp] theorem takeArrived_tagInUse (s : State) (r : Req) (op : U16) (x : Session) (t : U32) :
    tagInUse (takeArrived s r op) x t = tagInUse s x t := by
  obtain ⟨l, n, h⟩ := takeArrived_eq s r op; rw [h]; rfl
@[simp] theorem takeArrived_isOwner (s : State) (r : Req) (op : U16) (x : Session) : isOwner (takeArrived s r op) x = isOwner s x := by
  obtain ⟨l, n, h⟩ := takeArrived_eq s r op; rw [h]; rfl
@[simp] theorem takeArrived_readyCode (s : State) (r : Req) (op : U16) : readyCode (takeArrived s r op) = readyCode s := by
  obtain ⟨l, n, h⟩ := takeArrived_eq s r op; rw [h]; rfl
@[simp] theorem takeArrived_columnAllows (s : State) (r : Req) (op : U16) (c : Column) :
    columnAllows (takeArrived s r op) c = columnAllows s c := by
  obtain ⟨l, n, h⟩ := takeArrived_eq s r op; rw [h]; rfl
@[simp] theorem takeArrived_recoveryAccepts (s : State) (r : Req) (op o : U16) :
    recoveryAccepts (takeArrived s r op) o = recoveryAccepts s o := by
  obtain ⟨l, n, h⟩ := takeArrived_eq s r op; rw [h]; rfl

@[simp] theorem takeArrived_pending (s : State) (r : Req) (op : U16) : (takeArrived s r op).pending = s.pending := rfl
@[simp] theorem takeArrived_out (s : State) (r : Req) (op : U16) : (takeArrived s r op).out = s.out := rfl
@[simp] theorem takeArrived_fresh (s : State) (r : Req) (op : U16) : (takeArrived s r op).fresh = s.fresh := rfl
@[simp] theorem takeArrived_wire (s : State) (r : Req) (op : U16) : (takeArrived s r op).wire = s.wire := rfl
@[simp] theorem takeArrived_cxl (s : State) (r : Req) (op : U16) : (takeArrived s r op).cxl = s.cxl := rfl
@[simp] theorem takeArrived_epochs (s : State) (r : Req) (op : U16) : (takeArrived s r op).epochs = s.epochs := rfl
@[simp] theorem takeArrived_regions (s : State) (r : Req) (op : U16) : (takeArrived s r op).regions = s.regions := rfl
@[simp] theorem takeArrived_ppu (s : State) (r : Req) (op : U16) : (takeArrived s r op).ppu = s.ppu := rfl
@[simp] theorem takeArrived_curd (s : State) (r : Req) (op : U16) : (takeArrived s r op).curd = s.curd := rfl
@[simp] theorem takeArrived_deckle (s : State) (r : Req) (op : U16) : (takeArrived s r op).deckle = s.deckle := rfl
@[simp] theorem takeArrived_vat (s : State) (r : Req) (op : U16) : (takeArrived s r op).vat = s.vat := rfl
@[simp] theorem takeArrived_ream (s : State) (r : Req) (op : U16) : (takeArrived s r op).ream = s.ream := rfl
@[simp] theorem takeArrived_couch (s : State) (r : Req) (op : U16) : (takeArrived s r op).couch = s.couch := rfl
@[simp] theorem takeArrived_felt (s : State) (r : Req) (op : U16) : (takeArrived s r op).felt = s.felt := rfl
@[simp] theorem takeArrived_sal (s : State) (r : Req) (op : U16) : (takeArrived s r op).sal = s.sal := rfl
@[simp] theorem takeArrived_cipher (s : State) (r : Req) (op : U16) : (takeArrived s r op).cipher = s.cipher := rfl
@[simp] theorem takeArrived_cave (s : State) (r : Req) (op : U16) : (takeArrived s r op).cave = s.cave := rfl
@[simp] theorem takeArrived_power (s : State) (r : Req) (op : U16) : (takeArrived s r op).power = s.power := rfl
@[simp] theorem takeArrived_ledger (s : State) (r : Req) (op : U16) : (takeArrived s r op).ledger = s.ledger := rfl
@[simp] theorem takeArrived_log (s : State) (r : Req) (op : U16) : (takeArrived s r op).log = s.log := rfl
@[simp] theorem takeArrived_units (s : State) (r : Req) (op : U16) : (takeArrived s r op).units = s.units := rfl

@[simp] theorem takeArrived_cmd_channels (s : State) (r : Req) (op : U16) : (takeArrived s r op).cmd.channels = s.cmd.channels := by
  obtain ⟨l, n, h⟩ := takeArrived_eq s r op; rw [h]; rfl
@[simp] theorem takeArrived_cmd_sessions (s : State) (r : Req) (op : U16) : (takeArrived s r op).cmd.sessions = s.cmd.sessions := by
  obtain ⟨l, n, h⟩ := takeArrived_eq s r op; rw [h]; rfl
@[simp] theorem takeArrived_cmd_owner (s : State) (r : Req) (op : U16) : (takeArrived s r op).cmd.owner = s.cmd.owner := by
  obtain ⟨l, n, h⟩ := takeArrived_eq s r op; rw [h]; rfl
@[simp] theorem takeArrived_cmd_longOps (s : State) (r : Req) (op : U16) : (takeArrived s r op).cmd.longOps = s.cmd.longOps := by
  obtain ⟨l, n, h⟩ := takeArrived_eq s r op; rw [h]; rfl
@[simp] theorem takeArrived_cmd_challenges (s : State) (r : Req) (op : U16) : (takeArrived s r op).cmd.challenges = s.cmd.challenges := by
  obtain ⟨l, n, h⟩ := takeArrived_eq s r op; rw [h]; rfl
@[simp] theorem takeArrived_cmd_tables (s : State) (r : Req) (op : U16) : (takeArrived s r op).cmd.tables = s.cmd.tables := by
  obtain ⟨l, n, h⟩ := takeArrived_eq s r op; rw [h]; rfl
@[simp] theorem takeArrived_cmd_ready (s : State) (r : Req) (op : U16) : (takeArrived s r op).cmd.ready = s.cmd.ready := by
  obtain ⟨l, n, h⟩ := takeArrived_eq s r op; rw [h]; rfl
@[simp] theorem takeArrived_cmd_sealSt (s : State) (r : Req) (op : U16) : (takeArrived s r op).cmd.sealSt = s.cmd.sealSt := by
  obtain ⟨l, n, h⟩ := takeArrived_eq s r op; rw [h]; rfl
@[simp] theorem takeArrived_cmd_safe (s : State) (r : Req) (op : U16) : (takeArrived s r op).cmd.safe = s.cmd.safe := by
  obtain ⟨l, n, h⟩ := takeArrived_eq s r op; rw [h]; rfl
@[simp] theorem takeArrived_cmd_eids (s : State) (r : Req) (op : U16) : (takeArrived s r op).cmd.eids = s.cmd.eids := by
  obtain ⟨l, n, h⟩ := takeArrived_eq s r op; rw [h]; rfl
@[simp] theorem takeArrived_cmd_mctpDiscards (s : State) (r : Req) (op : U16) : (takeArrived s r op).cmd.mctpDiscards = s.cmd.mctpDiscards := by
  obtain ⟨l, n, h⟩ := takeArrived_eq s r op; rw [h]; rfl
@[simp] theorem takeArrived_cmd_udpDiscards (s : State) (r : Req) (op : U16) : (takeArrived s r op).cmd.udpDiscards = s.cmd.udpDiscards := by
  obtain ⟨l, n, h⟩ := takeArrived_eq s r op; rw [h]; rfl
@[simp] theorem takeArrived_cmd_uses (s : State) (r : Req) (op : U16) : (takeArrived s r op).cmd.uses = s.cmd.uses := by
  obtain ⟨l, n, h⟩ := takeArrived_eq s r op; rw [h]; rfl
@[simp] theorem takeArrived_cmd_resetRun (s : State) (r : Req) (op : U16) : (takeArrived s r op).cmd.resetRun = s.cmd.resetRun := by
  obtain ⟨l, n, h⟩ := takeArrived_eq s r op; rw [h]; rfl
@[simp] theorem takeArrived_cmd_injections (s : State) (r : Req) (op : U16) : (takeArrived s r op).cmd.injections = s.cmd.injections := by
  obtain ⟨l, n, h⟩ := takeArrived_eq s r op; rw [h]; rfl
@[simp] theorem takeArrived_cmd_trace (s : State) (r : Req) (op : U16) : (takeArrived s r op).cmd.trace = s.cmd.trace := by
  obtain ⟨l, n, h⟩ := takeArrived_eq s r op; rw [h]; rfl
@[simp] theorem takeArrived_cmd_nextHandle (s : State) (r : Req) (op : U16) : (takeArrived s r op).cmd.nextHandle = s.cmd.nextHandle := by
  obtain ⟨l, n, h⟩ := takeArrived_eq s r op; rw [h]; rfl
@[simp] theorem takeArrived_cmd_closing (s : State) (r : Req) (op : U16) : (takeArrived s r op).cmd.closing = s.cmd.closing := by
  obtain ⟨l, n, h⟩ := takeArrived_eq s r op; rw [h]; rfl
@[simp] theorem takeArrived_sessionNum (s : State) (r : Req) (op : U16) (n : Nat) : sessionNum (takeArrived s r op) n = sessionNum s n := by
  obtain ⟨l, k, h⟩ := takeArrived_eq s r op; rw [h]; rfl
@[simp] theorem takeArrived_regionOf (s : State) (r : Req) (op : U16) (n : Nat) : regionOf (takeArrived s r op) n = regionOf s n := by
  obtain ⟨l, k, h⟩ := takeArrived_eq s r op; rw [h]; rfl
@[simp] theorem takeArrived_longFull (s : State) (r : Req) (op : U16)  : longFull (takeArrived s r op)  = longFull s  := by
  obtain ⟨l, k, h⟩ := takeArrived_eq s r op; rw [h]; rfl
@[simp] theorem takeArrived_mayName (s : State) (r : Req) (op : U16) (x : Session) (g : Region) : mayName (takeArrived s r op) x g = mayName s x g := by
  obtain ⟨l, k, h⟩ := takeArrived_eq s r op; rw [h]; rfl
@[simp] theorem takeArrived_channelOf (s : State) (r : Req) (op : U16) (ch : Chan) : channelOf (takeArrived s r op) ch = channelOf s ch := by
  obtain ⟨l, k, h⟩ := takeArrived_eq s r op; rw [h]; rfl
@[simp] theorem takeArrived_longRuns (s : State) (r : Req) (op : U16) (p : LongKind → Bool) : longRuns (takeArrived s r op) p = longRuns s p := by
  obtain ⟨l, k, h⟩ := takeArrived_eq s r op; rw [h]; rfl

/-- A packet that reaches its opcode's own part runs it, with its channel's session. -/
theorem command_reaches {s : State} {r : Req} {op : U16} {who : Issuer} {col : Column} (h : Reaches s r op who col = true)
    (body : State → Session → State) :
    command s r op none who col body = body (takeArrived s r op) (issuer s r) := by
  unfold Reaches at h
  unfold command issuer
  simp only [Bool.and_eq_true, decide_eq_true_eq, Bool.not_eq_true'] at h
  obtain ⟨⟨⟨⟨⟨⟨h0, h1⟩, h2⟩, hm⟩, h3⟩, h4⟩, h5⟩ := h
  simp only [h0, h1, h2, hm, takeArrived_sessionOn]
  cases hs : sessionOn s r.ch with
  | none =>
    simp only [hs, decide_eq_true_eq] at h5
    simp [h5, h4, h3]
  | some x =>
    simp only [hs, Bool.and_eq_true, Bool.or_eq_true, decide_eq_true_eq, Bool.not_eq_true'] at h5
    obtain ⟨⟨h6, h7⟩, h8⟩ := h5
    have h9 : ¬ 32 ≤ x.outstanding.length := by omega
    rcases h8 with h8 | h8 <;> simp [h6, h9, h8, h4, h3]

/-- Before READY.CORE nothing answers, and nothing happens (R279). -/
theorem command_below {s : State} (h : readyCode s = 0) (r : Req) (op : U16) (p : Option (Status × Nat)) (who : Issuer) (col : Column)
    (body : State → Session → State) : command s r op p who col body = s := by
  simp [command, h]

end Sys2Proof.Machine
end

