-- ==== Sys2Proof/Laws/Ops.lean ====
section
/-! SUPPORT. What the operations shared by most commands can touch: each is named once, so that a frame cites it and unfolds nothing. -/

namespace Sys2Proof.Machine

/-! ### Frames compose -/

theorem SameBut.refl {ps : List Part} {s : State} : SameBut ps s s := fun p _ => by cases p <;> rfl

theorem SameBut.trans {ps : List Part} {s t u : State} (h : SameBut ps s t) (k : SameBut ps t u) : SameBut ps s u := by
  intro p hp
  have a := h p hp
  have b := k p hp
  cases p <;> exact Eq.trans b a

theorem SameBut.mono {ps qs : List Part} {s t : State} (h : SameBut ps s t) (k : ∀ p ∈ ps, p ∈ qs) : SameBut qs s t :=
  fun p hp => h p fun hq => hp (k p hq)

theorem SameBut.each {α : Type} {ps : List Part} {s : State} {l : List α} {f : State → α → State}
    (h : ∀ s a, SameBut ps s (f s a)) : SameBut ps s (s.each l f) := by
  unfold State.each
  induction l generalizing s with
  | nil => exact SameBut.refl
  | cons a l ih => exact (h s a).trans ih

/-- A state that differs in the output and the Command Processor alone. -/
theorem sameBut_outCmd {s t : State} (h : t = { s with out := t.out, cmd := t.cmd }) : SameBut [.out, .cmd] s t := by
  intro p hp
  rw [h]
  cases p <;> first | rfl | (exfalso; revert hp; decide)

theorem sameBut_log {s t : State} (h : t = { s with log := t.log }) : SameBut [.log] s t := by
  intro p hp
  rw [h]
  cases p <;> first | rfl | (exfalso; revert hp; decide)

theorem sameBut_ledger {s t : State} (h : t = { s with ledger := t.ledger }) : SameBut [.ledger] s t := by
  intro p hp
  rw [h]
  cases p <;> first | rfl | (exfalso; revert hp; decide)

/-! ### Replies (R278, R284, R287, R295) -/

/-- A reply packet goes out; beside the output only the Command Processor can change. -/
theorem sendBytes_out (s : State) (c : Chan) (l : List Byte) : (sendBytes s c l).out = s.out ++ channelSegments c l := by
  unfold sendBytes; dsimp only; split <;> rfl
theorem sendReply_out (s : State) (c : Chan) (p : Reply) : (sendReply s c p).out = s.out ++ replyOut c p := by
  unfold sendReply
  rw [sendBytes_out]
  simp [State.emit, replyOut]
theorem sendBytes_frame {s : State} {c : Chan} {l : List Byte} : SameBut [.out, .cmd] s (sendBytes s c l) := by
  refine sameBut_outCmd ?_
  unfold sendBytes; dsimp only; split <;> rfl
theorem sendReply_frame {s : State} {c : Chan} {p : Reply} : SameBut [.out, .cmd] s (sendReply s c p) :=
  (sameBut_outCmd (t := s.emit (.reply c p)) rfl).trans sendBytes_frame

theorem sendParts_frame {s : State} {r : Req} {op : U16} {st : Status} {detail : Nat} {more : Bool} {n : Nat} {bs : List Byte} :
    SameBut [.out, .cmd] s (sendParts s r op st detail more n bs) := by
  induction n generalizing s bs with
  | zero => exact sendReply_frame
  | succ n ih => exact sendReply_frame.trans ih

theorem settle_frame {s : State} {r : Req} : SameBut [.out, .cmd] s (settle s r) := sameBut_outCmd rfl

theorem reply_frame {s : State} {r : Req} {op : U16} {st : Status} {detail : Nat} {params : List Byte} :
    SameBut [.out, .cmd] s (reply s r op st detail params) := settle_frame.trans sendParts_frame

theorem ok_frame {s : State} {r : Req} {op : U16} {params : List Byte} : SameBut [.out, .cmd] s (ok s r op params) := reply_frame

theorem countFailure_frame {s : State} {ch : Chan} {st : Status} : SameBut [.out, .cmd] s (countFailure s ch st) := by
  refine sameBut_outCmd ?_
  unfold countFailure
  split
  · rfl
  · split <;> rfl
theorem countFailure_out (s : State) (ch : Chan) (st : Status) : (countFailure s ch st).out = s.out := by
  unfold countFailure
  split
  · rfl
  · split <;> rfl

theorem refuse_frame {s : State} {r : Req} {op : U16} {st : Status} {detail : Nat} : SameBut [.out, .cmd] s (refuse s r op st detail) :=
  countFailure_frame.trans reply_frame

/-- A refused packet has its one reply, and beside the Command Processor and the output nothing changes. -/
theorem reject_frame {s : State} {r : Req} {op : U16} {st : Status} {detail : Nat} : SameBut [.out, .cmd] s (reject s r op st detail) :=
  countFailure_frame.trans sendParts_frame
theorem reject_out (s : State) (r : Req) (op : U16) (st : Status) (detail : Nat) : (reject s r op st detail).out = s.out ++
    replyOut r.ch { opcode := op, tag := r.tag, more := false, urgent := r.urgent, status := st, detail := detail, params := [] } := by
  unfold reject sendParts
  rw [sendReply_out, countFailure_out]

theorem takeArrived_frame {s : State} {r : Req} {op : U16} : SameBut [.out, .cmd] s (takeArrived s r op) := by
  obtain ⟨l, n, h⟩ := takeArrived_eq s r op
  rw [h]
  exact sameBut_outCmd rfl

/-! ### Events and Rind records (R404, R439, R442) -/

/-- An event touches the log alone: it waits in its island's port, or is counted as dropped. -/
theorem event_frame {s : State} {cls code severity : Nat} {unit : U16} {region address detail : Nat} :
    SameBut [.log] s (s.event cls code severity unit region address detail) := sameBut_log rfl
theorem eventFor_frame {s : State} {cls code severity head ld region address : Nat} :
    SameBut [.log] s (s.eventFor cls code severity head ld region address) := sameBut_log rfl

/-- A Rind record touches the Ledger's ring alone, not its array. -/
theorem rindWrite_frame {s : State} {type gen detail rail : Nat} {extra : U8} {addDirty : Nat} :
    SameBut [.ledger] s (rindWrite s type gen detail rail extra addDirty) := sameBut_ledger rfl
theorem rindWrite_array (s : State) (type gen detail rail : Nat) (extra : U8) (addDirty : Nat) :
    (rindWrite s type gen detail rail extra addDirty).ledger.array = s.ledger.array := by
  unfold rindWrite State.onLedger; dsimp only; split <;> rfl

/-! ### Felt messages (R261) -/

theorem setLink_frame {s : State} {t : Nat} {f : Link → Link} : SameBut [.out, .felt] s (setLink s t f) :=
  fun p hp => by cases p <;> first | rfl | (exfalso; revert hp; decide)

theorem onFelt_frame {s : State} {f : Felt → Felt} : SameBut [.out, .felt] s (s.onFelt f) :=
  fun p hp => by cases p <;> first | rfl | (exfalso; revert hp; decide)

/-- Sending what a link has room for touches the link and the output alone. -/
theorem pump_frame {s : State} {t : Nat} : SameBut [.out, .felt] s (pump s t) := by
  unfold pump; dsimp only
  split
  · exact SameBut.refl
  · exact (setLink_frame.trans
      (SameBut.each fun s _ p hp => by cases p <;> first | rfl | (exfalso; revert hp; decide))).trans onFelt_frame

theorem sendFelt_frame {s : State} {t : Nat} {m : FeltMsg} : SameBut [.out, .felt] s (sendFelt s t m) := setLink_frame.trans pump_frame
theorem sendAll_frame {s : State} {m : FeltMsg} : SameBut [.out, .felt] s (sendAll s m) := SameBut.each fun _ _ => sendFelt_frame

/-! ### The Ledger's words (R412) -/

theorem putWord_frame {s : State} {w : Nat} {v : U16} : SameBut [.ledger] s (putWord s w v) := sameBut_ledger rfl

end Sys2Proof.Machine
end

