-- ==== Sys2Proof/Laws/Sound.lean ====
section
/-! SUPPORT. Every operation of the model keeps `Sound`: the epochs in their order and the Ledger's array in its canonical form. One
lemma per operation, `<operation>_sound`, in the order of the operations; an operation that answers a state in an option, in a pair
or as an outcome says it of that state. What a command does, exec's arms, is put together from these: unfold the arm, then apply
them as the lemmas here do. -/


set_option linter.unusedTactic false
set_option linter.unreachableTactic false

namespace Sys2Proof.Machine

/-- A state answered in an option is sound. -/
structure SoundO (o : Option State) : Prop where
  out : ∀ t, o = some t → Sound t
/-- A state answered beside a value, in an option, is sound. -/
structure SoundOP {α : Type} (o : Option (α × State)) : Prop where
  out : ∀ x t, o = some (x, t) → Sound t
/-- A state answered beside a value is sound. -/
structure SoundP {α : Type} (o : α × State) : Prop where
  out : ∀ x t, o = (x, t) → Sound t
/-- A state answered before a value is sound. -/
structure SoundQ {α : Type} (o : State × α) : Prop where
  out : ∀ x t, o = (t, x) → Sound t
/-- A next state is sound. -/
structure SoundR (o : Res State) : Prop where
  out : ∀ t, o = .next t → Sound t
theorem ite_sound {c : Prop} [Decidable c] {a b : State} (ha : Sound a) (hb : Sound b) : Sound (if c then a else b) := by split <;> assumption
theorem soundO_ite {c : Prop} [Decidable c] {a b : Option State} (ha : SoundO a) (hb : SoundO b) : SoundO (if c then a else b) := by split <;> assumption
theorem soundOP_ite {α : Type} {c : Prop} [Decidable c] {a b : Option (α × State)} (ha : SoundOP a) (hb : SoundOP b) : SoundOP (if c then a else b) := by split <;> assumption
theorem soundP_ite {α : Type} {c : Prop} [Decidable c] {a b : α × State} (ha : SoundP a) (hb : SoundP b) : SoundP (if c then a else b) := by split <;> assumption
theorem soundQ_ite {α : Type} {c : Prop} [Decidable c] {a b : State × α} (ha : SoundQ a) (hb : SoundQ b) : SoundQ (if c then a else b) := by split <;> assumption
theorem soundR_ite {c : Prop} [Decidable c] {a b : Res State} (ha : SoundR a) (hb : SoundR b) : SoundR (if c then a else b) := by split <;> assumption
theorem soundO_none : SoundO none := ⟨fun _ e => nomatch e⟩
theorem soundO_some {s : State} (h : Sound s) : SoundO (some s) := ⟨fun _ e => by injection e with e; exact e ▸ h⟩
theorem soundOP_none {α : Type} : SoundOP (none : Option (α × State)) := ⟨fun _ _ e => nomatch e⟩
theorem soundOP_some {α : Type} {x : α} {s : State} (h : Sound s) : SoundOP (some (x, s)) := ⟨fun _ _ e => by injection e with e; injection e with _ e; exact e ▸ h⟩
theorem soundP_mk {α : Type} {x : α} {s : State} (h : Sound s) : SoundP (x, s) := ⟨fun _ _ e => by injection e with _ e; exact e ▸ h⟩
theorem soundQ_mk {α : Type} {x : α} {s : State} (h : Sound s) : SoundQ (s, x) := ⟨fun _ _ e => by injection e with e; exact e ▸ h⟩
theorem soundR_next {s : State} (h : Sound s) : SoundR (.next s) := ⟨fun _ e => by injection e with e; exact e ▸ h⟩

theorem soundO_map {o : Option State} {f : State → State} (h : SoundO o) (g : ∀ s, Sound s → Sound (f s)) : SoundO (o.map f) := by
  cases o with
  | none => exact soundO_none
  | some s => exact soundO_some (g s (h.out s rfl))
theorem soundO_mapP {α : Type} {o : Option (α × State)} {f : α × State → State} (h : SoundOP o) (g : ∀ x s, Sound s → Sound (f (x, s))) : SoundO (o.map f) := by
  cases o with
  | none => exact soundO_none
  | some s => exact soundO_some (g s.1 s.2 (h.out s.1 s.2 rfl))
theorem soundOP_map {α : Type} {o : Option State} {f : State → α × State} (h : SoundO o) (g : ∀ s, Sound s → SoundP (f s)) : SoundOP (o.map f) := by
  cases o with
  | none => exact soundOP_none
  | some s => exact ⟨fun x t e => by injection e with e; exact (g s (h.out s rfl)).out x t e⟩
theorem soundOP_mapP {α β : Type} {o : Option (α × State)} {f : α × State → β × State} (h : SoundOP o) (g : ∀ x s, Sound s → SoundP (f (x, s))) : SoundOP (o.map f) := by
  cases o with
  | none => exact soundOP_none
  | some s => exact ⟨fun x t e => by injection e with e; exact (g s.1 s.2 (h.out s.1 s.2 rfl)).out x t e⟩

theorem Sound.couch {s : State} {c : Couch} (h : Sound s) : Sound { s with couch := c } := h
theorem Sound.pendings {s : State} {c : List Instr} (h : Sound s) : Sound { s with pending := c } := h

theorem State.each_epochs {α : Type} {s : State} {l : List α} {f : State → α → State} (g : ∀ s a, (f s a).epochs = s.epochs) : (s.each l f).epochs = s.epochs := by
  unfold State.each
  induction l generalizing s with
  | nil => rfl
  | cons a l ih => exact (ih (s := f s a)).trans (g s a)
theorem pump_epochs {s : State} {t : Nat} : (pump s t).epochs = s.epochs := by
  unfold pump; dsimp only; split
  · rfl
  · exact State.each_epochs fun _ _ => rfl
theorem sendFelt_epochs {s : State} {t : Nat} {m : FeltMsg} : (sendFelt s t m).epochs = s.epochs := pump_epochs
theorem sendAll_epochs {s : State} {m : FeltMsg} : (sendAll s m).epochs = s.epochs := State.each_epochs fun _ _ => sendFelt_epochs
theorem State.onWire_sound {s : State} {f : Wire → Wire} (h : Sound s) : Sound (s.onWire f) := h

theorem State.onCmd_sound {s : State} {f : Cmd → Cmd} (h : Sound s) : Sound (s.onCmd f) := h

theorem State.onCxl_sound {s : State} {f : Cxl → Cxl} (h : Sound s) : Sound (s.onCxl f) := h

theorem State.onEpochs_sound {s : State} {f : Epochs → Epochs} (h : Sound s) (g : Sound s → EpochsInOrder (f s.epochs)) : Sound (s.onEpochs f) := ⟨g h, h.2⟩

theorem State.onRegions_sound {s : State} {f : Regions → Regions} (h : Sound s) : Sound (s.onRegions f) := h

theorem State.onPpu_sound {s : State} {f : Ppu → Ppu} (h : Sound s) : Sound (s.onPpu f) := h

theorem State.onCurd_sound {s : State} {f : Curd → Curd} (h : Sound s) : Sound (s.onCurd f) := h

theorem State.onDeckle_sound {s : State} {f : Deckle → Deckle} (h : Sound s) : Sound (s.onDeckle f) := h

theorem State.onVat_sound {s : State} {f : Vat → Vat} (h : Sound s) : Sound (s.onVat f) := h

theorem State.onReam_sound {s : State} {f : Ream → Ream} (h : Sound s) : Sound (s.onReam f) := h

theorem State.onCouch_sound {s : State} {f : Couch → Couch} (h : Sound s) : Sound (s.onCouch f) := h

theorem State.onFelt_sound {s : State} {f : Felt → Felt} (h : Sound s) : Sound (s.onFelt f) := h

theorem State.onSal_sound {s : State} {f : Sal → Sal} (h : Sound s) : Sound (s.onSal f) := h

theorem State.onCipher_sound {s : State} {f : Cipher → Cipher} (h : Sound s) : Sound (s.onCipher f) := h

theorem State.onCave_sound {s : State} {f : Cave → Cave} (h : Sound s) : Sound (s.onCave f) := h

theorem State.onPower_sound {s : State} {f : Power → Power} (h : Sound s) : Sound (s.onPower f) := h

theorem State.onLedger_sound {s : State} {f : Ledger → Ledger} (h : Sound s) (g : Sound s → Memory.wf (f s.ledger).array) : Sound (s.onLedger f) := ⟨h.1, g h⟩

theorem State.onLog_sound {s : State} {f : Log → Log} (h : Sound s) : Sound (s.onLog f) := h

theorem State.onUnits_sound {s : State} {f : Units → Units} (h : Sound s) : Sound (s.onUnits f) := h

theorem State.emit_sound {s : State} {o : Out} (h : Sound s) : Sound (s.emit o) := h

theorem State.draw_sound {s : State} (h : Sound s) : Sound s.draw := h

theorem tick_sound {s : State} (h_s : Sound s) : Sound (@tick s) := by
  unfold tick
  repeat' first
    | with_reducible assumption
    | (with_reducible first
        | apply State.onFelt_sound | apply State.onPower_sound | apply ite_sound)

theorem State.each_sound {α : Type} {s : State} {l : List α} {f : State → α → State} (h : Sound s) (g : ∀ s a, Sound s → Sound (f s a)) :
    Sound (s.each l f) := by
  unfold State.each
  induction l generalizing s with
  | nil => exact h
  | cons a l ih => exact ih (g s a h)

theorem State.onlyIf_sound {s : State} {c : Bool} {f : State → State} (h : Sound s) (g : ∀ s, Sound s → Sound (f s)) : Sound (s.onlyIf c f) := by
  unfold State.onlyIf; split
  · exact g s h
  · exact h

theorem unroute_sound {s : State} {i : Island} (h_s : Sound s) : Sound (@unroute s i) := by
  unfold unroute
  repeat' first
    | with_reducible assumption
    | (with_reducible first
        | apply State.onWire_sound)

theorem reroute_sound {s : State} {i : Island} (h_s : Sound s) : Sound (@reroute s i) := by
  unfold reroute
  repeat' first
    | with_reducible assumption
    | (with_reducible first
        | apply State.onWire_sound)

theorem applyOffWait_sound {s : State} (h_s : Sound s) : Sound (@applyOffWait s) := by
  unfold applyOffWait
  repeat' first
    | with_reducible assumption
    | (with_reducible first
        | apply State.onWire_sound)

theorem settleIsland_sound {s : State} {i : Island} {off : Bool} (h_s : Sound s) : Sound (@settleIsland s i off) := by
  unfold settleIsland
  repeat' first
    | with_reducible assumption
    | (with_reducible first
        | apply unroute_sound | apply reroute_sound | apply ite_sound)

theorem changeClock_sound {s : State} {islands : List Island} {step : Nat} (h_s : Sound s) : Sound (@changeClock s islands step) := by
  unfold changeClock
  repeat' first
    | with_reducible assumption
    | (with_reducible first
        | apply State.onWire_sound)

theorem setDram_sound {s : State} {c : Nat} {f : Dram → Dram} (h_s : Sound s) : Sound (@setDram s c f) := h_s

theorem setFlash_sound {s : State} {c : Nat} {f : Flash → Flash} (h_s : Sound s) : Sound (@setFlash s c f) := h_s

theorem setLink_sound {s : State} {t : Nat} {f : Link → Link} (h_s : Sound s) : Sound (@setLink s t f) := h_s

theorem setSensor_sound {s : State} {n : Nat} {f : Sensor → Sensor} (h_s : Sound s) : Sound (@setSensor s n f) := h_s

theorem setRail_sound {s : State} {e : Nat} {f : Rail → Rail} (h_s : Sound s) : Sound (@setRail s e f) := h_s

theorem setEngine_sound {s : State} {e : Nat} {f : Engine → Engine} (h_s : Sound s) : Sound (@setEngine s e f) := h_s

theorem setRegion_sound {s : State} {n : Nat} {f : Region → Region} (h_s : Sound s) : Sound (@setRegion s n f) := h_s

theorem setSession_sound {s : State} {n : Nat} {f : Session → Session} (h_s : Sound s) : Sound (@setSession s n f) := h_s

theorem setLd_sound {s : State} {head : Nat} {ld : Nat} {f : Ld → Ld} (h_s : Sound s) : Sound (@setLd s head ld f) := h_s

theorem setUnit_sound {s : State} {u : UnitId} {f : Unit_ → Unit_} (h_s : Sound s) : Sound (@setUnit s u f) := by
  unfold setUnit
  repeat' first
    | with_reducible assumption
    | (with_reducible first
        | apply setEngine_sound | apply State.onUnits_sound | apply ite_sound)
    | split

theorem countError_sound {s : State} {u : UnitId} {uncorrectable : Bool} (h_s : Sound s) : Sound (@countError s u uncorrectable) := by
  unfold countError
  repeat' first
    | with_reducible assumption
    | (with_reducible first
        | apply setUnit_sound)

theorem postEvent_sound {s : State} {o : Occurrence} (h_s : Sound s) : Sound (@postEvent s o) := h_s

theorem State.event_sound {s : State} {cls : Nat} {code : Nat} {severity : Nat} {unit : U16} {region : Nat} {address : Nat} {detail : Nat} (h_s : Sound s) : Sound (@State.event s cls code severity unit region address detail) := h_s

theorem State.eventFor_sound {s : State} {cls : Nat} {code : Nat} {severity : Nat} {head : Nat} {ld : Nat} {region : Nat} {address : Nat} (h_s : Sound s) : Sound (@State.eventFor s cls code severity head ld region address) := h_s

theorem spendInjection_sound {s : State} {u : UnitId} {kind : Nat} (h_s : Sound s) : Sound (@spendInjection s u kind) := h_s

theorem markInjected_sound {n : Nat} {s : State} (h_s : Sound s) : Sound (@markInjected n s) := h_s

theorem withInjection_sound {s : State} {u : UnitId} {kind : Nat} {f : State → State} (h_s : Sound s) (h_f : ∀ x0, Sound x0 → Sound (f x0)) : Sound (@withInjection s u kind f) := by
  unfold withInjection
  repeat' first
    | with_reducible assumption
    | (with_reducible first
        | apply markInjected_sound | apply spendInjection_sound | apply h_f | apply ite_sound)

theorem pump_sound {s : State} {t : Nat} (h_s : Sound s) : Sound (@pump s t) := by
  unfold pump
  repeat' first
    | with_reducible assumption
    | (refine fun h => ?_; first | exact h.1 | exact h.2 | skip)
    | (with_reducible first
        | apply State.onFelt_sound | apply State.emit_sound | apply State.each_sound | apply setLink_sound
        | apply ite_sound)

theorem sendFelt_sound {s : State} {t : Nat} {m : FeltMsg} (h_s : Sound s) : Sound (@sendFelt s t m) := by
  unfold sendFelt
  repeat' first
    | with_reducible assumption
    | (with_reducible first
        | apply pump_sound | apply setLink_sound)

theorem takeTag_sound {s : State} {t : Nat} (h_s : Sound s) : SoundP (@takeTag s t) := by
  unfold takeTag
  repeat' first
    | with_reducible assumption
    | (with_reducible first
        | apply soundP_mk | apply soundP_ite | apply setLink_sound)

theorem sendAll_sound {s : State} {m : FeltMsg} (h_s : Sound s) : Sound (@sendAll s m) := by
  unfold sendAll
  repeat' first
    | with_reducible assumption
    | (refine fun h => ?_; first | exact h.1 | exact h.2 | skip)
    | (with_reducible first
        | apply State.each_sound | apply sendFelt_sound)

theorem sendOne_sound {s : State} {m : FeltMsg} (h_s : Sound s) : Sound (@sendOne s m) := by
  unfold sendOne
  repeat' first
    | with_reducible assumption
    | (with_reducible first
        | apply sendFelt_sound | apply ite_sound)
    | split

theorem rindWrite_sound {s : State} {type gen detail rail : Nat} {extra : U8} {addDirty : Nat} (h : Sound s) : Sound (rindWrite s type gen detail rail extra addDirty) := by
  unfold rindWrite; refine State.onLedger_sound h fun h => ?_; dsimp only; split <;> exact h.2

theorem rindComplete_sound {s : State} {type : Nat} (h_s : Sound s) : Sound (@rindComplete s type) := h_s

theorem feed_sound {s : State} {n : Nat} {value : Int} {raw : Int} (h_s : Sound s) : Sound (@feed s n value raw) := h_s

theorem takeSample_sound {s : State} {n : Nat} {temp : Int} (h_s : Sound s) : Sound (@takeSample s n temp) := by
  unfold takeSample
  repeat' first
    | with_reducible assumption
    | (with_reducible first
        | apply feed_sound | apply setSensor_sound | apply State.event_sound | apply ite_sound)

theorem recovering_sound {s : State} {n : Nat} (h_s : Sound s) : Sound (@recovering s n) := by
  unfold recovering
  repeat' first
    | with_reducible assumption
    | (with_reducible first
        | apply setSensor_sound | apply ite_sound)

theorem failSensor_sound {s : State} {n : Nat} (h_s : Sound s) : Sound (@failSensor s n) := h_s

theorem convert_sound {s : State} {n : Nat} {temp : Int} (h_s : Sound s) : Sound (@convert s n temp) := by
  unfold convert
  repeat' first
    | with_reducible assumption
    | (with_reducible first
        | apply takeSample_sound | apply recovering_sound | apply failSensor_sound | apply ite_sound)

theorem setChannel_sound {s : State} {ch : Chan} {f : Channel → Channel} (h_s : Sound s) : Sound (@setChannel s ch f) := h_s

theorem sendBytes_sound {s : State} {ch : Chan} {bytes : List Byte} (h : Sound s) : Sound (sendBytes s ch bytes) := by
  unfold sendBytes; dsimp only; split <;> exact h

theorem sendReply_sound {s : State} {ch : Chan} {p : Reply} (h_s : Sound s) : Sound (@sendReply s ch p) := by
  unfold sendReply
  repeat' first
    | with_reducible assumption
    | (with_reducible first
        | apply sendBytes_sound | apply State.emit_sound)

theorem sendParts_sound {s : State} {r : Req} {op : U16} {st : Status} {detail : Nat} {more : Bool} {n : Nat} {bs : List Byte} (h : Sound s) :
    Sound (sendParts s r op st detail more n bs) := by
  induction n generalizing s bs with
  | zero => exact sendReply_sound h
  | succ n ih => exact ih (sendReply_sound h)

theorem settle_sound {s : State} {r : Req} (h_s : Sound s) : Sound (@settle s r) := h_s

theorem reply_sound {s : State} {r : Req} {op : U16} {st : Status} {detail : Nat} {params : List Byte} (h_s : Sound s) : Sound (@reply s r op st detail params) := by
  unfold reply
  repeat' first
    | with_reducible assumption
    | (with_reducible first
        | apply settle_sound | apply sendParts_sound)

theorem replyMore_sound {s : State} {r : Req} {op : U16} (h_s : Sound s) : Sound (@replyMore s r op) := by
  unfold replyMore
  repeat' first
    | with_reducible assumption
    | (with_reducible first
        | apply settle_sound | apply sendParts_sound)

theorem ok_sound {s : State} {r : Req} {op : U16} {params : List Byte} (h_s : Sound s) : Sound (@ok s r op params) := by
  unfold ok
  repeat' first
    | with_reducible assumption
    | (with_reducible first
        | apply reply_sound)

theorem countFailure_sound {s : State} {ch : Chan} {st : Status} (h_s : Sound s) : Sound (@countFailure s ch st) := by
  unfold countFailure
  repeat' first
    | with_reducible assumption
    | (with_reducible first
        | apply setChannel_sound | apply setSession_sound | apply ite_sound)
    | split

theorem refuse_sound {s : State} {r : Req} {op : U16} {st : Status} {detail : Nat} (h_s : Sound s) : Sound (@refuse s r op st detail) := by
  unfold refuse
  repeat' first
    | with_reducible assumption
    | (with_reducible first
        | apply reply_sound | apply countFailure_sound)

theorem reject_sound {s : State} {r : Req} {op : U16} {st : Status} {detail : Nat} (h_s : Sound s) : Sound (@reject s r op st detail) := by
  unfold reject
  repeat' first
    | with_reducible assumption
    | (with_reducible first
        | apply sendParts_sound | apply countFailure_sound)

theorem takeArrived_sound {s : State} {r : Req} {op : U16} (h_s : Sound s) : Sound (@takeArrived s r op) := h_s

theorem command_sound {s : State} {r : Req} {op : U16} {step7 : Option (Status × Nat)} {who : Issuer} {col : Column} {body : State → Session → State} (h_s : Sound s) (h_body : ∀ x0 x1, Sound x0 → Sound (body x0 x1)) : Sound (@command s r op step7 who col body) := by
  unfold command
  repeat' first
    | with_reducible assumption
    | (with_reducible first
        | apply reject_sound | apply takeArrived_sound | apply h_body | apply ite_sound)
    | ((try lift_lets); intro x; first | (have hx : Sound x := ?_; (on_goal 2 => subst x); (on_goal 1 => clear_value x)) | clear_value x | skip)
    | split

theorem checked_sound {s : State} {r : Req} {op : U16} {checks : List (Bool × Status × Nat)} {effect : State → State} (h_s : Sound s) (h_effect : ∀ x0, Sound x0 → Sound (effect x0)) : Sound (@checked s r op checks effect) := by
  unfold checked
  repeat' first
    | with_reducible assumption
    | (with_reducible first
        | apply refuse_sound | apply h_effect | apply ite_sound)
    | split

theorem withRegion_sound {s : State} {r : Req} {op : U16} {x : Session} {n : U16} {off : Nat} {body : Region → State} (h_s : Sound s) (h_body : ∀ x0, Sound (body x0)) : Sound (@withRegion s r op x n off body) := by
  unfold withRegion
  repeat' first
    | with_reducible assumption
    | (with_reducible first
        | apply refuse_sound | apply h_body | apply ite_sound)
    | split

theorem defer_sound {s : State} {x : Session} {r : Req} (h_s : Sound s) : Sound (@defer s x r) := h_s

theorem startLong_sound {s : State} {r : Req} {op : U16} {x : Session} {kind : LongKind} {total : Nat} {unit : Nat} {effect : State → State} (h_s : Sound s) (h_effect : ∀ x0, Sound x0 → Sound (effect x0)) : Sound (@startLong s r op x kind total unit effect) := by
  unfold startLong
  repeat' first
    | with_reducible assumption
    | (with_reducible first
        | apply refuse_sound | apply reply_sound | apply State.onCmd_sound | apply h_effect | apply ite_sound)

theorem endLong_sound {s : State} {o : LongOp} {st : Status} {detail : Nat} {params : List Byte} (h_s : Sound s) : Sound (@endLong s o st detail params) := by
  unfold endLong
  repeat' first
    | with_reducible assumption
    | (with_reducible first
        | apply postEvent_sound | apply State.onCmd_sound | apply sendParts_sound | apply ok_sound
        | apply ite_sound)
    | ((try lift_lets); intro x; first | (have hx : Sound x := ?_; (on_goal 2 => subst x); (on_goal 1 => clear_value x)) | clear_value x | skip)
    | split

theorem endLongOf_sound {s : State} {p : LongKind → Bool} {st : Status} {detail : Nat} {params : List Byte} (h_s : Sound s) : Sound (@endLongOf s p st detail params) := by
  unfold endLongOf
  repeat' first
    | with_reducible assumption
    | (with_reducible first
        | apply endLong_sound | apply ite_sound)
    | split

theorem progressLong_sound {s : State} {p : LongKind → Bool} {done : Nat} {poisoned : Nat} (h_s : Sound s) : Sound (@progressLong s p done poisoned) := h_s

theorem answerJoined_sound {s : State} {q : Option (Req × U16 × Nat)} {st : Status} {detail : Nat} {params : List Byte} (h_s : Sound s) : Sound (@answerJoined s q st detail params) := by
  unfold answerJoined
  repeat' first
    | with_reducible assumption
    | (with_reducible first
        | apply reply_sound | apply ite_sound)
    | split

theorem setBank_sound {s : State} {channel : Nat} {b : Bank} (h_s : Sound s) : Sound (@setBank s channel b) := h_s

theorem neighbourEvent_sound {s : State} {channel : Nat} {b : Bank} (h_s : Sound s) : Sound (@neighbourEvent s channel b) := by
  unfold neighbourEvent
  repeat' first
    | with_reducible assumption
    | (with_reducible first
        | apply setDram_sound | apply State.event_sound | apply setBank_sound | apply ite_sound)

theorem columnCommand_sound {s : State} {channel : Nat} {bank : Nat} {row : Nat} {hold : Bool} {bursts : Nat} (h_s : Sound s) : Sound (@columnCommand s channel bank row hold bursts) := by
  unfold columnCommand
  repeat' first
    | with_reducible assumption
    | (with_reducible first
        | apply setDram_sound | apply setBank_sound | apply neighbourEvent_sound)

theorem pageCommand_sound {s : State} {no : Nat} {bursts : Nat} (h_s : Sound s) : Sound (@pageCommand s no bursts) := by
  unfold pageCommand
  repeat' first
    | with_reducible assumption
    | (with_reducible first
        | apply columnCommand_sound)

theorem rowRequested_sound {s : State} {line : Nat} (h_s : Sound s) : Sound (@rowRequested s line) := by
  unfold rowRequested
  repeat' first
    | with_reducible assumption
    | (with_reducible first
        | apply setBank_sound | apply ite_sound)
    | ((try lift_lets); intro x; first | (have hx : Sound x := ?_; (on_goal 2 => subst x); (on_goal 1 => clear_value x)) | clear_value x | skip)
    | split

theorem watermark_sound {s : State} {channel : Nat} {sub : Nat} (h_s : Sound s) : Sound (@watermark s channel sub) := by
  unfold watermark
  repeat' first
    | with_reducible assumption
    | (with_reducible first
        | apply setDram_sound)

theorem queueWrite_sound {s : State} {line : Nat} {l : Line} {rmw : Bool} (h_s : Sound s) : Sound (@queueWrite s line l rmw) := by
  unfold queueWrite
  repeat' first
    | with_reducible assumption
    | (with_reducible first
        | apply setDram_sound | apply watermark_sound | apply rowRequested_sound | apply ite_sound)
    | ((try lift_lets); intro x; first | (have hx : Sound x := ?_; (on_goal 2 => subst x); (on_goal 1 => clear_value x)) | clear_value x | skip)
    | split

theorem putQuiet_sound {s : State} {e : DirEntry} (h_s : Sound s) : Sound (@putQuiet s e) := h_s

theorem putEntry_sound {s : State} {e : DirEntry} (h_s : Sound s) : Sound (@putEntry s e) := h_s

theorem resolvePage_sound {s : State} {e : DirEntry} (h_s : Sound s) : Sound (@resolvePage s e) := by
  unfold resolvePage
  repeat' first
    | with_reducible assumption
    | (with_reducible first
        | apply putQuiet_sound | apply State.event_sound | apply ite_sound)

theorem resolveBlock_sound {s : State} {page : Nat} (h_s : Sound s) : Sound (@resolveBlock s page) := by
  unfold resolveBlock
  repeat' first
    | with_reducible assumption
    | (refine fun h => ?_; first | exact h.1 | exact h.2 | skip)
    | (with_reducible first
        | apply State.each_sound | apply resolvePage_sound)

theorem writeLocations_sound {s : State} {no : Nat} (h_s : Sound s) : Sound (@writeLocations s no) := by
  unfold writeLocations
  repeat' first
    | with_reducible assumption
    | (with_reducible first
        | apply pageCommand_sound)

theorem zeroSlot_sound {s : State} {no : Nat} (h_s : Sound s) : Sound (@zeroSlot s no) := by
  unfold zeroSlot
  repeat' first
    | with_reducible assumption
    | (with_reducible first
        | apply State.onPpu_sound | apply writeLocations_sound | apply ite_sound)

theorem zeroNext_sound {s : State} (h_s : Sound s) : Sound (@zeroNext s) := by
  unfold zeroNext
  repeat' first
    | with_reducible assumption
    | (with_reducible first
        | apply setDram_sound | apply State.onPpu_sound | apply writeLocations_sound | apply ite_sound)
    | ((try lift_lets); intro x; first | (have hx : Sound x := ?_; (on_goal 2 => subst x); (on_goal 1 => clear_value x)) | clear_value x | skip)
    | split

theorem writeBlock_sound {s : State} {at_ : Nat × Nat} (h_s : Sound s) : Sound (@writeBlock s at_) := by
  unfold writeBlock
  repeat' first
    | with_reducible assumption
    | (with_reducible first
        | apply zeroSlot_sound | apply writeLocations_sound)

theorem loadBlock_sound {s : State} {extent : Nat} (h_s : Sound s) : Sound (@loadBlock s extent) := by
  unfold loadBlock
  repeat' first
    | with_reducible assumption
    | (with_reducible first
        | apply State.onPpu_sound | apply writeBlock_sound | apply ite_sound)
    | split

theorem leaveBlocks_sound {s : State} {gone : Nat → Bool} (h_s : Sound s) : Sound (@leaveBlocks s gone) := by
  unfold leaveBlocks
  repeat' first
    | with_reducible assumption
    | (refine fun h => ?_; first | exact h.1 | exact h.2 | skip)
    | (with_reducible first
        | apply State.onPpu_sound | apply State.each_sound | apply ite_sound)
    | ((try lift_lets); intro x; first | (have hx : Sound x := ?_; (on_goal 2 => subst x); (on_goal 1 => clear_value x)) | clear_value x | skip)
    | split

theorem fetchBlock_sound {s : State} {extent : Nat} (h_s : Sound s) : Sound (@fetchBlock s extent) := by
  unfold fetchBlock
  repeat' first
    | with_reducible assumption
    | (with_reducible first
        | apply State.onPpu_sound | apply ite_sound)

theorem touchDirectory_sound {s : State} {page : Nat} (h_s : Sound s) : Sound (@touchDirectory s page) := by
  unfold touchDirectory
  repeat' first
    | with_reducible assumption
    | (with_reducible first
        | apply resolveBlock_sound | apply State.onPpu_sound | apply loadBlock_sound)

theorem putFrame_sound {s : State} {f : Frame} (h_s : Sound s) : Sound (@putFrame s f) := h_s

theorem setFrame_sound {s : State} {page : Nat} {g : Frame → Frame} (h_s : Sound s) : Sound (@setFrame s page g) := h_s

theorem dropFrame_sound {s : State} {page : Nat} (h_s : Sound s) : Sound (@dropFrame s page) := h_s

theorem assignFrame_sound {s : State} {page : Nat} (h_s : Sound s) : SoundOP (@assignFrame s page) := by
  unfold assignFrame
  repeat' first
    | with_reducible assumption
    | (with_reducible first
        | apply soundOP_none | apply soundOP_some | apply soundOP_ite | apply soundP_mk | apply putFrame_sound
        | apply ite_sound)
    | (refine soundOP_map ?_ fun _ h => ?_; on_goal 2 => (try dsimp only))
    | (refine soundOP_mapP ?_ fun _ _ h => ?_; on_goal 2 => (try dsimp only))
    | split

theorem fillFrame_sound {s : State} {page : Nat} {d : PageData} (h_s : Sound s) : Sound (@fillFrame s page d) := by
  unfold fillFrame
  repeat' first
    | with_reducible assumption
    | (with_reducible first
        | apply setFrame_sound | apply pageCommand_sound | apply ite_sound)
    | ((try lift_lets); intro x; first | (have hx : Sound x := ?_; (on_goal 2 => subst x); (on_goal 1 => clear_value x)) | clear_value x | skip)
    | split

theorem writeFrame_sound {s : State} {line : Nat} {l : Line} {rmw : Bool} (h_s : Sound s) : Sound (@writeFrame s line l rmw) := by
  unfold writeFrame
  repeat' first
    | with_reducible assumption
    | (with_reducible first
        | apply setFrame_sound | apply queueWrite_sound | apply ite_sound)
    | ((try lift_lets); intro x; first | (have hx : Sound x := ?_; (on_goal 2 => subst x); (on_goal 1 => clear_value x)) | clear_value x | skip)
    | split

theorem dramEvent_sound {s : State} {code : Nat} {severity : Nat} {no : Nat} {line : Nat} {device : Nat} {cls : DramClass} {region : Nat} {primary : Nat} (h_s : Sound s) : Sound (@dramEvent s code severity no line device cls region primary) := by
  unfold dramEvent
  repeat' first
    | with_reducible assumption
    | (with_reducible first
        | apply State.event_sound)

theorem poisonFrameLine_sound {s : State} {channel : Nat} {line : Nat} (h_s : Sound s) : Sound (@poisonFrameLine s channel line) := by
  unfold poisonFrameLine
  repeat' first
    | with_reducible assumption
    | (with_reducible first
        | apply setFrame_sound | apply setDram_sound | apply ite_sound)
    | ((try lift_lets); intro x; first | (have hx : Sound x := ?_; (on_goal 2 => subst x); (on_goal 1 => clear_value x)) | clear_value x | skip)
    | split

theorem queueRead_sound {s : State} {line : Nat} {curd : Bool} (h_s : Sound s) : Sound (@queueRead s line curd) := by
  unfold queueRead
  repeat' first
    | with_reducible assumption
    | (with_reducible first
        | apply setDram_sound | apply rowRequested_sound | apply ite_sound)
    | ((try lift_lets); intro x; first | (have hx : Sound x := ?_; (on_goal 2 => subst x); (on_goal 1 => clear_value x)) | clear_value x | skip)
    | split

theorem chargePage_sound {s : State} {page : Nat} {epoch : U32} (h_s : Sound s) : Sound (@chargePage s page epoch) := h_s

theorem consumeCredit_sound {s : State} {port : Nat} (h_s : Sound s) : Sound (@consumeCredit s port) := by
  unfold consumeCredit
  repeat' first
    | with_reducible assumption
    | (with_reducible first
        | apply State.onFelt_sound | apply State.onDeckle_sound | apply ite_sound)

theorem returnCredit_sound {s : State} {port : Nat} (h_s : Sound s) : Sound (@returnCredit s port) := by
  unfold returnCredit
  repeat' first
    | with_reducible assumption
    | (with_reducible first
        | apply State.onFelt_sound | apply State.onDeckle_sound | apply ite_sound)

theorem chargeFor_sound {s : State} {page : Nat} {epoch : U32} {port : Nat} {credit : Bool} (h_s : Sound s) : Sound (@chargeFor s page epoch port credit) := by
  unfold chargeFor
  repeat' first
    | with_reducible assumption
    | (with_reducible first
        | apply chargePage_sound | apply consumeCredit_sound | apply returnCredit_sound | apply ite_sound)

theorem dropCharge_sound {s : State} {page : Nat} (h_s : Sound s) : Sound (@dropCharge s page) := by
  unfold dropCharge
  repeat' first
    | with_reducible assumption
    | (with_reducible first
        | apply putEntry_sound | apply ite_sound)

theorem zeroAllocate_sound {s : State} {page : Nat} (h_s : Sound s) : SoundO (@zeroAllocate s page) := by
  unfold zeroAllocate
  repeat' first
    | with_reducible assumption
    | (with_reducible first
        | apply soundO_none | apply soundO_some | apply soundO_ite | apply fillFrame_sound
        | apply assignFrame_sound | refine (assignFrame_sound ?_).out _ _ (by assumption) | apply putEntry_sound | apply ite_sound)
    | (refine soundO_map ?_ fun _ h => ?_; on_goal 2 => (try dsimp only))
    | (refine soundO_mapP ?_ fun _ _ h => ?_; on_goal 2 => (try dsimp only))

theorem poisonAllocate_sound {s : State} {page : Nat} (h_s : Sound s) : SoundO (@poisonAllocate s page) := by
  unfold poisonAllocate
  repeat' first
    | with_reducible assumption
    | (with_reducible first
        | apply soundO_none | apply soundO_some | apply soundO_ite | apply fillFrame_sound
        | apply assignFrame_sound | refine (assignFrame_sound ?_).out _ _ (by assumption) | apply putEntry_sound | apply ite_sound)
    | (refine soundO_map ?_ fun _ h => ?_; on_goal 2 => (try dsimp only))
    | (refine soundO_mapP ?_ fun _ _ h => ?_; on_goal 2 => (try dsimp only))

theorem startFetch_sound {s : State} {page : Nat} {prefetch : Bool} (h : Sound s) : Sound (startFetch s page prefetch) := by
  have hp : SoundP (match assignFrame s page with | some (n, s) => (some n, s) | none => ((none : Option Nat), s)) := by
    split
    · next e => exact soundP_mk ((assignFrame_sound h).out _ _ e)
    · exact soundP_mk h
  unfold startFetch; dsimp only
  split
  · exact h
  · split
    · exact State.onPpu_sound h
    · have h2 := hp.out _ _ rfl
      split
      · exact putEntry_sound (State.onPpu_sound h2)
      · exact putQuiet_sound (State.onPpu_sound h2)
      · exact putQuiet_sound (State.onPpu_sound h2)

theorem startKept_sound {s : State} {page : Nat} (h_s : Sound s) : Sound (@startKept s page) := by
  unfold startKept
  repeat' first
    | with_reducible assumption
    | (with_reducible first
        | apply startFetch_sound | apply State.onPpu_sound)

theorem formStaged_sound {s : State} {page : Nat} (h_s : Sound s) : Sound (@formStaged s page) := by
  unfold formStaged
  repeat' first
    | with_reducible assumption
    | (with_reducible first
        | apply fillFrame_sound | apply assignFrame_sound
        | refine (assignFrame_sound ?_).out _ _ (by assumption) | apply putEntry_sound | apply ite_sound)
    | ((try lift_lets); intro x; first | (have hx : Sound x := ?_; (on_goal 2 => subst x); (on_goal 1 => clear_value x)) | clear_value x | skip)
    | split

theorem touchWay_sound {s : State} {line : Nat} {way : Nat} {last : Bool} (h_s : Sound s) : Sound (@touchWay s line way last) := h_s

theorem setLine_sound {s : State} {line : Nat} {f : CurdLine → CurdLine} (h_s : Sound s) : Sound (@setLine s line f) := h_s

theorem dropLine_sound {s : State} {line : Nat} (h_s : Sound s) : Sound (@dropLine s line) := h_s

theorem sliceCorrected_sound {s : State} {i : Nat} (h_s : Sound s) : Sound (@sliceCorrected s i) := by
  unfold sliceCorrected
  repeat' first
    | with_reducible assumption
    | (with_reducible first
        | apply countError_sound | apply State.event_sound | apply State.onCurd_sound | apply ite_sound)

theorem stuckAccess_sound {s : State} {line : Nat} {way : Nat} (h_s : Sound s) : Sound (@stuckAccess s line way) := by
  unfold stuckAccess
  repeat' first
    | with_reducible assumption
    | (with_reducible first
        | apply sliceCorrected_sound | apply ite_sound)

theorem stuckLine_sound {s : State} {line : Nat} (h_s : Sound s) : Sound (@stuckLine s line) := by
  unfold stuckLine
  repeat' first
    | with_reducible assumption
    | (with_reducible first
        | apply stuckAccess_sound | apply ite_sound)
    | split

theorem pushVictim_sound {s : State} {v : CurdLine} (h_s : Sound s) : Sound (@pushVictim s v) := by
  unfold pushVictim
  repeat' first
    | with_reducible assumption
    | (with_reducible first
        | apply stuckAccess_sound | apply State.onCurd_sound)

theorem takeWay_sound {s : State} {line : Nat} (h_s : Sound s) : SoundOP (@takeWay s line) := by
  unfold takeWay
  repeat' first
    | with_reducible assumption
    | (with_reducible first
        | apply soundOP_none | apply soundOP_some | apply soundOP_ite | apply soundP_mk
        | apply pushVictim_sound | apply ite_sound)
    | (refine soundOP_map ?_ fun _ h => ?_; on_goal 2 => (try dsimp only))
    | (refine soundOP_mapP ?_ fun _ _ h => ?_; on_goal 2 => (try dsimp only))
    | ((try lift_lets); intro x; first | (have hx : Sound x := ?_; (on_goal 2 => subst x); (on_goal 1 => clear_value x)) | clear_value x | skip)
    | split

theorem allocateLine_sound {s : State} {line : Nat} {st : LineSt} {data : Line} {epoch : U32} (h_s : Sound s) : SoundO (@allocateLine s line st data epoch) := by
  unfold allocateLine
  repeat' first
    | with_reducible assumption
    | (with_reducible first
        | apply soundO_none | apply soundO_some | apply soundO_ite | apply takeWay_sound
        | refine (takeWay_sound ?_).out _ _ (by assumption) | apply setLine_sound | apply touchWay_sound | apply State.onCurd_sound
        | apply ite_sound)
    | (refine soundO_map ?_ fun _ h => ?_; on_goal 2 => (try dsimp only))
    | (refine soundO_mapP ?_ fun _ _ h => ?_; on_goal 2 => (try dsimp only))
    | split

theorem invalidatePage_sound {s : State} {page : Nat} (h_s : Sound s) : Sound (@invalidatePage s page) := h_s

theorem gatherPage_sound {s : State} {page : Nat} (h_s : Sound s) : Sound (@gatherPage s page) := by
  unfold gatherPage
  repeat' first
    | with_reducible assumption
    | (refine fun h => ?_; first | exact h.1 | exact h.2 | skip)
    | (with_reducible first
        | apply setFrame_sound | apply stuckAccess_sound | apply State.each_sound | apply putEntry_sound
        | apply State.onCurd_sound | apply ite_sound)

theorem freeExtent_sound {s : State} {e : Nat} (h_s : Sound s) : Sound (@freeExtent s e) := by
  unfold freeExtent
  repeat' first
    | with_reducible assumption
    | (refine fun h => ?_; first | exact h.1 | exact h.2 | skip)
    | (with_reducible first
        | apply State.onPpu_sound | apply consumeCredit_sound | apply State.each_sound
        | apply State.onReam_sound | apply State.onCurd_sound)

theorem logRoot_sound {s : State} {records : List (Nat × BitVec 40 × Nat)} (h_s : Sound s) : Sound (@logRoot s records) := by
  unfold logRoot
  repeat' first
    | with_reducible assumption
    | (with_reducible first
        | apply State.onRegions_sound | apply State.onReam_sound)

theorem writeTail_sound {s : State} {n : Nat} (h_s : Sound s) : Sound (@writeTail s n) := by
  unfold writeTail
  repeat' first
    | with_reducible assumption
    | (with_reducible first
        | apply State.onRegions_sound | apply State.onReam_sound)

theorem allocateExtent_sound {s : State} {e : Nat} (h_s : Sound s) : Sound (@allocateExtent s e) := by
  unfold allocateExtent
  repeat' first
    | with_reducible assumption
    | (with_reducible first
        | apply logRoot_sound | apply State.onReam_sound | apply loadBlock_sound)

theorem loseDirectory_sound {s : State} {pages : List Nat} (h_s : Sound s) : Sound (@loseDirectory s pages) := by
  unfold loseDirectory
  repeat' first
    | with_reducible assumption
    | (refine fun h => ?_; first | exact h.1 | exact h.2 | skip)
    | (with_reducible first
        | apply invalidatePage_sound | apply dropFrame_sound | apply State.onPpu_sound
        | apply State.event_sound | apply State.each_sound | apply putEntry_sound | apply ite_sound)

theorem losePage_sound {s : State} {page : Nat} (h_s : Sound s) : Sound (@losePage s page) := by
  unfold losePage
  repeat' first
    | with_reducible assumption
    | (with_reducible first
        | apply fillFrame_sound | apply gatherPage_sound | apply assignFrame_sound
        | refine (assignFrame_sound ?_).out _ _ (by assumption) | apply dropFrame_sound | apply State.event_sound | apply putEntry_sound
        | apply State.onCurd_sound | apply ite_sound)
    | ((try lift_lets); intro x; first | (have hx : Sound x := ?_; (on_goal 2 => subst x); (on_goal 1 => clear_value x)) | clear_value x | skip)
    | split

theorem walkSlices_sound {s : State} {which : Nat → Bool} (h_s : Sound s) : Sound (@walkSlices s which) := by
  unfold walkSlices
  repeat' first
    | with_reducible assumption
    | (refine fun h => ?_; first | exact h.1 | exact h.2 | skip)
    | (with_reducible first
        | apply stuckAccess_sound | apply State.each_sound | apply setLine_sound | apply State.onCurd_sound
        | apply ite_sound)

theorem walkDrain_sound {s : State} (h_s : Sound s) : Sound (@walkDrain s) := by
  unfold walkDrain
  repeat' first
    | with_reducible assumption
    | (with_reducible first
        | apply walkSlices_sound | apply ite_sound)

theorem retarget_sound {s : State} (h_s : Sound s) : Sound (@retarget s) := by
  unfold retarget
  repeat' first
    | with_reducible assumption
    | (refine fun h => ?_; first | exact h.1 | exact h.2 | skip)
    | (with_reducible first
        | apply walkDrain_sound | apply State.each_sound | apply reroute_sound | apply State.onCurd_sound
        | apply ite_sound)

theorem force_sound {s : State} {bit : Nat} (h_s : Sound s) : Sound (@force s bit) := by
  unfold force
  repeat' first
    | with_reducible assumption
    | (with_reducible first
        | apply retarget_sound | apply State.onCurd_sound)

theorem unforce_sound {s : State} {bit : Nat} (h_s : Sound s) : Sound (@unforce s bit) := by
  unfold unforce
  repeat' first
    | with_reducible assumption
    | (with_reducible first
        | apply retarget_sound | apply State.onCurd_sound)

theorem settleForce_sound {s : State} (h_s : Sound s) : Sound (@settleForce s) := by
  unfold settleForce
  repeat' first
    | with_reducible assumption
    | (with_reducible first
        | apply unforce_sound | apply ite_sound)

theorem endInjections_sound {s : State} {u : UnitId} (h_s : Sound s) : Sound (@endInjections s u) := by
  unfold endInjections
  repeat' first
    | with_reducible assumption
    | (with_reducible first
        | apply settleForce_sound | apply State.onCmd_sound)

theorem bypassSlices_sound {s : State} (h_s : Sound s) : Sound (@bypassSlices s) := by
  unfold bypassSlices
  repeat' first
    | with_reducible assumption
    | (refine fun h => ?_; first | exact h.1 | exact h.2 | skip)
    | (with_reducible first
        | apply unroute_sound | apply State.onUnits_sound | apply State.each_sound | apply State.onCurd_sound
        | apply ite_sound)
    | split

theorem fenceSlice_sound {s : State} {i : Nat} (h_s : Sound s) : Sound (@fenceSlice s i) := by
  unfold fenceSlice
  repeat' first
    | with_reducible assumption
    | (with_reducible first
        | apply bypassSlices_sound | apply walkDrain_sound | apply setUnit_sound | apply endInjections_sound
        | apply State.onUnits_sound)

theorem failSlice_sound {s : State} {i : Nat} (h_s : Sound s) : Sound (@failSlice s i) := by
  unfold failSlice
  repeat' first
    | with_reducible assumption
    | (with_reducible first
        | apply State.event_sound | apply fenceSlice_sound | apply ite_sound)

theorem sliceSpoiled_sound {s : State} {i : Nat} (h_s : Sound s) : Sound (@sliceSpoiled s i) := by
  unfold sliceSpoiled
  repeat' first
    | with_reducible assumption
    | (with_reducible first
        | apply countError_sound | apply failSlice_sound | apply State.onCurd_sound | apply ite_sound)

theorem stickCell_sound {s : State} {i : Nat} {cell : Nat} (h_s : Sound s) : Sound (@stickCell s i cell) := by
  unfold stickCell
  repeat' first
    | with_reducible assumption
    | (with_reducible first
        | apply failSlice_sound | apply State.onCurd_sound | apply ite_sound)

theorem poisonDirty_sound {s : State} {line : Nat} (h_s : Sound s) : Sound (@poisonDirty s line) := by
  unfold poisonDirty
  repeat' first
    | with_reducible assumption
    | (with_reducible first
        | apply sliceSpoiled_sound | apply setLine_sound | apply State.onCurd_sound | apply dropLine_sound
        | apply ite_sound)
    | split

theorem spoilLine_sound {s : State} {line : Nat} (h_s : Sound s) : Sound (@spoilLine s line) := by
  unfold spoilLine
  repeat' first
    | with_reducible assumption
    | (with_reducible first
        | apply State.event_sound | apply poisonDirty_sound | apply ite_sound)

theorem readInjected_sound {s : State} {line : Nat} (h_s : Sound s) : Sound (@readInjected s line) := by
  unfold readInjected
  repeat' first
    | with_reducible assumption
    | (refine fun h => ?_; first | exact h.1 | exact h.2 | skip)
    | (with_reducible first
        | apply sliceCorrected_sound | apply settleForce_sound | apply spoilLine_sound | apply setLine_sound
        | apply withInjection_sound | apply ite_sound)

theorem reserveRuns_sound {s : State} {runs : List (Nat × Nat)} (h_s : Sound s) : Sound (@reserveRuns s runs) := h_s

theorem unreserve_sound {s : State} {runs : List (Nat × Nat)} (h_s : Sound s) : Sound (@unreserve s runs) := h_s

theorem setKeySlot_sound {s : State} {n : Nat} {f : KeySlot → KeySlot} (h_s : Sound s) : Sound (@setKeySlot s n f) := h_s

theorem queueCipher_sound {s : State} {slot : Option Nat} {gen : Nat} {level : Nat} (h_s : Sound s) : Sound (@queueCipher s slot gen level) := by
  unfold queueCipher
  repeat' first
    | with_reducible assumption
    | (with_reducible first
        | apply State.onCipher_sound)

theorem bindSlot_sound {s : State} {slot : Nat} {region : Nat} (h_s : Sound s) : Sound (@bindSlot s slot region) := h_s

theorem restoreKeys_sound {s : State} (h_s : Sound s) : Sound (@restoreKeys s) := by
  unfold restoreKeys
  repeat' first
    | with_reducible assumption
    | (with_reducible first
        | apply State.onCipher_sound)

theorem keyRegion_sound {s : State} {region : Nat} (h_s : Sound s) : Sound (@keyRegion s region) := by
  unfold keyRegion
  repeat' first
    | with_reducible assumption
    | (with_reducible first
        | apply bindSlot_sound | apply State.event_sound | apply ite_sound)
    | split

theorem retireSlot_sound {s : State} {slot : Nat} (h_s : Sound s) : Sound (@retireSlot s slot) := h_s

theorem rollKeys_sound {s : State} (h_s : Sound s) : Sound (@rollKeys s) := by
  unfold rollKeys
  repeat' first
    | with_reducible assumption
    | (refine fun h => ?_; first | exact h.1 | exact h.2 | skip)
    | (with_reducible first
        | apply State.each_sound | apply setKeySlot_sound | apply ite_sound)

theorem repin_sound {s : State} {page : Nat} (h_s : Sound s) : Sound (@repin s page) := by
  unfold repin
  repeat' first
    | with_reducible assumption
    | (with_reducible first
        | apply putEntry_sound | apply ite_sound)

theorem pinPage_sound {s : State} {page : Nat} (h_s : Sound s) : Sound (@pinPage s page) := by
  unfold pinPage
  repeat' first
    | with_reducible assumption
    | (with_reducible first
        | apply startKept_sound | apply resolveBlock_sound | apply repin_sound | apply ite_sound)

theorem pinRegion_sound {s : State} {num : Nat} (h_s : Sound s) : Sound (@pinRegion s num) := by
  unfold pinRegion
  repeat' first
    | with_reducible assumption
    | (refine fun h => ?_; first | exact h.1 | exact h.2 | skip)
    | (with_reducible first
        | apply setRegion_sound | apply State.each_sound | apply pinPage_sound | apply ite_sound)
    | ((try lift_lets); intro x; first | (have hx : Sound x := ?_; (on_goal 2 => subst x); (on_goal 1 => clear_value x)) | clear_value x | skip)
    | split

theorem unpinRegion_sound {s : State} {num : Nat} (h_s : Sound s) : Sound (@unpinRegion s num) := by
  unfold unpinRegion
  repeat' first
    | with_reducible assumption
    | (refine fun h => ?_; first | exact h.1 | exact h.2 | skip)
    | (with_reducible first
        | apply repin_sound | apply setRegion_sound | apply State.each_sound | apply ite_sound)
    | ((try lift_lets); intro x; first | (have hx : Sound x := ?_; (on_goal 2 => subst x); (on_goal 1 => clear_value x)) | clear_value x | skip)
    | split

theorem endPins_sound {s : State} {num : Nat} {which : Pin → Bool} (h_s : Sound s) : Sound (@endPins s num which) := by
  unfold endPins
  repeat' first
    | with_reducible assumption
    | (refine fun h => ?_; first | exact h.1 | exact h.2 | skip)
    | (with_reducible first
        | apply repin_sound | apply setSession_sound | apply State.each_sound | apply ite_sound)
    | ((try lift_lets); intro x; first | (have hx : Sound x := ?_; (on_goal 2 => subst x); (on_goal 1 => clear_value x)) | clear_value x | skip)
    | split

theorem offerRuns_sound {s : State} {num : Nat} {head : Nat} {ld : Nat} {access : Access} {runs : List (Nat × Nat)} (h_s : Sound s) : Sound (@offerRuns s num head ld access runs) := by
  unfold offerRuns
  repeat' first
    | with_reducible assumption
    | (with_reducible first
        | apply setLd_sound | apply State.emit_sound | apply ite_sound)

theorem offerRest_sound {s : State} {r : Region} {head : Nat} {ld : Nat} (h_s : Sound s) : Sound (@offerRest s r head ld) := by
  unfold offerRest
  repeat' first
    | with_reducible assumption
    | (with_reducible first
        | apply offerRuns_sound)

theorem offerIdentity_sound {s : State} {head : Nat} {ld : Nat} (h_s : Sound s) : Sound (@offerIdentity s head ld) := by
  unfold offerIdentity
  repeat' first
    | with_reducible assumption
    | (refine fun h => ?_; first | exact h.1 | exact h.2 | skip)
    | (with_reducible first
        | apply State.each_sound | apply offerRest_sound)

theorem startRelease_sound {s : State} {num : Nat} {head : Nat} {ld : Nat} {runs : List (Nat × Nat)} {why : ReleaseFor} {access : Access} (h_s : Sound s) : Sound (@startRelease s num head ld runs why access) := h_s

theorem startResync_sound {s : State} {num : Nat} (h_s : Sound s) : Sound (@startResync s num) := by
  unfold startResync
  repeat' first
    | with_reducible assumption
    | (with_reducible first
        | apply State.draw_sound | apply State.onFelt_sound | apply setRegion_sound | apply ite_sound)
    | ((try lift_lets); intro x; first | (have hx : Sound x := ?_; (on_goal 2 => subst x); (on_goal 1 => clear_value x)) | clear_value x | skip)
    | split

theorem applyFlags_sound {s : State} {num : Nat} {flags : U32} (h_s : Sound s) : Sound (@applyFlags s num flags) := by
  unfold applyFlags
  repeat' first
    | with_reducible assumption
    | (with_reducible first
        | apply pinRegion_sound | apply keyRegion_sound | apply unpinRegion_sound | apply startResync_sound
        | apply setRegion_sound | apply ite_sound)
    | ((try lift_lets); intro x; first | (have hx : Sound x := ?_; (on_goal 2 => subst x); (on_goal 1 => clear_value x)) | clear_value x | skip)
    | split

theorem setGrant_sound {s : State} {num : Nat} {head : Nat} {ld : Nat} {access : Access} (h_s : Sound s) : Sound (@setGrant s num head ld access) := h_s

theorem takeToken_sound {s : State} {num : Nat} {holder : Nat} {generation : U32} (h_s : Sound s) : Sound (@takeToken s num holder generation) := h_s

theorem pinLimitEvent_sound {s : State} {num : Nat} (h_s : Sound s) : Sound (@pinLimitEvent s num) := h_s

theorem createRegion_sound {s : State} {num : Nat} {size : Nat} {flags : U32} {runs : List (Nat × Nat)} {epoch : Nat} (h_s : Sound s) : Sound (@createRegion s num size flags runs epoch) := by
  unfold createRegion
  repeat' first
    | with_reducible assumption
    | (refine fun h => ?_; first | exact h.1 | exact h.2 | skip)
    | (with_reducible first
        | apply State.onRegions_sound | apply keyRegion_sound | apply allocateExtent_sound
        | apply State.each_sound | apply pinLimitEvent_sound | apply unreserve_sound | apply ite_sound)

theorem releaseExtent_sound {s : State} {e : Nat} (h_s : Sound s) : Sound (@releaseExtent s e) := by
  unfold releaseExtent
  repeat' first
    | with_reducible assumption
    | (refine fun h => ?_; first | exact h.1 | exact h.2 | skip)
    | (with_reducible first
        | apply freeExtent_sound | apply State.onCxl_sound | apply State.emit_sound | apply State.each_sound)

theorem destroyRegion_sound {s : State} {num : Nat} (h_s : Sound s) : Sound (@destroyRegion s num) := by
  unfold destroyRegion
  repeat' first
    | with_reducible assumption
    | (refine fun h => ?_; first | exact h.1 | exact h.2 | skip)
    | (with_reducible first
        | apply releaseExtent_sound | apply State.onRegions_sound | apply State.onFelt_sound
        | apply retireSlot_sound | apply State.onCmd_sound | apply State.each_sound | apply ite_sound)
    | ((try lift_lets); intro x; first | (have hx : Sound x := ?_; (on_goal 2 => subst x); (on_goal 1 => clear_value x)) | clear_value x | skip)
    | split

theorem shrinkRegion_sound {s : State} {num : Nat} {size : Nat} (h_s : Sound s) : Sound (@shrinkRegion s num size) := by
  unfold shrinkRegion
  repeat' first
    | with_reducible assumption
    | (refine fun h => ?_; first | exact h.1 | exact h.2 | skip)
    | (with_reducible first
        | apply releaseExtent_sound | apply setRegion_sound | apply State.each_sound | apply ite_sound)
    | ((try lift_lets); intro x; first | (have hx : Sound x := ?_; (on_goal 2 => subst x); (on_goal 1 => clear_value x)) | clear_value x | skip)
    | split

theorem growRegion_sound {s : State} {num : Nat} {size : Nat} {runs : List (Nat × Nat)} (h_s : Sound s) : Sound (@growRegion s num size runs) := by
  unfold growRegion
  repeat' first
    | with_reducible assumption
    | (refine fun h => ?_; first | exact h.1 | exact h.2 | skip)
    | (with_reducible first
        | apply pinRegion_sound | apply allocateExtent_sound | apply unpinRegion_sound | apply setRegion_sound
        | apply State.each_sound | apply pinLimitEvent_sound | apply unreserve_sound | apply offerRuns_sound | apply ite_sound)
    | ((try lift_lets); intro x; first | (have hx : Sound x := ?_; (on_goal 2 => subst x); (on_goal 1 => clear_value x)) | clear_value x | skip)
    | split

theorem applyStart_sound {s : State} {epoch : Nat} {c : Change} (h_s : Sound s) : Sound (@applyStart s epoch c) := by
  unfold applyStart
  repeat' first
    | with_reducible assumption
    | (with_reducible first
        | apply State.onRegions_sound | apply growRegion_sound | apply applyFlags_sound
        | apply watermark_sound | apply State.onFelt_sound | apply takeToken_sound | apply createRegion_sound | apply State.event_sound
        | apply force_sound | apply setGrant_sound | apply ite_sound)
    | split

theorem dropReq_sound {s : State} {age : Nat} (h_s : Sound s) : Sound (@dropReq s age) := h_s

theorem keepReq_sound {s : State} {q : HostReq} (h_s : Sound s) : Sound (@keepReq s q) := h_s

theorem park_sound {s : State} {q : HostReq} {st : ReqSt} (h_s : Sound s) : Sound (@park s q st) := h_s

theorem turnAway_sound {s : State} {q : HostReq} {u : Refuser} (h_s : Sound s) : Sound (@turnAway s q u) := by
  unfold turnAway
  repeat' first
    | with_reducible assumption
    | (with_reducible first
        | apply keepReq_sound)

theorem sliceRetry_sound {s : State} {q : HostReq} (h_s : Sound s) : Sound (@sliceRetry s q) := by
  unfold sliceRetry
  repeat' first
    | with_reducible assumption
    | (with_reducible first
        | apply turnAway_sound)

theorem countDeadline_sound {s : State} {q : HostReq} (h_s : Sound s) : Sound (@countDeadline s q) := by
  unfold countDeadline
  repeat' first
    | with_reducible assumption
    | (with_reducible first
        | apply setRegion_sound | apply ite_sound)
    | split

theorem answerRead_sound {s : State} {q : HostReq} {l : Line} (h_s : Sound s) : Sound (@answerRead s q l) := by
  unfold answerRead
  repeat' first
    | with_reducible assumption
    | (with_reducible first
        | apply countDeadline_sound | apply dropReq_sound | apply State.eventFor_sound
        | apply State.emit_sound | apply ite_sound)

theorem zeroDone_sound {s : State} {mark : Nat} (h_s : Sound s) : Sound (@zeroDone s mark) := by
  unfold zeroDone
  repeat' first
    | with_reducible assumption
    | (with_reducible first
        | apply answerJoined_sound | apply endLongOf_sound | apply State.onCmd_sound | apply ok_sound
        | apply ite_sound)
    | ((try lift_lets); intro x; first | (have hx : Sound x := ?_; (on_goal 2 => subst x); (on_goal 1 => clear_value x)) | clear_value x | skip)
    | split

theorem answerWrite_sound {s : State} {q : HostReq} (h_s : Sound s) : Sound (@answerWrite s q) := by
  unfold answerWrite
  repeat' first
    | with_reducible assumption
    | (with_reducible first
        | apply zeroDone_sound | apply dropReq_sound | apply State.emit_sound | apply sendFelt_sound
        | apply ite_sound)

theorem localPlaced_sound {s : State} {q : HostReq} (h_s : Sound s) : Sound (@localPlaced s q) := by
  unfold localPlaced
  repeat' first
    | with_reducible assumption
    | (with_reducible first
        | apply park_sound | apply answerWrite_sound | apply ite_sound)

theorem askTwin_sound {s : State} {q : HostReq} (h_s : Sound s) : Sound (@askTwin s q) := by
  unfold askTwin
  repeat' first
    | with_reducible assumption
    | (with_reducible first
        | apply takeTag_sound | refine (takeTag_sound ?_).out _ _ (by assumption) | apply keepReq_sound
        | apply sendFelt_sound | apply ite_sound)
    | refine (takeTag_sound ?_).out _ _ rfl
    | ((try lift_lets); intro x; first | (have hx : Sound x := ?_; (on_goal 2 => subst x); (on_goal 1 => clear_value x)) | clear_value x | skip)
    | split

theorem estimateTwin_sound {s : State} {q : HostReq} (h_s : Sound s) : Sound (@estimateTwin s q) := by
  unfold estimateTwin
  repeat' first
    | with_reducible assumption
    | (with_reducible first
        | apply askTwin_sound | apply State.draw_sound | apply ite_sound)
    | split

theorem fetchAhead_sound {s : State} {r : Region} {first : Nat} {depth : Nat} {ascending : Bool} (h_s : Sound s) : Sound (@fetchAhead s r first depth ascending) := by
  unfold fetchAhead
  repeat' first
    | with_reducible assumption
    | (refine fun h => ?_; first | exact h.1 | exact h.2 | skip)
    | (with_reducible first
        | apply startFetch_sound | apply State.each_sound | apply ite_sound)
    | ((try lift_lets); intro x; first | (have hx : Sound x := ?_; (on_goal 2 => subst x); (on_goal 1 => clear_value x)) | clear_value x | skip)
    | split

theorem noteMiss_sound {s : State} {r : Region} {k : Nat} (h_s : Sound s) : Sound (@noteMiss s r k) := by
  unfold noteMiss
  repeat' first
    | with_reducible assumption
    | (with_reducible first
        | apply fetchAhead_sound | apply setRegion_sound | apply ite_sound)

theorem streamAccess_sound {s : State} {r : Region} {k : Nat} (h_s : Sound s) : Sound (@streamAccess s r k) := by
  unfold streamAccess
  repeat' first
    | with_reducible assumption
    | (with_reducible first
        | apply fetchAhead_sound | apply State.onPpu_sound | apply setRegion_sound | apply ite_sound)

theorem notePage_sound {s : State} {q : HostReq} (h_s : Sound s) : Sound (@notePage s q) := by
  unfold notePage
  repeat' first
    | with_reducible assumption
    | (with_reducible first
        | apply streamAccess_sound | apply ite_sound)
    | split

theorem notePageMiss_sound {s : State} {q : HostReq} (h_s : Sound s) : Sound (@notePageMiss s q) := by
  unfold notePageMiss
  repeat' first
    | with_reducible assumption
    | (with_reducible first
        | apply noteMiss_sound | apply ite_sound)
    | split

theorem waitBlock_sound {s : State} {q : HostReq} (h_s : Sound s) : Sound (@waitBlock s q) := by
  unfold waitBlock
  repeat' first
    | with_reducible assumption
    | (with_reducible first
        | apply park_sound | apply fetchBlock_sound)

theorem waitFetch_sound {s : State} {q : HostReq} (h_s : Sound s) : Sound (@waitFetch s q) := by
  unfold waitFetch
  repeat' first
    | with_reducible assumption
    | (with_reducible first
        | apply park_sound | apply startFetch_sound | apply estimateTwin_sound | apply notePageMiss_sound
        | apply ite_sound)

theorem readFrame_sound {s : State} {q : HostReq} {f : Frame} {wb : Bool} (h_s : Sound s) : Sound (@readFrame s q f wb) := by
  unfold readFrame
  repeat' first
    | with_reducible assumption
    | (with_reducible first
        | apply queueRead_sound | apply park_sound | apply allocateLine_sound
        | refine (allocateLine_sound ?_).out _ (by assumption) | apply turnAway_sound | apply sliceRetry_sound | apply answerRead_sound
        | apply ite_sound)
    | ((try lift_lets); intro x; first | (have hx : Sound x := ?_; (on_goal 2 => subst x); (on_goal 1 => clear_value x)) | clear_value x | skip)
    | split

theorem readUnframed_sound {s : State} {q : HostReq} {wb : Bool} (h_s : Sound s) : Sound (@readUnframed s q wb) := by
  unfold readUnframed
  repeat' first
    | with_reducible assumption
    | (with_reducible first
        | apply waitFetch_sound | apply allocateLine_sound
        | refine (allocateLine_sound ?_).out _ (by assumption) | apply sliceRetry_sound | apply answerRead_sound | apply ite_sound)
    | ((try lift_lets); intro x; first | (have hx : Sound x := ?_; (on_goal 2 => subst x); (on_goal 1 => clear_value x)) | clear_value x | skip)
    | split

theorem serveRead_sound {s : State} {q : HostReq} (h_s : Sound s) : Sound (@serveRead s q) := by
  unfold serveRead
  repeat' first
    | with_reducible assumption
    | (with_reducible first
        | apply touchDirectory_sound | apply waitBlock_sound | apply readInjected_sound | apply park_sound
        | apply stuckAccess_sound | apply readUnframed_sound | apply readFrame_sound | apply formStaged_sound | apply touchWay_sound
        | apply answerRead_sound | apply ite_sound)
    | ((try lift_lets); intro x; first | (have hx : Sound x := ?_; (on_goal 2 => subst x); (on_goal 1 => clear_value x)) | clear_value x | skip)
    | split

theorem sendCharge_sound {s : State} {q : HostReq} (h_s : Sound s) : Sound (@sendCharge s q) := h_s

theorem releaseCredit_sound {s : State} {q : HostReq} (h_s : Sound s) : Sound (@releaseCredit s q) := by
  unfold releaseCredit
  repeat' first
    | with_reducible assumption
    | (with_reducible first
        | apply returnCredit_sound | apply ite_sound)

theorem trackStore_sound {s : State} {port : Nat} {line : Nat} (h_s : Sound s) : SoundP (@trackStore s port line) := by
  unfold trackStore
  repeat' first
    | with_reducible assumption
    | (with_reducible first
        | apply soundP_mk | apply soundP_ite | apply State.onCurd_sound | apply ite_sound)
    | ((try lift_lets); intro x; first | (have hx : Sound x := ?_; (on_goal 2 => subst x); (on_goal 1 => clear_value x)) | clear_value x | skip)
    | split

theorem dirtyLine_sound {s : State} {q : HostReq} {base : Line} {was : LineSt} (h_s : Sound s) : SoundO (@dirtyLine s q base was) := by
  unfold dirtyLine
  repeat' first
    | with_reducible assumption
    | (with_reducible first
        | apply soundO_none | apply soundO_some | apply soundO_ite | apply sendCharge_sound
        | apply stuckLine_sound | apply allocateLine_sound | refine (allocateLine_sound ?_).out _ (by assumption)
        | apply releaseCredit_sound | apply ite_sound)
    | (refine soundO_map ?_ fun _ h => ?_; on_goal 2 => (try dsimp only))
    | (refine soundO_mapP ?_ fun _ _ h => ?_; on_goal 2 => (try dsimp only))

theorem updateEvict_sound {s : State} {line : Nat} {l : Line} (h_s : Sound s) : Sound (@updateEvict s line l) := h_s

theorem writeThrough_sound {s : State} {q : HostReq} (h_s : Sound s) : Sound (@writeThrough s q) := by
  unfold writeThrough
  repeat' first
    | with_reducible assumption
    | (with_reducible first
        | apply stuckLine_sound | apply chargeFor_sound | apply park_sound | apply writeFrame_sound
        | apply setLine_sound | apply updateEvict_sound)

theorem stageLine_sound {s : State} {q : HostReq} {l : Line} (h_s : Sound s) : Sound (@stageLine s q l) := by
  unfold stageLine
  repeat' first
    | with_reducible assumption
    | (with_reducible first
        | apply setFrame_sound | apply park_sound | apply queueCipher_sound | apply State.onPpu_sound
        | apply releaseCredit_sound | apply setLine_sound | apply State.onReam_sound | apply updateEvict_sound | apply ite_sound)

theorem stageWrite_sound {s : State} {q : HostReq} {base : Line} (h_s : Sound s) : Sound (@stageWrite s q base) := by
  unfold stageWrite
  repeat' first
    | with_reducible assumption
    | (with_reducible first
        | apply stageLine_sound)

theorem stageBase_sound {s : State} {q : HostReq} (h_s : Sound s) : SoundOP (@stageBase s q) := by
  unfold stageBase
  repeat' first
    | with_reducible assumption
    | (with_reducible first
        | apply soundOP_none | apply soundOP_some | apply soundOP_ite | apply soundP_mk
        | apply fillFrame_sound | apply assignFrame_sound | refine (assignFrame_sound ?_).out _ _ (by assumption) | apply putEntry_sound
        | apply ite_sound)
    | (refine soundOP_map ?_ fun _ h => ?_; on_goal 2 => (try dsimp only))
    | (refine soundOP_mapP ?_ fun _ _ h => ?_; on_goal 2 => (try dsimp only))
    | ((try lift_lets); intro x; first | (have hx : Sound x := ?_; (on_goal 2 => subst x); (on_goal 1 => clear_value x)) | clear_value x | skip)
    | split

theorem serveStage_sound {s : State} {q : HostReq} (h_s : Sound s) : Sound (@serveStage s q) := by
  unfold serveStage
  repeat' first
    | with_reducible assumption
    | (with_reducible first
        | apply touchDirectory_sound | apply waitBlock_sound | apply stageBase_sound
        | refine (stageBase_sound ?_).out _ _ (by assumption) | apply stageWrite_sound | apply park_sound | apply startFetch_sound
        | apply formStaged_sound | apply ite_sound)
    | ((try lift_lets); intro x; first | (have hx : Sound x := ?_; (on_goal 2 => subst x); (on_goal 1 => clear_value x)) | clear_value x | skip)
    | split

theorem serveThrough_sound {s : State} {q : HostReq} (h_s : Sound s) : Sound (@serveThrough s q) := by
  unfold serveThrough
  repeat' first
    | with_reducible assumption
    | (with_reducible first
        | apply zeroAllocate_sound | refine (zeroAllocate_sound ?_).out _ (by assumption)
        | apply touchDirectory_sound | apply poisonAllocate_sound | refine (poisonAllocate_sound ?_).out _ (by assumption)
        | apply waitBlock_sound | apply park_sound | apply startFetch_sound | apply writeThrough_sound | apply formStaged_sound
        | apply notePageMiss_sound | apply ite_sound)
    | ((try lift_lets); intro x; first | (have hx : Sound x := ?_; (on_goal 2 => subst x); (on_goal 1 => clear_value x)) | clear_value x | skip)
    | split

theorem missWrite_sound {s : State} {q : HostReq} (h_s : Sound s) : Sound (@missWrite s q) := by
  unfold missWrite
  dsimp only
  repeat' first
    | with_reducible assumption
    | (with_reducible first
        | apply touchDirectory_sound | apply waitBlock_sound | apply park_sound | apply startFetch_sound
        | apply allocateLine_sound | refine (allocateLine_sound ?_).out _ (by assumption) | apply sliceRetry_sound | apply readFrame_sound
        | apply formStaged_sound | apply localPlaced_sound | apply notePageMiss_sound | apply dirtyLine_sound
        | refine (dirtyLine_sound ?_).out _ (by assumption) | apply ite_sound)
    | ((try lift_lets); intro x; first | (have hx : Sound x := ?_; (on_goal 2 => subst x); (on_goal 1 => clear_value x)) | clear_value x | skip)
    | split

theorem missMarked_sound {s : State} {q : HostReq} (h_s : Sound s) : Sound (@missMarked s q) := by
  unfold missMarked
  repeat' first
    | with_reducible assumption
    | (with_reducible first
        | apply touchDirectory_sound | apply waitBlock_sound | apply serveThrough_sound
        | apply missWrite_sound | apply ite_sound)

theorem serveBack_sound {s : State} {q : HostReq} (h_s : Sound s) : Sound (@serveBack s q) := by
  unfold serveBack
  repeat' first
    | with_reducible assumption
    | (with_reducible first
        | apply park_sound | apply missMarked_sound | apply sliceRetry_sound | apply State.onCurd_sound
        | apply localPlaced_sound | apply dirtyLine_sound | refine (dirtyLine_sound ?_).out _ (by assumption) | apply ite_sound)
    | split

theorem serveWrite_sound {s : State} {q : HostReq} (h_s : Sound s) : Sound (@serveWrite s q) := by
  unfold serveWrite
  repeat' first
    | with_reducible assumption
    | (with_reducible first
        | apply serveThrough_sound | apply serveBack_sound | apply serveStage_sound | apply ite_sound)

theorem serve_sound {s : State} {q : HostReq} (h_s : Sound s) : Sound (@serve s q) := by
  unfold serve
  repeat' first
    | with_reducible assumption
    | (with_reducible first
        | apply serveWrite_sound | apply sliceRetry_sound | apply serveRead_sound | apply ite_sound)

theorem acceptReq_sound {s : State} {q : HostReq} (h_s : Sound s) : Sound (@acceptReq s q) := by
  unfold acceptReq
  repeat' first
    | with_reducible assumption
    | (with_reducible first
        | apply trackStore_sound | refine (trackStore_sound ?_).out _ _ (by assumption) | apply notePage_sound
        | apply serve_sound | apply ite_sound)
    | refine (trackStore_sound ?_).out _ _ rfl

theorem fillReqs_sound {s : State} {line : Nat} {qs : List HostReq} {l : Line} {d : Bool} (h : Sound s) : Sound (fillReqs s line qs l d) := by
  induction qs generalizing s l d with
  | nil => exact h
  | cons q qs ih =>
    unfold fillReqs; dsimp only; split
    · split
      · exact ih (stageWrite_sound h)
      · split
        · exact ih (writeThrough_sound h)
        · refine ih (localPlaced_sound ?_)
          split
          · exact releaseCredit_sound (setLine_sound h)
          · exact sendCharge_sound (setLine_sound h)
    · exact ih (answerRead_sound h)

theorem fillLine_sound {s : State} {line : Nat} {l : Line} (h_s : Sound s) : Sound (@fillLine s line l) := by
  unfold fillLine
  repeat' first
    | with_reducible assumption
    | (with_reducible first
        | apply fillReqs_sound | apply setLine_sound | apply ite_sound)
    | ((try lift_lets); intro x; first | (have hx : Sound x := ?_; (on_goal 2 => subst x); (on_goal 1 => clear_value x)) | clear_value x | skip)
    | split

theorem wakeBlock_sound {s : State} {extent : Nat} (h_s : Sound s) : Sound (@wakeBlock s extent) := by
  unfold wakeBlock
  repeat' first
    | with_reducible assumption
    | (refine fun h => ?_; first | exact h.1 | exact h.2 | skip)
    | (with_reducible first
        | apply dropReq_sound | apply serve_sound | apply State.each_sound)

theorem wakeFrame_sound {s : State} {page : Nat} (h_s : Sound s) : Sound (@wakeFrame s page) := by
  unfold wakeFrame
  repeat' first
    | with_reducible assumption
    | (refine fun h => ?_; first | exact h.1 | exact h.2 | skip)
    | (with_reducible first
        | apply dropReq_sound | apply serve_sound | apply State.each_sound | apply answerRead_sound
        | apply ite_sound)
    | ((try lift_lets); intro x; first | (have hx : Sound x := ?_; (on_goal 2 => subst x); (on_goal 1 => clear_value x)) | clear_value x | skip)
    | split

theorem pageArrived_sound {s : State} {page : Nat} (h_s : Sound s) : Sound (@pageArrived s page) := by
  unfold pageArrived
  repeat' first
    | with_reducible assumption
    | (refine fun h => ?_; first | exact h.1 | exact h.2 | skip)
    | (with_reducible first
        | apply wakeFrame_sound | apply chargePage_sound | apply writeFrame_sound | apply fillLine_sound
        | apply State.each_sound | apply ite_sound)
    | ((try lift_lets); intro x; first | (have hx : Sound x := ?_; (on_goal 2 => subst x); (on_goal 1 => clear_value x)) | clear_value x | skip)
    | split

theorem mirrorWrite_sound {s : State} {r : Region} {q : HostReq} (h_s : Sound s) : SoundQ (@mirrorWrite s r q) := by
  unfold mirrorWrite
  repeat' first
    | with_reducible assumption
    | (refine fun h => ?_; first | exact h.1 | exact h.2 | skip)
    | (with_reducible first
        | apply soundQ_mk | apply soundQ_ite | apply takeTag_sound
        | refine (takeTag_sound ?_).out _ _ (by assumption) | apply State.onEpochs_sound | apply State.onFelt_sound | apply sendFelt_sound
        | apply ite_sound)
    | refine (takeTag_sound ?_).out _ _ rfl
    | ((try lift_lets); intro x; first | (have hx : Sound x := ?_; (on_goal 2 => subst x); (on_goal 1 => clear_value x)) | clear_value x | skip)
    | split

theorem placeMirror_sound {s : State} {link : Nat} {tag : U16} {page : Nat} {line : Nat} {region : Nat} {data : LineData} {be : BitVec 64} {poison : Bool} {epoch : Nat} (h_s : Sound s) : Sound (@placeMirror s link tag page line region data be poison epoch) := by
  unfold placeMirror
  repeat' first
    | with_reducible assumption
    | (with_reducible first
        | apply acceptReq_sound | apply State.onCxl_sound | apply State.onFelt_sound)

theorem endSession_sound {s : State} {num : Nat} {handed : Bool} (h_s : Sound s) : Sound (@endSession s num handed) := by
  unfold endSession
  repeat' first
    | with_reducible assumption
    | (refine fun h => ?_; first | exact h.1 | exact h.2 | skip)
    | (with_reducible first
        | apply sendReply_sound | apply State.event_sound | apply State.onCmd_sound | apply State.each_sound
        | apply endPins_sound | apply ite_sound)
    | ((try lift_lets); intro x; first | (have hx : Sound x := ?_; (on_goal 2 => subst x); (on_goal 1 => clear_value x)) | clear_value x | skip)
    | split

theorem handOver_sound {s : State} {r : Req} {succ : Nat} {num : Nat} (h_s : Sound s) : Sound (@handOver s r succ num) := by
  unfold handOver
  repeat' first
    | with_reducible assumption
    | (with_reducible first
        | apply refuse_sound | apply endSession_sound | apply sendReply_sound | apply State.onCmd_sound
        | apply ok_sound | apply ite_sound)

theorem finishCloses_sound {s : State} (h_s : Sound s) : Sound (@finishCloses s) := by
  unfold finishCloses
  repeat' first
    | with_reducible assumption
    | (refine fun h => ?_; first | exact h.1 | exact h.2 | skip)
    | (with_reducible first
        | apply handOver_sound | apply State.onCmd_sound | apply State.each_sound | apply ite_sound)

theorem startClose_sound {s : State} {joined : List Joined} {couch peer : Bool} (h : Sound s) : Sound (startClose s joined couch peer) := by
  unfold startClose
  refine State.each_sound (State.onEpochs_sound h fun h => ?_) fun s j hs => ?_
  · obtain ⟨⟨h1, h2, h3⟩, -⟩ := h
    refine ⟨h1, ?_, fun c e => ?_⟩
    · dsimp only; omega
    · dsimp only at e ⊢; injection e with e; subst e; dsimp only; omega
  · split
    · exact bindSlot_sound hs
    · exact applyStart_sound hs

theorem requestClose_sound {s : State} {joined : List Joined} (h_s : Sound s) : Sound (@requestClose s joined) := by
  unfold requestClose
  repeat' first
    | with_reducible assumption
    | (refine fun h => ?_; first | exact h.1 | exact h.2 | skip)
    | (with_reducible first
        | apply startClose_sound | apply State.onEpochs_sound | apply ite_sound)
    | split

theorem requestChange_sound {s : State} {num : Nat} {op : Option RegionOpKind} {j : Joined} (h_s : Sound s) : Sound (@requestChange s num op j) := by
  unfold requestChange
  repeat' first
    | with_reducible assumption
    | (with_reducible first
        | apply requestClose_sound | apply State.onFelt_sound | apply sendOne_sound | apply ite_sound)
    | split

theorem continueShrink_sound {s : State} {num : Nat} (h_s : Sound s) : Sound (@continueShrink s num) := by
  unfold continueShrink
  repeat' first
    | with_reducible assumption
    | (with_reducible first
        | apply requestChange_sound | apply ite_sound)
    | ((try lift_lets); intro x; first | (have hx : Sound x := ?_; (on_goal 2 => subst x); (on_goal 1 => clear_value x)) | clear_value x | skip)
    | split

theorem offerAgain_sound {s : State} {num : Nat} {head : Nat} {ld : Nat} (h_s : Sound s) : Sound (@offerAgain s num head ld) := by
  unfold offerAgain
  repeat' first
    | with_reducible assumption
    | (with_reducible first
        | apply offerRest_sound | apply ite_sound)
    | split

theorem completeRelease_sound {s : State} {head : Nat} {ld : Nat} {x : Release} (h_s : Sound s) : Sound (@completeRelease s head ld x) := by
  unfold completeRelease
  repeat' first
    | with_reducible assumption
    | (with_reducible first
        | apply setLd_sound | apply offerAgain_sound | apply endLongOf_sound | apply ok_sound
        | apply continueShrink_sound | apply ite_sound)
    | ((try lift_lets); intro x; first | (have hx : Sound x := ?_; (on_goal 2 => subst x); (on_goal 1 => clear_value x)) | clear_value x | skip)
    | split

theorem releaseAll_sound {s : State} {head : Nat} {ld : Nat} (h_s : Sound s) : Sound (@releaseAll s head ld) := by
  unfold releaseAll
  repeat' first
    | with_reducible assumption
    | (refine fun h => ?_; first | exact h.1 | exact h.2 | skip)
    | (with_reducible first
        | apply completeRelease_sound | apply State.each_sound | apply ite_sound)
    | split

theorem endLd_sound {s : State} {head : Nat} {ld : Nat} (h_s : Sound s) : Sound (@endLd s head ld) := by
  unfold endLd
  repeat' first
    | with_reducible assumption
    | (with_reducible first
        | apply setLd_sound | apply releaseAll_sound | apply ite_sound)

theorem lagRegions_sound {s : State} (h_s : Sound s) : Sound (@lagRegions s) := h_s

theorem holdLinks_sound {s : State} (h_s : Sound s) : Sound (@holdLinks s) := h_s

theorem applyFollower_sound {s : State} {num : Nat} {op : RegionOpKind} {runs : List (Nat × Nat)} {epoch : Nat} (h_s : Sound s) : Sound (@applyFollower s num op runs epoch) := by
  unfold applyFollower
  dsimp only
  repeat' first
    | with_reducible assumption
    | (with_reducible first
        | apply growRegion_sound | apply destroyRegion_sound | apply shrinkRegion_sound
        | apply applyFlags_sound | apply createRegion_sound | apply setRegion_sound | apply ite_sound)
    | ((try lift_lets); intro x; first | (have hx : Sound x := ?_; (on_goal 2 => subst x); (on_goal 1 => clear_value x)) | clear_value x | skip)
    | split

theorem twinDone_sound {s : State} {q : HostReq} (h_s : Sound s) : Sound (@twinDone s q) := by
  unfold twinDone
  repeat' first
    | with_reducible assumption
    | (with_reducible first
        | apply stageLine_sound | apply answerWrite_sound | apply keepReq_sound | apply ite_sound)
    | ((try lift_lets); intro x; first | (have hx : Sound x := ?_; (on_goal 2 => subst x); (on_goal 1 => clear_value x)) | clear_value x | skip)
    | split

theorem applyStaged_sound {s : State} {upTo : Nat} (h_s : Sound s) : Sound (@applyStaged s upTo) := by
  unfold applyStaged
  repeat' first
    | with_reducible assumption
    | (refine fun h => ?_; first | exact h.1 | exact h.2 | skip)
    | (with_reducible first
        | apply State.onFelt_sound | apply placeMirror_sound | apply State.each_sound | apply ite_sound)
    | ((try lift_lets); intro x; first | (have hx : Sound x := ?_; (on_goal 2 => subst x); (on_goal 1 => clear_value x)) | clear_value x | skip)
    | split

theorem applyEpoch_sound {s : State} {e : Nat} (h_s : Sound s) : Sound (@applyEpoch s e) := by
  unfold applyEpoch
  repeat' first
    | with_reducible assumption
    | (with_reducible first
        | apply State.onFelt_sound | apply applyStaged_sound | apply sendOne_sound)

theorem applyReady_sound {s : State} (h_s : Sound s) : Sound (@applyReady s) := by
  unfold applyReady
  repeat' first
    | with_reducible assumption
    | (refine fun h => ?_; first | exact h.1 | exact h.2 | skip)
    | (with_reducible first
        | apply State.each_sound | apply applyEpoch_sound | apply ite_sound)

theorem deliver_sound {s : State} {d : DramReq} {l : Line} (h_s : Sound s) : Sound (@deliver s d l) := by
  unfold deliver
  repeat' first
    | with_reducible assumption
    | (with_reducible first
        | apply answerRead_sound | apply ite_sound)
    | split

theorem writeHalf_sound {s : State} {d : DramReq} {poison : Bool} (h_s : Sound s) : Sound (@writeHalf s d poison) := by
  unfold writeHalf
  repeat' first
    | with_reducible assumption
    | (with_reducible first
        | apply setDram_sound | apply ite_sound)
    | split

theorem spoilAccess_sound {s : State} {d : DramReq} (h_s : Sound s) : Sound (@spoilAccess s d) := by
  unfold spoilAccess
  repeat' first
    | with_reducible assumption
    | (with_reducible first
        | apply poisonFrameLine_sound | apply setFrame_sound | apply writeHalf_sound | apply dramEvent_sound
        | apply deliver_sound | apply ite_sound)
    | ((try lift_lets); intro x; first | (have hx : Sound x := ?_; (on_goal 2 => subst x); (on_goal 1 => clear_value x)) | clear_value x | skip)
    | split

theorem recovered_sound {s : State} {d : DramReq} {l : Line} (h_s : Sound s) : Sound (@recovered s d l) := by
  unfold recovered
  repeat' first
    | with_reducible assumption
    | (with_reducible first
        | apply writeFrame_sound | apply writeHalf_sound | apply dramEvent_sound | apply deliver_sound
        | apply ite_sound)
    | ((try lift_lets); intro x; first | (have hx : Sound x := ?_; (on_goal 2 => subst x); (on_goal 1 => clear_value x)) | clear_value x | skip)
    | split

theorem recoverLine_sound {s : State} {d : DramReq} (h_s : Sound s) : Sound (@recoverLine s d) := by
  unfold recoverLine
  repeat' first
    | with_reducible assumption
    | (with_reducible first
        | apply takeTag_sound | refine (takeTag_sound ?_).out _ _ (by assumption) | apply State.onVat_sound
        | apply spoilAccess_sound | apply sendFelt_sound | apply ite_sound)
    | refine (takeTag_sound ?_).out _ _ rfl
    | ((try lift_lets); intro x; first | (have hx : Sound x := ?_; (on_goal 2 => subst x); (on_goal 1 => clear_value x)) | clear_value x | skip)
    | split

theorem endRecovery_sound {s : State} {x : U16 × DramReq} {l : Option Line} (h_s : Sound s) : Sound (@endRecovery s x l) := by
  unfold endRecovery
  repeat' first
    | with_reducible assumption
    | (with_reducible first
        | apply State.onVat_sound | apply recovered_sound | apply spoilAccess_sound | apply ite_sound)
    | ((try lift_lets); intro x; first | (have hx : Sound x := ?_; (on_goal 2 => subst x); (on_goal 1 => clear_value x)) | clear_value x | skip)
    | split

theorem twinFails_sound {s : State} {q : HostReq} (h_s : Sound s) : Sound (@twinFails s q) := by
  unfold twinFails
  repeat' first
    | with_reducible assumption
    | (with_reducible first
        | apply keepReq_sound)

theorem completeLocally_sound {s : State} (h_s : Sound s) : Sound (@completeLocally s) := by
  unfold completeLocally
  repeat' first
    | with_reducible assumption
    | (refine fun h => ?_; first | exact h.1 | exact h.2 | skip)
    | (with_reducible first
        | apply twinDone_sound | apply State.each_sound)

theorem fallBack_sound {s : State} (h_s : Sound s) : Sound (@fallBack s) := by
  unfold fallBack
  repeat' first
    | with_reducible assumption
    | (refine fun h => ?_; first | exact h.1 | exact h.2 | skip)
    | (with_reducible first
        | apply twinFails_sound | apply losePage_sound | apply State.onPpu_sound | apply recovering_sound
        | apply State.each_sound | apply endRecovery_sound)

theorem proceedAlone_sound {s : State} (h_s : Sound s) : Sound (@proceedAlone s) := by
  unfold proceedAlone
  repeat' first
    | with_reducible assumption
    | (refine fun h => ?_; first | exact h.1 | exact h.2 | skip)
    | (with_reducible first
        | apply requestClose_sound | apply answerJoined_sound | apply State.onFelt_sound
        | apply takeToken_sound | apply State.each_sound | apply unreserve_sound | apply ok_sound | apply ite_sound)
    | ((try lift_lets); intro x; first | (have hx : Sound x := ?_; (on_goal 2 => subst x); (on_goal 1 => clear_value x)) | clear_value x | skip)
    | split

theorem partPair_sound {s : State} {st : Pair} (h_s : Sound s) : Sound (@partPair s st) := by
  unfold partPair
  repeat' first
    | with_reducible assumption
    | (with_reducible first
        | apply fallBack_sound | apply State.onFelt_sound | apply lagRegions_sound | apply proceedAlone_sound
        | apply completeLocally_sound | apply applyReady_sound)

theorem finishDetach_sound {s : State} {q : Option (Req × U16 × Nat)} (h_s : Sound s) : Sound (@finishDetach s q) := by
  unfold finishDetach
  repeat' first
    | with_reducible assumption
    | (with_reducible first
        | apply holdLinks_sound | apply answerJoined_sound | apply sendAll_sound | apply partPair_sound)

theorem applyEnd_sound {s : State} {e : Nat} {j : Joined} (h_s : Sound s) : Sound (@applyEnd s e j) := by
  unfold applyEnd
  repeat' first
    | with_reducible assumption
    | (refine fun h => ?_; first | exact h.1 | exact h.2 | skip)
    | (with_reducible first
        | apply finishDetach_sound | apply destroyRegion_sound | apply shrinkRegion_sound
        | apply watermark_sound | apply State.onEpochs_sound | apply answerJoined_sound | apply State.onFelt_sound | apply takeToken_sound
        | apply State.emit_sound | apply endLongOf_sound | apply setRegion_sound | apply State.onCmd_sound | apply force_sound
        | apply startRelease_sound | apply sendOne_sound | apply offerRest_sound | apply ok_sound | apply setGrant_sound | apply ite_sound)
    | ((try lift_lets); intro x; first | (have hx : Sound x := ?_; (on_goal 2 => subst x); (on_goal 1 => clear_value x)) | clear_value x | skip)
    | split
  obtain ⟨⟨h1, h2, h3⟩, -⟩ := h_s
  exact ⟨h1, by dsimp only; omega, fun c e => by have := h3 c e; dsimp only; omega⟩


theorem sendEnds_sound {s : State} {e : Nat} (h_s : Sound s) : Sound (@sendEnds s e) := by
  unfold sendEnds
  repeat' first
    | with_reducible assumption
    | (refine fun h => ?_; first | exact h.1 | exact h.2 | skip)
    | (with_reducible first
        | apply State.onFelt_sound | apply State.each_sound | apply sendFelt_sound | apply ite_sound)

theorem followerInSync_sound {s : State} (h_s : Sound s) : Sound (@followerInSync s) := by
  unfold followerInSync
  repeat' first
    | with_reducible assumption
    | (refine fun h => ?_; first | exact h.1 | exact h.2 | skip)
    | (with_reducible first
        | apply State.onFelt_sound | apply endLongOf_sound | apply setRegion_sound | apply State.each_sound
        | apply ok_sound | apply ite_sound)

theorem checkResync_sound {s : State} {num : Nat} (h_s : Sound s) : Sound (@checkResync s num) := by
  unfold checkResync
  repeat' first
    | with_reducible assumption
    | (with_reducible first
        | apply requestClose_sound | apply ite_sound)
    | split

theorem finishClose_sound {s : State} {c : Close} (h : Sound s) (hc : c.epoch < s.epochs.current) : Sound (finishClose s c) := by
  unfold finishClose
  extract_lets s1 s2 s3 follow s4 s5 s6 s7 s8
  have h1 : Sound s1 := by
    refine State.onEpochs_sound h fun h => ?_
    obtain ⟨⟨h1, h2, h3⟩, -⟩ := h
    refine ⟨?_, ?_, fun _ e => nomatch e⟩ <;> dsimp only
    · split <;> omega
    · omega
  have h2 : Sound s2 := sendEnds_sound h1
  have h3 : Sound s3 := State.each_sound h2 fun _ _ h => applyEnd_sound h
  have h4 : Sound s4 := ite_sound (State.each_sound (State.onFelt_sound h3) fun _ _ h => applyFollower_sound h) h3
  have h5 : Sound s5 := ite_sound (followerInSync_sound h4) h4
  have h6 : Sound s6 := State.onRegions_sound h5
  have h7 : Sound s7 := ite_sound h6 (rollKeys_sound h6)
  have h8 : Sound s8 := by
    show Sound (match s7.epochs.queued with | some q => _ | none => _)
    split
    · exact requestClose_sound (State.onEpochs_sound h7 fun h => h.1)
    · exact h7
  exact ite_sound h8 (State.each_sound h8 fun _ _ h => checkResync_sound h)

theorem checkFlush_sound {s : State} {num : Nat} (h_s : Sound s) : Sound (@checkFlush s num) := by
  unfold checkFlush
  repeat' first
    | with_reducible assumption
    | (with_reducible first
        | apply endLongOf_sound | apply setRegion_sound | apply ok_sound | apply ite_sound)
    | ((try lift_lets); intro x; first | (have hx : Sound x := ?_; (on_goal 2 => subst x); (on_goal 1 => clear_value x)) | clear_value x | skip)
    | split

theorem usePool_sound {s : State} {port : Nat} (h_s : Sound s) : Sound (@usePool s port) := h_s

theorem newCredit_sound {s : State} {port : Nat} {mirrored : Bool} (h_s : Sound s) : Sound (@newCredit s port mirrored) := h_s

theorem creditFor_sound {s : State} {port : Nat} {mirrored : Bool} (h_s : Sound s) : SoundO (@creditFor s port mirrored) := by
  unfold creditFor
  repeat' first
    | with_reducible assumption
    | (with_reducible first
        | apply soundO_none | apply soundO_some | apply soundO_ite | apply usePool_sound
        | apply newCredit_sound)
    | (refine soundO_map ?_ fun _ h => ?_; on_goal 2 => (try dsimp only))
    | (refine soundO_mapP ?_ fun _ _ h => ?_; on_goal 2 => (try dsimp only))

theorem admitWrite_sound {s : State} {port : Nat} {page : Nat} {mirrored : Bool} (h_s : Sound s) : SoundOP (@admitWrite s port page mirrored) := by
  unfold admitWrite
  repeat' first
    | with_reducible assumption
    | (with_reducible first
        | apply soundOP_none | apply soundOP_some | apply soundOP_ite | apply soundP_mk
        | apply creditFor_sound | refine (creditFor_sound ?_).out _ (by assumption) | apply ite_sound)
    | (refine soundOP_map ?_ fun _ h => ?_; on_goal 2 => (try dsimp only))
    | (refine soundOP_mapP ?_ fun _ _ h => ?_; on_goal 2 => (try dsimp only))

theorem stopWaiting_sound {s : State} {head : Nat} {ld : Nat} {tag : Nat} (h_s : Sound s) : Sound (@stopWaiting s head ld tag) := h_s

theorem startWaiting_sound {s : State} {head : Nat} {ld : Nat} {tag : Nat} {mirrored : Bool} (h_s : Sound s) : Sound (@startWaiting s head ld tag mirrored) := h_s

theorem takeAge_sound {s : State} (h_s : Sound s) : Sound (@takeAge s) := h_s

theorem discardWrite_sound {s : State} {head : Nat} {ld : Nat} {hostTag : Nat} {code : Nat} {region : Nat} {dpa : Nat} (h_s : Sound s) : Sound (@discardWrite s head ld hostTag code region dpa) := h_s

theorem asyncClose_sound {s : State} {before : Nat} (h_s : Sound s) : Sound (@asyncClose s before) := by
  unfold asyncClose
  repeat' first
    | with_reducible assumption
    | (with_reducible first
        | apply requestClose_sound | apply ite_sound)

theorem endMailboxes_sound {s : State} {head : Nat} {only : Option Nat} (h_s : Sound s) : Sound (@endMailboxes s head only) := by
  unfold endMailboxes
  repeat' first
    | with_reducible assumption
    | (refine fun h => ?_; first | exact h.1 | exact h.2 | skip)
    | (with_reducible first
        | apply endSession_sound | apply State.onCmd_sound | apply State.each_sound)

theorem linkEnds_sound {s : State} {port : Nat} (h_s : Sound s) : Sound (@linkEnds s port) := by
  unfold linkEnds
  repeat' first
    | with_reducible assumption
    | (refine fun h => ?_; first | exact h.1 | exact h.2 | skip)
    | (with_reducible first
        | apply endLd_sound | apply settleIsland_sound | apply State.onCxl_sound | apply State.each_sound
        | apply endMailboxes_sound)

theorem closePort_sound {s : State} {i : Nat} (h_s : Sound s) : Sound (@closePort s i) := by
  unfold closePort
  repeat' first
    | with_reducible assumption
    | (with_reducible first
        | apply unroute_sound | apply linkEnds_sound | apply ite_sound)

theorem fencePort_sound {s : State} {i : Nat} (h_s : Sound s) : Sound (@fencePort s i) := by
  unfold fencePort
  repeat' first
    | with_reducible assumption
    | (with_reducible first
        | apply closePort_sound | apply setUnit_sound | apply endInjections_sound | apply ite_sound)

theorem finishFences_sound {s : State} (h_s : Sound s) : Sound (@finishFences s) := by
  unfold finishFences
  repeat' first
    | with_reducible assumption
    | (refine fun h => ?_; first | exact h.1 | exact h.2 | skip)
    | (with_reducible first
        | apply closePort_sound | apply State.each_sound)

theorem listBlock_sound {s : State} {channel : Nat} {id : Nat} {seg : Seg} {generation : Nat} (h_s : Sound s) : Sound (@listBlock s channel id seg generation) := by
  unfold listBlock
  repeat' first
    | with_reducible assumption
    | (with_reducible first
        | apply setFlash_sound)

theorem stampAt_sound {s : State} {channel : Nat} {id : Nat} {slot : Nat} {region : Nat} {key : Nat} {epoch : Nat} {poison : Bool} (h_s : Sound s) : Sound (@stampAt s channel id slot region key epoch poison) := by
  unfold stampAt
  repeat' first
    | with_reducible assumption
    | (with_reducible first
        | apply setFlash_sound)

theorem openStripe_sound {s : State} {l : BitVec 40} {seg : Seg} (h_s : Sound s) : Sound (@openStripe s l seg) := by
  unfold openStripe
  repeat' first
    | with_reducible assumption
    | (with_reducible first
        | apply stampAt_sound | apply listBlock_sound | apply State.onReam_sound | apply ite_sound)
    | ((try lift_lets); intro x; first | (have hx : Sound x := ?_; (on_goal 2 => subst x); (on_goal 1 => clear_value x)) | clear_value x | skip)
    | split

theorem closeFull_sound {s : State} {l : BitVec 40} {seg : Seg} (h_s : Sound s) : Sound (@closeFull s l seg) := by
  unfold closeFull
  repeat' first
    | with_reducible assumption
    | (with_reducible first
        | apply setFlash_sound | apply State.onReam_sound | apply ite_sound)
    | ((try lift_lets); intro x; first | (have hx : Sound x := ?_; (on_goal 2 => subst x); (on_goal 1 => clear_value x)) | clear_value x | skip)
    | split

theorem openBlock_sound {s : State} {l : BitVec 40} {seg : Seg} {generation : Nat} {region : Nat} {key : Nat} {epoch : Nat} {poison : Bool} (h_s : Sound s) : Sound (@openBlock s l seg generation region key epoch poison) := by
  unfold openBlock
  repeat' first
    | with_reducible assumption
    | (with_reducible first
        | apply openStripe_sound | apply stampAt_sound | apply listBlock_sound | apply closeFull_sound)

theorem writeSlot_sound {s : State} {x : Slot} {old : BitVec 40} (h_s : Sound s) : Sound (@writeSlot s x old) := by
  unfold writeSlot
  repeat' first
    | with_reducible assumption
    | (with_reducible first
        | apply State.onReam_sound | apply openBlock_sound)

theorem copySlot_sound {s : State} {old : BitVec 40} {new : BitVec 40} (h_s : Sound s) : Sound (@copySlot s old new) := by
  unfold copySlot
  repeat' first
    | with_reducible assumption
    | (with_reducible first
        | apply writeSlot_sound | apply ite_sound)
    | split

theorem cipherRequest_sound {s : State} {region : Nat} {level : Nat} (h_s : Sound s) : Sound (@cipherRequest s region level) := by
  unfold cipherRequest
  repeat' first
    | with_reducible assumption
    | (with_reducible first
        | apply queueCipher_sound | apply setKeySlot_sound | apply ite_sound)
    | split

theorem ownCredit_sound {s : State} (h_s : Sound s) : SoundOP (@ownCredit s) := by
  unfold ownCredit
  repeat' first
    | with_reducible assumption
    | (with_reducible first
        | apply soundOP_none | apply soundOP_some | apply soundOP_ite | apply soundP_mk
        | apply State.onFelt_sound)
    | (refine soundOP_map ?_ fun _ h => ?_; on_goal 2 => (try dsimp only))
    | (refine soundOP_mapP ?_ fun _ _ h => ?_; on_goal 2 => (try dsimp only))

theorem acceptZero_sound {s : State} {q : HostReq} (h_s : Sound s) : Sound (@acceptZero s q) := by
  unfold acceptZero
  repeat' first
    | with_reducible assumption
    | (with_reducible first
        | apply ownCredit_sound | refine (ownCredit_sound ?_).out _ _ (by assumption) | apply dropReq_sound
        | apply serve_sound | apply mirrorWrite_sound | refine (mirrorWrite_sound ?_).out _ _ (by assumption) | apply asyncClose_sound
        | apply ite_sound)
    | refine (mirrorWrite_sound ?_).out _ _ rfl
    | ((try lift_lets); intro x; first | (have hx : Sound x := ?_; (on_goal 2 => subst x); (on_goal 1 => clear_value x)) | clear_value x | skip)
    | split

theorem wakeCredit_sound {s : State} (h_s : Sound s) : Sound (@wakeCredit s) := by
  unfold wakeCredit
  repeat' first
    | with_reducible assumption
    | (with_reducible first
        | apply State.each_sound | apply acceptZero_sound)

theorem dropPrefetches_sound {s : State} (h_s : Sound s) : Sound (@dropPrefetches s) := by
  unfold dropPrefetches
  repeat' first
    | with_reducible assumption
    | (refine fun h => ?_; first | exact h.1 | exact h.2 | skip)
    | (with_reducible first
        | apply putQuiet_sound | apply dropFrame_sound | apply State.onPpu_sound | apply State.onCmd_sound
        | apply State.each_sound | apply ite_sound)

theorem deckleJudge_sound {s : State} (h_s : Sound s) : Sound (@deckleJudge s) := by
  unfold deckleJudge
  repeat' first
    | with_reducible assumption
    | (with_reducible first
        | apply wakeCredit_sound | apply State.event_sound | apply State.onDeckle_sound
        | apply dropPrefetches_sound | apply ite_sound)

theorem deckleBound_sound {s : State} (h_s : Sound s) : Sound (@deckleBound s) := by
  unfold deckleBound
  repeat' first
    | with_reducible assumption
    | (with_reducible first
        | apply deckleJudge_sound | apply State.onDeckle_sound | apply State.onReam_sound)

theorem deckleImmediate_sound {s : State} (h_s : Sound s) : Sound (@deckleImmediate s) := by
  unfold deckleImmediate
  repeat' first
    | with_reducible assumption
    | (with_reducible first
        | apply deckleJudge_sound | apply State.onDeckle_sound | apply State.onReam_sound)

theorem deckleRecompute_sound {s : State} (h_s : Sound s) : Sound (@deckleRecompute s) := by
  unfold deckleRecompute
  repeat' first
    | with_reducible assumption
    | (with_reducible first
        | apply deckleBound_sound | apply State.onDeckle_sound)

theorem leaveStripe_sound {s : State} {channel : Nat} {id : Nat} (h_s : Sound s) : Sound (@leaveStripe s channel id) := by
  unfold leaveStripe
  repeat' first
    | with_reducible assumption
    | (with_reducible first
        | apply State.onReam_sound)

theorem abandonStripes_sound {s : State} (h_s : Sound s) : Sound (@abandonStripes s) := by
  unfold abandonStripes
  repeat' first
    | with_reducible assumption
    | (with_reducible first
        | apply State.onReam_sound)

theorem startMove_sound {s : State} {page : Nat} {kind : MoveKind} {data : PageData} {target : BitVec 40} (h_s : Sound s) : Sound (@startMove s page kind data target) := by
  unfold startMove
  repeat' first
    | with_reducible assumption
    | (with_reducible first
        | apply putQuiet_sound | apply State.onPpu_sound | apply putEntry_sound | apply ite_sound)
    | ((try lift_lets); intro x; first | (have hx : Sound x := ?_; (on_goal 2 => subst x); (on_goal 1 => clear_value x)) | clear_value x | skip)
    | split

theorem retryMove_sound {s : State} {page : Nat} {kind : MoveKind} {loc : BitVec 40} (h_s : Sound s) : Sound (@retryMove s page kind loc) := by
  unfold retryMove
  repeat' first
    | with_reducible assumption
    | (with_reducible first
        | apply State.onPpu_sound | apply State.emit_sound)

theorem startMoves_sound {s : State} {channel : Nat} {id : Nat} {kind : MoveKind} (h_s : Sound s) : Sound (@startMoves s channel id kind) := by
  unfold startMoves
  repeat' first
    | with_reducible assumption
    | (refine fun h => ?_; first | exact h.1 | exact h.2 | skip)
    | (with_reducible first
        | apply State.each_sound | apply retryMove_sound | apply startMove_sound | apply ite_sound)

theorem beginDrain_sound {s : State} {channel : Nat} (h_s : Sound s) : Sound (@beginDrain s channel) := by
  unfold beginDrain
  repeat' first
    | with_reducible assumption
    | (refine fun h => ?_; first | exact h.1 | exact h.2 | skip)
    | (with_reducible first
        | apply resolveBlock_sound | apply State.each_sound | apply startMove_sound | apply ite_sound)
    | ((try lift_lets); intro x; first | (have hx : Sound x := ?_; (on_goal 2 => subst x); (on_goal 1 => clear_value x)) | clear_value x | skip)
    | split

theorem beginDrains_sound {s : State} (h_s : Sound s) : Sound (@beginDrains s) := by
  unfold beginDrains
  repeat' first
    | with_reducible assumption
    | (with_reducible first
        | apply beginDrain_sound | apply State.each_sound)

theorem releaseClean_sound {s : State} {page : Nat} (h_s : Sound s) : Sound (@releaseClean s page) := by
  unfold releaseClean
  repeat' first
    | with_reducible assumption
    | (with_reducible first
        | apply invalidatePage_sound | apply dropFrame_sound | apply putEntry_sound)

theorem vacateStep_sound {s : State} {c : Nat} (h_s : Sound s) : Sound (@vacateStep s c) := by
  unfold vacateStep
  repeat' first
    | with_reducible assumption
    | (refine fun h => ?_; first | exact h.1 | exact h.2 | skip)
    | (with_reducible first
        | apply releaseClean_sound | apply pageCommand_sound | apply State.each_sound | apply startMove_sound
        | apply ite_sound)
    | ((try lift_lets); intro x; first | (have hx : Sound x := ?_; (on_goal 2 => subst x); (on_goal 1 => clear_value x)) | clear_value x | skip)
    | split

theorem beginMoves_sound {s : State} (h_s : Sound s) : Sound (@beginMoves s) := by
  unfold beginMoves
  repeat' first
    | with_reducible assumption
    | (with_reducible first
        | apply beginDrains_sound | apply vacateStep_sound | apply State.each_sound)

theorem targetAnswers_sound {s : State} {l : BitVec 40} {kind : NandKind} (h_s : Sound s) : Sound (@targetAnswers s l kind) := by
  unfold targetAnswers
  repeat' first
    | with_reducible assumption
    | (with_reducible first
        | apply setFlash_sound)

theorem fetchIssued_sound {s : State} {f : Fetch} (h_s : Sound s) : SoundO (@fetchIssued s f) := by
  unfold fetchIssued
  repeat' first
    | with_reducible assumption
    | (with_reducible first
        | apply soundO_none | apply soundO_some | apply soundO_ite | apply setFlash_sound | apply ite_sound)
    | (refine soundO_map ?_ fun _ h => ?_; on_goal 2 => (try dsimp only))
    | (refine soundO_mapP ?_ fun _ _ h => ?_; on_goal 2 => (try dsimp only))
    | ((try lift_lets); intro x; first | (have hx : Sound x := ?_; (on_goal 2 => subst x); (on_goal 1 => clear_value x)) | clear_value x | skip)
    | split

theorem replaceMember_sound {s : State} {channel : Nat} {id : Nat} (h_s : Sound s) : Sound (@replaceMember s channel id) := by
  unfold replaceMember
  repeat' first
    | with_reducible assumption
    | (with_reducible first
        | apply State.onReam_sound | apply ite_sound)
    | ((try lift_lets); intro x; first | (have hx : Sound x := ?_; (on_goal 2 => subst x); (on_goal 1 => clear_value x)) | clear_value x | skip)
    | split

theorem growBad_sound {s : State} {channel : Nat} {id : Nat} (h_s : Sound s) : Sound (@growBad s channel id) := by
  unfold growBad
  repeat' first
    | with_reducible assumption
    | (with_reducible first
        | apply deckleImmediate_sound | apply replaceMember_sound | apply State.event_sound
        | apply startMoves_sound | apply setFlash_sound)

theorem flashState_sound {s : State} {channel : Nat} {st : FlashSt} {cause : Nat} (h_s : Sound s) : Sound (@flashState s channel st cause) := by
  unfold flashState
  repeat' first
    | with_reducible assumption
    | (with_reducible first
        | apply settleIsland_sound | apply State.event_sound | apply setFlash_sound | apply ite_sound)

theorem countErrors_sound {s : State} {u : UnitId} {uncorrectable : Bool} {count : Nat} (h_s : Sound s) : Sound (@countErrors s u uncorrectable count) := by
  unfold countErrors
  repeat' first
    | with_reducible assumption
    | (refine fun h => ?_; first | exact h.1 | exact h.2 | skip)
    | (with_reducible first
        | apply countError_sound | apply State.each_sound)

theorem engineErrors_sound {s : State} {e : Nat} {count : Nat} (h_s : Sound s) : Sound (@engineErrors s e count) := by
  unfold engineErrors
  repeat' first
    | with_reducible assumption
    | (with_reducible first
        | apply State.onUnits_sound | apply countErrors_sound)

theorem applyInjection_sound {s : State} {i : Injection} (h_s : Sound s) : Sound (@applyInjection s i) := by
  unfold applyInjection
  dsimp only
  repeat' first
    | with_reducible assumption
    | (refine fun h => ?_; first | exact h.1 | exact h.2 | skip)
    | (with_reducible first
        | apply setFrame_sound | apply readInjected_sound | apply sliceCorrected_sound
        | apply sliceSpoiled_sound | apply engineErrors_sound | apply countErrors_sound | apply State.onCmd_sound | apply State.each_sound
        | apply ite_sound)
    | ((try lift_lets); intro x; first | (have hx : Sound x := ?_; (on_goal 2 => subst x); (on_goal 1 => clear_value x)) | clear_value x | skip)
    | split

theorem releaseForced_sound {s : State} (h_s : Sound s) : Sound (@releaseForced s) := by
  unfold releaseForced
  repeat' first
    | with_reducible assumption
    | (refine fun h => ?_; first | exact h.1 | exact h.2 | skip)
    | (with_reducible first
        | apply applyInjection_sound | apply State.each_sound)

theorem throughPlaced_sound {s : State} {q : HostReq} (h_s : Sound s) : Sound (@throughPlaced s q) := by
  unfold throughPlaced
  repeat' first
    | with_reducible assumption
    | (with_reducible first
        | apply stageLine_sound | apply localPlaced_sound | apply ite_sound)
    | split

theorem retireWrites_sound {s : State} {line : Nat} (h_s : Sound s) : Sound (@retireWrites s line) := by
  unfold retireWrites
  repeat' first
    | with_reducible assumption
    | (refine fun h => ?_; first | exact h.1 | exact h.2 | skip)
    | (with_reducible first
        | apply throughPlaced_sound | apply State.each_sound | apply State.onCurd_sound)

theorem demandFrame_sound {s : State} {page : Nat} (h_s : Sound s) : Sound (@demandFrame s page) := by
  unfold demandFrame
  repeat' first
    | with_reducible assumption
    | (with_reducible first
        | apply putQuiet_sound | apply assignFrame_sound
        | refine (assignFrame_sound ?_).out _ _ (by assumption) | apply startFetch_sound | apply ite_sound)
    | ((try lift_lets); intro x; first | (have hx : Sound x := ?_; (on_goal 2 => subst x); (on_goal 1 => clear_value x)) | clear_value x | skip)
    | split

theorem frameForCharge_sound {s : State} {page : Nat} (h_s : Sound s) : SoundO (@frameForCharge s page) := by
  unfold frameForCharge
  repeat' first
    | with_reducible assumption
    | (with_reducible first
        | apply soundO_none | apply soundO_some | apply soundO_ite | apply zeroAllocate_sound
        | refine (zeroAllocate_sound ?_).out _ (by assumption) | apply poisonAllocate_sound
        | refine (poisonAllocate_sound ?_).out _ (by assumption) | apply demandFrame_sound | apply ite_sound)
    | (refine soundO_map ?_ fun _ h => ?_; on_goal 2 => (try dsimp only))
    | (refine soundO_mapP ?_ fun _ _ h => ?_; on_goal 2 => (try dsimp only))
    | ((try lift_lets); intro x; first | (have hx : Sound x := ?_; (on_goal 2 => subst x); (on_goal 1 => clear_value x)) | clear_value x | skip)
    | split

theorem beginClean_sound {s : State} {page : Nat} (h_s : Sound s) : Sound (@beginClean s page) := by
  unfold beginClean
  repeat' first
    | with_reducible assumption
    | (with_reducible first
        | apply gatherPage_sound | apply pageCommand_sound | apply cipherRequest_sound | apply startMove_sound
        | apply ite_sound)
    | ((try lift_lets); intro x; first | (have hx : Sound x := ?_; (on_goal 2 => subst x); (on_goal 1 => clear_value x)) | clear_value x | skip)
    | split

theorem resumeMove_sound {s : State} {x : Retried} (h_s : Sound s) : Sound (@resumeMove s x) := by
  unfold resumeMove
  repeat' first
    | with_reducible assumption
    | (with_reducible first
        | apply beginClean_sound | apply State.onPpu_sound | apply startMove_sound | apply ite_sound)
    | ((try lift_lets); intro x; first | (have hx : Sound x := ?_; (on_goal 2 => subst x); (on_goal 1 => clear_value x)) | clear_value x | skip)
    | split

theorem resumeMoves_sound {s : State} {page : Nat} (h_s : Sound s) : Sound (@resumeMoves s page) := by
  unfold resumeMoves
  repeat' first
    | with_reducible assumption
    | (with_reducible first
        | apply resumeMove_sound | apply State.each_sound)

theorem checkFill_sound {s : State} {page : Nat} (h_s : Sound s) : Sound (@checkFill s page) := by
  unfold checkFill
  repeat' first
    | with_reducible assumption
    | (with_reducible first
        | apply endLongOf_sound | apply setRegion_sound | apply ok_sound | apply ite_sound)
    | split

theorem dropPrefetch_sound {s : State} {page : Nat} (h_s : Sound s) : Sound (@dropPrefetch s page) := h_s

theorem fetchDone_sound {s : State} {page : Nat} {d : PageData} (h_s : Sound s) : Sound (@fetchDone s page d) := by
  unfold fetchDone
  repeat' first
    | with_reducible assumption
    | (with_reducible first
        | apply checkFill_sound | apply fillFrame_sound | apply putQuiet_sound | apply assignFrame_sound
        | refine (assignFrame_sound ?_).out _ _ (by assumption) | apply dropPrefetch_sound | apply State.onPpu_sound
        | apply resumeMoves_sound | apply beginMoves_sound | apply putEntry_sound | apply pageArrived_sound | apply ite_sound)
    | ((try lift_lets); intro x; first | (have hx : Sound x := ?_; (on_goal 2 => subst x); (on_goal 1 => clear_value x)) | clear_value x | skip)
    | split

theorem fetchLost_sound {s : State} {page : Nat} (h_s : Sound s) : Sound (@fetchLost s page) := by
  unfold fetchLost
  repeat' first
    | with_reducible assumption
    | (refine fun h => ?_; first | exact h.1 | exact h.2 | skip)
    | (with_reducible first
        | apply checkFill_sound | apply wakeFrame_sound | apply dropFrame_sound | apply losePage_sound
        | apply State.onPpu_sound | apply resumeMoves_sound | apply fillLine_sound | apply State.each_sound | apply answerRead_sound
        | apply pageArrived_sound | apply ite_sound)
    | ((try lift_lets); intro x; first | (have hx : Sound x := ?_; (on_goal 2 => subst x); (on_goal 1 => clear_value x)) | clear_value x | skip)
    | split

theorem suspectBlock_sound {s : State} {l : BitVec 40} (h_s : Sound s) : Sound (@suspectBlock s l) := by
  unfold suspectBlock
  repeat' first
    | with_reducible assumption
    | (with_reducible first
        | apply growBad_sound | apply setFlash_sound | apply ite_sound)
    | ((try lift_lets); intro x; first | (have hx : Sound x := ?_; (on_goal 2 => subst x); (on_goal 1 => clear_value x)) | clear_value x | skip)
    | split

theorem dropBlockImage_sound {s : State} {extent : Nat} (h_s : Sound s) : Sound (@dropBlockImage s extent) := by
  unfold dropBlockImage
  repeat' first
    | with_reducible assumption
    | (with_reducible first
        | apply State.onReam_sound)

theorem enterDirectory_sound {s : State} {e : Nat} {loc : BitVec 40} (h : Sound s) : Sound (enterDirectory s e loc) := by
  unfold enterDirectory
  exact logRoot_sound (openBlock_sound (openBlock_sound h))

theorem blockRecovered_sound {s : State} {extent : Nat} {newLoc : Option (BitVec 40)} {come : State → State} (h_s : Sound s) (h_come : ∀ x0, Sound x0 → Sound (come x0)) : Sound (@blockRecovered s extent newLoc come) := by
  unfold blockRecovered
  repeat' first
    | with_reducible assumption
    | (with_reducible first
        | apply logRoot_sound | apply countError_sound | apply loseDirectory_sound | apply State.onPpu_sound
        | apply State.event_sound | apply dropBlockImage_sound | apply enterDirectory_sound | apply h_come | apply ite_sound)
    | ((try lift_lets); intro x; first | (have hx : Sound x := ?_; (on_goal 2 => subst x); (on_goal 1 => clear_value x)) | clear_value x | skip)
    | split

theorem blockFetched_sound {s : State} {extent : Nat} {outcome : FetchOutcome} (h_s : Sound s) : Sound (@blockFetched s extent outcome) := by
  unfold blockFetched
  repeat' first
    | with_reducible assumption
    | (refine fun h => ?_; first | exact h.1 | exact h.2 | skip)
    | (with_reducible first
        | apply countError_sound | apply targetAnswers_sound | apply State.onPpu_sound | apply wakeBlock_sound
        | apply blockRecovered_sound | apply loadBlock_sound | apply withInjection_sound | apply ite_sound)
    | ((try lift_lets); intro x; first | (have hx : Sound x := ?_; (on_goal 2 => subst x); (on_goal 1 => clear_value x)) | clear_value x | skip)
    | split

theorem slotRecovered_sound {s : State} {page : Nat} {x : Slot} {newLoc : Option (BitVec 40)} (h_s : Sound s) : Sound (@slotRecovered s page x newLoc) := by
  unfold slotRecovered
  repeat' first
    | with_reducible assumption
    | (with_reducible first
        | apply countError_sound | apply fetchLost_sound | apply writeSlot_sound | apply suspectBlock_sound
        | apply State.event_sound | apply fetchDone_sound | apply startMove_sound | apply ite_sound)
    | ((try lift_lets); intro x; first | (have hx : Sound x := ?_; (on_goal 2 => subst x); (on_goal 1 => clear_value x)) | clear_value x | skip)
    | split

theorem chooseLevel_sound {s : State} {l : BitVec 40} (h_s : Sound s) : Sound (@chooseLevel s l) := by
  unfold chooseLevel
  repeat' first
    | with_reducible assumption
    | (with_reducible first
        | apply setFlash_sound)

theorem frameForClean_sound {s : State} {page : Nat} (h_s : Sound s) : Sound (@frameForClean s page) := by
  unfold frameForClean
  repeat' first
    | with_reducible assumption
    | (with_reducible first
        | apply fillFrame_sound | apply assignFrame_sound
        | refine (assignFrame_sound ?_).out _ _ (by assumption) | apply startFetch_sound | apply formStaged_sound | apply putEntry_sound
        | apply ite_sound)
    | ((try lift_lets); intro x; first | (have hx : Sound x := ?_; (on_goal 2 => subst x); (on_goal 1 => clear_value x)) | clear_value x | skip)
    | split

theorem retireStaged_sound {s : State} {page : Nat} {mark : Nat} (h_s : Sound s) : Sound (@retireStaged s page mark) := by
  unfold retireStaged
  repeat' first
    | with_reducible assumption
    | (with_reducible first
        | apply State.onPpu_sound | apply State.onReam_sound | apply ite_sound)

theorem storeBlock_sound {s : State} {extent : Nat} (h_s : Sound s) : Sound (@storeBlock s extent) := h_s

theorem directoryClean_sound {s : State} {page : Nat} {loc : BitVec 40} (h_s : Sound s) : Sound (@directoryClean s page loc) := by
  unfold directoryClean
  repeat' first
    | with_reducible assumption
    | (with_reducible first
        | apply State.onPpu_sound | apply storeBlock_sound | apply writeTail_sound
        | apply State.onDeckle_sound | apply openBlock_sound | apply dropBlockImage_sound | apply enterDirectory_sound | apply ite_sound)

theorem wakeAll_sound {s : State} (h_s : Sound s) : Sound (@wakeAll s) := by
  unfold wakeAll
  repeat' first
    | with_reducible assumption
    | (refine fun h => ?_; first | exact h.1 | exact h.2 | skip)
    | (with_reducible first
        | apply dropReq_sound | apply serve_sound | apply State.each_sound)

theorem settleZero_sound {s : State} {page : Nat} (h_s : Sound s) : Sound (@settleZero s page) := by
  unfold settleZero
  repeat' first
    | with_reducible assumption
    | (refine fun h => ?_; first | exact h.1 | exact h.2 | skip)
    | (with_reducible first
        | apply State.onVat_sound | apply releaseCredit_sound | apply State.each_sound
        | apply answerRead_sound | apply localPlaced_sound | apply ite_sound)

theorem zeroPage_sound {s : State} {page : Nat} (h_s : Sound s) : Sound (@zeroPage s page) := by
  unfold zeroPage
  repeat' first
    | with_reducible assumption
    | (refine fun h => ?_; first | exact h.1 | exact h.2 | skip)
    | (with_reducible first
        | apply checkFill_sound | apply touchDirectory_sound | apply settleZero_sound
        | apply invalidatePage_sound | apply dropFrame_sound | apply State.onPpu_sound | apply consumeCredit_sound
        | apply State.each_sound | apply State.onReam_sound | apply putEntry_sound)

theorem zeroLineAt_sound {s : State} {g : Region} {mark : Nat} {line : Nat} (h_s : Sound s) : Sound (@zeroLineAt s g mark line) := by
  unfold zeroLineAt
  repeat' first
    | with_reducible assumption
    | (with_reducible first
        | apply takeAge_sound | apply acceptZero_sound | apply keepReq_sound)

theorem awaitZero_sound {s : State} {g : Region} {mark : Nat} {page : Nat} {tag : U16} (h_s : Sound s) : Sound (@awaitZero s g mark page tag) := by
  unfold awaitZero
  repeat' first
    | with_reducible assumption
    | (with_reducible first
        | apply takeAge_sound | apply keepReq_sound)

theorem zeroRange_sound {s : State} {g : Region} {mark : Nat} {offset : Nat} {length : Nat} (h_s : Sound s) : Sound (@zeroRange s g mark offset length) := by
  unfold zeroRange
  repeat' first
    | with_reducible assumption
    | (refine fun h => ?_; first | exact h.1 | exact h.2 | skip)
    | (with_reducible first
        | apply takeTag_sound | refine (takeTag_sound ?_).out _ _ (by assumption) | apply awaitZero_sound
        | apply zeroPage_sound | apply zeroLineAt_sound | apply State.each_sound | apply sendFelt_sound | apply ite_sound)
    | refine (takeTag_sound ?_).out _ _ rfl
    | ((try lift_lets); intro x; first | (have hx : Sound x := ?_; (on_goal 2 => subst x); (on_goal 1 => clear_value x)) | clear_value x | skip)
    | split

theorem zeroAndAnswer_sound {s : State} {g : Region} {offset : Nat} {length : Nat} {answer : Option (Req × U16 × Nat)} (h_s : Sound s) : Sound (@zeroAndAnswer s g offset length answer) := by
  unfold zeroAndAnswer
  repeat' first
    | with_reducible assumption
    | (with_reducible first
        | apply zeroDone_sound | apply zeroRange_sound | apply State.onCmd_sound)

theorem addLong_sound {s : State} {r : Req} {op : U16} {x : Session} {kind : LongKind} {total : Nat} {unit : Nat} (h_s : Sound s) : Sound (@addLong s r op x kind total unit) := h_s

theorem leaveDrain_sound {s : State} {c : Nat} {st : Status} {detail : Nat} (h_s : Sound s) : Sound (@leaveDrain s c st detail) := by
  unfold leaveDrain
  repeat' first
    | with_reducible assumption
    | (with_reducible first
        | apply endLong_sound | apply State.onCmd_sound | apply ite_sound)
    | split

theorem startDrain_sound {s : State} {cs : List Nat} (h_s : Sound s) : Sound (@startDrain s cs) := by
  unfold startDrain
  repeat' first
    | with_reducible assumption
    | (refine fun h => ?_; first | exact h.1 | exact h.2 | skip)
    | (with_reducible first
        | apply deckleImmediate_sound | apply flashState_sound | apply setFlash_sound | apply State.each_sound
        | apply beginMoves_sound)

theorem resumeDrains_sound {s : State} (h_s : Sound s) : Sound (@resumeDrains s) := by
  unfold resumeDrains
  repeat' first
    | with_reducible assumption
    | (with_reducible first
        | apply State.onCmd_sound | apply beginMoves_sound | apply ite_sound)
    | ((try lift_lets); intro x; first | (have hx : Sound x := ?_; (on_goal 2 => subst x); (on_goal 1 => clear_value x)) | clear_value x | skip)
    | split

theorem dramState_sound {s : State} {channel : Nat} {st : DramSt} {cause : Nat} {item : Nat} (h_s : Sound s) : Sound (@dramState s channel st cause item) := by
  unfold dramState
  repeat' first
    | with_reducible assumption
    | (with_reducible first
        | apply settleIsland_sound | apply setDram_sound | apply State.event_sound | apply ite_sound)

theorem dramFailed_sound {s : State} {channel : Nat} {cause : Nat} {item : Nat} (h_s : Sound s) : Sound (@dramFailed s channel cause item) := by
  unfold dramFailed
  repeat' first
    | with_reducible assumption
    | (with_reducible first
        | apply State.event_sound | apply dramState_sound)

theorem vacateWithheld_sound {s : State} {c : Nat} (h_s : Sound s) : Sound (@vacateWithheld s c) := by
  unfold vacateWithheld
  repeat' first
    | with_reducible assumption
    | (with_reducible first
        | apply leaveBlocks_sound | apply vacateStep_sound)

theorem coverPage_sound {s : State} {page : Nat} (h_s : Sound s) : Sound (@coverPage s page) := by
  unfold coverPage
  repeat' first
    | with_reducible assumption
    | (with_reducible first
        | apply fillFrame_sound | apply gatherPage_sound | apply assignFrame_sound
        | refine (assignFrame_sound ?_).out _ _ (by assumption) | apply putEntry_sound | apply ite_sound)
    | ((try lift_lets); intro x; first | (have hx : Sound x := ?_; (on_goal 2 => subst x); (on_goal 1 => clear_value x)) | clear_value x | skip)
    | split

theorem failPage_sound {s : State} {f : Frame} (h_s : Sound s) : Sound (@failPage s f) := by
  unfold failPage
  repeat' first
    | with_reducible assumption
    | (with_reducible first
        | apply putQuiet_sound | apply startKept_sound | apply coverPage_sound | apply dropFrame_sound
        | apply losePage_sound | apply State.onPpu_sound | apply recovering_sound | apply putEntry_sound | apply ite_sound)

theorem poisonQueue_sound {s : State} {queue : List DramReq} (h_s : Sound s) : Sound (@poisonQueue s queue) := by
  unfold poisonQueue
  repeat' first
    | with_reducible assumption
    | (refine fun h => ?_; first | exact h.1 | exact h.2 | skip)
    | (with_reducible first
        | apply fillLine_sound | apply recovering_sound | apply State.each_sound | apply deliver_sound
        | apply ite_sound)

theorem holdForTwin_sound {s : State} (h_s : Sound s) : Sound (@holdForTwin s) := h_s

theorem settleWrites_sound {s : State} {queue : List DramReq} (h_s : Sound s) : Sound (@settleWrites s queue) := by
  unfold settleWrites
  repeat' first
    | with_reducible assumption
    | (refine fun h => ?_; first | exact h.1 | exact h.2 | skip)
    | (with_reducible first
        | apply throughPlaced_sound | apply State.each_sound | apply ite_sound)
    | split

theorem failBlocks_sound {s : State} {channel : Nat} (h_s : Sound s) : Sound (@failBlocks s channel) := by
  unfold failBlocks
  repeat' first
    | with_reducible assumption
    | (refine fun h => ?_; first | exact h.1 | exact h.2 | skip)
    | (with_reducible first
        | apply leaveBlocks_sound | apply loseDirectory_sound | apply State.onPpu_sound
        | apply State.each_sound | apply loadBlock_sound)

theorem failChannel_sound {s : State} {channel : Nat} {cause : Nat} (h_s : Sound s) : Sound (@failChannel s channel cause) := by
  unfold failChannel
  repeat' first
    | with_reducible assumption
    | (refine fun h => ?_; first | exact h.1 | exact h.2 | skip)
    | (with_reducible first
        | apply setDram_sound | apply settleWrites_sound | apply dramFailed_sound | apply failBlocks_sound
        | apply poisonQueue_sound | apply endLongOf_sound | apply holdForTwin_sound | apply State.each_sound | apply failPage_sound
        | apply State.onCurd_sound | apply wakeAll_sound)

theorem retargetBin_sound {s : State} (h_s : Sound s) : Sound (@retargetBin s) := by
  unfold retargetBin
  repeat' first
    | with_reducible assumption
    | (refine fun h => ?_; first | exact h.1 | exact h.2 | skip)
    | (with_reducible first
        | apply State.onWire_sound | apply State.onVat_sound | apply setDram_sound | apply State.each_sound
        | apply ite_sound)

theorem enterOnline_sound {s : State} {channel : Nat} (h_s : Sound s) : Sound (@enterOnline s channel) := by
  unfold enterOnline
  repeat' first
    | with_reducible assumption
    | (with_reducible first
        | apply setDram_sound | apply State.onPpu_sound | apply dramState_sound | apply retargetBin_sound
        | apply wakeAll_sound)

theorem trainingFails_sound {s : State} {channel : Nat} {step : Nat} (h_s : Sound s) : Sound (@trainingFails s channel step) := by
  unfold trainingFails
  repeat' first
    | with_reducible assumption
    | (with_reducible first
        | apply dramFailed_sound | apply failChannel_sound | apply ite_sound)

theorem trained_sound {s : State} {channel : Nat} (h_s : Sound s) : Sound (@trained s channel) := by
  unfold trained
  repeat' first
    | with_reducible assumption
    | (with_reducible first
        | apply setDram_sound | apply enterOnline_sound | apply ite_sound)

theorem candidate_sound {s : State} {channel : Nat} {row : Nat} {device : Nat} (h_s : Sound s) : Sound (@candidate s channel row device) := by
  unfold candidate
  repeat' first
    | with_reducible assumption
    | (with_reducible first
        | apply setDram_sound | apply vacateWithheld_sound | apply ite_sound)

theorem markDevice_sound {s : State} {no : Nat} {line : Nat} {device : Nat} (h_s : Sound s) : Sound (@markDevice s no line device) := by
  unfold markDevice
  repeat' first
    | with_reducible assumption
    | (with_reducible first
        | apply setDram_sound | apply dramEvent_sound | apply State.event_sound | apply vacateWithheld_sound
        | apply ite_sound)

theorem corrected_sound {s : State} {no : Nat} {line : Nat} {device : Nat} (h_s : Sound s) : Sound (@corrected s no line device) := by
  unfold corrected
  repeat' first
    | with_reducible assumption
    | (with_reducible first
        | apply setDram_sound | apply candidate_sound | apply dramEvent_sound | apply markDevice_sound
        | apply ite_sound)

theorem rowBad_sound {s : State} {channel : Nat} {row : Nat} (h_s : Sound s) : Sound (@rowBad s channel row) := by
  unfold rowBad
  repeat' first
    | with_reducible assumption
    | (with_reducible first
        | apply setDram_sound | apply candidate_sound | apply failChannel_sound | apply ite_sound)

theorem noSpareRow_sound {s : State} {channel : Nat} {x : Nat × Nat × Nat} (h_s : Sound s) : Sound (@noSpareRow s channel x) := by
  unfold noSpareRow
  repeat' first
    | with_reducible assumption
    | (with_reducible first
        | apply setDram_sound | apply dramEvent_sound)

theorem refetch_sound {s : State} {no : Nat} {line : Nat} (h_s : Sound s) : Sound (@refetch s no line) := by
  unfold refetch
  repeat' first
    | with_reducible assumption
    | (refine fun h => ?_; first | exact h.1 | exact h.2 | skip)
    | (with_reducible first
        | apply setDram_sound | apply dropReq_sound | apply dropFrame_sound | apply startFetch_sound
        | apply State.onPpu_sound | apply dramEvent_sound | apply serve_sound | apply fillLine_sound | apply State.each_sound
        | apply putEntry_sound | apply ite_sound)

theorem correctable_sound {s : State} {no : Nat} {line : Nat} {device : Nat} (h_s : Sound s) : Sound (@correctable s no line device) := by
  unfold correctable
  repeat' first
    | with_reducible assumption
    | (refine fun h => ?_; first | exact h.1 | exact h.2 | skip)
    | (with_reducible first
        | apply countError_sound | apply corrected_sound | apply withInjection_sound)

theorem uncorrectable_sound {s : State} {no : Nat} {d : DramReq} (h_s : Sound s) : Sound (@uncorrectable s no d) := by
  unfold uncorrectable
  repeat' first
    | with_reducible assumption
    | (refine fun h => ?_; first | exact h.1 | exact h.2 | skip)
    | (with_reducible first
        | apply countError_sound | apply setDram_sound | apply recoverLine_sound | apply spoilAccess_sound
        | apply refetch_sound | apply rowBad_sound | apply withInjection_sound | apply ite_sound)

theorem directoryAccess_sound {s : State} {line : Nat} {err : DramError} (h_s : Sound s) : Sound (@directoryAccess s line err) := by
  unfold directoryAccess
  repeat' first
    | with_reducible assumption
    | (with_reducible first
        | apply uncorrectable_sound | apply columnCommand_sound | apply countError_sound
        | apply correctable_sound | apply dramEvent_sound | apply rowBad_sound | apply corrected_sound | apply ite_sound)
    | ((try lift_lets); intro x; first | (have hx : Sound x := ?_; (on_goal 2 => subst x); (on_goal 1 => clear_value x)) | clear_value x | skip)
    | split

theorem scrubLine_sound {s : State} {f : Frame} {i : Nat} {err : DramError} (h_s : Sound s) : Sound (@scrubLine s f i err) := by
  unfold scrubLine
  repeat' first
    | with_reducible assumption
    | (with_reducible first
        | apply uncorrectable_sound | apply countError_sound | apply recoverLine_sound
        | apply correctable_sound | apply dramEvent_sound | apply queueWrite_sound | apply rowBad_sound | apply corrected_sound
        | apply ite_sound)
    | ((try lift_lets); intro x; first | (have hx : Sound x := ?_; (on_goal 2 => subst x); (on_goal 1 => clear_value x)) | clear_value x | skip)
    | split

theorem scrubBlock_sound {s : State} {no : Nat} {extent : Nat} {i : Nat} {err : DramError} (h_s : Sound s) : Sound (@scrubBlock s no extent i err) := by
  unfold scrubBlock
  repeat' first
    | with_reducible assumption
    | (with_reducible first
        | apply uncorrectable_sound | apply columnCommand_sound | apply countError_sound
        | apply correctable_sound | apply dramEvent_sound | apply rowBad_sound | apply corrected_sound | apply ite_sound)
    | ((try lift_lets); intro x; first | (have hx : Sound x := ?_; (on_goal 2 => subst x); (on_goal 1 => clear_value x)) | clear_value x | skip)
    | split

theorem shareReached_sound {s : State} {channel : Nat} (h_s : Sound s) : Sound (@shareReached s channel) := by
  unfold shareReached
  repeat' first
    | with_reducible assumption
    | (with_reducible first
        | apply setDram_sound | apply State.event_sound | apply wakeAll_sound | apply ite_sound)

theorem areaStep_sound {s : State} (h_s : Sound s) : Sound (@areaStep s) := by
  unfold areaStep
  repeat' first
    | with_reducible assumption
    | (refine fun h => ?_; first | exact h.1 | exact h.2 | skip)
    | (with_reducible first
        | apply leaveBlocks_sound | apply State.each_sound | apply shareReached_sound
        | apply vacateWithheld_sound | apply ite_sound)

theorem beginVacating_sound {s : State} {channel : Nat} (h_s : Sound s) : Sound (@beginVacating s channel) := by
  unfold beginVacating
  repeat' first
    | with_reducible assumption
    | (with_reducible first
        | apply State.onPpu_sound | apply vacateStep_sound | apply dramState_sound)

theorem dramOnline_sound {s : State} {channel : Nat} (h_s : Sound s) : Sound (@dramOnline s channel) := by
  unfold dramOnline
  repeat' first
    | with_reducible assumption
    | (refine fun h => ?_; first | exact h.1 | exact h.2 | skip)
    | (with_reducible first
        | apply setDram_sound | apply State.onPpu_sound | apply endLongOf_sound | apply State.each_sound
        | apply dramState_sound | apply putEntry_sound | apply wakeAll_sound | apply ite_sound)
    | ((try lift_lets); intro x; first | (have hx : Sound x := ?_; (on_goal 2 => subst x); (on_goal 1 => clear_value x)) | clear_value x | skip)
    | split

theorem publish_sound {s : State} (h_s : Sound s) : Sound (@publish s) := h_s

theorem setEnergy_sound {s : State} {st : Energy} {logged : Bool} (h_s : Sound s) : Sound (@setEnergy s st logged) := by
  unfold setEnergy
  repeat' first
    | with_reducible assumption
    | (with_reducible first
        | apply State.event_sound | apply State.onSal_sound | apply ite_sound)

theorem judgeEnergy_sound {s : State} (h_s : Sound s) : Sound (@judgeEnergy s) := by
  unfold judgeEnergy
  repeat' first
    | with_reducible assumption
    | (with_reducible first
        | apply setEnergy_sound | apply deckleImmediate_sound | apply publish_sound | apply ite_sound)

theorem learnStep_sound {s : State} {phase : Phase} {step : Nat} (h_s : Sound s) : Sound (@learnStep s phase step) := h_s

theorem disqualify_sound {s : State} {cause : Nat} (h_s : Sound s) : Sound (@disqualify s cause) := by
  unfold disqualify
  repeat' first
    | with_reducible assumption
    | (with_reducible first
        | apply endLongOf_sound | apply State.onSal_sound | apply ite_sound)

theorem putLearned_sound {s : State} {r : Learned} (h_s : Sound s) : Sound (@putLearned s r) := by
  unfold putLearned
  repeat' first
    | with_reducible assumption
    | (with_reducible first
        | apply State.onSal_sound | apply ite_sound)

theorem finishCopy_sound {s : State} (h_s : Sound s) : Sound (@finishCopy s) := by
  unfold finishCopy
  repeat' first
    | with_reducible assumption
    | (with_reducible first
        | apply State.onSal_sound | apply ite_sound)
    | split

theorem discardHistory_sound {s : State} (h_s : Sound s) : Sound (@discardHistory s) := h_s

theorem packSwap_sound {s : State} (h_s : Sound s) : Sound (@packSwap s) := by
  unfold packSwap
  repeat' first
    | with_reducible assumption
    | (with_reducible first
        | apply putLearned_sound | apply disqualify_sound | apply State.event_sound
        | apply discardHistory_sound | apply publish_sound | apply ite_sound)
    | ((try lift_lets); intro x; first | (have hx : Sound x := ?_; (on_goal 2 => subst x); (on_goal 1 => clear_value x)) | clear_value x | skip)
    | split

theorem countCharge_sound {s : State} {current : Int} {us : Nat} (h_s : Sound s) : Sound (@countCharge s current us) := h_s

theorem anchorAt_sound {s : State} {soc : Nat} (h_s : Sound s) : Sound (@anchorAt s soc) := by
  unfold anchorAt
  repeat' first
    | with_reducible assumption
    | (with_reducible first
        | apply State.onSal_sound | apply ite_sound)

theorem ocvAnchor_sound {s : State} {soc : Nat} (h_s : Sound s) : Sound (@ocvAnchor s soc) := by
  unfold ocvAnchor
  repeat' first
    | with_reducible assumption
    | (with_reducible first
        | apply State.event_sound | apply State.onSal_sound | apply ite_sound)

theorem setInterval_sound {s : State} {ocv : Nat} (h_s : Sound s) : Sound (@setInterval s ocv) := h_s

theorem islandsReset_sound {s : State} (h : Sound s) : Sound (islandsReset s) := ⟨⟨h.1.1, h.1.2.1, fun _ e => nomatch e⟩, h.2⟩

theorem railsOff_sound {s : State} (h : Sound s) : Sound (railsOff s) := h

theorem leaveGeneration_sound {s : State} {sealed_ : Bool} (h_s : Sound s) : Sound (@leaveGeneration s sealed_) := by
  unfold leaveGeneration
  repeat' first
    | with_reducible assumption
    | (with_reducible first
        | apply State.onReam_sound | apply State.onCipher_sound | apply ite_sound)
    | ((try lift_lets); intro x; first | (have hx : Sound x := ?_; (on_goal 2 => subst x); (on_goal 1 => clear_value x)) | clear_value x | skip)
    | split

theorem railPgInput_sound {s : State} {rail : Nat} {up : Bool} (h_s : Sound s) : Sound (@railPgInput s rail up) := by
  unfold railPgInput
  repeat' first
    | with_reducible assumption
    | (with_reducible first
        | apply State.onPower_sound)

theorem railSenseInput_sound {s : State} {rail : Nat} {up : Bool} (h_s : Sound s) : Sound (@railSenseInput s rail up) := by
  unfold railSenseInput
  repeat' first
    | with_reducible assumption
    | (with_reducible first
        | apply State.onPower_sound)

theorem railInputs_sound {s : State} {rail : Nat} {up : Bool} (h_s : Sound s) : Sound (@railInputs s rail up) := h_s

theorem dropRail_sound {s : State} {e : Nat} (h_s : Sound s) : Sound (@dropRail s e) := h_s

theorem faultRestart_sound {s : State} (h_s : Sound s) : Sound (@faultRestart s) := by
  unfold faultRestart
  repeat' first
    | with_reducible assumption
    | (with_reducible first
        | apply State.onPower_sound | apply State.event_sound | apply ite_sound)

theorem finishDown_sound {s : State} (h_s : Sound s) : Sound (@finishDown s) := by
  unfold finishDown
  repeat' first
    | with_reducible assumption
    | (with_reducible first
        | apply State.onPower_sound | apply rindWrite_sound | apply State.onCouch_sound
        | apply faultRestart_sound | apply ite_sound)

theorem fallStep_sound {s : State} {a : List Nat} (h_s : Sound s) : Sound (@fallStep s a) := by
  unfold fallStep
  repeat' first
    | with_reducible assumption
    | (with_reducible first
        | apply dropRail_sound | apply State.onPower_sound | apply finishDown_sound | apply ite_sound)
    | ((try lift_lets); intro x; first | (have hx : Sound x := ?_; (on_goal 2 => subst x); (on_goal 1 => clear_value x)) | clear_value x | skip)
    | split

theorem coldLoss_sound {s : State} (h : Sound s) : Sound (coldLoss s) := h

theorem startPowerDown_sound {s : State} {cause : DownCause} (h_s : Sound s) : Sound (@startPowerDown s cause) := by
  unfold startPowerDown
  repeat' first
    | with_reducible assumption
    | (with_reducible first
        | apply railsOff_sound | apply coldLoss_sound | apply State.onPower_sound | apply State.onCouch_sound
        | apply islandsReset_sound | apply fallStep_sound | apply ite_sound)

theorem setSlot_sound {s : State} {b : Bool} {f : FwSlot → FwSlot} (h : Sound s) : Sound (setSlot s b f) := by
  unfold setSlot; refine State.onLedger_sound h fun h => ?_; split <;> exact h.2

theorem deriveSlots_sound {s : State} (h_s : Sound s) : Sound (@deriveSlots s) := by
  unfold deriveSlots
  repeat' first
    | with_reducible assumption
    | (with_reducible first
        | apply setSlot_sound)

theorem putActivations_sound {s : State} {l : List Activation} (h_s : Sound s) : Sound (@putActivations s l) := by
  unfold putActivations
  repeat' first
    | with_reducible assumption
    | (refine fun h => ?_; first | exact h.1 | exact h.2 | skip)
    | (with_reducible first
        | apply State.onLedger_sound)

theorem putRecord_sound {s : State} {r : Activation} (h_s : Sound s) : Sound (@putRecord s r) := by
  unfold putRecord
  repeat' first
    | with_reducible assumption
    | (with_reducible first
        | apply putActivations_sound | apply ite_sound)

theorem revert_sound {s : State} (h_s : Sound s) : Sound (@revert s) := by
  unfold revert
  repeat' first
    | with_reducible assumption
    | (refine fun h => ?_; first | exact h.1 | exact h.2 | skip)
    | (with_reducible first
        | apply putRecord_sound | apply State.event_sound | apply State.onLedger_sound | apply ite_sound)
    | ((try lift_lets); intro x; first | (have hx : Sound x := ?_; (on_goal 2 => subst x); (on_goal 1 => clear_value x)) | clear_value x | skip)
    | split

theorem recovery_sound {s : State} {b : Bool} (h_s : Sound s) : Sound (@recovery s b) := by
  unfold recovery
  repeat' first
    | with_reducible assumption
    | (with_reducible first
        | apply putRecord_sound | apply State.event_sound)

theorem chooseSlot_sound {s : State} {maintenance : Bool} (h_s : Sound s) : Sound (@chooseSlot s maintenance) := by
  unfold chooseSlot
  repeat' first
    | with_reducible assumption
    | (refine fun h => ?_; first | exact h.1 | exact h.2 | skip)
    | (with_reducible first
        | apply recovery_sound | apply putActivations_sound | apply State.onLedger_sound | apply revert_sound
        | apply ite_sound)
    | ((try lift_lets); intro x; first | (have hx : Sound x := ?_; (on_goal 2 => subst x); (on_goal 1 => clear_value x)) | clear_value x | skip)
    | split

theorem bootChoose_sound {s : State} {maintenance : Bool} (h_s : Sound s) : Sound (@bootChoose s maintenance) := by
  unfold bootChoose
  repeat' first
    | with_reducible assumption
    | (refine fun h => ?_; first | exact h.1 | exact h.2 | skip)
    | (with_reducible first
        | apply State.onPower_sound | apply State.onLedger_sound | apply deriveSlots_sound
        | apply chooseSlot_sound)

theorem bootStart_sound {s : State} {kept : Bool} (h_s : Sound s) : Sound (@bootStart s kept) := by
  unfold bootStart
  repeat' first
    | with_reducible assumption
    | (refine fun h => ?_; first | exact h.1 | exact h.2 | skip)
    | (with_reducible first
        | apply State.onPower_sound | apply bootChoose_sound | apply State.onLedger_sound | apply ite_sound)

theorem loadFails_sound {s : State} (h_s : Sound s) : Sound (@loadFails s) := by
  unfold loadFails
  repeat' first
    | with_reducible assumption
    | (refine fun h => ?_; first | exact h.1 | exact h.2 | skip)
    | (with_reducible first
        | apply recovery_sound | apply State.onPower_sound | apply State.onLedger_sound
        | apply State.onCmd_sound | apply revert_sound | apply ite_sound)

theorem putWord_sound {s : State} {w : Nat} {v : U16} (h : Sound s) : Sound (putWord s w v) := ⟨h.1, putWord_wf h.2⟩

theorem eraseHeld_sound {s : State} {sector : Nat} (h_s : Sound s) : Sound (@eraseHeld s sector) := by
  unfold eraseHeld
  repeat' first
    | with_reducible assumption
    | (refine fun h => ?_; first | exact h.1 | exact h.2 | skip)
    | (with_reducible first
        | apply State.onLedger_sound | apply setSlot_sound | apply ite_sound)

theorem eraseArray_sound {s : State} {n : Nat} (h : Sound s) : Sound (eraseArray s n) := ⟨h.1, eraseArray_wf h.2⟩

theorem spoilWords_sound {s : State} {ws : List Nat} (h : Sound s) : Sound (spoilWords s ws) :=
  State.each_sound h fun _ _ h => State.draw_sound (putWord_sound h)

theorem loseTable_sound {s : State} {sector : Nat} (h_s : Sound s) : Sound (@loseTable s sector) := by
  unfold loseTable
  repeat' first
    | with_reducible assumption
    | (refine fun h => ?_; first | exact h.1 | exact h.2 | skip)
    | (with_reducible first
        | apply State.event_sound | apply State.onLedger_sound | apply ite_sound)

theorem growBadSector_sound {s : State} {physical : Nat} (h : Sound s) : Sound (growBadSector s physical) := by
  unfold growBadSector; dsimp only
  split
  · exact loseTable_sound h
  split
  · exact State.event_sound h
  split
  · refine State.onLedger_sound ?_ fun h => h.2
    split
    · exact State.onLedger_sound (State.event_sound h) fun h => h.2
    · exact State.event_sound h
  · refine State.onLedger_sound ?_ fun h => foldl_putCell_wf h.2
    split
    · exact State.onLedger_sound (State.event_sound h) fun h => h.2
    · exact State.event_sound h

theorem setLedger_sound {s : State} {st : LedgerSt} (h_s : Sound s) : Sound (@setLedger s st) := h_s

theorem startLedger_sound {s : State} {st : LedgerSt} (h_s : Sound s) : Sound (@startLedger s st) := h_s

theorem ledgerProgram_sound {s : State} {address : Nat} {data : U16} (h_s : Sound s) : Sound (@ledgerProgram s address data) := h_s

theorem ledgerErase_sound {s : State} {address : Nat} {key : U16} (h_s : Sound s) : Sound (@ledgerErase s address key) := by
  unfold ledgerErase
  repeat' first
    | with_reducible assumption
    | (with_reducible first
        | apply setLedger_sound | apply startLedger_sound | apply ite_sound)

theorem ledgerIdentify_sound {s : State} (h_s : Sound s) : Sound (@ledgerIdentify s) := h_s

theorem ledgerStop_sound {s : State} (h : Sound s) : Sound (ledgerStop s) := by
  unfold ledgerStop
  generalize List.range sectorWords = l
  split
  · exact State.onLedger_sound (spoilWords_sound h) fun h => h.2
  · exact State.onLedger_sound (spoilWords_sound h) fun h => h.2
  all_goals exact setLedger_sound h

theorem endLedgerErase_sound {s : State} (h_s : Sound s) : Sound (@endLedgerErase s) := by
  unfold endLedgerErase
  repeat' first
    | with_reducible assumption
    | (refine fun h => ?_; first | exact h.1 | exact h.2 | skip)
    | (with_reducible first
        | apply ledgerStop_sound | apply State.onLedger_sound | apply ite_sound)
    | split

theorem reissueErase_sound {s : State} {rindOnly : Bool} (h_s : Sound s) : Sound (@reissueErase s rindOnly) := by
  unfold reissueErase
  repeat' first
    | with_reducible assumption
    | (refine fun h => ?_; first | exact h.1 | exact h.2 | skip)
    | (with_reducible first
        | apply State.onLedger_sound | apply startLedger_sound | apply ite_sound)
    | ((try lift_lets); intro x; first | (have hx : Sound x := ?_; (on_goal 2 => subst x); (on_goal 1 => clear_value x)) | clear_value x | skip)
    | split

theorem ledgerWrite_sound {s : State} {address : Nat} {data : U16} (h_s : Sound s) : Sound (@ledgerWrite s address data) := by
  unfold ledgerWrite
  repeat' first
    | with_reducible assumption
    | (with_reducible first
        | apply ledgerIdentify_sound | apply ledgerErase_sound | apply setLedger_sound
        | apply ledgerProgram_sound | apply ite_sound)
    | split

theorem startOp_sound {s : State} {a : LedgerOp} (h_s : Sound s) : Sound (@startOp s a) := by
  unfold startOp
  repeat' first
    | with_reducible assumption
    | (with_reducible first
        | apply ledgerIdentify_sound | apply ledgerErase_sound | apply ledgerProgram_sound | apply ite_sound)
    | split

theorem askLedger_sound {s : State} {op : LedgerOp} (h_s : Sound s) : Sound (@askLedger s op) := by
  unfold askLedger
  repeat' first
    | with_reducible assumption
    | (refine fun h => ?_; first | exact h.1 | exact h.2 | skip)
    | (with_reducible first
        | apply startOp_sound | apply State.onLedger_sound | apply ite_sound)

theorem ledgerApply_sound {s : State} (h_s : Sound s) : Sound (@ledgerApply s) := by
  unfold ledgerApply
  repeat' first
    | with_reducible assumption
    | (with_reducible first
        | apply putWord_sound | apply eraseHeld_sound | apply eraseArray_sound | apply ite_sound)
    | ((try lift_lets); intro x; first | (have hx : Sound x := ?_; (on_goal 2 => subst x); (on_goal 1 => clear_value x)) | clear_value x | skip)
    | split

theorem fwEraseNext_sound {s : State} (h_s : Sound s) : Sound (@fwEraseNext s) := by
  unfold fwEraseNext
  repeat' first
    | with_reducible assumption
    | (with_reducible first
        | apply endLong_sound | apply setSlot_sound | apply ok_sound | apply startLedger_sound
        | apply ite_sound)
    | ((try lift_lets); intro x; first | (have hx : Sound x := ?_; (on_goal 2 => subst x); (on_goal 1 => clear_value x)) | clear_value x | skip)
    | split

theorem ledgerNext_sound {s : State} (h_s : Sound s) : Sound (@ledgerNext s) := by
  unfold ledgerNext
  repeat' first
    | with_reducible assumption
    | (refine fun h => ?_; first | exact h.1 | exact h.2 | skip)
    | (with_reducible first
        | apply startOp_sound | apply State.onLedger_sound | apply fwEraseNext_sound | apply ite_sound)
    | ((try lift_lets); intro x; first | (have hx : Sound x := ?_; (on_goal 2 => subst x); (on_goal 1 => clear_value x)) | clear_value x | skip)
    | split

theorem fwErased_sound {s : State} {sector : Option Nat} (h_s : Sound s) : Sound (@fwErased s sector) := by
  unfold fwErased
  repeat' first
    | with_reducible assumption
    | (with_reducible first
        | apply progressLong_sound | apply fwEraseNext_sound | apply ite_sound)
    | ((try lift_lets); intro x; first | (have hx : Sound x := ?_; (on_goal 2 => subst x); (on_goal 1 => clear_value x)) | clear_value x | skip)
    | split

theorem leaveAdd_sound {s : State} {c : Nat} {ok : Bool} (h_s : Sound s) : Sound (@leaveAdd s c ok) := by
  unfold leaveAdd
  repeat' first
    | with_reducible assumption
    | (with_reducible first
        | apply endLong_sound | apply State.onCmd_sound | apply ok_sound | apply ite_sound)
    | ((try lift_lets); intro x; first | (have hx : Sound x := ?_; (on_goal 2 => subst x); (on_goal 1 => clear_value x)) | clear_value x | skip)
    | split

theorem presenceEvent_sound {s : State} {c : Nat} {present : Bool} (h_s : Sound s) : Sound (@presenceEvent s c present) := h_s

theorem couchLoses_sound {s : State} {c : Nat} (h_s : Sound s) : Sound (@couchLoses s c) := by
  unfold couchLoses
  repeat' first
    | with_reducible assumption
    | (with_reducible first
        | apply State.onCouch_sound)

theorem failFlash_sound {s : State} {c : Nat} {cause : Nat} {removed : Bool} (h_s : Sound s) : Sound (@failFlash s c cause removed) := by
  unfold failFlash
  repeat' first
    | with_reducible assumption
    | (refine fun h => ?_; first | exact h.1 | exact h.2 | skip)
    | (with_reducible first
        | apply leaveDrain_sound | apply presenceEvent_sound | apply deckleImmediate_sound
        | apply State.onlyIf_sound | apply flashState_sound | apply setFlash_sound | apply leaveAdd_sound | apply couchLoses_sound
        | apply ite_sound)
    | ((try lift_lets); intro x; first | (have hx : Sound x := ?_; (on_goal 2 => subst x); (on_goal 1 => clear_value x)) | clear_value x | skip)
    | split

theorem noteGeneration_sound {s : State} {c : Nat} {generation : Nat} (h_s : Sound s) : Sound (@noteGeneration s c generation) := by
  unfold noteGeneration
  repeat' first
    | with_reducible assumption
    | (refine fun h => ?_; first | exact h.1 | exact h.2 | skip)
    | (with_reducible first
        | apply flashState_sound | apply State.each_sound | apply State.onReam_sound | apply ite_sound)

theorem headerEvents_sound {s : State} {channel : Nat} (h_s : Sound s) : Sound (@headerEvents s channel) := by
  unfold headerEvents
  repeat' first
    | with_reducible assumption
    | (refine fun h => ?_; first | exact h.1 | exact h.2 | skip)
    | (with_reducible first
        | apply State.event_sound | apply State.each_sound)

theorem joinGroup_sound {s : State} {c : Nat} {found : ChanMeta} (h_s : Sound s) : Sound (@joinGroup s c found) := by
  unfold joinGroup
  repeat' first
    | with_reducible assumption
    | (with_reducible first
        | apply noteGeneration_sound | apply headerEvents_sound | apply flashState_sound
        | apply setFlash_sound | apply ite_sound)

theorem setSlow_sound {s : State} {channel : Nat} {slow : Bool} (h_s : Sound s) : Sound (@setSlow s channel slow) := by
  unfold setSlow
  repeat' first
    | with_reducible assumption
    | (with_reducible first
        | apply State.event_sound | apply setFlash_sound | apply changeClock_sound | apply ite_sound)

theorem holdFormat_sound {s : State} {channel : Nat} (h_s : Sound s) : Sound (@holdFormat s channel) := by
  unfold holdFormat
  repeat' first
    | with_reducible assumption
    | (with_reducible first
        | apply progressLong_sound | apply setFlash_sound | apply ite_sound)

theorem failTarget_sound {s : State} {channel : Nat} {target : Nat} (h_s : Sound s) : Sound (@failTarget s channel target) := by
  unfold failTarget
  repeat' first
    | with_reducible assumption
    | (with_reducible first
        | apply failFlash_sound | apply deckleImmediate_sound | apply State.event_sound | apply setFlash_sound
        | apply ite_sound)
    | ((try lift_lets); intro x; first | (have hx : Sound x := ?_; (on_goal 2 => subst x); (on_goal 1 => clear_value x)) | clear_value x | skip)
    | split

theorem stageTarget_sound {s : State} (h : Sound s) : SoundOP (stageTarget s) := by
  unfold stageTarget; split
  · exact soundOP_some h
  · cases stageNew s true with
    | none => exact soundOP_none
    | some c => exact soundOP_some (State.onReam_sound h)

theorem reclaimStage_sound {s : State} (h_s : Sound s) : Sound (@reclaimStage s) := h_s

theorem emptyBlock_sound {s : State} {channel : Nat} {block : Nat} (h_s : Sound s) : Sound (@emptyBlock s channel block) := by
  unfold emptyBlock
  repeat' first
    | with_reducible assumption
    | (with_reducible first
        | apply startMoves_sound | apply setFlash_sound)

theorem emptyStripe_sound {s : State} {p : Stripe} (h_s : Sound s) : Sound (@emptyStripe s p) := by
  unfold emptyStripe
  repeat' first
    | with_reducible assumption
    | (refine fun h => ?_; first | exact h.1 | exact h.2 | skip)
    | (with_reducible first
        | apply leaveStripe_sound | apply emptyBlock_sound | apply State.each_sound | apply ite_sound)

theorem moveDirectory_sound {s : State} {e : Nat} {loc : BitVec 40} (h_s : Sound s) : Sound (@moveDirectory s e loc) := by
  unfold moveDirectory
  repeat' first
    | with_reducible assumption
    | (with_reducible first
        | apply enterDirectory_sound)

theorem rebuildDirectory_sound {s : State} {e : Nat} {loc : Option (BitVec 40)} (h_s : Sound s) : Sound (@rebuildDirectory s e loc) := by
  unfold rebuildDirectory
  repeat' first
    | with_reducible assumption
    | (with_reducible first
        | apply logRoot_sound | apply loseDirectory_sound | apply State.onPpu_sound
        | apply moveDirectory_sound | apply ite_sound)
    | ((try lift_lets); intro x; first | (have hx : Sound x := ?_; (on_goal 2 => subst x); (on_goal 1 => clear_value x)) | clear_value x | skip)
    | split

theorem fenceCore_sound {s : State} {core : Nat} (h_s : Sound s) : Sound (@fenceCore s core) := by
  unfold fenceCore
  repeat' first
    | with_reducible assumption
    | (with_reducible first
        | apply setUnit_sound | apply State.onUnits_sound | apply State.event_sound | apply ite_sound)

theorem countUsage_sound {s : State} {slot : Nat} {blocks : Nat} (h_s : Sound s) : Sound (@countUsage s slot blocks) := by
  unfold countUsage
  repeat' first
    | with_reducible assumption
    | (with_reducible first
        | apply checkFlush_sound | apply State.event_sound | apply setRegion_sound | apply setKeySlot_sound
        | apply ite_sound)
    | ((try lift_lets); intro x; first | (have hx : Sound x := ?_; (on_goal 2 => subst x); (on_goal 1 => clear_value x)) | clear_value x | skip)
    | split

theorem takeCipher_sound {s : State} {core : Nat} {slot : Option Nat} (h_s : Sound s) : Sound (@takeCipher s core slot) := by
  unfold takeCipher
  repeat' first
    | with_reducible assumption
    | (with_reducible first
        | apply State.onCipher_sound)

theorem endSweep_sound {s : State} {slot : Nat} (h_s : Sound s) : Sound (@endSweep s slot) := h_s

theorem stampFall_sound {s : State} {code : Nat} (h_s : Sound s) : Sound (@stampFall s code) := h_s

theorem clearFall_sound {s : State} {code : Nat} (h_s : Sound s) : Sound (@clearFall s code) := h_s

theorem rehearsed_sound {s : State} {bytes : Nat} (h_s : Sound s) : Sound (@rehearsed s bytes) := by
  unfold rehearsed
  repeat' first
    | with_reducible assumption
    | (with_reducible first
        | apply State.onReam_sound)

theorem cutRehearsal_sound {s : State} (h_s : Sound s) : Sound (@cutRehearsal s) := by
  unfold cutRehearsal
  repeat' first
    | with_reducible assumption
    | (with_reducible first
        | apply rehearsed_sound | apply ite_sound)
    | split

theorem endRehearsal_sound {s : State} {st : Status} {detail : Nat} {params : List Byte} (h_s : Sound s) : Sound (@endRehearsal s st detail params) := by
  unfold endRehearsal
  repeat' first
    | with_reducible assumption
    | (with_reducible first
        | apply State.onCouch_sound | apply endLongOf_sound | apply unforce_sound | apply ite_sound)

theorem stopProbe_sound {s : State} (h_s : Sound s) : Sound (@stopProbe s) := h_s

theorem supplyFails_sound {s : State} (h_s : Sound s) : Sound (@supplyFails s) := by
  unfold supplyFails
  repeat' first
    | with_reducible assumption
    | (with_reducible first
        | apply disqualify_sound | apply stopProbe_sound | apply State.onSal_sound)

theorem arm_sound {s : State} (h_s : Sound s) : Sound (@arm s) := by
  unfold arm
  repeat' first
    | with_reducible assumption
    | (with_reducible first
        | apply State.onCouch_sound | apply cutRehearsal_sound | apply endRehearsal_sound)

theorem abandonMoves_sound {s : State} (h_s : Sound s) : Sound (@abandonMoves s) := by
  unfold abandonMoves
  repeat' first
    | with_reducible assumption
    | (refine fun h => ?_; first | exact h.1 | exact h.2 | skip)
    | (with_reducible first
        | apply putQuiet_sound | apply State.onPpu_sound | apply State.each_sound | apply ite_sound)

theorem couchClose_sound {s : State} (h : Sound s) : Sound (couchClose s) := by
  unfold couchClose; extract_lets waiting gpf s1 s2
  have h2 : Sound s2 := State.onFelt_sound (State.onEpochs_sound (unreserve_sound h) fun h => h.1)
  split
  · next c e => exact State.onEpochs_sound h2 fun h => ⟨h.1.1, h.1.2.1, fun _ e' => by injection e' with e'; subst e'; exact h.1.2.2 c e⟩
  · exact startClose_sound h2

theorem stopWork_sound {s : State} (h_s : Sound s) : Sound (@stopWork s) := by
  unfold stopWork
  repeat' first
    | with_reducible assumption
    | (refine fun h => ?_; first | exact h.1 | exact h.2 | skip)
    | (with_reducible first
        | apply State.onVat_sound | apply State.onUnits_sound | apply flashState_sound | apply setFlash_sound
        | apply State.each_sound)

theorem linksOff_sound {s : State} (h_s : Sound s) : Sound (@linksOff s) := by
  unfold linksOff
  repeat' first
    | with_reducible assumption
    | (refine fun h => ?_; first | exact h.1 | exact h.2 | skip)
    | (with_reducible first
        | apply unroute_sound | apply State.each_sound | apply setLink_sound)

theorem feltSettles_sound {s : State} (h_s : Sound s) : Sound (@feltSettles s) := by
  unfold feltSettles
  repeat' first
    | with_reducible assumption
    | (with_reducible first
        | apply mirrorWrite_sound | refine (mirrorWrite_sound ?_).out _ _ (by assumption)
        | apply linksOff_sound | apply ite_sound)
    | refine (mirrorWrite_sound ?_).out _ _ rfl

theorem couchIslands_sound {s : State} (h_s : Sound s) : Sound (@couchIslands s) := by
  unfold couchIslands
  repeat' first
    | with_reducible assumption
    | (refine fun h => ?_; first | exact h.1 | exact h.2 | skip)
    | (with_reducible first
        | apply State.onWire_sound | apply unroute_sound | apply State.onCave_sound | apply State.each_sound
        | apply changeClock_sound)

theorem settleStaged_sound {s : State} (h_s : Sound s) : Sound (@settleStaged s) := by
  unfold settleStaged
  repeat' first
    | with_reducible assumption
    | (with_reducible first
        | apply State.onFelt_sound | apply applyReady_sound)

theorem couchCommit_sound {s : State} {commanded : Bool} {cause : DownCause} {toDown cold : Bool} {rail : Nat} (h : Sound s) : Sound (couchCommit s commanded cause toDown cold rail) := by
  unfold couchCommit
  split
  · exact h
  extract_lets s1 d gen held s2 s3 s4 s5 cc s6 s7 s8 s9 n s10 s11
  have h1 : Sound s1 := settleStaged_sound (endRehearsal_sound (cutRehearsal_sound (stopProbe_sound h)))
  clear_value s1
  have h2 : Sound s2 := State.onCmd_sound h1
  clear_value s2
  have h3 : Sound s3 := State.each_sound h2 fun _ _ h => releaseAll_sound h
  clear_value s3
  have h4 : Sound s4 := abandonStripes_sound (stopWork_sound (abandonMoves_sound h3))
  clear_value s4
  have h5 : Sound s5 := State.onPpu_sound h4
  clear_value s5
  have h6 : Sound s6 := lagRegions_sound (Sound.couch (c := cc) h5)
  clear_value s6
  have h7 : Sound s7 := sendAll_sound h6
  clear_value s7
  have h8 : Sound s8 := couchIslands_sound (couchClose_sound h7)
  clear_value s8
  have h9 : Sound s9 := retargetBin_sound h8
  clear_value s9
  have h10 : Sound s10 := ite_sound (State.event_sound (State.onCipher_sound h9)) h9
  clear_value s10
  exact feltSettles_sound (rindWrite_sound (retarget_sound (State.onCurd_sound h10)))

theorem sleepRanks_sound {s : State} (h_s : Sound s) : Sound (@sleepRanks s) := by
  unfold sleepRanks
  repeat' first
    | with_reducible assumption
    | (with_reducible first
        | apply State.onVat_sound)

theorem stopCouch_sound {s : State} {flag : U8} (h_s : Sound s) : Sound (@stopCouch s flag) := h_s

theorem saveAt_sound {s : State} {page : Nat} {loc : BitVec 40} (h_s : Sound s) : Sound (@saveAt s page loc) := by
  unfold saveAt
  repeat' first
    | with_reducible assumption
    | (with_reducible first
        | apply sleepRanks_sound | apply writeSlot_sound | apply stopCouch_sound | apply State.onCouch_sound
        | apply storeBlock_sound | apply writeTail_sound | apply pageCommand_sound | apply setRegion_sound | apply cipherRequest_sound
        | apply openBlock_sound | apply ite_sound)
    | ((try lift_lets); intro x; first | (have hx : Sound x := ?_; (on_goal 2 => subst x); (on_goal 1 => clear_value x)) | clear_value x | skip)
    | split

theorem openSummaries_sound {s : State} {g : Generation} (h_s : Sound s) : Sound (@openSummaries s g) := by
  unfold openSummaries
  repeat' first
    | with_reducible assumption
    | (refine fun h => ?_; first | exact h.1 | exact h.2 | skip)
    | (with_reducible first
        | apply stampAt_sound | apply State.onCouch_sound | apply listBlock_sound | apply State.each_sound)

theorem watchStop_sound {s : State} {flag : U8} (h_s : Sound s) : Sound (@watchStop s flag) := by
  unfold watchStop
  repeat' first
    | with_reducible assumption
    | (with_reducible first
        | apply rindWrite_sound | apply stopCouch_sound | apply ite_sound)

theorem couchWatch_sound {s : State} (h_s : Sound s) : Sound (@couchWatch s) := by
  unfold couchWatch
  repeat' first
    | with_reducible assumption
    | (with_reducible first
        | apply watchStop_sound | apply ite_sound)

theorem internalReset_sound {s : State} (h_s : Sound s) : Sound (@internalReset s) := by
  unfold internalReset
  repeat' first
    | with_reducible assumption
    | (with_reducible first
        | apply bootStart_sound | apply State.onCouch_sound | apply islandsReset_sound
        | apply State.onCmd_sound)

theorem loseBlock_sound {s : State} {extent : Nat} (h_s : Sound s) : Sound (@loseBlock s extent) := by
  unfold loseBlock
  repeat' first
    | with_reducible assumption
    | (refine fun h => ?_; first | exact h.1 | exact h.2 | skip)
    | (with_reducible first
        | apply putQuiet_sound | apply State.each_sound | apply ite_sound)
    | split

theorem listIndexed_sound {s : State} (h_s : Sound s) : Sound (@listIndexed s) := by
  unfold listIndexed
  repeat' first
    | with_reducible assumption
    | (refine fun h => ?_; first | exact h.1 | exact h.2 | skip)
    | (with_reducible first
        | apply putQuiet_sound | apply State.each_sound | apply ite_sound)

theorem requeueErases_sound {s : State} (h_s : Sound s) : Sound (@requeueErases s) := by
  unfold requeueErases
  repeat' first
    | with_reducible assumption
    | (with_reducible first
        | apply State.onReam_sound)

theorem retireImaged_sound {s : State} (h_s : Sound s) : Sound (@retireImaged s) := by
  unfold retireImaged
  repeat' first
    | with_reducible assumption
    | (with_reducible first
        | apply State.onReam_sound)

theorem liftDerive_sound {s : State} (h_s : Sound s) : Sound (@liftDerive s) := by
  unfold liftDerive
  repeat' first
    | with_reducible assumption
    | (refine fun h => ?_; first | exact h.1 | exact h.2 | skip)
    | (with_reducible first
        | apply listIndexed_sound | apply retireImaged_sound | apply requeueErases_sound
        | apply State.onPpu_sound | apply State.each_sound | apply loseBlock_sound | apply State.onReam_sound)

theorem liftRecord_sound {s : State} (h_s : Sound s) : Sound (@liftRecord s) := by
  unfold liftRecord
  repeat' first
    | with_reducible assumption
    | (with_reducible first
        | apply rindWrite_sound | apply State.onCouch_sound | apply State.event_sound
        | apply State.onReam_sound | apply ite_sound)

theorem detectDown_sound {s : State} {rail : Nat} (h_s : Sound s) : Sound (@detectDown s rail) := by
  unfold detectDown
  repeat' first
    | with_reducible assumption
    | (with_reducible first
        | apply startPowerDown_sound | apply State.onPower_sound | apply rindWrite_sound
        | apply State.onCouch_sound | apply settle_sound | apply ite_sound)
    | split

theorem cancelCouch_sound {s : State} (h_s : Sound s) : Sound (@cancelCouch s) := by
  unfold cancelCouch
  repeat' first
    | with_reducible assumption
    | (with_reducible first
        | apply reissueErase_sound | apply rindWrite_sound | apply State.onCouch_sound
        | apply State.event_sound)

theorem releaseGeneration_sound {s : State} {g : Generation} (h_s : Sound s) : Sound (@releaseGeneration s g) := by
  unfold releaseGeneration
  repeat' first
    | with_reducible assumption
    | (with_reducible first
        | apply rindWrite_sound | apply State.onReam_sound)

theorem releaseFolded_sound {s : State} (h_s : Sound s) : Sound (@releaseFolded s) := by
  unfold releaseFolded
  repeat' first
    | with_reducible assumption
    | (with_reducible first
        | apply releaseGeneration_sound | apply ite_sound)
    | split

theorem endMove_sound {s : State} {m : Move} {e : DirEntry} (h_s : Sound s) : Sound (@endMove s m e) := by
  unfold endMove
  repeat' first
    | with_reducible assumption
    | (with_reducible first
        | apply putQuiet_sound | apply State.onPpu_sound | apply resumeMoves_sound | apply putEntry_sound
        | apply ite_sound)
    | ((try lift_lets); intro x; first | (have hx : Sound x := ?_; (on_goal 2 => subst x); (on_goal 1 => clear_value x)) | clear_value x | skip)
    | split

theorem movedHome_sound {s : State} {m : Move} {loc : BitVec 40} (h_s : Sound s) : Sound (@movedHome s m loc) := by
  unfold movedHome
  repeat' first
    | with_reducible assumption
    | (with_reducible first
        | apply progressLong_sound | apply releaseFolded_sound | apply copySlot_sound
        | apply targetAnswers_sound | apply endMove_sound | apply State.onReam_sound | apply ite_sound)
    | ((try lift_lets); intro x; first | (have hx : Sound x := ?_; (on_goal 2 => subst x); (on_goal 1 => clear_value x)) | clear_value x | skip)
    | split

theorem movedFrame_sound {s : State} {m : Move} (h_s : Sound s) : Sound (@movedFrame s m) := by
  unfold movedFrame
  repeat' first
    | with_reducible assumption
    | (with_reducible first
        | apply setDram_sound | apply progressLong_sound | apply State.onPpu_sound | apply endMove_sound
        | apply pageCommand_sound | apply ite_sound)
    | ((try lift_lets); intro x; first | (have hx : Sound x := ?_; (on_goal 2 => subst x); (on_goal 1 => clear_value x)) | clear_value x | skip)
    | split

theorem packBands_sound {s : State} (h_s : Sound s) : Sound (@packBands s) := by
  unfold packBands
  repeat' first
    | with_reducible assumption
    | (with_reducible first
        | apply disqualify_sound | apply State.onCave_sound | apply State.event_sound
        | apply State.onSal_sound | apply ite_sound)

theorem thermistorSample_sound {s : State} {temp0 : Int} {temp1 : Int} (h_s : Sound s) : Sound (@thermistorSample s temp0 temp1) := by
  unfold thermistorSample
  repeat' first
    | with_reducible assumption
    | (with_reducible first
        | apply State.event_sound | apply State.onSal_sound | apply ite_sound)
    | ((try lift_lets); intro x; first | (have hx : Sound x := ?_; (on_goal 2 => subst x); (on_goal 1 => clear_value x)) | clear_value x | skip)
    | split

theorem overrangeSample_sound {s : State} {current : Int} (h_s : Sound s) : Sound (@overrangeSample s current) := by
  unfold overrangeSample
  repeat' first
    | with_reducible assumption
    | (with_reducible first
        | apply disqualify_sound | apply State.event_sound | apply State.onSal_sound | apply ite_sound)

theorem secondMean_sound {s : State} {current : Int} {us : Nat} (h_s : Sound s) : Sound (@secondMean s current us) := by
  unfold secondMean
  repeat' first
    | with_reducible assumption
    | (with_reducible first
        | apply disqualify_sound | apply State.onSal_sound | apply ite_sound)

theorem emptyAnchor_sound {s : State} (h_s : Sound s) : Sound (@emptyAnchor s) := by
  unfold emptyAnchor
  repeat' first
    | with_reducible assumption
    | (with_reducible first
        | apply learnStep_sound | apply anchorAt_sound | apply State.onSal_sound)

theorem probeTime_sound {s : State} {us : Nat} (h_s : Sound s) : Sound (@probeTime s us) := by
  unfold probeTime
  repeat' first
    | with_reducible assumption
    | (with_reducible first
        | apply State.onSal_sound | apply ite_sound)

theorem identityFailed_sound {s : State} (h_s : Sound s) : Sound (@identityFailed s) := by
  unfold identityFailed
  repeat' first
    | with_reducible assumption
    | (with_reducible first
        | apply State.event_sound | apply State.onSal_sound | apply ite_sound)

theorem acceptProbe_sound {s : State} {rint : Int} {ocv : Nat} (h_s : Sound s) : Sound (@acceptProbe s rint ocv) := by
  unfold acceptProbe
  repeat' first
    | with_reducible assumption
    | (with_reducible first
        | apply setEnergy_sound | apply deckleImmediate_sound | apply ocvAnchor_sound
        | apply setInterval_sound | apply State.onSal_sound | apply publish_sound | apply ite_sound)
    | ((try lift_lets); intro x; first | (have hx : Sound x := ?_; (on_goal 2 => subst x); (on_goal 1 => clear_value x)) | clear_value x | skip)
    | split

theorem slew_sound {s : State} (h_s : Sound s) : Sound (@slew s) := by
  unfold slew
  repeat' first
    | with_reducible assumption
    | (with_reducible first
        | apply State.onSal_sound | apply ite_sound)
    | ((try lift_lets); intro x; first | (have hx : Sound x := ?_; (on_goal 2 => subst x); (on_goal 1 => clear_value x)) | clear_value x | skip)
    | split

theorem ageWarning_sound {s : State} (h_s : Sound s) : Sound (@ageWarning s) := by
  unfold ageWarning
  repeat' first
    | with_reducible assumption
    | (with_reducible first
        | apply State.event_sound | apply State.onSal_sound | apply ite_sound)
    | split

theorem finishLearn_sound {s : State} (h_s : Sound s) : Sound (@finishLearn s) := by
  unfold finishLearn
  repeat' first
    | with_reducible assumption
    | (with_reducible first
        | apply putLearned_sound | apply disqualify_sound | apply endLongOf_sound | apply State.onSal_sound
        | apply ok_sound | apply ite_sound)

theorem applyStep_sound {s : State} {n : Nat} (h_s : Sound s) : Sound (@applyStep s n) := by
  unfold applyStep
  repeat' first
    | with_reducible assumption
    | (with_reducible first
        | apply State.onCave_sound | apply retargetBin_sound | apply changeClock_sound)

theorem takeStep_sound {s : State} (h_s : Sound s) : Sound (@takeStep s) := by
  unfold takeStep
  repeat' first
    | with_reducible assumption
    | (with_reducible first
        | apply applyStep_sound | apply State.onCave_sound)

theorem undoStep_sound {s : State} (h_s : Sound s) : Sound (@undoStep s) := by
  unfold undoStep
  repeat' first
    | with_reducible assumption
    | (with_reducible first
        | apply applyStep_sound | apply State.onCave_sound)

theorem shutdownRecord_sound {s : State} (h_s : Sound s) : Sound (@shutdownRecord s) := by
  unfold shutdownRecord
  repeat' first
    | with_reducible assumption
    | (with_reducible first
        | apply rindWrite_sound)

theorem enterCritical_sound {s : State} (h_s : Sound s) : Sound (@enterCritical s) := by
  unfold enterCritical
  repeat' first
    | with_reducible assumption
    | (with_reducible first
        | apply startPowerDown_sound | apply State.onPower_sound | apply State.onCave_sound
        | apply settle_sound | apply shutdownRecord_sound | apply couchCommit_sound | apply ite_sound)
    | ((try lift_lets); intro x; first | (have hx : Sound x := ?_; (on_goal 2 => subst x); (on_goal 1 => clear_value x)) | clear_value x | skip)
    | split

theorem setTj_sound {s : State} {new : TjBand} (h_s : Sound s) : Sound (@setTj s new) := by
  unfold setTj
  repeat' first
    | with_reducible assumption
    | (with_reducible first
        | apply undoStep_sound | apply takeStep_sound | apply enterCritical_sound | apply State.onCave_sound
        | apply State.event_sound | apply ite_sound)
    | ((try lift_lets); intro x; first | (have hx : Sound x := ?_; (on_goal 2 => subst x); (on_goal 1 => clear_value x)) | clear_value x | skip)
    | split

theorem holdThrottle_sound {s : State} (h_s : Sound s) : Sound (@holdThrottle s) := by
  unfold holdThrottle
  repeat' first
    | with_reducible assumption
    | (with_reducible first
        | apply applyStep_sound | apply State.onCave_sound | apply State.event_sound | apply setTj_sound
        | apply ite_sound)

theorem judgeTj_sound {s : State} (h_s : Sound s) : Sound (@judgeTj s) := by
  unfold judgeTj
  repeat' first
    | with_reducible assumption
    | (with_reducible first
        | apply holdThrottle_sound | apply State.onCave_sound | apply setTj_sound | apply ite_sound)
    | ((try lift_lets); intro x; first | (have hx : Sound x := ?_; (on_goal 2 => subst x); (on_goal 1 => clear_value x)) | clear_value x | skip)
    | split

theorem judgeRise_sound {s : State} {n : Nat} (h_s : Sound s) : Sound (@judgeRise s n) := by
  unfold judgeRise
  repeat' first
    | with_reducible assumption
    | (with_reducible first
        | apply takeStep_sound | apply State.onCave_sound | apply State.event_sound | apply setTj_sound
        | apply ite_sound)
    | ((try lift_lets); intro x; first | (have hx : Sound x := ?_; (on_goal 2 => subst x); (on_goal 1 => clear_value x)) | clear_value x | skip)
    | split

theorem setDimmBand_sound {s : State} {c : Nat} {b : DimmBand} (h_s : Sound s) : Sound (@setDimmBand s c b) := by
  unfold setDimmBand
  repeat' first
    | with_reducible assumption
    | (with_reducible first
        | apply setDram_sound | apply State.event_sound | apply wakeAll_sound | apply ite_sound)

theorem judgeChannel_sound {s : State} {c : Nat} (h_s : Sound s) : Sound (@judgeChannel s c) := by
  unfold judgeChannel
  repeat' first
    | with_reducible assumption
    | (with_reducible first
        | apply setDimmBand_sound | apply State.onCave_sound | apply ite_sound)
    | ((try lift_lets); intro x; first | (have hx : Sound x := ?_; (on_goal 2 => subst x); (on_goal 1 => clear_value x)) | clear_value x | skip)
    | split

theorem setCarrierBand_sound {s : State} {carrier : Nat} {b : CarrierBand} (h_s : Sound s) : Sound (@setCarrierBand s carrier b) := by
  unfold setCarrierBand
  repeat' first
    | with_reducible assumption
    | (refine fun h => ?_; first | exact h.1 | exact h.2 | skip)
    | (with_reducible first
        | apply deckleImmediate_sound | apply State.onCave_sound | apply State.event_sound
        | apply setFlash_sound | apply State.each_sound | apply ite_sound)

theorem judgeCarrier_sound {s : State} {carrier : Nat} (h_s : Sound s) : Sound (@judgeCarrier s carrier) := by
  unfold judgeCarrier
  repeat' first
    | with_reducible assumption
    | (with_reducible first
        | apply State.onCave_sound | apply setCarrierBand_sound | apply ite_sound)
    | ((try lift_lets); intro x; first | (have hx : Sound x := ?_; (on_goal 2 => subst x); (on_goal 1 => clear_value x)) | clear_value x | skip)
    | split

theorem judgeCarriers_sound {s : State} (h_s : Sound s) : Sound (@judgeCarriers s) := by
  unfold judgeCarriers
  repeat' first
    | with_reducible assumption
    | (refine fun h => ?_; first | exact h.1 | exact h.2 | skip)
    | (with_reducible first
        | apply judgeCarrier_sound | apply State.onCave_sound | apply State.event_sound
        | apply State.each_sound | apply ite_sound)

theorem judgeSensor_sound {s : State} {n : Nat} (h_s : Sound s) : Sound (@judgeSensor s n) := by
  unfold judgeSensor
  repeat' first
    | with_reducible assumption
    | (with_reducible first
        | apply judgeTj_sound | apply judgeChannel_sound | apply judgeRise_sound | apply judgeCarriers_sound
        | apply ite_sound)

theorem railsUp_sound {s : State} (h_s : Sound s) : Sound (@railsUp s) := by
  unfold railsUp
  repeat' first
    | with_reducible assumption
    | (with_reducible first
        | apply State.onPower_sound | apply rindWrite_sound | apply State.onCouch_sound
        | apply State.event_sound | apply State.onCmd_sound | apply settle_sound | apply ite_sound)

theorem toPosition_sound {s : State} {start : Nat} (h_s : Sound s) : Sound (@toPosition s start) := by
  unfold toPosition
  repeat' first
    | with_reducible assumption
    | (with_reducible first
        | apply railsUp_sound | apply State.onPower_sound | apply ite_sound)
    | split

theorem bypassChain_sound {s : State} (h_s : Sound s) : Sound (@bypassChain s) := by
  unfold bypassChain
  repeat' first
    | with_reducible assumption
    | (with_reducible first
        | apply rindWrite_sound | apply State.event_sound | apply toPosition_sound)

theorem toGrant_sound {s : State} (h_s : Sound s) : Sound (@toGrant s) := by
  unfold toGrant
  repeat' first
    | with_reducible assumption
    | (with_reducible first
        | apply State.onPower_sound | apply bypassChain_sound | apply toPosition_sound | apply ite_sound)

theorem inputArrives_sound {s : State} (h_s : Sound s) : Sound (@inputArrives s) := by
  unfold inputArrives
  repeat' first
    | with_reducible assumption
    | (with_reducible first
        | apply toGrant_sound | apply State.onPower_sound | apply State.onCouch_sound | apply ite_sound)

theorem railGood_sound {s : State} {rail : Nat} (h_s : Sound s) : Sound (@railGood s rail) := by
  unfold railGood
  repeat' first
    | with_reducible assumption
    | (with_reducible first
        | apply clearFall_sound | apply railInputs_sound | apply State.onPower_sound | apply toPosition_sound
        | apply setRail_sound | apply ite_sound)
    | ((try lift_lets); intro x; first | (have hx : Sound x := ?_; (on_goal 2 => subst x); (on_goal 1 => clear_value x)) | clear_value x | skip)
    | split

theorem railRecord_sound {s : State} {rail : Nat} (h_s : Sound s) : Sound (@railRecord s rail) := by
  unfold railRecord
  repeat' first
    | with_reducible assumption
    | (with_reducible first
        | apply State.onPower_sound | apply rindWrite_sound | apply State.event_sound)

theorem svLost_sound {s : State} (h : Sound s) : Sound (svLost s) := h

theorem tearRind_sound {s : State} (h_s : Sound s) : Sound (@tearRind s) := by
  unfold tearRind
  repeat' first
    | with_reducible assumption
    | (refine fun h => ?_; first | exact h.1 | exact h.2 | skip)
    | (with_reducible first
        | apply State.draw_sound | apply State.onLedger_sound | apply ite_sound)
    | ((try lift_lets); intro x; first | (have hx : Sound x := ?_; (on_goal 2 => subst x); (on_goal 1 => clear_value x)) | clear_value x | skip)
    | split

theorem tearRecords_sound {s : State} (h_s : Sound s) : Sound (@tearRecords s) := by
  unfold tearRecords
  repeat' first
    | with_reducible assumption
    | (refine fun h => ?_; first | exact h.1 | exact h.2 | skip)
    | (with_reducible first
        | apply State.draw_sound | apply State.onLedger_sound | apply ite_sound)
    | ((try lift_lets); intro x; first | (have hx : Sound x := ?_; (on_goal 2 => subst x); (on_goal 1 => clear_value x)) | clear_value x | skip)
    | split

theorem coreFault_sound {s : State} (h_s : Sound s) : Sound (@coreFault s) := by
  unfold coreFault
  repeat' first
    | with_reducible assumption
    | (with_reducible first
        | apply startPowerDown_sound | apply State.onPower_sound | apply State.onCouch_sound
        | apply couchCommit_sound | apply ite_sound)
    | ((try lift_lets); intro x; first | (have hx : Sound x := ?_; (on_goal 2 => subst x); (on_goal 1 => clear_value x)) | clear_value x | skip)
    | split

theorem wakeDown_sound {s : State} (h_s : Sound s) : Sound (@wakeDown s) := by
  unfold wakeDown
  repeat' first
    | with_reducible assumption
    | (with_reducible first
        | apply State.onPower_sound | apply inputArrives_sound | apply ite_sound)

theorem redirectTo_sound {s : State} {e : Nat} {k : Nat} (h_s : Sound s) : Sound (@redirectTo s e k) := h_s

theorem clusterOff_sound {s : State} {c : Nat} (h_s : Sound s) : Sound (@clusterOff s c) := by
  unfold clusterOff
  repeat' first
    | with_reducible assumption
    | (with_reducible first
        | apply unroute_sound | apply ite_sound)

theorem handWork_sound {s : State} {k : Nat} {work : List Beat} (h_s : Sound s) : Sound (@handWork s k work) := by
  unfold handWork
  repeat' first
    | with_reducible assumption
    | (with_reducible first
        | apply setEngine_sound)

theorem fenceEngine_sound {s : State} {e : Nat} (h_s : Sound s) : Sound (@fenceEngine s e) := by
  unfold fenceEngine
  repeat' first
    | with_reducible assumption
    | (with_reducible first
        | apply clusterOff_sound | apply handWork_sound | apply setEngine_sound | apply deckleImmediate_sound
        | apply endInjections_sound | apply State.event_sound | apply redirectTo_sound | apply ite_sound)
    | ((try lift_lets); intro x; first | (have hx : Sound x := ?_; (on_goal 2 => subst x); (on_goal 1 => clear_value x)) | clear_value x | skip)
    | split

theorem judgeEngine_sound {s : State} {e : Nat} (h_s : Sound s) : Sound (@judgeEngine s e) := by
  unfold judgeEngine
  repeat' first
    | with_reducible assumption
    | (with_reducible first
        | apply fenceEngine_sound | apply State.event_sound | apply ite_sound)

theorem warmReset_sound {s : State} (h_s : Sound s) : Sound (@warmReset s) := by
  unfold warmReset
  repeat' first
    | with_reducible assumption
    | (with_reducible first
        | apply internalReset_sound | apply State.onCmd_sound | apply couchCommit_sound | apply ite_sound)
    | ((try lift_lets); intro x; first | (have hx : Sound x := ?_; (on_goal 2 => subst x); (on_goal 1 => clear_value x)) | clear_value x | skip)
    | split

theorem coldReset_sound {s : State} (h_s : Sound s) : Sound (@coldReset s) := by
  unfold coldReset
  repeat' first
    | with_reducible assumption
    | (with_reducible first
        | apply startPowerDown_sound | apply disqualify_sound | apply couchCommit_sound | apply ite_sound)
    | ((try lift_lets); intro x; first | (have hx : Sound x := ?_; (on_goal 2 => subst x); (on_goal 1 => clear_value x)) | clear_value x | skip)
    | split

theorem fenceAtBoot_sound {s : State} {a : UnitId} (h_s : Sound s) : Sound (@fenceAtBoot s a) := by
  unfold fenceAtBoot
  repeat' first
    | with_reducible assumption
    | (with_reducible first
        | apply fenceEngine_sound | apply fenceCore_sound | apply unroute_sound | apply setUnit_sound
        | apply dramFailed_sound | apply State.event_sound | apply flashState_sound | apply fenceSlice_sound | apply fencePort_sound
        | apply ite_sound)
    | split

theorem reserveArea_sound {s : State} (h_s : Sound s) : Sound (@reserveArea s) := h_s

theorem blowFuses_sound {s : State} (h_s : Sound s) : Sound (@blowFuses s) := by
  unfold blowFuses
  repeat' first
    | with_reducible assumption
    | (refine fun h => ?_; first | exact h.1 | exact h.2 | skip)
    | (with_reducible first
        | apply State.onLedger_sound | apply ite_sound)
    | split

theorem signalCxl_sound {log : Nat} {head : Nat} {ld : Nat} {s : State} (h_s : Sound s) : Sound (@signalCxl log head ld s) := by
  unfold signalCxl
  repeat' first
    | with_reducible assumption
    | (with_reducible first
        | apply State.emit_sound | apply ite_sound)

theorem postCxl_sound {s : State} {kind : Nat} {head : Nat} {ld : Nat} {o : Occurrence} (h_s : Sound s) : Sound (@postCxl s kind head ld o) := by
  unfold postCxl
  repeat' first
    | with_reducible assumption
    | (with_reducible first
        | apply signalCxl_sound | apply setLd_sound)

theorem postHeads_sound {s : State} {kind : Nat} {o : Occurrence} (h_s : Sound s) : Sound (@postHeads s kind o) := by
  unfold postHeads
  repeat' first
    | with_reducible assumption
    | (refine fun h => ?_; first | exact h.1 | exact h.2 | skip)
    | (with_reducible first
        | apply postCxl_sound | apply State.each_sound)

theorem cxlPosting_sound {s : State} {o : Occurrence} (h_s : Sound s) : Sound (@cxlPosting s o) := by
  unfold cxlPosting
  repeat' first
    | with_reducible assumption
    | (refine fun h => ?_; first | exact h.1 | exact h.2 | skip)
    | (with_reducible first
        | apply postCxl_sound | apply State.each_sound | apply postHeads_sound | apply ite_sound)
    | split

theorem writeRecord_sound {s : State} {o : Occurrence} {first : Nat} {last : Nat} {count : Nat} {summary : Bool} (h_s : Sound s) : Sound (@writeRecord s o first last count summary) := by
  unfold writeRecord
  repeat' first
    | with_reducible assumption
    | (with_reducible first
        | apply cxlPosting_sound | apply State.onLog_sound | apply ite_sound)
    | ((try lift_lets); intro x; first | (have hx : Sound x := ?_; (on_goal 2 => subst x); (on_goal 1 => clear_value x)) | clear_value x | skip)
    | split

theorem coalesce_sound {s : State} {o : Occurrence} {time : Nat} (h_s : Sound s) : Sound (@coalesce s o time) := by
  unfold coalesce
  repeat' first
    | with_reducible assumption
    | (with_reducible first
        | apply writeRecord_sound | apply State.onLog_sound | apply ite_sound)

theorem writeSummary_sound {s : State} {w : Window} (h_s : Sound s) : Sound (@writeSummary s w) := by
  unfold writeSummary
  repeat' first
    | with_reducible assumption
    | (with_reducible first
        | apply writeRecord_sound | apply State.onLog_sound | apply ite_sound)

theorem eventArrives_sound {s : State} {o : Occurrence} (h_s : Sound s) : Sound (@eventArrives s o) := by
  unfold eventArrives
  repeat' first
    | with_reducible assumption
    | (with_reducible first
        | apply coalesce_sound | apply State.onLog_sound)

theorem dropSummary_sound {s : State} {c : Nat} (h_s : Sound s) : Sound (@dropSummary s c) := by
  unfold dropSummary
  repeat' first
    | with_reducible assumption
    | (with_reducible first
        | apply writeRecord_sound | apply State.onLog_sound | apply ite_sound)

theorem moveCount_sound {s : State} {epoch : Nat} {t : Nat} {u : Nat} (h_s : Sound s) : Sound (@moveCount s epoch t u) := h_s

theorem retag_sound {s : State} {line : Nat} {old : U16} {new : U16} (h_s : Sound s) : Sound (@retag s line old new) := h_s

theorem resendMsg_sound {s : State} {t : Nat} {m : FeltMsg} (h_s : Sound s) : Sound (@resendMsg s t m) := by
  unfold resendMsg
  repeat' first
    | with_reducible assumption
    | (with_reducible first
        | apply takeTag_sound | refine (takeTag_sound ?_).out _ _ (by assumption) | apply moveCount_sound
        | apply mirrorWrite_sound | refine (mirrorWrite_sound ?_).out _ _ (by assumption) | apply sendFelt_sound | apply retag_sound
        | apply ite_sound)
    | refine (takeTag_sound ?_).out _ _ rfl
    | refine (mirrorWrite_sound ?_).out _ _ rfl
    | ((try lift_lets); intro x; first | (have hx : Sound x := ?_; (on_goal 2 => subst x); (on_goal 1 => clear_value x)) | clear_value x | skip)
    | split

theorem remap_sound {s : State} (h_s : Sound s) : Sound (@remap s) := by
  unfold remap
  repeat' first
    | with_reducible assumption
    | (refine fun h => ?_; first | exact h.1 | exact h.2 | skip)
    | (with_reducible first
        | apply resendMsg_sound | apply State.each_sound | apply setLink_sound | apply ite_sound)

theorem joinMapping_sound {s : State} (h_s : Sound s) : Sound (@joinMapping s) := by
  unfold joinMapping
  repeat' first
    | with_reducible assumption
    | (refine fun h => ?_; first | exact h.1 | exact h.2 | skip)
    | (with_reducible first
        | apply remap_sound | apply State.each_sound | apply setLink_sound | apply ite_sound)

theorem startFull_sound {s : State} {t : Nat} (h_s : Sound s) : Sound (@startFull s t) := by
  unfold startFull
  repeat' first
    | with_reducible assumption
    | (with_reducible first
        | apply remap_sound | apply setLink_sound)

theorem holdLink_sound {s : State} {t : Nat} (h_s : Sound s) : Sound (@holdLink s t) := by
  unfold holdLink
  repeat' first
    | with_reducible assumption
    | (with_reducible first
        | apply remap_sound | apply setLink_sound)

theorem linkFalls_sound {s : State} {t : Nat} {full : Bool} (h_s : Sound s) : Sound (@linkFalls s t full) := by
  unfold linkFalls
  repeat' first
    | with_reducible assumption
    | (with_reducible first
        | apply startFull_sound | apply State.event_sound | apply setLink_sound | apply trained_sound
        | apply holdLink_sound | apply ite_sound)

theorem fenceFelt_sound {s : State} {t : Nat} (h_s : Sound s) : Sound (@fenceFelt s t) := by
  unfold fenceFelt
  repeat' first
    | with_reducible assumption
    | (with_reducible first
        | apply unroute_sound | apply setUnit_sound | apply endInjections_sound | apply State.event_sound
        | apply trained_sound | apply holdLink_sound | apply ite_sound)

theorem linkRises_sound {s : State} {t : Nat} (h_s : Sound s) : Sound (@linkRises s t) := by
  unfold linkRises
  repeat' first
    | with_reducible assumption
    | (with_reducible first
        | apply setLink_sound | apply sendFelt_sound | apply ite_sound)

theorem fastFails_sound {s : State} {t : Nat} (h_s : Sound s) : Sound (@fastFails s t) := by
  unfold fastFails
  repeat' first
    | with_reducible assumption
    | (with_reducible first
        | apply startFull_sound | apply State.event_sound | apply ite_sound)

theorem replayFlits_sound {s : State} {t : Nat} {seqs : List Nat} (h_s : Sound s) : Sound (@replayFlits s t seqs) := by
  unfold replayFlits
  repeat' first
    | with_reducible assumption
    | (with_reducible first
        | apply State.emit_sound | apply setLink_sound | apply linkFalls_sound | apply ite_sound)

theorem takeAck_sound {s : State} {t : Nat} {seq : Nat} {nak : Bool} (h_s : Sound s) : Sound (@takeAck s t seq nak) := by
  unfold takeAck
  repeat' first
    | with_reducible assumption
    | (refine fun h => ?_; first | exact h.1 | exact h.2 | skip)
    | (with_reducible first
        | apply replayFlits_sound | apply pump_sound | apply setLink_sound | apply withInjection_sound
        | apply ite_sound)

theorem flitBad_sound {s : State} {t : Nat} (h_s : Sound s) : Sound (@flitBad s t) := h_s

theorem discardMsg_sound {s : State} {t : Nat} (h_s : Sound s) : Sound (@discardMsg s t) := h_s

theorem discardAny_sound {s : State} (h_s : Sound s) : Sound (@discardAny s) := by
  unfold discardAny
  repeat' first
    | with_reducible assumption
    | (with_reducible first
        | apply discardMsg_sound)

theorem takePayload_sound {s : State} {t : Nat} {a : FlitFault} (h_s : Sound s) : Sound (@takePayload s t a) := by
  unfold takePayload
  repeat' first
    | with_reducible assumption
    | (with_reducible first
        | apply State.event_sound | apply linkFalls_sound | apply discardMsg_sound | apply ite_sound)
    | split

theorem refuseMsg_sound {s : State} {a1 : FeltHdr} (h_s : Sound s) : Sound (@refuseMsg s a1) := by
  unfold refuseMsg
  repeat' first
    | with_reducible assumption
    | (with_reducible first
        | apply State.onFelt_sound | apply State.event_sound | apply sendFelt_sound)

theorem stageTwin_sound {s : State} {w : StagedAsync} (h_s : Sound s) : Sound (@stageTwin s w) := h_s

theorem ackTag_sound {s : State} {t : Nat} {tag : U16} (h_s : Sound s) : Sound (@ackTag s t tag) := by
  unfold ackTag
  repeat' first
    | with_reducible assumption
    | (with_reducible first
        | apply twinDone_sound | apply mirrorWrite_sound
        | refine (mirrorWrite_sound ?_).out _ _ (by assumption) | apply setLink_sound | apply ite_sound)
    | refine (mirrorWrite_sound ?_).out _ _ rfl
    | ((try lift_lets); intro x; first | (have hx : Sound x := ?_; (on_goal 2 => subst x); (on_goal 1 => clear_value x)) | clear_value x | skip)
    | split

theorem detachIfDue_sound {s : State} (h_s : Sound s) : Sound (@detachIfDue s) := by
  unfold detachIfDue
  repeat' first
    | with_reducible assumption
    | (with_reducible first
        | apply finishDetach_sound | apply State.onFelt_sound | apply ite_sound)
    | split

theorem twinServed_sound {s : State} {n : Nat} (h_s : Sound s) : Sound (@twinServed s n) := h_s

theorem fillCopy_sound {s : State} {page : Nat} {d : PageData} {epoch : U32} (h_s : Sound s) : SoundO (@fillCopy s page d epoch) := by
  unfold fillCopy
  repeat' first
    | with_reducible assumption
    | (with_reducible first
        | apply soundO_none | apply soundO_some | apply soundO_ite | apply checkFill_sound
        | apply touchDirectory_sound | apply fillFrame_sound | apply invalidatePage_sound | apply assignFrame_sound
        | refine (assignFrame_sound ?_).out _ _ (by assumption) | apply chargePage_sound | apply State.onPpu_sound
        | apply State.onReam_sound | apply putEntry_sound | apply pageArrived_sound | apply ite_sound)
    | (refine soundO_map ?_ fun _ h => ?_; on_goal 2 => (try dsimp only))
    | (refine soundO_mapP ?_ fun _ _ h => ?_; on_goal 2 => (try dsimp only))
    | ((try lift_lets); intro x; first | (have hx : Sound x := ?_; (on_goal 2 => subst x); (on_goal 1 => clear_value x)) | clear_value x | skip)
    | split

theorem dropBurst_sound {s : State} {link : Nat} {tag : U16} (h_s : Sound s) : Sound (@dropBurst s link tag) := h_s

theorem abortBurst_sound {s : State} {link : Nat} {tag : U16} (h_s : Sound s) : Sound (@abortBurst s link tag) := by
  unfold abortBurst
  repeat' first
    | with_reducible assumption
    | (with_reducible first
        | apply setLink_sound | apply sendOne_sound | apply dropBurst_sound)

theorem finishBurst_sound {s : State} {b : Burst} (h_s : Sound s) : Sound (@finishBurst s b) := by
  unfold finishBurst
  repeat' first
    | with_reducible assumption
    | (with_reducible first
        | apply progressLong_sound | apply fillCopy_sound | refine (fillCopy_sound ?_).out _ (by assumption)
        | apply State.onFelt_sound | apply State.onPpu_sound | apply recovering_sound | apply sendOne_sound | apply dropBurst_sound
        | apply abortBurst_sound | apply ite_sound)
    | ((try lift_lets); intro x; first | (have hx : Sound x := ?_; (on_goal 2 => subst x); (on_goal 1 => clear_value x)) | clear_value x | skip)
    | split

theorem takeFragment_sound {s : State} {b : Burst} {i : Nat} {l : Line} (h_s : Sound s) : Sound (@takeFragment s b i l) := by
  unfold takeFragment
  repeat' first
    | with_reducible assumption
    | (with_reducible first
        | apply finishBurst_sound | apply State.onFelt_sound | apply dropBurst_sound | apply ite_sound)

theorem zeroAcked_sound {s : State} {tag : U16} (h_s : Sound s) : Sound (@zeroAcked s tag) := by
  unfold zeroAcked
  repeat' first
    | with_reducible assumption
    | (refine fun h => ?_; first | exact h.1 | exact h.2 | skip)
    | (with_reducible first
        | apply twinDone_sound | apply State.each_sound)

theorem pageAcked_sound {s : State} {n : Nat} {page : Nat} (h_s : Sound s) : Sound (@pageAcked s n page) := by
  unfold pageAcked
  repeat' first
    | with_reducible assumption
    | (with_reducible first
        | apply zeroAcked_sound | apply setLink_sound | apply ite_sound)
    | ((try lift_lets); intro x; first | (have hx : Sound x := ?_; (on_goal 2 => subst x); (on_goal 1 => clear_value x)) | clear_value x | skip)
    | split

theorem twinLoss_sound {s : State} (h_s : Sound s) : Sound (@twinLoss s) := by
  unfold twinLoss
  repeat' first
    | with_reducible assumption
    | (with_reducible first
        | apply State.event_sound | apply partPair_sound)

theorem sendList_sound {s : State} (h_s : Sound s) : Sound (@sendList s) := by
  unfold sendList
  repeat' first
    | with_reducible assumption
    | (refine fun h => ?_; first | exact h.1 | exact h.2 | skip)
    | (with_reducible first
        | apply State.onFelt_sound | apply State.each_sound | apply sendOne_sound)

theorem resync_sound {s : State} {n : Nat} (h_s : Sound s) : Sound (@resync s n) := by
  unfold resync
  repeat' first
    | with_reducible assumption
    | (with_reducible first
        | apply checkResync_sound | apply startResync_sound)

theorem diverge_sound {s : State} {n : Nat} {pages : Nat} (h_s : Sound s) : Sound (@diverge s n pages) := h_s

theorem createFrom_sound {s : State} {x : ListEntry} (h_s : Sound s) : Sound (@createFrom s x) := by
  unfold createFrom
  repeat' first
    | with_reducible assumption
    | (with_reducible first
        | apply resync_sound | apply createRegion_sound | apply State.event_sound | apply setRegion_sound
        | apply ite_sound)

theorem adopt_sound {s : State} {r : Region} {x : ListEntry} (h_s : Sound s) : Sound (@adopt s r x) := by
  unfold adopt
  repeat' first
    | with_reducible assumption
    | (with_reducible first
        | apply growRegion_sound | apply shrinkRegion_sound | apply State.event_sound | apply setRegion_sound
        | apply ite_sound)

theorem rejoin_sound {s : State} {n : Nat} (h_s : Sound s) : Sound (@rejoin s n) := by
  unfold rejoin
  repeat' first
    | with_reducible assumption
    | (with_reducible first
        | apply resync_sound | apply ite_sound)

theorem reconcile_sound {s : State} {r : Region} {x : ListEntry} (h_s : Sound s) : Sound (@reconcile s r x) := by
  unfold reconcile
  repeat' first
    | with_reducible assumption
    | (with_reducible first
        | apply resync_sound | apply adopt_sound | apply diverge_sound | apply rejoin_sound
        | apply setRegion_sound | apply ite_sound)

theorem reconcileAll_sound {s : State} (h_s : Sound s) : Sound (@reconcileAll s) := by
  unfold reconcileAll
  repeat' first
    | with_reducible assumption
    | (refine fun h => ?_; first | exact h.1 | exact h.2 | skip)
    | (with_reducible first
        | apply destroyRegion_sound | apply createFrom_sound | apply State.event_sound | apply reconcile_sound
        | apply rejoin_sound | apply State.each_sound | apply ite_sound)
    | ((try lift_lets); intro x; first | (have hx : Sound x := ?_; (on_goal 2 => subst x); (on_goal 1 => clear_value x)) | clear_value x | skip)
    | split

theorem endRefused_sound {s : State} {a : FeltMsg} (h_s : Sound s) : Sound (@endRefused s a) := by
  unfold endRefused
  repeat' first
    | with_reducible assumption
    | (with_reducible first
        | apply zeroAcked_sound | apply twinDone_sound | apply mirrorWrite_sound
        | refine (mirrorWrite_sound ?_).out _ _ (by assumption) | apply ite_sound)
    | refine (mirrorWrite_sound ?_).out _ _ rfl
    | split

theorem formPair_sound {s : State} {link : Nat} {b : List Byte} (h_s : Sound s) : Sound (@formPair s link b) := by
  unfold formPair
  repeat' first
    | with_reducible assumption
    | (refine fun h => ?_; first | exact h.1 | exact h.2 | skip)
    | (with_reducible first
        | apply requestClose_sound | apply State.onEpochs_sound | apply State.onFelt_sound
        | apply lagRegions_sound | apply endLongOf_sound | apply sendList_sound | apply State.each_sound | apply joinMapping_sound
        | apply ok_sound | apply holdLink_sound | apply ite_sound)

theorem attachFails_sound {s : State} {st : Status} {detail : Nat} (h_s : Sound s) : Sound (@attachFails s st detail) := by
  unfold attachFails
  repeat' first
    | with_reducible assumption
    | (with_reducible first
        | apply holdLinks_sound | apply endLongOf_sound)

theorem measureOffset_sound {s : State} (h_s : Sound s) : Sound (@measureOffset s) := by
  unfold measureOffset
  repeat' first
    | with_reducible assumption
    | (with_reducible first
        | apply State.draw_sound | apply State.onFelt_sound | apply State.event_sound | apply ite_sound)

theorem slewTime_sound {s : State} (h_s : Sound s) : Sound (@slewTime s) := by
  unfold slewTime
  repeat' first
    | with_reducible assumption
    | (with_reducible first
        | apply slew_sound | apply State.onFelt_sound | apply ite_sound)

theorem refuseChange_sound {s : State} {j : Joined} {st : Status} {d : Nat} (h_s : Sound s) : Sound (@refuseChange s j st d) := by
  unfold refuseChange
  repeat' first
    | with_reducible assumption
    | (with_reducible first
        | apply answerJoined_sound | apply endLongOf_sound | apply setRegion_sound | apply State.onCmd_sound
        | apply unreserve_sound | apply ite_sound)
    | ((try lift_lets); intro x; first | (have hx : Sound x := ?_; (on_goal 2 => subst x); (on_goal 1 => clear_value x)) | clear_value x | skip)
    | split

theorem takeAnswer_sound {s : State} {n : Nat} {a : OpAnswer} (h_s : Sound s) : Sound (@takeAnswer s n a) := by
  unfold takeAnswer
  repeat' first
    | with_reducible assumption
    | (with_reducible first
        | apply requestClose_sound | apply State.onFelt_sound | apply refuseChange_sound | apply ite_sound)
    | ((try lift_lets); intro x; first | (have hx : Sound x := ?_; (on_goal 2 => subst x); (on_goal 1 => clear_value x)) | clear_value x | skip)
    | split

theorem twinRole_sound {s : State} {r : Req} {region : U16} {flags : U8} (h_s : Sound s) : Sound (@twinRole s r region flags) := by
  unfold twinRole
  repeat' first
    | with_reducible assumption
    | (refine fun h => ?_; first | exact h.1 | exact h.2 | skip)
    | (with_reducible first
        | apply defer_sound | apply withRegion_sound | apply requestClose_sound | apply command_sound
        | apply checked_sound | apply force_sound | apply ok_sound | apply ite_sound)

theorem appendImage_sound {s : State} {data : List Byte} (h_s : Sound s) : Sound (@appendImage s data) := by
  unfold appendImage
  repeat' first
    | with_reducible assumption
    | (with_reducible first
        | apply setSlot_sound)

theorem activate__sound {s : State} {b : Bool} {now_ : Bool} (h_s : Sound s) : Sound (@activate_ s b now_) := by
  unfold activate_
  repeat' first
    | with_reducible assumption
    | (with_reducible first
        | apply putRecord_sound | apply recovery_sound | apply ite_sound)

theorem setWireLink_sound {s : State} {l : WireLink} (h_s : Sound s) : Sound (@setWireLink s l) := h_s

theorem remember_sound {s : State} {b : Beat} (h_s : Sound s) : Sound (@remember s b) := h_s

theorem captureBeat_sound {s : State} {b : Beat} {unit : U16} {sent : Bool} (h_s : Sound s) : Sound (@captureBeat s b unit sent) := by
  unfold captureBeat
  repeat' first
    | with_reducible assumption
    | (with_reducible first
        | apply State.onCmd_sound | apply ite_sound)
    | split

theorem issueWork_sound {s : State} {b : Beat} (h_s : Sound s) : Sound (@issueWork s b) := by
  unfold issueWork
  repeat' first
    | with_reducible assumption
    | (with_reducible first
        | apply setEngine_sound | apply ite_sound)

theorem answerWork_sound {s : State} {b : Beat} (h_s : Sound s) : Sound (@answerWork s b) := by
  unfold answerWork
  repeat' first
    | with_reducible assumption
    | (with_reducible first
        | apply setEngine_sound | apply ite_sound)

theorem undeliverable_sound {s : State} {link : Nat} {b : Beat} (h_s : Sound s) : Sound (@undeliverable s link b) := by
  unfold undeliverable
  repeat' first
    | with_reducible assumption
    | (with_reducible first
        | apply State.emit_sound | apply State.event_sound)

theorem enqueueBeat_sound {s : State} {link : Nat} {r : Nat × Nat} {i : Island} {b : Beat} (h_s : Sound s) : Sound (@enqueueBeat s link r i b) := by
  unfold enqueueBeat
  repeat' first
    | with_reducible assumption
    | (with_reducible first
        | apply State.onWire_sound)

theorem routeBeat_sound {s : State} {link : Nat} {r : Nat × Nat} {b : Beat} (h_s : Sound s) : Sound (@routeBeat s link r b) := by
  unfold routeBeat
  repeat' first
    | with_reducible assumption
    | (with_reducible first
        | apply enqueueBeat_sound | apply undeliverable_sound | apply ite_sound)
    | split

theorem atRouter_sound {s : State} {link : Nat} {r : Nat × Nat} {b : Beat} (h_s : Sound s) : Sound (@atRouter s link r b) := by
  unfold atRouter
  repeat' first
    | with_reducible assumption
    | (refine fun h => ?_; first | exact h.1 | exact h.2 | skip)
    | (with_reducible first
        | apply routeBeat_sound | apply State.each_sound | apply ite_sound)

theorem resendDone_sound {s : State} {no : Nat} {b : Beat} (h_s : Sound s) : Sound (@resendDone s no b) := by
  unfold resendDone
  repeat' first
    | with_reducible assumption
    | (with_reducible first
        | apply setWireLink_sound | apply ite_sound)

theorem countBeat_sound {s : State} {no : Nat} (h_s : Sound s) : Sound (@countBeat s no) := h_s

theorem judgeRetries_sound {s : State} {no : Nat} (h_s : Sound s) : Sound (@judgeRetries s no) := by
  unfold judgeRetries
  repeat' first
    | with_reducible assumption
    | (with_reducible first
        | apply setWireLink_sound | apply State.event_sound | apply ite_sound)

theorem judgeWindows_sound {s : State} (h_s : Sound s) : Sound (@judgeWindows s) := by
  unfold judgeWindows
  repeat' first
    | with_reducible assumption
    | (refine fun h => ?_; first | exact h.1 | exact h.2 | skip)
    | (with_reducible first
        | apply judgeRetries_sound | apply State.each_sound)

theorem discardBeat_sound {s : State} {b : Beat} (h_s : Sound s) : Sound (@discardBeat s b) := by
  unfold discardBeat
  repeat' first
    | with_reducible assumption
    | (with_reducible first
        | apply State.onWire_sound | apply State.event_sound)

theorem atEndpoint_sound {s : State} {link : Nat} {b : Beat} (h_s : Sound s) : Sound (@atEndpoint s link b) := by
  unfold atEndpoint
  repeat' first
    | with_reducible assumption
    | (with_reducible first
        | apply captureBeat_sound | apply remember_sound | apply State.emit_sound | apply State.event_sound
        | apply answerWork_sound | apply ite_sound)

theorem atFirstRouter_sound {s : State} {link : Nat} {i : Island} {b : Beat} (h_s : Sound s) : Sound (@atFirstRouter s link i b) := by
  unfold atFirstRouter
  repeat' first
    | with_reducible assumption
    | (with_reducible first
        | apply captureBeat_sound | apply atRouter_sound | apply issueWork_sound | apply State.emit_sound
        | apply ite_sound)

theorem holdAtRouter_sound {s : State} {link : Nat} {i : Island} {b : Beat} (h_s : Sound s) : Sound (@holdAtRouter s link i b) := by
  unfold holdAtRouter
  repeat' first
    | with_reducible assumption
    | (with_reducible first
        | apply State.onWire_sound)

theorem atIsland_sound {s : State} {link : Nat} {i : Island} {b : Beat} (h_s : Sound s) : Sound (@atIsland s link i b) := by
  unfold atIsland
  repeat' first
    | with_reducible assumption
    | (with_reducible first
        | apply atEndpoint_sound | apply holdAtRouter_sound | apply undeliverable_sound | apply ite_sound)

theorem receiveBeat_sound {s : State} {link : Nat} {b : Beat} (h_s : Sound s) : Sound (@receiveBeat s link b) := by
  unfold receiveBeat
  repeat' first
    | with_reducible assumption
    | (with_reducible first
        | apply atFirstRouter_sound | apply atRouter_sound | apply State.emit_sound | apply atIsland_sound
        | apply ite_sound)
    | split

theorem fenceIsland_sound {s : State} {i : Island} (h_s : Sound s) : Sound (@fenceIsland s i) := by
  unfold fenceIsland
  repeat' first
    | with_reducible assumption
    | (refine fun h => ?_; first | exact h.1 | exact h.2 | skip)
    | (with_reducible first
        | apply failFlash_sound | apply fenceEngine_sound | apply fenceCore_sound | apply fenceFelt_sound
        | apply failChannel_sound | apply fenceSlice_sound | apply State.each_sound | apply fencePort_sound | apply ite_sound)
    | split

theorem closeDirection_sound {s : State} {no : Nat} (h_s : Sound s) : Sound (@closeDirection s no) := by
  unfold closeDirection
  repeat' first
    | with_reducible assumption
    | (with_reducible first
        | apply setWireLink_sound)

theorem rerouteBeats_sound {s : State} {no : Nat} {beats : List Beat} (h_s : Sound s) : Sound (@rerouteBeats s no beats) := by
  unfold rerouteBeats
  repeat' first
    | with_reducible assumption
    | (refine fun h => ?_; first | exact h.1 | exact h.2 | skip)
    | (with_reducible first
        | apply routeBeat_sound | apply State.each_sound | apply ite_sound)
    | split

theorem fenceWireLink_sound {s : State} {no : Nat} (h_s : Sound s) : Sound (@fenceWireLink s no) := by
  unfold fenceWireLink
  repeat' first
    | with_reducible assumption
    | (refine fun h => ?_; first | exact h.1 | exact h.2 | skip)
    | (with_reducible first
        | apply State.onWire_sound | apply rerouteBeats_sound | apply closeDirection_sound
        | apply State.event_sound | apply State.each_sound | apply fenceIsland_sound)

theorem resend_sound {s : State} {no : Nat} {b : Beat} (h_s : Sound s) : Sound (@resend s no b) := by
  unfold resend
  repeat' first
    | with_reducible assumption
    | (with_reducible first
        | apply fenceWireLink_sound | apply setWireLink_sound | apply State.emit_sound | apply ite_sound)

theorem countRetry_sound {s : State} {no : Nat} (h_s : Sound s) : Sound (@countRetry s no) := by
  unfold countRetry
  repeat' first
    | with_reducible assumption
    | (with_reducible first
        | apply setWireLink_sound | apply judgeRetries_sound)

theorem outputSlot_sound {s : State} {r : Nat × Nat} {a2 : Hop} (h_s : Sound s) : Sound (@outputSlot s r a2) := by
  unfold outputSlot
  repeat' first
    | with_reducible assumption
    | (with_reducible first
        | apply State.onWire_sound | apply setWireLink_sound | apply State.emit_sound | apply ite_sound)
    | ((try lift_lets); intro x; first | (have hx : Sound x := ?_; (on_goal 2 => subst x); (on_goal 1 => clear_value x)) | clear_value x | skip)
    | split

theorem answerUnrouted_sound {s : State} (h_s : Sound s) : Sound (@answerUnrouted s) := by
  unfold answerUnrouted
  repeat' first
    | with_reducible assumption
    | (refine fun h => ?_; first | exact h.1 | exact h.2 | skip)
    | (with_reducible first
        | apply State.onWire_sound | apply State.each_sound | apply undeliverable_sound)

theorem wireSlots_sound {s : State} (h_s : Sound s) : Sound (@wireSlots s) := by
  unfold wireSlots
  repeat' first
    | with_reducible assumption
    | (refine fun h => ?_; first | exact h.1 | exact h.2 | skip)
    | (with_reducible first
        | apply judgeWindows_sound | apply answerUnrouted_sound | apply outputSlot_sound
        | apply State.each_sound)

theorem withUnit_sound {s : State} {r : Req} {op : U16} {unit : U16} {low : Nat} {high : Nat} {body : UnitId → State} (h_s : Sound s) (h_body : ∀ x0, Sound (body x0)) : Sound (@withUnit s r op unit low high body) := by
  unfold withUnit
  repeat' first
    | with_reducible assumption
    | (with_reducible first
        | apply refuse_sound | apply ok_sound | apply h_body | apply ite_sound)
    | split

theorem fenceUnit_sound {s : State} {u : UnitId} (h_s : Sound s) : Sound (@fenceUnit s u) := by
  unfold fenceUnit
  repeat' first
    | with_reducible assumption
    | (with_reducible first
        | apply fenceEngine_sound | apply fenceCore_sound | apply fenceFelt_sound | apply fenceSlice_sound
        | apply fencePort_sound | apply ite_sound)
    | split

theorem returnUnit_sound {s : State} {u : UnitId} (h_s : Sound s) : Sound (@returnUnit s u) := by
  unfold returnUnit
  repeat' first
    | with_reducible assumption
    | (with_reducible first
        | apply setEngine_sound | apply State.onWire_sound | apply startFull_sound | apply setUnit_sound
        | apply reroute_sound | apply State.onCurd_sound | apply State.onCipher_sound | apply corrected_sound | apply ite_sound)
    | ((try lift_lets); intro x; first | (have hx : Sound x := ?_; (on_goal 2 => subst x); (on_goal 1 => clear_value x)) | clear_value x | skip)
    | split

theorem inject_sound {s : State} {i : Injection} (h_s : Sound s) : Sound (@inject s i) := by
  unfold inject
  repeat' first
    | with_reducible assumption
    | (with_reducible first
        | apply applyInjection_sound | apply judgeEngine_sound | apply settleForce_sound
        | apply State.onCmd_sound | apply force_sound | apply ite_sound)
    | ((try lift_lets); intro x; first | (have hx : Sound x := ?_; (on_goal 2 => subst x); (on_goal 1 => clear_value x)) | clear_value x | skip)
    | split

theorem detected_sound {s : State} {o : Occurrence} (h_s : Sound s) : Sound (@detected s o) := by
  unfold detected
  repeat' first
    | with_reducible assumption
    | (with_reducible first
        | apply fenceEngine_sound | apply stickCell_sound | apply poisonDirty_sound | apply ite_sound)
    | ((try lift_lets); intro x; first | (have hx : Sound x := ?_; (on_goal 2 => subst x); (on_goal 1 => clear_value x)) | clear_value x | skip)
    | split

theorem takeFrames_sound {n : Nat} {s : State} (h : Sound s) : Sound (takeFrames n s) := by
  induction n generalizing s with
  | zero => exact h
  | succ n ih =>
    unfold takeFrames; split
    · exact h
    · split
      · exact ih h
      · exact h

theorem startTrace_sound {s : State} {unit : U16} {mask : U32} {kib : Nat} (h_s : Sound s) : Sound (@startTrace s unit mask kib) := by
  unfold startTrace
  repeat' first
    | with_reducible assumption
    | (with_reducible first
        | apply takeFrames_sound | apply State.onCmd_sound)

theorem openSession_sound {s : State} {ch : Chan} {kind : U8} {head : U8} {ld : U8} (h_s : Sound s) : Sound (@openSession s ch kind head ld) := h_s

theorem reinitPort_sound {s : State} {p : Nat} (h_s : Sound s) : Sound (@reinitPort s p) := by
  unfold reinitPort
  repeat' first
    | with_reducible assumption
    | (with_reducible first
        | apply State.emit_sound | apply State.onCmd_sound | apply linkEnds_sound | apply ite_sound)

theorem resetPort_sound {s : State} {port : Nat} (h_s : Sound s) : Sound (@resetPort s port) := by
  unfold resetPort
  repeat' first
    | with_reducible assumption
    | (refine fun h => ?_; first | exact h.1 | exact h.2 | skip)
    | (with_reducible first
        | apply reinitPort_sound | apply State.onCmd_sound | apply State.each_sound)

theorem resetSlice_sound {s : State} {i : Nat} (h_s : Sound s) : Sound (@resetSlice s i) := by
  unfold resetSlice
  repeat' first
    | with_reducible assumption
    | (refine fun h => ?_; first | exact h.1 | exact h.2 | skip)
    | (with_reducible first
        | apply setFrame_sound | apply State.each_sound | apply dropLine_sound | apply ite_sound)

theorem resetFlashUnit_sound {s : State} {c : Nat} (h_s : Sound s) : Sound (@resetFlashUnit s c) := by
  unfold resetFlashUnit
  repeat' first
    | with_reducible assumption
    | (with_reducible first
        | apply State.onPpu_sound | apply setFlash_sound)

theorem resetCore_sound {s : State} {core : Nat} (h_s : Sound s) : Sound (@resetCore s core) := by
  unfold resetCore
  repeat' first
    | with_reducible assumption
    | (with_reducible first
        | apply State.onCipher_sound)

theorem resetDramUnit_sound {s : State} {c : Nat} (h_s : Sound s) : Sound (@resetDramUnit s c) := by
  unfold resetDramUnit
  repeat' first
    | with_reducible assumption
    | (with_reducible first
        | apply setDram_sound | apply ite_sound)
    | split

theorem resetUnitOf_sound {s : State} {a : UnitId} (h_s : Sound s) : Sound (@resetUnitOf s a) := by
  unfold resetUnitOf
  repeat' first
    | with_reducible assumption
    | (with_reducible first
        | apply resetFlashUnit_sound | apply resetCore_sound | apply resetDramUnit_sound
        | apply fenceEngine_sound | apply resetSlice_sound | apply linkFalls_sound | apply resetPort_sound | apply ite_sound)
    | split

theorem beginReset_sound {s : State} {scope : Nat} {u : Option UnitId} (h_s : Sound s) : Sound (@beginReset s scope u) := by
  unfold beginReset
  repeat' first
    | with_reducible assumption
    | (with_reducible first
        | apply warmReset_sound | apply resetUnitOf_sound | apply State.onCmd_sound | apply coldReset_sound
        | apply ite_sound)
    | ((try lift_lets); intro x; first | (have hx : Sound x := ?_; (on_goal 2 => subst x); (on_goal 1 => clear_value x)) | clear_value x | skip)
    | split

theorem requestReset_sound {s : State} {scope : Nat} {u : Option UnitId} (h_s : Sound s) : Sound (@requestReset s scope u) := by
  unfold requestReset
  repeat' first
    | with_reducible assumption
    | (with_reducible first
        | apply State.onCmd_sound | apply beginReset_sound | apply ite_sound)

theorem endReset_sound {s : State} (h_s : Sound s) : Sound (@endReset s) := by
  unfold endReset
  repeat' first
    | with_reducible assumption
    | (with_reducible first
        | apply State.onCmd_sound | apply beginReset_sound | apply ite_sound)
    | ((try lift_lets); intro x; first | (have hx : Sound x := ?_; (on_goal 2 => subst x); (on_goal 1 => clear_value x)) | clear_value x | skip)
    | split

theorem finishResets_sound {s : State} (h_s : Sound s) : Sound (@finishResets s) := by
  unfold finishResets
  repeat' first
    | with_reducible assumption
    | (with_reducible first
        | apply reinitPort_sound | apply endReset_sound | apply State.each_sound | apply ite_sound)

theorem resetPorts_sound {s : State} {ports : List Nat} (h_s : Sound s) : Sound (@resetPorts s ports) := by
  unfold resetPorts
  repeat' first
    | with_reducible assumption
    | (refine fun h => ?_; first | exact h.1 | exact h.2 | skip)
    | (with_reducible first
        | apply State.each_sound | apply resetPort_sound | apply ite_sound)

theorem endUdp_sound {s : State} (h_s : Sound s) : Sound (@endUdp s) := by
  unfold endUdp
  repeat' first
    | with_reducible assumption
    | (refine fun h => ?_; first | exact h.1 | exact h.2 | skip)
    | (with_reducible first
        | apply endSession_sound | apply State.each_sound)

theorem vatWritten_sound {s : State} (h_s : Sound s) : Sound (@vatWritten s) := by
  unfold vatWritten
  repeat' first
    | with_reducible assumption
    | (refine fun h => ?_; first | exact h.1 | exact h.2 | skip)
    | (with_reducible first
        | apply leaveBlocks_sound | apply State.onVat_sound | apply areaStep_sound | apply State.each_sound
        | apply retargetBin_sound)

theorem reamWritten_sound {s : State} (h_s : Sound s) : Sound (@reamWritten s) := by
  unfold reamWritten
  repeat' first
    | with_reducible assumption
    | (refine fun h => ?_; first | exact h.1 | exact h.2 | skip)
    | (with_reducible first
        | apply setFlash_sound | apply State.each_sound | apply judgeCarriers_sound)

theorem twinWritten_sound {s : State} (h_s : Sound s) : Sound (@twinWritten s) := by
  unfold twinWritten
  repeat' first
    | with_reducible assumption
    | (refine fun h => ?_; first | exact h.1 | exact h.2 | skip)
    | (with_reducible first
        | apply settleIsland_sound | apply startFull_sound | apply State.each_sound | apply linkFalls_sound
        | apply trained_sound | apply holdLink_sound | apply ite_sound)

theorem railsWritten_sound {was : State} {s : State} (h_was : Sound was) (h_s : Sound s) : Sound (@railsWritten was s) := by
  unfold railsWritten
  repeat' first
    | with_reducible assumption
    | (refine fun h => ?_; first | exact h.1 | exact h.2 | skip)
    | (with_reducible first
        | apply dropRail_sound | apply State.onPower_sound | apply State.each_sound | apply ite_sound)

theorem tableEffect_sound {was : State} {s : State} {image : List Byte} {a : Nat} (h_was : Sound was) (h_s : Sound s) : Sound (@tableEffect was s image a) := by
  unfold tableEffect
  repeat' first
    | with_reducible assumption
    | (with_reducible first
        | apply deckleBound_sound | apply endUdp_sound | apply vatWritten_sound | apply railsWritten_sound
        | apply reamWritten_sound | apply retarget_sound | apply State.onPower_sound | apply resetPorts_sound | apply judgeEnergy_sound
        | apply twinWritten_sound | apply State.onCurd_sound | apply State.onLog_sound | apply judgeCarriers_sound | apply ite_sound)
    | ((try lift_lets); intro x; first | (have hx : Sound x := ?_; (on_goal 2 => subst x); (on_goal 1 => clear_value x)) | clear_value x | skip)
    | split

theorem setChain_sound {s : State} {x : Session} {c : Option Chain} (h_s : Sound s) : Sound (@setChain s x c) := h_s

theorem refuseImage_sound {s : State} {r : Req} {st : Status} {off : Nat} (h_s : Sound s) : Sound (@refuseImage s r st off) := by
  unfold refuseImage
  repeat' first
    | with_reducible assumption
    | (with_reducible first
        | apply reply_sound)

theorem applyTable_sound {s : State} {r : Req} {x : Session} {id : Nat} {image : List Byte} (h_s : Sound s) : Sound (@applyTable s r x id image) := by
  unfold applyTable
  repeat' first
    | with_reducible assumption
    | (with_reducible first
        | apply defer_sound | apply State.onCmd_sound | apply State.onCurd_sound | apply ok_sound
        | apply tableEffect_sound | apply ite_sound)

theorem writeTable_sound {s : State} {r : Req} {x : Session} {id : Nat} {image : List Byte} (h_s : Sound s) : Sound (@writeTable s r x id image) := by
  unfold writeTable
  repeat' first
    | with_reducible assumption
    | (with_reducible first
        | apply refuse_sound | apply applyTable_sound | apply refuseImage_sound | apply ite_sound)
    | split

theorem writeElement.step__sound {s : State} {r : Req} {x : Session} {more : Bool} {id : Nat} {image : List Byte} (h : Sound s) : Sound (writeElement.step_ r x more id s image) := by
  unfold writeElement.step_
  repeat' (first | exact refuse_sound h | exact replyMore_sound (setChain_sound h) | exact writeTable_sound h | split)
theorem writeElement_sound {s : State} {r : Req} {x : Session} {more : Bool} {id : Nat} {bytes : List Byte} (h : Sound s) : Sound (writeElement s r x more id bytes) := by
  unfold writeElement
  repeat' (first | exact refuse_sound h | exact refuse_sound (setChain_sound h) | exact writeElement.step__sound (setChain_sound h) | exact writeElement.step__sound h | split)


theorem dropChain_sound {s : State} {r : Req} (h_s : Sound s) : Sound (@dropChain s r) := by
  unfold dropChain
  repeat' first
    | with_reducible assumption
    | (with_reducible first
        | apply setChain_sound | apply ite_sound)
    | split

theorem sealD0_sound {s : State} {g : Region} (h_s : Sound s) : Sound (@sealD0 s g) := by
  unfold sealD0
  repeat' first
    | with_reducible assumption
    | (with_reducible first
        | apply pinRegion_sound | apply pinLimitEvent_sound | apply ite_sound)

theorem endSafeProfile_sound {s : State} (h_s : Sound s) : Sound (@endSafeProfile s) := by
  unfold endSafeProfile
  repeat' first
    | with_reducible assumption
    | (refine fun h => ?_; first | exact h.1 | exact h.2 | skip)
    | (with_reducible first
        | apply deckleBound_sound | apply requestClose_sound | apply resumeDrains_sound
        | apply State.onCmd_sound | apply State.each_sound | apply unforce_sound | apply sealD0_sound)

theorem discard_sound {s : State} {ch : Chan} {n : Nat} (h_s : Sound s) : Sound (@discard s ch n) := h_s

theorem discardSegment_sound {s : State} {ch : Chan} {n : Nat} (h_s : Sound s) : Sound (@discardSegment s ch n) := by
  unfold discardSegment
  repeat' first
    | with_reducible assumption
    | (with_reducible first
        | apply setChannel_sound | apply ite_sound)

theorem setScan_sound {s : State} {ch : Chan} {on : Bool} (h_s : Sound s) : Sound (@setScan s ch on) := h_s

theorem headerReply_sound {s : State} {ch : Chan} {packet : List Byte} {st : Status} {detail : Nat} (h_s : Sound s) : Sound (@headerReply s ch packet st detail) := by
  unfold headerReply
  repeat' first
    | with_reducible assumption
    | (with_reducible first
        | apply sendBytes_sound | apply State.emit_sound | apply countFailure_sound)

theorem arrive_sound {s : State} {ch : Chan} {p : List Byte} (h_s : Sound s) : Sound (@arrive s ch p) := h_s

theorem admitPacket_sound {s : State} {ch : Chan} {p : List Byte} (h_s : Sound s) : Sound (@admitPacket s ch p) := by
  unfold admitPacket
  repeat' first
    | with_reducible assumption
    | (with_reducible first
        | apply dropChain_sound | apply reject_sound | apply arrive_sound | apply ite_sound)
    | ((try lift_lets); intro x; first | (have hx : Sound x := ?_; (on_goal 2 => subst x); (on_goal 1 => clear_value x)) | clear_value x | skip)
    | split

theorem takePacket_sound {s : State} {ch : Chan} {n : Nat} (h_s : Sound s) : Sound (@takePacket s ch n) := h_s

theorem normalStep_sound {s : State} {ch : Chan} {rx : List Byte} (h_s : Sound s) : SoundO (@normalStep s ch rx) := by
  unfold normalStep
  repeat' first
    | with_reducible assumption
    | (with_reducible first
        | apply soundO_none | apply soundO_some | apply soundO_ite | apply headerReply_sound
        | apply setScan_sound | apply takePacket_sound | apply discard_sound | apply admitPacket_sound)
    | (refine soundO_map ?_ fun _ h => ?_; on_goal 2 => (try dsimp only))
    | (refine soundO_mapP ?_ fun _ _ h => ?_; on_goal 2 => (try dsimp only))

theorem scanStep_sound {s : State} {ch : Chan} {rx : List Byte} (h_s : Sound s) : SoundO (@scanStep s ch rx) := by
  unfold scanStep
  repeat' first
    | with_reducible assumption
    | (with_reducible first
        | apply soundO_none | apply soundO_some | apply soundO_ite | apply setScan_sound
        | apply takePacket_sound | apply discard_sound | apply admitPacket_sound | apply ite_sound)
    | (refine soundO_map ?_ fun _ h => ?_; on_goal 2 => (try dsimp only))
    | (refine soundO_mapP ?_ fun _ _ h => ?_; on_goal 2 => (try dsimp only))
    | ((try lift_lets); intro x; first | (have hx : Sound x := ?_; (on_goal 2 => subst x); (on_goal 1 => clear_value x)) | clear_value x | skip)
    | split

theorem consume_sound {n : Nat} {s : State} {ch : Chan} (h : Sound s) : Sound (consume n s ch) := by
  induction n generalizing s with
  | zero => exact h
  | succ n ih =>
    unfold consume; dsimp only; split
    · exact h
    · split
      · next t e =>
        refine ih ?_
        split at e
        · exact (scanStep_sound h).out _ e
        · exact (normalStep_sound h).out _ e
      · exact h

theorem consumeAll_sound {s : State} {ch : Chan} (h_s : Sound s) : Sound (@consumeAll s ch) := by
  unfold consumeAll
  repeat' first
    | with_reducible assumption
    | (with_reducible first
        | apply consume_sound)

theorem receive_sound {s : State} {ch : Chan} {seg : List Byte} (h_s : Sound s) : Sound (@receive s ch seg) := by
  unfold receive
  repeat' first
    | with_reducible assumption
    | (with_reducible first
        | apply setChannel_sound | apply consumeAll_sound | apply State.onCmd_sound | apply discard_sound
        | apply ite_sound)

theorem releaseHeld_sound {s : State} {ch : Chan} (h_s : Sound s) : Sound (@releaseHeld s ch) := by
  unfold releaseHeld
  repeat' first
    | with_reducible assumption
    | (with_reducible first
        | apply setChannel_sound | apply ite_sound)

theorem makeUdpRoom_sound {s : State} {ch : Chan} (h_s : Sound s) : Sound (@makeUdpRoom s ch) := by
  unfold makeUdpRoom
  repeat' first
    | with_reducible assumption
    | (with_reducible first
        | apply State.onCmd_sound | apply ite_sound)
    | ((try lift_lets); intro x; first | (have hx : Sound x := ?_; (on_goal 2 => subst x); (on_goal 1 => clear_value x)) | clear_value x | skip)
    | split

theorem chainTimesOut_sound {s : State} {ch : Chan} (h_s : Sound s) : Sound (@chainTimesOut s ch) := by
  unfold chainTimesOut
  repeat' first
    | with_reducible assumption
    | (with_reducible first
        | apply setChain_sound | apply ite_sound)
    | split

theorem reportProgress_sound {s : State} {o : LongOp} (h_s : Sound s) : Sound (@reportProgress s o) := by
  unfold reportProgress
  repeat' first
    | with_reducible assumption
    | (with_reducible first
        | apply setChannel_sound | apply sendReply_sound | apply ite_sound)
    | ((try lift_lets); intro x; first | (have hx : Sound x := ?_; (on_goal 2 => subst x); (on_goal 1 => clear_value x)) | clear_value x | skip)
    | split

theorem State.withFetchWord_sound {s : State} {nbits w : Nat} (h : Sound s) : Sound (s.withFetchWord nbits w) := by
  unfold State.withFetchWord; split <;> exact h

end Sys2Proof.Machine
end

