-- ==== Sys2Proof/WellFormed.lean ====
section
/-! DEFINITION. Which commands are well formed: every operand lies in the range the manual gives the thing it names. -/

namespace Sys2Proof

/-- R77, R280, R281: heads 0 to 15, LD-IDs 0 to 15, SMBus ports 0 and 1, UDP ports of 16 bits. -/
def Chan.wf : Chan → Bool
  | .mailbox head ld => decide (head < 16 ∧ ld < 16)
  | .smbus port eid => decide (port < 2 ∧ eid < 256)
  | .vdm head eid => decide (head < 16 ∧ eid < 256)
  | .udp _ port => decide (port < 65536)

/-- R281: SMBus ports 0 and 1, heads 0 to 15. -/
def Bus.wf : Bus → Bool
  | .smbus port => decide (port < 2)
  | .vdm head => decide (head < 16)

/-- R24: the unit instances of each class; R369 sensors, R386 rails. -/
def UnitId.wf : UnitId → Bool
  | .engine i => decide (i < 160)
  | .slice i => decide (i < 16)
  | .dram i => decide (i < 16)
  | .flash i => decide (i < 48)
  | .port i => decide (i < 16)
  | .felt i => decide (i < 8)
  | .core i => decide (i < 16)
  | .sensor i => decide (i < 110)
  | .rail i => decide (i < 16)

/-- R144: the symbols of a codeword. -/
def burstOk : DramError → Bool
  | .good | .poisonCode => true
  | .symbols l => l.all fun k => decide (k < 40)

/-- R10: the islands of each kind. -/
def Island.wf : Island → Bool
  | .hp i => decide (i < 16)
  | .tw i => decide (i < 8)
  | .mc i => decide (i < 16)
  | .fc i => decide (i < 48)
  | .cu i => decide (i < 16)
  | .px => true
  | .cx => true
  | .en i => decide (i < 10)
  | .sv => true

/-- R253: links 0 to 7. -/
def FeltHdr.wf (h : FeltHdr) : Bool := decide (h.link < 8)

/-- R440: classes 0 to 16, severities 0 to 3, head and LD 0 to 15 or 255. -/
def Occurrence.wf (o : Occurrence) : Bool :=
  decide (o.cls < 17 ∧ o.severity < 4 ∧ (o.head < 16 ∨ o.head = 255) ∧ (o.ld < 16 ∨ o.ld = 255) ∧ o.region < 65536)

/-- A command whose operands lie in their ranges. The pages of clean completions go on past the data pages with the blocks of the
directory (log entry 16). The meanings are total: an operand outside its range names nothing, and
the command then finds nothing to act on. -/
def Instr.wf : Instr → Bool
  | .identify r => r.ch.wf
  | .sessionOpen r _ _ _ _ => r.ch.wf
  | .sessionClose r _ => r.ch.wf
  | .nop r => r.ch.wf
  | .getReadyState r => r.ch.wf
  | .resetSession r _ => r.ch.wf
  | .resetPort r _ => r.ch.wf
  | .resetUnit r _ => r.ch.wf
  | .resetWarm r => r.ch.wf
  | .resetCold r => r.ch.wf
  | .paramWrite r _ _ _ => r.ch.wf
  | .paramRead r _ => r.ch.wf
  | .configSeal r => r.ch.wf
  | .configUnseal r => r.ch.wf
  | .regionCreate r _ _ => r.ch.wf
  | .regionDestroy r _ => r.ch.wf
  | .regionResize r _ _ => r.ch.wf
  | .regionSetFlags r _ _ => r.ch.wf
  | .regionQuery r _ => r.ch.wf
  | .regionGrant r _ _ _ _ => r.ch.wf
  | .capacityAdd r _ _ => r.ch.wf
  | .capacityDrain r _ _ => r.ch.wf
  | .tierPin r _ _ _ => r.ch.wf
  | .tierUnpin r _ => r.ch.wf
  | .tierPrefetch r _ _ _ => r.ch.wf
  | .cacheControlSet r _ => r.ch.wf
  | .cacheControlQuery r => r.ch.wf
  | .zeroLines r _ _ _ => r.ch.wf
  | .watermarkClose r => r.ch.wf
  | .watermarkQuery r => r.ch.wf
  | .flushRegion r _ => r.ch.wf
  | .snapshotBegin r _ => r.ch.wf
  | .snapshotEnd r _ => r.ch.wf
  | .twinAttach r => r.ch.wf
  | .twinDetach r => r.ch.wf
  | .twinStatus r => r.ch.wf
  | .twinResync r _ _ => r.ch.wf
  | .twinRoleHandover r _ _ => r.ch.wf
  | .twinRoleForce r _ _ => r.ch.wf
  | .energyStatus r => r.ch.wf
  | .energyLearnStart r => r.ch.wf
  | .energyLearnAbort r => r.ch.wf
  | .energyLearnedWrite r _ => r.ch.wf
  | .deckleStatus r => r.ch.wf
  | .couchRehearse r _ => r.ch.wf
  | .thermalStatus r _ _ => r.ch.wf
  | .sensorExclude r _ => r.ch.wf
  | .sensorInclude r _ => r.ch.wf
  | .railStatus r => r.ch.wf
  | .rindRead r _ _ => r.ch.wf
  | .orderlyPowerDown r => r.ch.wf
  | .keySlotBind r _ _ => r.ch.wf
  | .keySlotRetire r _ => r.ch.wf
  | .keyStatus r _ _ => r.ch.wf
  | .starterProvision r _ _ _ => r.ch.wf
  | .eventRead r _ _ _ => r.ch.wf
  | .eventAck r _ => r.ch.wf
  | .traceStart r _ _ _ => r.ch.wf
  | .traceStop r => r.ch.wf
  | .traceRead r => r.ch.wf
  | .traceClear r => r.ch.wf
  | .alarmMask r _ => r.ch.wf
  | .unitFence r _ => r.ch.wf
  | .unitTest r _ => r.ch.wf
  | .unitStatusQuery r _ => r.ch.wf
  | .unitReturn r _ => r.ch.wf
  | .channelOffline r _ => r.ch.wf
  | .channelOnline r _ => r.ch.wf
  | .errorInject r _ _ _ _ => r.ch.wf
  | .fwDownload r _ _ _ => r.ch.wf
  | .fwVerify r => r.ch.wf
  | .fwActivate r _ => r.ch.wf
  | .fwConfirm r => r.ch.wf
  | .fwStatus r => r.ch.wf
  | .diagnosticOpcode r _ => r.ch.wf
  | .kolnyxWrite head ld payload => decide (head < 16 ∧ ld < 16 ∧ 1 ≤ payload.length ∧ payload.length ≤ 4096)
  | .kolnyxRead head ld _ => decide (head < 16 ∧ ld < 16)
  | .mctpMessage bus eid _ => bus.wf && decide (eid < 256)
  | .setEndpointId bus _ _ => bus.wf
  | .getEndpointId bus _ => bus.wf
  | .getMctpVersionSupport bus _ _ => bus.wf
  | .getMessageTypeSupport bus _ => bus.wf
  | .getVendorDefinedMessageSupport bus _ _ => bus.wf
  | .mctpOtherControlMessage bus _ _ => bus.wf
  | .udpDatagram _ port _ _ _ => decide (port < 65536)
  | .arpFrame _ _ _ => true
  | .icmpEchoRequest _ _ _ _ => true
  | .reassemblyTimeout ch => ch.wf
  | .sessionIdleTimeout _ => true
  | .progressReportTick => true
  | .cxlMemRead head ld _ hpa => decide (head < 16 ∧ ld < 16 ∧ hpa % 64 = 0)
  | .cxlMemWrite head ld _ hpa _ _ _ => decide (head < 16 ∧ ld < 16 ∧ hpa % 64 = 0)
  | .hdmDecoderCommit head ld index _ _ _ _ => decide (head < 16 ∧ ld < 16 ∧ index < 4)
  | .getLdInfo head => decide (head < 16)
  | .getLdAllocations head => decide (head < 16)
  | .setLdAllocations head => decide (head < 16)
  | .getDcExtentList head ld => decide (head < 16 ∧ ld < 16)
  | .dcReleaseResponse head ld region _ => decide (head < 16 ∧ ld < 16 ∧ region < 65536)
  | .releaseTimeout head ld region => decide (head < 16 ∧ ld < 16 ∧ region < 65536)
  | .gpfPhase2Request head => decide (head < 16)
  | .setShutdownState head ld _ => decide (head < 16 ∧ ld < 16)
  | .getEventRecords head ld log => decide (head < 16 ∧ ld < 16 ∧ log < 4)
  | .clearEventRecords head ld log _ => decide (head < 16 ∧ ld < 16 ∧ log < 4)
  | .getEventInterruptPolicy head ld => decide (head < 16 ∧ ld < 16)
  | .setEventInterruptPolicy head ld _ => decide (head < 16 ∧ ld < 16)
  | .hostLinkUp port _ => decide (port < 16)
  | .hostLinkDown port => decide (port < 16)
  | .wireBeatReceived _ _ => true
  | .wireNakReceived _ _ => true
  | .retryResponse _ => true
  | .engineFaultDetected engine _ => decide (engine < 160)
  | .engineHeartbeatTimeout engine => decide (engine < 160)
  | .spareRoleResumed fenced => decide (fenced < 160)
  | .islandFrequencyChangeDone island => island.wf
  | .epochCloseComplete => true
  | .autoCloseIntervalExpiry => true
  | .deckleRecompute => true
  | .writeCreditIdleTimeout port => decide (port < 16)
  | .pageChargeMessage page => decide (page < dpaSpace / pageBytes)
  | .curdFillArrival line => decide (line < dpaSpace / lineBytes)
  | .evictionOffer line => decide (line < dpaSpace / lineBytes)
  | .dramWriteAck line => decide (line < dpaSpace / lineBytes)
  | .streamTrackerTimeout port tracker => decide (port < 16 ∧ tracker < 16)
  | .frameReclaim page => decide (page < dpaSpace / pageBytes)
  | .pageCleanStart page => decide (page < dpaSpace / pageBytes)
  | .pageCleanComplete page _ => decide (page ≤ dpaSpace / pageBytes + dpaSpace / (512 * pageBytes))
  | .curdDrainComplete => true
  | .curdSlicePowerUpDone => true
  | .reamFetchComplete page _ => decide (page < dpaSpace / pageBytes)
  | .deadlineMarginExpiry _ => true
  | .dramAccessComplete line e => decide (line < dpaSpace / lineBytes) && burstOk e
  | .caParityAlert channel => decide (channel < 16)
  | .refreshIntervalTick channel bank => decide (channel < 16 ∧ bank < 2048)
  | .refreshWindowExpiry channel => decide (channel < 16)
  | .rowIdleTimeout channel bank => decide (channel < 16 ∧ bank < 2048)
  | .dramTrainingStepComplete channel _ => decide (channel < 16)
  | .dramFrequencyChangeDone channel _ => decide (channel < 16)
  | .scrubRead _ l => l.all fun x => decide (x.1 < 64) && burstOk x.2
  | .rowRepairSpprDone channel _ _ => decide (channel < 16)
  | .rowRepairHpprDone channel _ => decide (channel < 16)
  | .channelVacateComplete channel => decide (channel < 16)
  | .spdHubLossTimeout channel => decide (channel < 16)
  | .directoryAreaResizeComplete => true
  | .pageMoveEnd page _ => decide (page < dpaSpace / pageBytes)
  | .flashTrainingComplete channel _ _ _ => decide (channel < 48)
  | .nandOperationOverrun channel op => decide (channel < 48 ∧ op.target < 8 ∧ op.lun < 4)
  | .targetStatusTimeout channel target => decide (channel < 48 ∧ target < 8)
  | .flashAbsentProbeTick channel _ => decide (channel < 48)
  | .stageGatherTimeout => true
  | .stageProgramComplete => true
  | .nandProgramFailure channel _ => decide (channel < 48)
  | .nandEraseComplete channel _ _ => decide (channel < 48)
  | .reclamationStart channel _ _ => decide (channel < 48)
  | .patrolRead channel _ _ => decide (channel < 48)
  | .wearLevelMove channel _ => decide (channel < 48)
  | .channelFormatComplete channel _ => decide (channel < 48)
  | .channelDrainComplete channel => decide (channel < 48)
  | .rebuildStripe page _ => decide (page < dpaSpace / pageBytes)
  | .rebuildComplete channel => decide (channel < 48)
  | .salometerSample _ voltage _ _ => decide (voltage < 2 ^ 32)
  | .autoZeroTick => true
  | .svDiodeSample _ => true
  | .lowCurrentModeEntry => true
  | .lowCurrentComparator => true
  | .pkPresentAsserted => true
  | .pkPresentDeasserted => true
  | .packSwapTimeout => true
  | .packIdentityPoll => true
  | .packIdentityReadDone _ => true
  | .probeStart => true
  | .probeComplete _ _ _ _ _ _ _ _ => true
  | .probeAgeTimeout _ => true
  | .energyEstimateTick => true
  | .fullChargeAnchor => true
  | .thermistorDisagreement => true
  | .learnTimeout => true
  | .learnInterruptionTimeout => true
  | .learnedRecordDailyUpdate => true
  | .inputChange _ _ => true
  | .inputLossDetection => true
  | .inputPresenceConfirmed => true
  | .commitPoint => true
  | .couchCurdDrained => true
  | .couchProgramComplete _ _ => true
  | .holdUpTimeLimit => true
  | .couchSealWritten => true
  | .readyLift => true
  | .foldPage page _ => decide (page < dpaSpace / pageBytes)
  | .rehearsalComplete _ _ _ => true
  | .feltLinkTrained link _ _ => decide (link < 8)
  | .feltLinkSilence link => decide (link < 8)
  | .fastRetrainTimeout link => decide (link < 8)
  | .feltFlitReceived link _ _ _ _ => decide (link < 8)
  | .flitAckTimeout link sequence => decide (link < 8 ∧ sequence < 4096)
  | .mirrorWrite h _ _ => h.wf
  | .mirrorAck link _ => decide (link < 8)
  | .epochEnd _ _ _ => true
  | .epochApplied _ => true
  | .twinRead h => h.wf
  | .twinReadData _ _ => true
  | .notResident _ => true
  | .pageCopy h fragment _ => h.wf && decide (fragment < 64)
  | .pageAck _ page => decide (page < dpaSpace / pageBytes)
  | .pageZero h => h.wf
  | .burstAbort link _ => decide (link < 8)
  | .mirrorRefused _ _ => true
  | .hello link _ => decide (link < 8)
  | .regionList link _ _ _ _ => decide (link < 8)
  | .status link _ _ _ _ _ => decide (link < 8)
  | .commitNotice _ _ => true
  | .regionOp _ _ => true
  | .tokenOp _ _ _ => true
  | .close _ => true
  | .detach => true
  | .listRequest => true
  | .burstTimeout link _ => decide (link < 8)
  | .regionListTimeout => true
  | .linkingTimeout => true
  | .feltTimeout => true
  | .statusSendTick => true
  | .resyncPageSend _ page => decide (page < dpaSpace / pageBytes)
  | .rekeySweepStep _ page _ => decide (page < dpaSpace / pageBytes)
  | .keySlotFreed slot => decide (slot < 1024)
  | .cipherPassComplete _ core _ _ => decide (core < 16)
  | .cipherSelfTestTick core _ => decide (core < 16)
  | .sensorSample sensor _ _ => decide (sensor < 110)
  | .spdHubReadTick channel slot _ => decide (channel < 16 ∧ slot < 2)
  | .mr4ReadTick channel _ _ => decide (channel < 16)
  | .sensorContinuousTimeout sensor => decide (sensor < 110)
  | .sensorContinuousRetry sensor _ => decide (sensor < 110)
  | .sensorPollTick sensor _ => decide (sensor < 110)
  | .throttleStepTimer => true
  | .throttleUnwindTimer => true
  | .thermalRestartHold => true
  | .vaoPowerOn => true
  | .vaoBrownOut => true
  | .calenderGrant => true
  | .chainBypassTimeout => true
  | .railDelayExpiry rail => decide (rail < 16)
  | .railPowerGood rail => decide (rail < 16)
  | .railPgTimeout rail => decide (rail < 16)
  | .caDnOutDelay _ => true
  | .caDnInChange _ => true
  | .powerDownRailStep => true
  | .offTimeExpiry => true
  | .railFault rail => decide (rail.rail < 16)
  | .monitorInputFall input => decide (input < 24)
  | .progressWatchTimeout => true
  | .serviceButtonPress => true
  | .serviceButtonRelease => true
  | .buttonHold3s => true
  | .buttonStuckTimeout => true
  | .ppsInputEdge _ _ => true
  | .ppsOutputSecond => true
  | .bistWaveComplete wave _ => decide (wave < 3)
  | .imageLoadComplete _ => true
  | .readyCore => true
  | .bootWatchdogExpiry => true
  | .mgmtEngineFeedTimeout engine => decide (engine < 160)
  | .serviceWatchdogExpiry => true
  | .ledgerWordProgram _ _ => true
  | .ledgerSectorErase _ _ => true
  | .ledgerIdentify => true
  | .ledgerReset => true
  | .ledgerOtherWrite _ _ => true
  | .ledgerStatusRead => true
  | .ledgerOpComplete _ => true
  | .ledgerEraseLimit => true
  | .vaoSampleTick _ => true
  | .eventArrival o => o.wf
  | .coalesceWindowClose _ => true
  | .tokenRefill cls => decide (cls < 17)
  | .dropSummaryTick => true
  | .injectionTimeout unit => unit.wf
  | .unitTestComplete unit _ => unit.wf
  | .fwVerifyComplete _ => true
  | .snapshotScanComplete _ => true
  | .starterKeyProgrammingDone _ => true
  | .jtagInstruction _ => true

end Sys2Proof
end

