-- ==== Sys2Proof/Tests/Slice0.lean ====
section
/-! SUPPORT. The model's own tests: ill-formed commands, small results of single steps, and a witness for the hypotheses of each statement. -/

open Sys2Proof Sys2Proof.Machine

set_option maxRecDepth 4000
set_option Elab.async false

namespace Sys2Proof.Tests


/-! ### Small states -/

/-- The mailbox channel of head 0, LD 0, and a packet on it. -/
def ch0 : Chan := .mailbox 0 0
def req : Req := { ch := ch0, tag := 7, urgent := false }

/-- A session on that channel. -/
def owner0 : Session :=
  { num := 1, ch := ch0, kind := .owner, identity := none, counters := [0, 0, 0, 0, 0, 0], outstanding := [], chain := none, pins := [],
    prefetches := [] }

/-- READY.SERVICE, with an owner. -/
def svc : State := State.reset.onCmd fun c => { c with ready := .service, sessions := [owner0], owner := 1 }

/-- READY.SERVICE, without a session. -/
def bare : State := State.reset.onCmd fun c => { c with ready := .service }

/-- READY.SERVICE, with an owner and a second session. -/
def svc2 : State := svc.onCmd fun c => { c with sessions := c.sessions ++ [{ owner0 with num := 2, ch := .mailbox 0 1, kind := .data }] }

/-- READY.SERVICE and unsealed, with every table written: HEADS gives each head one LD. -/
def tabled : State := svc.onCmd fun c => { c with tables :=
  [some [], some (List.replicate 8 0 ++ defaultBody svc 2), some [], some (List.replicate 8 0 ++ defaultBody svc 4)] ++ List.replicate 11 (some []) }

/-- The AUTOCLOSE image of its defaults. -/
def autoClose : List Byte := tableFrame 6 (le 4 1000 ++ le 4 0)

/-- The first element of a chain has arrived. -/
def chained : State := svc.onCmd fun c => { c with sessions := [{ owner0 with chain := some { tag := 7, table := 6, bytes := [1, 0] } }] }

/-- A flash channel that is ONLINE. -/
def target0 : Targets :=
  { targets := 4, volumesPerCe := 1, luns := 2, planes := 4, pageBytes := 16384, spareBytes := 2208, pagesPerBlock := 1536, blocksPerPlane := 1024,
    tlcWithSlc := true, mixed := false, rawMib := 1048576, endurance := 3000, suspend := true, chipEnables := 4,
    busBits := 8, multiPlane := true, operations := true, readNs := 100000, programNs := 2000000, eraseNs := 10000000 }
def flash0 : Flash := { Flash.reset with st := .online, targets := some target0, reserveReady := true, joined := true, stageReady := true }

/-- A home location on channel 1, block 1, page 64. -/
def home1 : BitVec 40 := 0x200010400

/-- READY.SERVICE with the four channels of group 0 ONLINE. -/
def roomy : State := svc.onReam fun x => { x with ch := List.replicate 4 flash0 ++ List.replicate 44 Flash.reset }

/-- A region of one extent of class D1, without a mirror. -/
def region1 : Region :=
  { num := 1, flags := 0x10, size := 0x200000, runs := [(0, 1)], grants := [], creationEpoch := 1, mirror := .notMirrored, holder := 0, generation := 0,
    ec := 0, opns := [], d0InForce := false, deadlineMisses := 0, twinServed := 0, snapshot := 0, streams := [], lastMiss := 0, missRun := 0,
    metaDirty := false }
def one : State := roomy.onRegions fun x => { x with list := [region1], readOnly := false }

/-- Flash channel 47 PRESENT; five channels of group 0 ONLINE; a pin; a snapshot record; a DRAM channel. -/
def present47 : State := roomy.onReam fun x => { x with ch := x.ch.set 47 { flash0 with st := .present } }
def five : State := svc.onReam fun x => { x with ch := List.replicate 5 flash0 ++ List.replicate 43 Flash.reset }
def pinned1 : State :=
  one.onCmd fun c => { c with sessions := [{ owner0 with pins := [{ handle := 9, region := 1, offset := 0, length := 4096 }] }] }
def snapped : State := one.onRegions fun x => { x with list := [{ region1 with snapshot := 4 }] }
def dimms0 : Dimms :=
  { count := 2, slot1Only := false, rdimmEcc := true, width := 4, density := 16, ranks := 2, gibPerDimm := 32, identical := true, maxRate := 4800,
    spdId := 1, rfm := 0 }
def dram0 : Dram := { Dram.reset with st := .online, dimms := some dimms0 }
def dramOne : State := one.onVat fun v => { v with ch := dram0 :: List.replicate 15 Dram.reset }

/-- A SYNC region, of a pair that stands and of one that is down. -/
def mirrored1 (m : MirrorSt) (h : U64) : Region := { region1 with flags := 0x11, mirror := m, holder := h, generation := 1 }
def paired (m : MirrorSt) (h : U64) : State :=
  (one.onRegions fun x => { x with list := [mirrored1 m h] }).onFelt fun f => { f with pair := .attached }
def alone (m : MirrorSt) (h : U64) : State := (paired m h).onFelt fun f => { f with pair := .twinDown }

/-- A pack in the learning window; a learned record with its CRC; a starter key; a fenced core that passed its test; two DRAM channels. -/
def packed : State := svc.onSal fun x => { x with state := .normal, learnWindow := true }
def learned0 : List Byte :=
  let front := [1, 1, 0, 0] ++ le 8 5 ++ le 4 1000 ++ le 4 0x10000 ++ List.replicate 40 0
  front ++ le 4 (crc32c front).toNat
def keyed : State := one.onCipher fun c => { c with banks := [.valid 3, .blank] }
def fenced3 : State := setUnit svc (.core 3) fun y => { y with st := .fenced, result := 1 }
def dramTwo : State := svc.onVat fun v => { v with ch := [dram0, dram0, Dram.reset, { dram0 with st := .offline }] ++ List.replicate 12 Dram.reset }

/-- Firmware slot B with 4,096 of 8,192 bytes; an image; a verification that runs. -/
def image0 : ImageInfo := { version := 2, size := 8192, headerOk := true, signatureOk := true, security := 0, formats := 1, digest := 1 }
def slotB (st : SlotSt) : State :=
  svc.onLedger fun l => { l with slotB := { st := st, image := some image0, declared := 8192, received := 4096, bytes := [] } }
def verifying : State := (slotB .complete).onCmd fun c => { c with longOps :=
  [{ kind := .fwVerify, session := 1, ch := ch0, opcode := 0x0C02, tag := 9, done := 0, total := 8192, unit := 0 }] }

/-- Head 0 with its link up; the mailbox packet of IDENTIFY with host tag 7; 20 bytes of a longer packet; a session over UDP. -/
def linked0 : State := bare.onCxl fun c => { c with linkUp := [0] }
def identifyPacket : List Byte :=
  let front := [2, 0] ++ le 2 0x0001 ++ le 4 7 ++ le 4 0
  front ++ le 4 (crc32c (front ++ [0, 0, 0, 0])).toNat
def halfway : State := setChannel linked0 ch0 fun c => { c with rx := [2, 0] ++ le 2 0x0101 ++ le 4 7 ++ le 4 64 ++ le 4 0 ++ [6, 0, 0, 0] }
def udpSession : State := bare.onCmd fun c => { c with sessions := [{ owner0 with ch := .udp 5 6 }] }

/-- Region 1 granted to (head 0, LD 0), which maps its DPA; credits in the pool of port 0; a release that runs. -/
def decoder0 : Decoder := { index := 0, hpaBase := 0, dpaBase := 0, size := 0x10000000, committed := true }
def ld0 : Ld :=
  { head := 0, ld := 0, decoders := [decoder0], held := [(1, 0, 1)], releases := [], logs := [[], [], [], []], overflow := [0, 0, 0, 0],
    policy := 0, nextHandle := 1 }
def grantedRegion : Region := { region1 with grants := [{ head := 0, ld := 0, access := .readWrite }] }
def served : State :=
  ((one.onRegions fun x => { x with list := [grantedRegion] }).onCxl fun c => { c with linkUp := [0], lds := [ld0] }).onCouch
    fun c => { c with orch := .serving }
def staged0 : State := served.onReam fun x => { x with ch := List.replicate 13 flash0 ++ List.replicate 35 Flash.reset }
def release1 : Release := { region := 1, runs := [(0, 1)], why := .grantNone, access := .readOnly }
def releasing : State := served.onCxl fun c => { c with lds := [{ ld0 with releases := [release1] }] }

/-- A read that waits to be reissued. -/
def request0 : HostReq :=
  { age := 5, write := false, port := 0, ld := 0, hostTag := 1, line := 0, data := 0, be := 0, poison := false, epoch := 1, region := 1,
    accepted := 0, st := .retry, credit := false, needAck := false, localDone := false, twinAsked := false, mirrorTag := 0xFFFF,
    deadline := none, late := false, marked := false }
def retried : State := served.onCxl fun c => { c with reqs := [request0] }

/-- Beats of good parity: one from engine 0 to engine 1, class 0, and one of zeros; an engine cluster off the routes. -/
def beat0 : Beat :=
  let tag : BitVec 128 := 0x10011000#32 ++ 0#96
  { tag := tag, payload := 0, control := 0, parity := BitVec.ofNat 80 (2 ^ 15 + 2 ^ 14 + 2 ^ 13) }
def blank0 : Beat := { tag := 0, payload := 0, control := 0, parity := 0 }
def unrouted0 : State := svc.onWire fun w => { w with unrouted := [.en 0] }
def gone0 : State := setEngine svc 0 fun x => { x with unit := { x.unit with st := .fenced } }
def lastEngine0 : State := svc.onUnits fun u => { u with engines := u.engines.take 1 ++ List.replicate 159 { role := .fenced, instance_ := 255, unit := { Unit_.reset with st := .fenced }, failing := false, resuming := false, work := [] } }

/-- A region with cipher on that no key slot serves, and a beat of it for the cipher complex. -/
def unkeyed0 : State := served.onRegions fun x => { x with list := [{ grantedRegion with flags := 0x14 }] }
def keyBeat0 : Beat :=
  { tag := 0x70001000#32 ++ 0#48 ++ 1#16 ++ 0#32, payload := 0, control := 0, parity := BitVec.ofNat 80 (2 ^ 15 + 2 ^ 13 + 2 ^ 4) }

/-- A spare that takes over; a close that runs. -/
def resuming0 : State := (setEngine svc 15 fun x => { x with resuming := true }).onWire fun w => { w with redirect := [(0, 15)] }
def closing0 : State := served.onEpochs fun e =>
  { e with running := some { epoch := 1, joined := [], started := 0, localDone := false, peerDone := false, couch := false }, current := 2 }

/-- Page 0 with a VALID frame 0; an eviction entry, its acknowledgement, a drain toward OFF. -/
def frame0 : Frame := { no := 0, valid := true, referenced := false, page := 0, data := [] }
def framed0 : State := dramOne.onPpu fun p => { p with frames := [frame0] }
def evict0 (dirty : Bool) : Evict := { addr := 0, dirty := dirty, data := zeroLine, epoch := 1, offered := false }
def offered0 (dirty : Bool) : State := framed0.onCurd fun c => { c with evicts := [evict0 dirty] }
def write0 : DramReq := { line := 0, write := true, curd := true, data := zeroLine, rmw := false, since := 0 }
def queued0 : State :=
  ((setDram framed0 0 fun c => { c with queue := [write0] }).onCurd fun c =>
    { c with evicts := [{ evict0 true with offered := true }] }).onCxl fun c => { c with reqs := [{ request0 with write := true, st := .dramWrite }] }
def draining0 : State := svc.onCurd fun c => { c with draining := some .off, lines := [], evicts := [], drainReq := none }

/-- The entry of page 0 in each of the states that a charge, a fetch, a clean, a reclaim and a move start from. -/
def entry0 (st : DirState) (charged : Bool) : DirEntry :=
  { page := 0, region := 1, st := st, prev := .home, wrote := false, pinned := false, keyGen := 0, loc := 0x200, frame := some 0, epoch := 1,
    charged := charged, unresolved := false }
def withEntry (st : DirState) (charged : Bool) : State := framed0.onPpu fun p => { p with dir := [entry0 st charged] }
def slot0 : Slot :=
  { loc := 0x200, page := 0, region := 1, epoch := 1, keySlot := 0, keyGen := 0, cipher := false, generation := 0, data := [] }
def charged0 : State := (withEntry .clean false).onPpu fun p => { p with charges := [{ page := 0, epoch := 1, port := 0 }] }
def fetching0 : State :=
  ((withEntry .moving false).onPpu fun p => { p with fetches := [{ page := 0, prefetch := false, kept := false, reserve := false, issued := 0 }] }).onReam
    fun x => { x with slots := [slot0] }
/-- A charge whose directory block is on the media alone; the fetch of that block; a fetch whose stripe cannot be read; an overdue read. -/
def chargedAway0 : State :=
  ((charged0.onPpu fun p => { p with blocks := [] }).onReam fun x => { x with root := [(0, home1, 1)] }).onVat fun v =>
    { v with ch := v.ch.set 0 { dram0 with share := 4096, shareTo := 4096 } }
def fetchingBlock0 : State :=
  chargedAway0.onPpu fun p => { p with fetches := [{ page := directoryBase, prefetch := false, kept := false, reserve := false, issued := 0 }] }
def unreadable0 : State := setFlash fetching0 1 fun f => { f with st := .failed, blocks := [{ blankBlock 0 with sequence := 1 }] }
def overdue0 : State := fetching0.onPower fun p => { p with now := 1000000000 }
def overrun0 : NandOp := { target := 0, lun := 0, kind := .read }
def fetchingOther0 : State := fetching0.onReam fun x => { x with slots := [{ slot0 with page := 1 }] }
def move0 (k : MoveKind) : Move := { page := 0, kind := k, data := [], epoch := 1, target := 0, since := 0 }
def moved0 (k : MoveKind) : State :=
  ((withEntry .moving true).onPpu fun p => { p with moves := [move0 k] }).onCouch fun c => { c with orch := .serving }
def cleaning0 : State := moved0 .clean
def moving0 : State := moved0 .drain
def wrote0 : State := (moved0 .clean).onPpu fun p => { p with dir := p.dir.map fun e => { e with wrote := true } }
def vacating0 : State :=
  ((moved0 .vacate).onVat fun v => { v with ch := { dram0 with st := .vacating } :: dram0 :: List.replicate 14 Dram.reset }).onPower fun p =>
    { p with now := 1000000000 }
def reclaim0 : State := (framed0.onVat fun v => { v with ch := List.replicate 16 Dram.reset }).onPpu fun p => { p with dir := [entry0 .clean false] }
def dirty0 : State := (withEntry .dirty true).onCouch fun c => { c with orch := .serving }

/-- A queued read; an open row; a row under repair; a vacated channel; a channel in training. -/
def read0 : DramReq := { line := 0, write := false, curd := false, data := zeroLine, rmw := false, since := 0 }
def reading0 : State := setDram framed0 0 fun c => { c with queue := [read0] }
def marked0 : State := setDram framed0 0 fun c => { c with marks := [(0, 4)] }
def held0 : State := setDram dramOne 0 fun c => { c with held := true, verify := true, step := 3 }
def rowOpen0 : State := setBank dramOne 0 { blankBank 0 with openRow := some 5 }
def repairing0 (k : Nat) : State := setDram dramOne 0 fun c => { c with repair := [(9, k, 3)], withheld := [9] }
def vacated0 : State := (setDram dramOne 0 fun c => { c with st := .vacating }).onVat fun v => { v with areaTarget := 1 }
def training0 (step : Nat) (verify : Bool) : State :=
  setDram svc 0 fun c => { c with st := .training, dimms := some dimms0, step := step, verify := verify, results := if verify then some 1 else none }

/-- Flash channels in a format, in a drain, out of reach of page 0, FAILED; stage pages; a block. -/
def adding0 : State := setFlash one 0 fun f => { f with st := .adding, addStep := 5, band := .home }
def adding1 : State := setFlash one 0 fun f => { f with st := .adding, addStep := 1 }
def draining1 : State :=
  ((setFlash one 0 fun f => { f with st := .draining }).onCouch fun c => { c with orch := .serving }).onCmd fun c => { c with safe := false }
def draining2 : State := draining1.onCmd fun c => { c with longOps :=
  [{ kind := .drain [0], session := 1, ch := ch0, opcode := 0x0406, tag := 9, done := 0, total := 1, unit := 1 }] }
def rebuild0 : State :=
  ((dirty0.onReam fun x => { x with ch := { flash0 with st := .failed } :: (List.replicate 4 flash0 ++ List.replicate 43 Flash.reset) }).onPpu fun p =>
    { p with dir := [entry0 .home false] }) |>.onReam fun x => { x with slots := [slot0] }
def rebuild1 : State := rebuild0.onPpu fun p => { p with frames := [], dir := p.dir.map fun e => { e with frame := none } }
def failed0 (removed : Bool) : State := setFlash one 4 fun f => { f with st := .failed, removed := removed }
def staging0 : State := staged0.onReam fun x => { x with gathering := true, stageClosed := 1 }
def block0 (erasing : Bool) : Block :=
  { id := 5, seg := .home, closed := true, sequence := 3, generation := 0, erasing := erasing, bad := false, suspect := [], erases := 1,
    eraseSince := 0, suspends := 0, closedAt := 0, header := [] }
def blocks0 (erasing : Bool) : State := setFlash dirty0 0 fun f => { f with blocks := [block0 erasing] }
def block1 : Block := { block0 false with id := 1 }
def worn0 : State :=
  ((setFlash dirty0 0 fun f => { f with blocks := [block1, { block0 false with id := 6, erases := 1000 }] }).onReam fun x =>
    { x with slots := [{ slot0 with loc := 4 }] }).onPpu fun p => { p with dir := p.dir.map fun e => { e with loc := 4 } }
def stripe0 : Stripe := { group := 0, seg := .home, seq := 1, width := 4, parity := (3, 5), members := [(0, 5), (1, 5), (2, 5), (3, 5)], closed := true }
def short0 : State := (setFlash dirty0 0 fun f =>
  { f with targets := some { target0 with planes := 1, blocksPerPlane := 2 }, blocks := [block0 false, { block0 false with id := 6, bad := true }] }).onReam fun x => { x with stripes := [stripe0] }

/-- VAO is up; a pack, with or without an identity read; its identity block; a full pack with a learned record. -/
def powered0 : State := svc.onPower fun p => { p with vao := true }
def packId0 : PackId :=
  { chemistry := 1, cells := 4, ratedJ := 100000, ratedMah := 2000, cutoffMv := 12000, chargeMv := 16800, maxCurrent := 100, packId := 5, usable := true }
def pack0 (reading : Bool) : State := powered0.onSal fun x => { x with present := true, reading := reading, unread := reading, id := if reading then none else some packId0 }
def identity0 : List Byte :=
  let front := [1, 1, 4, 0] ++ le 4 100000 ++ le 2 2000 ++ le 2 12000 ++ le 2 16800 ++ le 2 100 ++ le 8 5 ++ le 4 0
  front ++ le 4 (crc32c front).toNat
def learned1 : Learned :=
  { high := true, packId := 5, qmax := 1000, fR := 65536, time := 0, temp := 2500, cycles := 0, shunt := 0, divider := 0, sequence := 1 }
def charged1 (phase : Phase) : State :=
  (pack0 false).onSal fun x => { x with voltage := 16800000, current := 0, phase := phase, learned := some learned1, throughput := 5000000000000,
                                        ntc0 := some 2500, ntc1 := some 5000 }

/-- Input falls with the Couch in a state; it returns in the window; a committed Couch that saves page 0; one with nothing to save; a Lift. -/
def losing0 (o : Orch) : State := powered0.onCouch fun c => { c with raw := true, inputPresent := true, inputSeen := true, orch := o }
def returning0 : State :=
  ((losing0 .armed).onCouch fun c => { c with inputPresent := false, detected := some 0 }).onPower fun p => { p with busMv := 60000, powerFail := false }
def gen0 : Generation :=
  { num := 1, openEpoch := 1, manifest := [], pages := [], leftOut := 0, flags := 0, sealed := false, opened := true, previous := 0, commitTime := 0,
    counted := false }
def committed0 (stopped : Bool) : State :=
  dirty0.onCouch fun c =>
    { c with orch := .committed, curdDrained := true, stopped := stopped, sealed := false, todo := [0], set := [0, 1, 2, 3], gen := some gen0, detected := some 0 }
def drained0 : State := svc.onCouch fun c => { c with orch := .committed, curdDrained := false, stopped := false, gen := none }
def slotG0 : Slot := { slot0 with generation := 1 }
def folding0 : State :=
  ((((withEntry .couched false).onReam fun x => { x with slots := [slotG0], generations := [{ gen0 with sealed := true, pages := [(0, 0x200, 1, false)] }], imageCapacity := 2 ^ 40 }).onCouch
    fun c => { c with orch := .serving, folding := true }).onSal fun x =>
    { x with present := true, unread := false, id := some { packId0 with maxCurrent := 60000 }, firstProbe := true, ocvOk := true, state := .normal, eLb := 2 ^ 40 }).onDeckle
    fun d => { d with bound := 2 ^ 40 }
def lifting0 : State := (svc.onCmd fun c => { c with ready := .core }).onCouch fun c => { c with orch := .lifting }

/-- Felt link 0 in a state; flits of session 0 in sequence and of session 1; a follower of region 1; the header and the burst of a copy. -/
def link0 (st : LinkSt) : State := setLink svc 0 fun l => { l with st := st, retryBuf := [3] }
def flit0 : List Byte := List.replicate 240 0
def flit1 : List Byte := le 2 0 ++ le 2 0 ++ le 4 65536 ++ List.replicate 232 0
def flit3 : List Byte := le 2 5 ++ List.replicate 238 0
def flit2 : List Byte := le 2 4096 ++ List.replicate 238 0
def follower1 (mode : U32) (h : U64) : Region := { mirrored1 .inSync h with flags := 0x10 ||| mode }
def notOwn : U64 := BitVec.ofNat 64 (ownSerial + 1)
def follower0 (mode : U32) : State :=
  setLink ((paired .inSync 9).onRegions fun x => { x with list := [follower1 mode notOwn] }) 0 fun l => { l with st := .up }
def held1 : State := (follower0 1).onPpu fun p => { p with frames := [frame0] }
theorem notOwn_ne : notOwn.toNat ≠ ownSerial := by
  have h : ownSerial < 2 ^ 64 := Nat.mod_lt _ (by decide)
  simp only [notOwn, BitVec.toNat_ofNat]; omega
def hdr0 : FeltHdr :=
  { link := 0, first := true, last := false, poison := false, byteEnables := false, region := 1, epoch := 1, lineIndex := 0, tag := 5 }
def burst0 : Burst := { link := 0, tag := 5, region := 1, page := 0, epoch := 1, data := [], count := 1 }

/-- A mirror write on link 0 whose host write waits; a read that asked the twin; a resynchronisation of region 1. -/
def acked0 : State :=
  (setLink (paired .inSync 9) 0 fun l => { l with st := .up, queue := [.mirrorWrite 1 1 0 5 0 0 false] }).onCxl fun c =>
    { c with reqs := [{ request0 with write := true, needAck := true, localDone := true, mirrorTag := 5, st := .mirror }] }
def staged5 : State := acked0.onPpu fun p => { p with frames := [frame0] }
def asking0 (st : ReqSt) : State := framed0.onCxl fun c => { c with reqs := [{ request0 with st := st, twinAsked := true, mirrorTag := 5 }] }
def recovering0 : State := framed0.onVat fun v => { v with recoveries := [(5, read0)] }
def copying0 : State :=
  (setLink (paired .resync 9) 0 fun l => { l with st := .up, queue := [.pageCopy 1 0 1 6 []] }).onFelt fun f =>
    { f with resyncOut := [(1, 0)], resyncTodo := [(1, 1)] }
def waiting0 : State := copying0.onFelt fun f => { f with ops := [(1, .destroy, none)], opReqs := [(1, { change := .handover 1 true, req := none })] }

/-- A pair that is down with link 0 up; a HELLO record of a revision, from link 0. -/
def hello0 : State := setLink (alone .lagging 9) 0 fun l => { l with st := .up }
def helloBytes (revision serial : Nat) : List Byte :=
  let front := [1, 1] ++ le 2 revision ++ le 8 serial ++ List.replicate 48 0
  front ++ le 4 (crc32c front).toNat

/-- Key slot 0 of region 1 in a sweep, with page 0 under the generation before; four cores; a warm device; one that has cooled. -/
def slotted0 (retired : Bool) : State :=
  ((((withEntry .home false).onReam fun x => { x with ch := List.replicate 4 flash0 ++ List.replicate 44 Flash.reset, slots := [{ slot0 with cipher := true, keyGen := 1 }] }).onCipher fun c =>
    { c with slots := [{ slot := 0, region := 1, retired := retired, generation := 2, usage := 0, sweep := true, exhausted := false,
                         inflight := 0, recorded := 0, keys := [] }] }).onCouch fun c =>
      { c with orch := .serving }).onCmd fun c => { c with safe := false }
def fourCores0 : State := svc.onUnits fun u => { u with cores := List.replicate 4 Unit_.reset }
def warm0 (t : Int) : State :=
  (powered0.onCave fun c => { c with tj := .throttle, step := 1, stepTj := 1000, sensors := c.sensors.map fun x => { x with reading := some t, raw := some t } })
def cooled0 : State :=
  (((warm0 900).onCave fun c => { c with tj := .warn, unwinding := true }).onPower fun p => { p with seq := .waitCool }).onCouch fun c => { c with inputPresent := true }

/-- A sequencer in a phase; with every rail enabled; a rail table whose rail 0 belongs to a domain; the button; PPS on the rising edge. -/
def rising0 (q : SeqPhase) : State := powered0.onPower fun p => { p with seq := q }
def enabled0 : State := (rising0 (.rails 0)).onPower fun p => { p with rails := List.replicate 16 { enabled := true, good := false, failed := false } }
def lone0 : State := enabled0.onPower fun p => { p with seq := .running }
def tableSet (s : State) (t offset : Nat) (b : Byte) : State :=
  s.onCmd fun c => { c with tables := c.tables.set (t - 1) (some ((List.replicate 8 0 ++ defaultBody s t).set offset b)) }
def standing0 (domain : Nat) : State :=
  tableSet ((losing0 .serving).onPower fun p => { p with seq := .running, rails := List.replicate 16 { enabled := true, good := true, failed := false } }) 12 11
    (BitVec.ofNat 8 domain)
def fallen0 (domain : Nat) : State :=
  railRecord (stampFall (railPgInput (setRail (standing0 domain) 0 fun r => { r with failed := true }) 0 false) 0) 0
def watched0 : State := (committed0 false).onPower fun p => { p with watching := true }
def pressed0 (waits : Bool) : State := powered0.onPower fun p => { p with button := some 5, waitButton := waits }
def pps0 : State := tableSet powered0 15 16 1

/-- A boot with a DRAM channel ONLINE; the Ledger's machine in a state; an event in its port, and the window of its key; a unit test and a snapshot scan. -/
def booting0 (tries : Nat) : State :=
  ((powered0.onPower fun p => { p with seq := .booting }).onCmd fun c => { c with ready := .below }).onLedger (fun l => { l with loadTries := tries }) |>.onVat fun v =>
    { v with ch := dram0 :: List.replicate 15 Dram.reset }
def loading0 : State := (booting0 2).onLedger fun l =>
  { l with chosen := true, slotB := { st := .complete, image := some image0, declared := 8192, received := 8192, bytes := [] } }
def machine0 (st : LedgerSt) : State := svc.onLedger fun l => { l with st := st }
def occ0 (cls : Nat) : Occurrence :=
  { cls := cls, severity := 1, code := 1, unit := 0, head := 255, ld := 255, region := 0xFFFF, address := 0, detail := 0, completion := false, injected := false }
def window0 (n : Nat) : Window := { occ := occ0 1, first := 1, last := 2, count := n, closed := false }
def logged0 (cls : Nat) (ws : List Window) : State := svc.onLog fun l => { l with ports := [{ occ := occ0 cls, time := 7, island := .sv }], windows := ws }
def testing0 : State := (setUnit snapped (.core 3) fun y => { y with st := .testing }).onCmd fun c => { c with longOps :=
  [{ kind := .snapshot 1 4 9, session := 1, ch := ch0, opcode := 0x0405, tag := 10, done := 0, total := 512, unit := 1 }] }

def testing1 : State := setUnit svc (.slice 3) fun y => { y with st := .testing }

/-- READY.LIFT; a sealed configuration; a DRAM channel 15 in a state; a D0 region that fills the DRAM. -/
def lifted : State := svc.onCmd fun c => { c with ready := .lift }
def sealed0 : State := svc.onCmd fun c => { c with sealSt := .sealed }
def dramAs (st : DramSt) : State := dramTwo.onVat fun v => { v with ch := v.ch.set 15 { dram0 with st := st } }
def pinnedOut : State := dramTwo.onRegions fun x => { x with list := [{ region1 with flags := 0, size := 2 ^ 45, d0InForce := true }] }


/-! ### Well-formedness: one ill-formed command for each check -/

def badReq : Req := { req with ch := .mailbox 16 0 }
def meta0 : ChanMeta := { own := true, generation := 1, draining := false, factoryBad := [] }

/-- Well-formed commands, one per constructor that has a check. -/
theorem test_wf_fit_0 : List.all ([.identify req, .sessionOpen req 0 0 0 false, .sessionClose req 0, .nop req, .getReadyState req, .resetSession req 0, .resetPort req 0,
    .resetUnit req 0, .resetWarm req, .resetCold req, .paramWrite req false 0 [], .paramRead req 0, .configSeal req, .configUnseal req,
    .regionCreate req 0 0, .regionDestroy req 0, .regionResize req 0 0, .regionSetFlags req 0 0, .regionQuery req 0,
    .regionGrant req 0 0 0 0, .capacityAdd req 0 0, .capacityDrain req 0 0, .tierPin req 0 0 0, .tierUnpin req 0, .tierPrefetch req 0 0 0,
    .cacheControlSet req 0, .cacheControlQuery req, .zeroLines req 0 0 0, .watermarkClose req, .watermarkQuery req, .flushRegion req 0,
    .snapshotBegin req 0, .snapshotEnd req 0, .twinAttach req, .twinDetach req, .twinStatus req, .twinResync req 0 0,
    .twinRoleHandover req 0 0, .twinRoleForce req 0 0, .energyStatus req, .energyLearnStart req, .energyLearnAbort req,
    .energyLearnedWrite req [], .deckleStatus req, .couchRehearse req 0] : List Instr) Instr.wf = true := by decide +kernel

/-- Well-formed commands, one per constructor that has a check. -/
theorem test_wf_fit_1 : List.all ([.thermalStatus req 0 0, .sensorExclude req 0, .sensorInclude req 0, .railStatus req, .rindRead req 0 0, .orderlyPowerDown req,
    .keySlotBind req 0 0, .keySlotRetire req 0, .keyStatus req 0 0, .starterProvision req 0 0 0, .eventRead req 0 0 0, .eventAck req 0,
    .traceStart req 0 0 0, .traceStop req, .traceRead req, .traceClear req, .alarmMask req 0, .unitFence req 0, .unitTest req 0,
    .unitStatusQuery req 0, .unitReturn req 0, .channelOffline req 0, .channelOnline req 0, .errorInject req 0 0 0 0,
    .fwDownload req 0 0 [], .fwVerify req, .fwActivate req 0, .fwConfirm req, .fwStatus req, .diagnosticOpcode req 0,
    .kolnyxWrite 0 0 [0], .kolnyxRead 0 0 0, .mctpMessage (.smbus 0) 0 [], .setEndpointId (.smbus 0) 0 0, .getEndpointId (.smbus 0) 0,
    .getMctpVersionSupport (.smbus 0) 0 0, .getMessageTypeSupport (.smbus 0) 0, .getVendorDefinedMessageSupport (.smbus 0) 0 0,
    .mctpOtherControlMessage (.smbus 0) 0 0, .udpDatagram 0 0 false false [], .reassemblyTimeout ch0, .cxlMemRead 0 0 0 0,
    .cxlMemWrite 0 0 0 0 0 0 false, .hdmDecoderCommit 0 0 0 0 0 0 0, .getLdInfo 0] : List Instr) Instr.wf = true := by decide +kernel

/-- Well-formed commands, one per constructor that has a check. -/
theorem test_wf_fit_2 : List.all ([.getLdAllocations 0, .setLdAllocations 0, .getDcExtentList 0 0, .dcReleaseResponse 0 0 0 [], .releaseTimeout 0 0 0,
    .gpfPhase2Request 0, .setShutdownState 0 0 0, .getEventRecords 0 0 0, .clearEventRecords 0 0 0 [], .getEventInterruptPolicy 0 0,
    .setEventInterruptPolicy 0 0 0, .hostLinkUp 0 false, .hostLinkDown 0, .engineFaultDetected 0 false, .engineHeartbeatTimeout 0,
    .spareRoleResumed 0, .islandFrequencyChangeDone .px, .writeCreditIdleTimeout 0, .pageChargeMessage 0, .curdFillArrival 0,
    .evictionOffer 0, .dramWriteAck 0, .streamTrackerTimeout 0 0, .frameReclaim 0, .pageCleanStart 0, .pageCleanComplete 0 0,
    .reamFetchComplete 0 .decoded, .dramAccessComplete 0 .good, .caParityAlert 0, .refreshIntervalTick 0 0, .refreshWindowExpiry 0,
    .rowIdleTimeout 0 0, .dramTrainingStepComplete 0 .verified, .dramFrequencyChangeDone 0 false, .scrubRead 0 [],
    .rowRepairSpprDone 0 0 false, .rowRepairHpprDone 0 ⟨0, false⟩, .channelVacateComplete 0, .spdHubLossTimeout 0, .pageMoveEnd 0 0,
    .flashTrainingComplete 0 .full target0 meta0, .nandOperationOverrun 0 ⟨0, 0, .read⟩, .targetStatusTimeout 0 0,
    .flashAbsentProbeTick 0 false, .nandProgramFailure 0 0] : List Instr) Instr.wf = true := by decide +kernel

/-- Well-formed commands, one per constructor that has a check. -/
theorem test_wf_fit_3 : List.all ([.nandEraseComplete 0 0 false, .reclamationStart 0 0 0, .patrolRead 0 0 false, .wearLevelMove 0 0, .channelFormatComplete 0 false,
    .channelDrainComplete 0, .rebuildStripe 0 none, .rebuildComplete 0, .salometerSample 0 0 0 0, .foldPage 0 0,
    .feltLinkTrained 0 false false, .feltLinkSilence 0, .fastRetrainTimeout 0, .feltFlitReceived 0 ⟨[], .none⟩ 0 false false,
    .flitAckTimeout 0 0, .mirrorWrite hdr0 0 0, .mirrorAck 0 [], .twinRead hdr0, .pageCopy hdr0 0 0, .pageAck 0 0, .pageZero hdr0,
    .burstAbort 0 0, .hello 0 [], .regionList 0 0 0 0 [], .status 0 0 .normal 0 0 0, .burstTimeout 0 0, .resyncPageSend 0 0,
    .rekeySweepStep 0 0 0, .keySlotFreed 0, .cipherPassComplete none 0 0 none, .cipherSelfTestTick 0 false, .sensorSample 0 0 false,
    .spdHubReadTick 0 0 0, .mr4ReadTick 0 0 none, .sensorContinuousTimeout 0, .sensorContinuousRetry 0 false, .sensorPollTick 0 none,
    .railDelayExpiry 0, .railPowerGood 0, .railPgTimeout 0, .railFault ⟨0, false, false⟩, .monitorInputFall 0,
    .bistWaveComplete 0 ⟨[], false⟩, .mgmtEngineFeedTimeout 0, .eventArrival (occ0 1)] : List Instr) Instr.wf = true := by decide +kernel

/-- Well-formed commands, one per constructor that has a check. -/
theorem test_wf_fit_4 : List.all ([.tokenRefill 0, .injectionTimeout (.port 0), .unitTestComplete (.port 0) false] : List Instr) Instr.wf = true := by decide +kernel

/-- Ill-formed commands, one per check: the operand just past its range. -/
theorem test_wf_unfit_0 : List.all ([.identify badReq, .sessionOpen badReq 0 0 0 false, .sessionClose badReq 0, .nop badReq, .getReadyState badReq, .resetSession badReq 0,
    .resetPort badReq 0, .resetUnit badReq 0, .resetWarm badReq, .resetCold badReq, .paramWrite badReq false 0 [], .paramRead badReq 0,
    .configSeal badReq, .configUnseal badReq, .regionCreate badReq 0 0, .regionDestroy badReq 0, .regionResize badReq 0 0,
    .regionSetFlags badReq 0 0, .regionQuery badReq 0, .regionGrant badReq 0 0 0 0, .capacityAdd badReq 0 0, .capacityDrain badReq 0 0,
    .tierPin badReq 0 0 0, .tierUnpin badReq 0, .tierPrefetch badReq 0 0 0, .cacheControlSet badReq 0, .cacheControlQuery badReq,
    .zeroLines badReq 0 0 0, .watermarkClose badReq, .watermarkQuery badReq, .flushRegion badReq 0, .snapshotBegin badReq 0,
    .snapshotEnd badReq 0, .twinAttach badReq, .twinDetach badReq, .twinStatus badReq, .twinResync badReq 0 0,
    .twinRoleHandover badReq 0 0, .twinRoleForce badReq 0 0, .energyStatus badReq, .energyLearnStart badReq, .energyLearnAbort badReq,
    .energyLearnedWrite badReq [], .deckleStatus badReq, .couchRehearse badReq 0] : List Instr) (fun i => !i.wf) = true := by decide +kernel

/-- Ill-formed commands, one per check: the operand just past its range. -/
theorem test_wf_unfit_1 : List.all ([.thermalStatus badReq 0 0, .sensorExclude badReq 0, .sensorInclude badReq 0, .railStatus badReq, .rindRead badReq 0 0,
    .orderlyPowerDown badReq, .keySlotBind badReq 0 0, .keySlotRetire badReq 0, .keyStatus badReq 0 0, .starterProvision badReq 0 0 0,
    .eventRead badReq 0 0 0, .eventAck badReq 0, .traceStart badReq 0 0 0, .traceStop badReq, .traceRead badReq, .traceClear badReq,
    .alarmMask badReq 0, .unitFence badReq 0, .unitTest badReq 0, .unitStatusQuery badReq 0, .unitReturn badReq 0,
    .channelOffline badReq 0, .channelOnline badReq 0, .errorInject badReq 0 0 0 0, .fwDownload badReq 0 0 [], .fwVerify badReq,
    .fwActivate badReq 0, .fwConfirm badReq, .fwStatus badReq, .diagnosticOpcode badReq 0, .kolnyxWrite 16 0 [0], .kolnyxWrite 0 16 [0],
    .kolnyxWrite 0 0 [], .kolnyxWrite 0 0 (List.replicate 4097 0), .kolnyxRead 16 0 0, .kolnyxRead 0 16 0, .mctpMessage (.smbus 2) 0 [],
    .mctpMessage (.smbus 0) 256 [], .setEndpointId (.smbus 2) 0 0, .getEndpointId (.smbus 2) 0, .getMctpVersionSupport (.smbus 2) 0 0,
    .getMessageTypeSupport (.smbus 2) 0, .getVendorDefinedMessageSupport (.smbus 2) 0 0, .mctpOtherControlMessage (.smbus 2) 0 0,
    .udpDatagram 0 65536 false false []] : List Instr) (fun i => !i.wf) = true := by decide +kernel

/-- Ill-formed commands, one per check: the operand just past its range. -/
theorem test_wf_unfit_2 : List.all ([.reassemblyTimeout badReq.ch, .cxlMemRead 16 0 0 0, .cxlMemRead 0 16 0 0, .cxlMemRead 0 0 0 1, .cxlMemWrite 16 0 0 0 0 0 false,
    .cxlMemWrite 0 16 0 0 0 0 false, .cxlMemWrite 0 0 0 1 0 0 false, .hdmDecoderCommit 16 0 0 0 0 0 0, .hdmDecoderCommit 0 16 0 0 0 0 0,
    .hdmDecoderCommit 0 0 4 0 0 0 0, .getLdInfo 16, .getLdAllocations 16, .setLdAllocations 16, .getDcExtentList 16 0,
    .getDcExtentList 0 16, .dcReleaseResponse 16 0 0 [], .dcReleaseResponse 0 16 0 [], .dcReleaseResponse 0 0 65536 [],
    .releaseTimeout 16 0 0, .releaseTimeout 0 16 0, .releaseTimeout 0 0 65536, .gpfPhase2Request 16, .setShutdownState 16 0 0,
    .setShutdownState 0 16 0, .getEventRecords 16 0 0, .getEventRecords 0 16 0, .getEventRecords 0 0 4, .clearEventRecords 16 0 0 [],
    .clearEventRecords 0 16 0 [], .clearEventRecords 0 0 4 [], .getEventInterruptPolicy 16 0, .getEventInterruptPolicy 0 16,
    .setEventInterruptPolicy 16 0 0, .setEventInterruptPolicy 0 16 0, .hostLinkUp 16 false, .hostLinkDown 16,
    .engineFaultDetected 160 false, .engineHeartbeatTimeout 160, .spareRoleResumed 160, .islandFrequencyChangeDone (.hp 16),
    .writeCreditIdleTimeout 16, .pageChargeMessage (dpaSpace / pageBytes), .curdFillArrival (dpaSpace / lineBytes),
    .evictionOffer (dpaSpace / lineBytes), .dramWriteAck (dpaSpace / lineBytes)] : List Instr) (fun i => !i.wf) = true := by decide +kernel

/-- Ill-formed commands, one per check: the operand just past its range. -/
theorem test_wf_unfit_3 : List.all ([.streamTrackerTimeout 16 0, .streamTrackerTimeout 0 16, .frameReclaim (dpaSpace / pageBytes), .pageCleanStart (dpaSpace / pageBytes),
    .pageCleanComplete (dpaSpace / pageBytes + dpaSpace / (512 * pageBytes) + 1) 0, .reamFetchComplete (dpaSpace / pageBytes) .decoded,
    .caParityAlert 16, .refreshIntervalTick 16 0, .refreshIntervalTick 0 2048, .refreshWindowExpiry 16, .rowIdleTimeout 16 0,
    .rowIdleTimeout 0 2048, .dramTrainingStepComplete 16 .verified, .dramFrequencyChangeDone 16 false, .rowRepairSpprDone 16 0 false,
    .rowRepairHpprDone 16 ⟨0, false⟩, .channelVacateComplete 16, .spdHubLossTimeout 16, .pageMoveEnd (dpaSpace / pageBytes) 0,
    .flashTrainingComplete 48 .full target0 meta0, .nandOperationOverrun 48 ⟨0, 0, .read⟩, .nandOperationOverrun 0 ⟨8, 0, .read⟩,
    .nandOperationOverrun 0 ⟨0, 4, .read⟩, .targetStatusTimeout 48 0, .targetStatusTimeout 0 8, .flashAbsentProbeTick 48 false,
    .nandProgramFailure 48 0, .nandEraseComplete 48 0 false, .reclamationStart 48 0 0, .patrolRead 48 0 false, .wearLevelMove 48 0,
    .channelFormatComplete 48 false, .channelDrainComplete 48, .rebuildStripe (dpaSpace / pageBytes) none, .rebuildComplete 48,
    .salometerSample 0 (2 ^ 32) 0 0, .foldPage (dpaSpace / pageBytes) 0, .feltLinkTrained 8 false false, .feltLinkSilence 8,
    .fastRetrainTimeout 8, .feltFlitReceived 8 ⟨[], .none⟩ 0 false false, .flitAckTimeout 8 0, .flitAckTimeout 0 4096,
    .mirrorWrite { hdr0 with link := 8 } 0 0, .mirrorAck 8 []] : List Instr) (fun i => !i.wf) = true := by decide +kernel

/-- Ill-formed commands, one per check: the operand just past its range. -/
theorem test_wf_unfit_4 : List.all ([.twinRead { hdr0 with link := 8 }, .pageCopy { hdr0 with link := 8 } 0 0, .pageCopy hdr0 64 0, .pageAck 0 (dpaSpace / pageBytes),
    .pageZero { hdr0 with link := 8 }, .burstAbort 8 0, .hello 8 [], .regionList 8 0 0 0 [], .status 8 0 .normal 0 0 0, .burstTimeout 8 0,
    .resyncPageSend 0 (dpaSpace / pageBytes), .rekeySweepStep 0 (dpaSpace / pageBytes) 0, .keySlotFreed 1024,
    .cipherPassComplete none 16 0 none, .cipherSelfTestTick 16 false, .sensorSample 110 0 false, .spdHubReadTick 16 0 0,
    .spdHubReadTick 0 2 0, .mr4ReadTick 16 0 none, .sensorContinuousTimeout 110, .sensorContinuousRetry 110 false,
    .sensorPollTick 110 none, .railDelayExpiry 16, .railPowerGood 16, .railPgTimeout 16, .railFault ⟨16, false, false⟩,
    .monitorInputFall 24, .bistWaveComplete 3 ⟨[], false⟩, .mgmtEngineFeedTimeout 160, .eventArrival (occ0 17), .tokenRefill 17,
    .injectionTimeout (.port 16), .unitTestComplete (.port 16) false, .dramAccessComplete (dpaSpace / lineBytes) .good,
    .dramAccessComplete 0 (.symbols [40]), .scrubRead 0 [(64, .good)], .scrubRead 0 [(0, .symbols [40])]] : List Instr) (fun i => !i.wf) = true := by decide +kernel


theorem test_wf_channels : [Chan.mailbox 16 0, .mailbox 0 16, .smbus 2 0, .smbus 0 256, .vdm 16 0, .vdm 0 256, .udp 0 65536].all (fun c => !c.wf) = true ∧
    [Chan.mailbox 15 15, .smbus 1 255, .vdm 15 255, .udp 0 65535].all Chan.wf = true := by decide
theorem test_wf_units : [UnitId.engine 160, .slice 16, .dram 16, .flash 48, .port 16, .felt 8, .core 16, .sensor 110, .rail 16].all (fun u => !u.wf) = true ∧
    [UnitId.engine 159, .slice 15, .dram 15, .flash 47, .port 15, .felt 7, .core 15, .sensor 109, .rail 15].all UnitId.wf = true := by decide
theorem test_wf_islands : [Island.hp 16, .tw 8, .mc 16, .fc 48, .cu 16, .en 10].all (fun i => !i.wf) = true ∧
    [Island.hp 15, .tw 7, .mc 15, .fc 47, .cu 15, .en 9, .px, .cx, .sv].all Island.wf = true := by decide
theorem test_wf_buses : [Bus.smbus 2, .vdm 16].all (fun b => !b.wf) = true ∧ [Bus.smbus 1, .vdm 15].all Bus.wf = true := by decide
theorem test_wf_occurrences :
    [occ0 17, { occ0 1 with severity := 4 }, { occ0 1 with head := 16 }, { occ0 1 with ld := 16 }, { occ0 1 with region := 65536 }].all (fun o => !o.wf) = true ∧
    [occ0 16, { occ0 1 with severity := 3 }, { occ0 1 with head := 15, ld := 15 }].all Occurrence.wf = true := by decide

/-! ### Single steps and layouts, from the manual's own examples and figures -/

/-- The replies of a step, as status, detail and number of parameter bytes. -/
def repliesOf (o : Res State) : List (Status × Nat × Nat) :=
  match o with
  | .next t => t.out.filterMap fun x => match x with
    | .reply _ p => some (p.status, p.detail, p.params.length)
    | _ => none
  | _ => []

/-- A property of a next state. -/
def after (o : Res State) (p : State → Bool) : Bool :=
  match o with
  | .next t => p t
  | _ => false

/-- The example of the first chapter: the version, the flags and the opcode of a WATERMARK_CLOSE reply. -/
theorem test_packet_header :
    ({ opcode := 0x0401, tag := 0, more := false, urgent := false, status := .ok, detail := 0, params := [] } : Reply).bytes.take 4 = [0x02, 0x01, 0x01, 0x04] := by
  decide +kernel

/-- The example of the Opcode Reference: REGION_CREATE with flag bit 8 set, and of a STREAM region of class D0. -/
theorem test_create_reserved_bit : repliesOf (exec (.regionCreate req 0x10000000000 0x108) one) = [(.reservedField, 25, 0)] := by decide +kernel
theorem test_create_stream_d0 : repliesOf (exec (.regionCreate req 0x10000000000 0x008) one) = [(.conflict, 13, 0)] := by decide +kernel

/-- R304, R313, R317: the lengths of three replies. -/
theorem test_identify_length : repliesOf (exec (.identify req) svc) = [(.ok, 0, 424)] := by decide +kernel
theorem test_watermarks_length : repliesOf (exec (.watermarkQuery req) svc) = [(.ok, 0, 32)] := by decide +kernel
theorem test_energy_length : repliesOf (exec (.energyStatus req) svc) = [(.ok, 0, 80)] := by decide +kernel

/-- R298: an owner's opcode in a data session, and a session's opcode on a channel without one. -/
theorem test_owner_only : repliesOf (exec (.configSeal { req with ch := .mailbox 0 1 }) svc2) = [(.notOwner, 2, 0)] := by decide +kernel
theorem test_no_session : repliesOf (exec (.watermarkQuery req) bare) = [(.notOwner, 1, 0)] := by decide +kernel

/-- The example of the table chapter: the DECKLE image of its defaults. -/
theorem test_deckle_defaults : (tableFrame 10 (defaultBody svc 10)).take 24 =
    [0x01, 0x00, 0x0A, 0x00, 0x1C, 0, 0, 0, 0x00, 0x08, 0, 0, 0x0A, 0x5A, 0xDC, 0x00, 0x2F, 0x00, 0x53, 0x00, 0, 0, 0x62, 0] := by decide +kernel

/-- R279: before READY.CORE no packet is answered. -/
theorem test_reset_is_silent : exec (.identify req) State.reset = .next State.reset := rfl

/-- R34: a close makes the next epoch current at once and its own epoch closed when it completes. -/
theorem test_close_starts : after (exec (.watermarkClose req) svc) (fun t => t.epochs.current = 2 && t.epochs.closed = 0) = true := by decide +kernel

/-- R412, R414: word 3 holds bytes 6 and 7, the low byte first; programming clears bits and never sets one. -/
theorem test_word_bytes : (putWord svc 3 0x1234).ledger.array = [(6, 0x34), (7, 0x12)] := by decide +kernel
theorem test_program_ands : after (exec (.ledgerOpComplete true) ((putWord (machine0 (.busyProgram 3 0xFF00)) 3 0x0F0F).onLedger fun l => { l with sectors := [(0, 0)] })) (fun t => ledgerWord t 3 = 0x0F00) = true := by
  decide +kernel

/-- The example of the DRAM chapter: where location index 0x01234567 lies, in mapping modes 0 and 2. -/
theorem test_dram_place :
    let c : Dram := { Dram.reset with dimms := some { dimms0 with density := 32, ranks := 4, gibPerDimm := 256 }, mapping := 0 }
    placeOf c 0x01234567 = { group := 7, bank := 0, chunk := 3, rank := 2, row := 0x48D1 } ∧
    placeOf { c with mapping := 2 } 0x01234567 = { group := 6, bank := 2, chunk := 3, rank := 4, row := 0x48D1 } := by decide +kernel


/-! ### Witnesses -/

theorem wit_IdentityAndStateQueriesReply : Reaches bare req 0x0001 .anyone .notCouch ∧ Reaches svc req 0x0004 .anyone .notCouch ∧
    Reaches (svc.onCouch fun c => { c with orch := .committed }) req 0x0005 .anyone .always := by decide +kernel

theorem wit_ReplyEchoesItsPacket : (([] : List Byte)).length ≤ 65532 ∧ (List.replicate 65532 (0 : Byte)).length ≤ 65532 :=
  ⟨by decide, Nat.le_of_eq (List.length_replicate ..)⟩

theorem wit_SessionOpenOpensASession :
    (Reaches bare req 0x0002 .anyone .notCouch ∧ bare.cmd.ready ≠ .recovery) ∧
    (openReserved 0 0xFF 0xFF = none ∧ (openChecks bare ch0 0 0xFF 0xFF false).all (fun c => !c.1) = true) ∧
    (openReserved 1 0xFF 0xFF = none ∧ (openChecks bare ch0 1 0xFF 0xFF false).all (fun c => !c.1) = true) ∧
    (openReserved 2 0xFF 0xFF = none ∧ (openChecks bare ch0 2 0xFF 0xFF true).all (fun c => !c.1) = true) := by decide +kernel

theorem wit_SessionCloseAndSessionResetEndTheSession :
    Reaches svc req 0x0003 .session .notCouch ∧ Reaches svc2 req 0x0003 .session .notCouch ∧ isOwner svc2 (issuer svc2 req) = true ∧
    (sessionNum svc2 (2 : U16).toNat).isSome = true ∧ (2 : U16).toNat ≠ (issuer svc2 req).num ∧ Reaches svc2 req 0x0006 .session .notCouch ∧
    svc2.cmd.resetRun = 0 ∧ (sessionNum svc2 (issuer svc2 req).num).isSome = true := by decide +kernel

theorem wit_WiderResetsReplyThenReset : Reaches svc req 0x0006 .owner .notCouch ∧ svc.cmd.resetRun < 2 ∧ (15 : U16).toNat ≤ 15 ∧
    unitField 0x700F 18 = .ok (.core 15) ∧ unitCls (.core 15) ≤ 7 := ⟨by decide, by decide, by decide, rfl, by decide⟩

theorem wit_ParamReadAndSealingComplete_read : Reaches svc req 0x0102 .session .fromLift ∧ tableReserved 1 = none ∧ tableReserved 15 = none := by decide +kernel
theorem wit_ParamReadAndSealingComplete_seal : Reaches tabled req 0x0103 .owner .fromLift ∧ tabled.cmd.sealSt ≠ .sealed ∧ sealFailure tabled = none ∧
    (tabled.cmd.sessions.any fun x => x.chain.isSome) = false := by decide +kernel
theorem wit_ParamReadAndSealingComplete_unseal : Reaches (svc.onCmd fun c => { c with sealSt := .sealed }) req 0x0104 .owner .sealedOnly := by decide +kernel

theorem wit_ParamWriteChainsAndApplies : Reaches svc req 0x0101 .owner .fromLift ∧ tableReserved 6 = none ∧ svc.cmd.sealSt ≠ .sealed ∧ (issuer svc req).chain = none ∧
    autoClose.length ≤ 1048576 ∧ contentRefusal (takeArrived svc req 0x0101) autoClose 6 = none ∧
    modeChangeDrains (takeArrived svc req 0x0101) autoClose 6 = false ∧ tableBusy (takeArrived svc req 0x0101) autoClose 6 = none := by decide +kernel
theorem wit_ParamWriteChainsAndApplies_chain : Reaches chained req 0x0101 .owner .fromLift ∧ tableReserved 6 = none ∧ chained.cmd.sealSt ≠ .sealed ∧ ([1, 0] ++ [2] : List Byte).length ≤ 1048576 ∧
    (issuer chained req).chain = some { tag := req.tag, table := (6 : U8).toNat, bytes := [1, 0] } := by decide +kernel

theorem wit_RegionChangesWaitForAnEpochBoundary_create : Reaches roomy req 0x0201 .owner .service ∧ flagsReserved 0 24 = none ∧ sizeBad ((0x200000 : U64)).toNat = false ∧
    allocationError roomy ((0x200000 : U64).toNat / extentBytes) 0 = none ∧ freeRegionNumber roomy = some 1 ∧
    (flagStream 0x10 && decide (flagClass 0x10 = 0)) = false := by decide +kernel
theorem wit_RegionChangesWaitForAnEpochBoundary_named : Reaches one req 0x0202 .owner .service ∧ regionReserved 1 16 = none ∧ regionOf one ((1 : U16)).toNat = some region1 ∧
    region1.grants = [] ∧ holdsToken region1 = true ∧ regionBusy one region1 = false ∧ Reaches one req 0x0203 .owner .service ∧
    Reaches one req 0x0204 .owner .service ∧ Reaches one req 0x0206 .owner .fromLift ∧ sizeBad ((0x200000 : U64)).toNat = false ∧
    ((0x200000 : U64)).toNat = region1.size ∧ flagsReserved 0x18 20 = none ∧ firstOf (flagChecks one region1 0x18) = none ∧ longFull one = false ∧
    flagMirror 0x18 = flagMirror region1.flags ∧ flagClass 0x18 = flagClass region1.flags ∧
    dcExtents one ((15 : U8)).toNat ((15 : U8)).toNat + region1.runs.length ≤ 4096 := by decide +kernel
theorem wit_RegionChangesWaitForAnEpochBoundary_grow : Reaches one req 0x0203 .owner .service ∧ sizeBad ((0x400000 : U64)).toNat = false ∧ region1.size < ((0x400000 : U64)).toNat ∧
    allocationError (takeArrived one req 0x0203) ((((0x400000 : U64)).toNat - region1.size) / extentBytes) region1.runs.length = none ∧
    growthExtents (takeArrived one req 0x0203) region1
      (chooseRuns (takeArrived one req 0x0203) ((((0x400000 : U64)).toNat - region1.size) / extentBytes)) = false := by decide +kernel

theorem wit_CapacityCommandsStartOrReply_query : Reaches one req 0x0205 .session .fromLift ∧ regionOf one ((1 : U16)).toNat = some region1 ∧
    mayName one (issuer one req) region1 = true := by decide +kernel
theorem wit_CapacityCommandsStartOrReply_add : Reaches roomy req 0x0207 .owner .service ∧ indexBad 0 3 = false ∧ indexBad 1 15 = false ∧
    (∀ c ∈ namedChannels roomy 0 3, (flashAt roomy c).st = .online) ∧
    (∀ c ∈ namedChannels present47 0 47, (flashAt present47 c).st = .present ∨ (flashAt present47 c).st = .drained) ∧
    Reaches present47 req 0x0207 .owner .service ∧ longFull present47 = false := by decide +kernel
theorem wit_CapacityCommandsStartOrReply_drain : Reaches five req 0x0208 .owner .service ∧ namedChannels five 0 0 ≠ [] ∧
    (∀ c ∈ namedChannels five 0 0, (flashAt five c).st = .online) ∧ allocated five ≤ homeWithout five (namedChannels five 0 0) ∧
    groupsBroken five (namedChannels five 0 0) = false ∧ longFull five = false := by decide +kernel

theorem wit_TierCommandsComplete : regionReserved 1 16 = none ∧ regionOf one ((1 : U16)).toNat = some region1 ∧ mayName one (issuer one req) region1 = true ∧
    Reaches one req 0x0303 .session .fromLift ∧ firstOf (rangeChecks region1 0 0x200000 4096) = none ∧ regionHeld region1 = false ∧
    Reaches one req 0x0304 .owner .fromLift ∧ one.curd.draining = none := by decide +kernel
theorem wit_TierCommandsComplete_zero : regionReserved 1 16 = none ∧ regionOf served ((1 : U16)).toNat = some grantedRegion ∧
    mayName served (issuer served req) grantedRegion = true ∧ Reaches served req 0x0305 .session .service ∧
    firstOf (rangeChecks grantedRegion 0x1FFFC0 64 64) = none ∧ mayZero served (issuer served req) grantedRegion = true ∧
    regionBusy served grantedRegion = false ∧ holdsToken grantedRegion = true ∧ ((64 : U64)).toNat ≤ gib := by decide +kernel
theorem wit_TierCommandsComplete_unpin : Reaches pinned1 req 0x0302 .session .fromLift ∧
    ((issuer pinned1 req).pins.any fun p => p.handle = ((9 : U32)).toNat) = true := by decide +kernel
theorem wit_TierCommandsComplete_pin : regionReserved 1 16 = none ∧ regionOf dramOne ((1 : U16)).toNat = some region1 ∧ mayName dramOne (issuer dramOne req) region1 = true ∧
    Reaches dramOne req 0x0301 .session .fromLift ∧ firstOf (rangeChecks region1 0 4096 4096) = none ∧ regionHeld region1 = false ∧
    pinWould dramOne (rangePages region1 0 4096) ≤ pinLimit dramOne ∧ (issuer dramOne req).pins.length < 256 := by decide +kernel

theorem wit_EpochCommandsJoinACloseOrReply : Reaches one req 0x0401 .session .fromLift ∧ one.epochs.queued = none ∧ Reaches one req 0x0402 .session .fromLift ∧
    regionReserved 1 16 = none ∧ regionOf one ((1 : U16)).toNat = some region1 ∧ mayName one (issuer one req) region1 = true ∧
    Reaches one req 0x0403 .session .fromLift ∧ regionBusy one region1 = false ∧ longFull one = false ∧ Reaches one req 0x0404 .session .service ∧ regionHeld region1 = false ∧
    region1.snapshot = 0 := by decide +kernel
theorem wit_EpochCommandsJoinACloseOrReply_end : regionReserved 1 16 = none ∧ Reaches snapped req 0x0405 .session .service ∧ regionHeld { region1 with snapshot := 4 } = false ∧ region1.snapshot ≠ 4 ∧ regionOf snapped ((1 : U16)).toNat = some { region1 with snapshot := 4 } ∧
    mayName snapped (issuer snapped req) { region1 with snapshot := 4 } = true ∧
    (longRuns snapped fun k => match k with | .snapshot m _ _ => m = region1.num | _ => false) = false ∧ snapped.epochs.queued = none ∧
    longFull snapped = false := by decide +kernel

theorem wit_TwinCommandsComplete : Reaches svc req 0x0501 .owner .service ∧ svc.felt.pair = .detached ∧ longFull svc = false ∧
    Reaches (paired .inSync 0) req 0x0502 .owner .fromLift ∧ (paired .inSync 0).felt.pair = .attached ∧
    Reaches (alone .lagging 0) req 0x0502 .owner .fromLift ∧ (alone .lagging 0).felt.pair = .twinDown ∧ Reaches svc req 0x0502 .owner .fromLift ∧
    Reaches svc req 0x0503 .session .fromLift ∧ regionReserved 1 16 = none ∧
    regionOf (paired .inSync 0) ((1 : U16)).toNat = some (mirrored1 .inSync 0) ∧ isMirrored (mirrored1 .inSync 0) = true ∧
    regionBusy (paired .inSync 0) (mirrored1 .inSync 0) = false ∧ Reaches (paired .inSync 0) req 0x0504 .owner .service ∧
    Reaches (paired .inSync 0) req 0x0505 .owner .service ∧ (mirrored1 .inSync 0).mirror = .inSync ∧
    regionOf (paired .lagging 0) ((1 : U16)).toNat = some (mirrored1 .lagging 0) ∧ Reaches (paired .lagging 0) req 0x0504 .owner .service ∧
    longFull (paired .lagging 0) = false ∧ Reaches (alone .lagging 0) req 0x0505 .owner .service := by decide +kernel
/-- Whichever serial number the unit has, it is the holder of one such region and not of another. -/
theorem wit_TwinCommandsComplete_token : (∀ h, regionOf (paired .inSync h) ((1 : U16)).toNat = some (mirrored1 .inSync h) ∧ Reaches (paired .inSync h) req 0x0505 .owner .service) ∧
    holdsToken (mirrored1 .inSync (BitVec.ofNat 64 ownSerial)) = true ∧ holdsToken (mirrored1 .inSync (BitVec.ofNat 64 (ownSerial + 1))) = false := by
  refine ⟨fun h => ⟨rfl, rfl⟩, ?_⟩
  have h : ownSerial < 2 ^ 64 := Nat.mod_lt _ (by decide)
  constructor <;> simp only [holdsToken, isMirrored, mirrored1, flagMirror, BitVec.toNat_ofNat] <;> simp <;> omega

theorem wit_EnergyCommandsComplete : Reaches svc req 0x0601 .session .always ∧ Reaches svc req 0x0605 .session .notCouch ∧ Reaches packed req 0x0602 .owner .service ∧
    packed.sal.phase = .none ∧ packed.sal.state ≠ .absent ∧ probeLoadFitted packed = true ∧ packed.sal.learnWindow = true ∧
    packed.couch.rehearsing = none ∧ longFull packed = false ∧ Reaches svc req 0x0603 .owner .notCouch ∧ Reaches svc req 0x0604 .owner .fromLift ∧
    recordReserved learned0 = none ∧ (crc32c (learned0.take 60)).toNat = field learned0 60 4 ∧ svc.sal.phase = .none := by decide +kernel
theorem wit_EnergyCommandsComplete_rehearse : Reaches roomy req 0x0606 .owner .service ∧ roomy.couch.rehearsing = none ∧ roomy.couch.orch ≠ .armed ∧ roomy.sal.phase = .none ∧
    1 * gib + boundNow roomy ≤ imageCapacity roomy ∧ longFull roomy = false := by decide +kernel

theorem wit_ThermalRailAndRindCommandsComplete : Reaches svc req 0x0701 .session .notCouch ∧ ((109 : U16)).toNat + ((1 : U16)).toNat ≤ 110 ∧ Reaches svc req 0x0702 .owner .notCouch ∧
    exclusionForbidden svc ((64 : U16)).toNat = false ∧ Reaches svc req 0x0801 .session .always ∧ Reaches svc req 0x0802 .session .notCouch ∧
    ((1000 : U16)).toNat ≤ 1000 ∧ Reaches svc req 0x0803 .owner .fromLift := by decide +kernel

theorem wit_KeyCommandsComplete : Reaches keyed req 0x0901 .owner .fromLift ∧ regionReserved 1 18 = none ∧ ((1023 : U16)).toNat ≤ 1023 ∧
    regionOf keyed ((1 : U16)).toNat = some region1 ∧ (starterKey keyed).isSome = true ∧ keySlotAt keyed ((1023 : U16)).toNat = none ∧
    slotOfRegion keyed region1.num = none ∧ waitingChanges keyed = [] ∧ regionHeld region1 = false ∧ Reaches keyed req 0x0902 .owner .fromLift ∧
    Reaches keyed req 0x0903 .session .notCouch ∧ ((1023 : U16)).toNat + ((1 : U16)).toNat ≤ 1024 ∧ Reaches svc req 0x0904 .owner .fromLift ∧
    svc.cipher.banks = [.blank, .blank] ∧ svc.cipher.programming = none := by decide +kernel
theorem wit_KeyCommandsComplete_retire : ∀ k g, keySlotAt keyed ((1023 : U16)).toNat = some k → regionOf keyed k.region = some g → k.retired = true ∨ flagCipher g.flags = false := by
  intro k g h; simp [keyed, keySlotAt, one, roomy, svc, State.onCipher, State.onRegions, State.onReam, State.onCmd, State.reset, Cipher.reset] at h
theorem wit_KeyCommandsComplete_serial : ∃ serial : U64, serial.toNat = ownSerial :=
  ⟨BitVec.ofNat 64 ownSerial, by rw [BitVec.toNat_ofNat]; exact Nat.mod_eq_of_lt (Nat.mod_lt _ (by decide))⟩
theorem wit_KeyCommandsComplete_done : (keyed.onCipher fun c => { c with programming := some (5, none) }).cipher.programming = some (5, none) := rfl

theorem wit_EventAndTraceCommandsComplete : Reaches svc req 0x0A01 .session .notCouch ∧ ((1000 : U16)).toNat ≤ 1000 ∧ ((3 : U8)).toNat ≤ 3 ∧ Reaches svc req 0x0A02 .owner .notCouch ∧
    Reaches svc req 0x0A04 .owner .notCouch ∧ ((1 : U32)).getLsbD 0 = true ∧ Reaches svc req 0x0A03 .owner .notCouch ∧ maskReserved 31 = none ∧ traceUnitReserved 0 = none ∧ traceUnitReserved 0x3000 = none ∧
    16 ≤ ((65536 : U32)).toNat ∧ (svc.cmd.trace.map fun t => t.running).getD false = false ∧
    Reaches (startTrace svc 0 1 16) req 0x0A03 .owner .notCouch ∧ (startTrace svc 0 1 16).cmd.trace.isSome = true := by decide +kernel

theorem wit_UnitCommandsComplete : unitField 0x7003 16 = .ok (.core 3) ∧ unitCls (.core 3) ≤ 7 ∧ Reaches svc req 0x0B01 .owner .fromLift ∧
    (fenceCheck svc (.core 3)).1 = false ∧ Reaches fenced3 req 0x0B02 .owner .fromLift ∧ testable fenced3 (.core 3) = true ∧
    (unitAt fenced3 (.core 3)).st = .fenced ∧ slicedDraining fenced3 (.core 3) = false ∧ longFull fenced3 = false ∧
    Reaches svc req 0x0B02 .session .notCouch ∧ Reaches fenced3 req 0x0B03 .owner .fromLift ∧ (unitAt fenced3 (.core 3)).result = 1 ∧
    Reaches svc req 0x0B06 .owner .service ∧ injectable 1 (unitCls (.core 3)) = true ∧ dpaBad svc (.core 3) 1 0 = false ∧
    (svc.cmd.injections.any fun i => i.unit = .core 3) = false :=
  ⟨rfl, by decide +kernel⟩
theorem wit_UnitCommandsComplete_channels : unitField 0x3000 16 = .ok (.dram 0) ∧ unitField 0x4000 16 = .ok (.flash 0) ∧ unitField 0x3003 16 = .ok (.dram 3) :=
  ⟨rfl, rfl, rfl⟩
theorem wit_UnitCommandsComplete_offline : Reaches dramTwo req 0x0B04 .owner .service ∧ (dramAt dramTwo 0).st = .online ∧ firstOf (dramOfflineChecks dramTwo 0) = none ∧
    longFull dramTwo = false ∧ Reaches five req 0x0B04 .owner .service ∧ (flashAt five 0).st = .online ∧ firstOf (flashOfflineChecks five 0) = none ∧
    Reaches dramTwo req 0x0B05 .owner .service ∧ (unitAt dramTwo (.dram 3)).st ≠ .testing ∧
    (dramTwo.vat.ch.any fun d => d.changing) = false := by decide +kernel

theorem wit_FirmwareCommandsComplete : Reaches svc req 0x0C01 .owner .notCouch ∧ imageSizeBad svc ((8192 : U32)).toNat = false ∧ svc.ledger.trial = false ∧
    slotPending svc (downloadSlot svc) = false ∧ fwBusy svc = false ∧ longFull svc = false ∧ Reaches (slotB .downloading) req 0x0C01 .owner .notCouch ∧
    ((4096 : U32)).toNat = expectedOffset (slotB .downloading) ∧ imageSizeBad (slotB .downloading) ((8192 : U32)).toNat = false ∧
    ((8192 : U32)).toNat = (slotOf (slotB .downloading) (downloadSlot (slotB .downloading))).declared ∧ fwBusy (slotB .downloading) = false ∧
    Reaches (slotB .complete) req 0x0C02 .owner .notCouch ∧ slotWhole (slotOf (slotB .complete) (downloadSlot (slotB .complete))) = true ∧
    fwBusy (slotB .complete) = false ∧ longFull (slotB .complete) = false ∧ Reaches (slotB .verified) req 0x0C03 .owner .notCouch ∧
    (slotOf (slotB .verified) (downloadSlot (slotB .verified))).st = .verified ∧ fwBusy (slotB .verified) = false ∧
    formatsMissing (slotB .verified) (downloadSlot (slotB .verified)) = false ∧ (slotB .verified).couch.orch ≠ .armed ∧
    Reaches svc req 0x0C04 .owner .notCouch ∧ Reaches svc req 0x0C05 .session .notCouch := by decide +kernel
theorem wit_FirmwareCommandsComplete_trial : Reaches (svc.onLedger fun l => { l with trial := true }) req 0x0C04 .owner .notCouch ∧
    (svc.onLedger fun l => { l with trial := true }).ledger.activations ≠ [] := by decide +kernel
theorem wit_FirmwareCommandsComplete_verify : longRuns verifying (fun k => k = .fwVerify) = true ∧
    slotImage (slotOf verifying (downloadSlot verifying)) true = some image0 ∧ imageValid verifying image0 = true ∧
    image0.size = (slotOf verifying (downloadSlot verifying)).declared ∧
    slotImage (slotOf verifying (downloadSlot verifying)) false = some { image0 with signatureOk := false } ∧
    imageValid verifying { image0 with signatureOk := false } = false := by decide +kernel

theorem wit_DiagnosticOpcodesAreLockedOrNotDescribed : readyCode svc ≠ 0 ∧ replyQueueFull svc req.ch = false ∧ recoveryChannel svc req.ch = true ∧
    ((sessionOn svc req.ch).map fun x => x.kind) = some .owner ∧
    (sessionOn (svc.onCmd fun c => { c with sessions := [{ owner0 with kind := .diagnostic }] }) req.ch).map (fun x => x.kind) = some .diagnostic := by
  decide +kernel

theorem wit_MailboxCommandsCarryTheStream : identityUp linked0 0 0 = true ∧ answers linked0 (.mailbox 0 0) = true ∧ (channelOf linked0 (.mailbox 0 0)).rx.length + [2#8].length ≤ 135168 ∧
    (channelOf linked0 (.mailbox 0 0)).rx.length = 0 := by decide +kernel
theorem wit_MailboxCommandsCarryTheStream_full : 135168 < (channelOf linked0 (.mailbox 0 0)).rx.length + (List.replicate 135169 (0 : Byte)).length := by
  rw [List.length_replicate]; exact Nat.lt_of_lt_of_le (by decide) (Nat.le_add_left ..)

theorem wit_AWholePacketArrives :
    (identityUp linked0 0 0 = true ∧ answers linked0 (.mailbox 0 0) = true ∧ replyQueueFull linked0 (.mailbox 0 0) = false ∧
      (channelOf linked0 (.mailbox 0 0)).rx = [] ∧ (channelOf linked0 (.mailbox 0 0)).scan = false) ∧
    (identifyPacket.length = 16 + field identifyPacket 8 4 ∧ field identifyPacket 0 1 = 2 ∧ lengthValid (field identifyPacket 8 4) = true ∧
      packetCrc identifyPacket = true ∧ field identifyPacket 1 1 = 0 ∧ field identifyPacket 2 2 < 0xF000 ∧
      (lengthRule [] (field identifyPacket 2 2)).isSome = true ∧ stepSeven (field identifyPacket 2 2) (identifyPacket.drop 16) = none) := by decide +kernel

theorem wit_MctpAndEthernetMessagesAreTakenDiscardedOrAnswered_first : busAnswers linked0 (.vdm 0) 9 = true ∧ ([2#8] : List Byte).length ≤ 4096 ∧ ([0, 0, 0, 1] : List Byte) ≠ [0x00, 0x00, 0xD3, 0xA1] := by decide +kernel
theorem wit_MctpAndEthernetMessagesAreTakenDiscardedOrAnswered : ethernetAnswers svc = true ∧ ([2#8] : List Byte).length ≤ 1472 := by decide +kernel

theorem wit_TimeoutsOfChannelsAndSessions : answers halfway ch0 = true ∧ (channelOf halfway ch0).rx ≠ [] ∧ replyQueueFull halfway ch0 = false ∧ (channelOf halfway ch0).scan = false ∧
    sessionOn halfway ch0 = none ∧ (sessionNum udpSession 1).isSome = true ∧ udpSession.cmd.sessions.all (fun x => x.ch = .udp 5 6) = true ∧
    reportChannel verifying { kind := .fwVerify, session := 1, ch := ch0, opcode := 0x0C02, tag := 9, done := 0, total := 8192, unit := 0 } = some ch0 ∧
    replyQueueFull verifying ch0 = false := by decide +kernel

theorem wit_HostAccessesFollowTheAccessTable : portOpen served 0 = true ∧ portOpen served 9 = false ∧ classify served 0 0 (decodeHpa served 0 0 0) = .granted grantedRegion ∧
    classify served 0 0 (decodeHpa served 0 0 0x200000) = .unmapped ∧ classify served 0 1 (some 0) = .violation 1 ∧
    classify (served.onRegions fun x => { x with readOnly := true }) 0 0 (some 0) = .readOnly grantedRegion ∧
    classify unkeyed0 0 0 (decodeHpa unkeyed0 0 0 0) = .unkeyed { grantedRegion with flags := 0x14 } ∧
    portOpen staged0 0 = true ∧ (admitWrite staged0 0 0 (isMirrored grantedRegion)).isSome = true ∧
    classify staged0 0 0 (decodeHpa staged0 0 0 0) = .granted grantedRegion ∧ isMirrored grantedRegion = false ∧
    admitWrite served 0 0 (isMirrored grantedRegion) = none := by decide +kernel

theorem wit_ReissuesAndIdleCreditsAndTrackers : (retried.cxl.reqs.find? fun x => x.age = request0.age && x.st = .retry) = some { request0 with st := .retry } ∧ olderRetry retried request0 = false ∧
    ((retried.onCxl fun c => { c with reqs := [{ request0 with st := .fetch }] }).cxl.reqs.find? fun x => x.age = request0.age && !x.write && x.st = .fetch) =
      some { request0 with st := .fetch } := by decide +kernel

theorem wit_CxlManagementCommandsComplete : (ldOf served 0 0).isSome = true := by decide +kernel

theorem wit_ReleasesAndLinksComplete : ((ldOf releasing 0 0).bind fun d => d.releases.find? (·.region = 1)) = some release1 ∧ release1.runs.all [(0, 1)].contains = true ∧
    release1.runs.all (([] : List (Nat × Nat)).contains ·) = false ∧ releasing.couch.orch ≠ .committed ∧ aboveCore svc = true ∧
    (svc.units.ports.getD 0 .reset).st = .inService ∧ portEnabled svc 0 = true ∧ svc.cxl.linkUp.contains 0 = false ∧
    releasing.cxl.linkUp.contains 0 = true := by decide +kernel

theorem wit_WireBeatsAreCheckedAndAccepted : (wireLinkAt svc 16384).fenced = false ∧ parityGood beat0 = true ∧ parityGood { beat0 with parity := 1 } = false ∧ reservedTag beat0 = false ∧
    parityGood blank0 = true ∧ reservedTag blank0 = true ∧ linkEndsOf (upLink (.en 0)) = .up (.en 0) ∧
    issueClosed (resendDone (countBeat svc (upLink (.en 0))) (upLink (.en 0)) beat0) beat0 = false ∧ (wireLinkAt svc (upLink (.en 0))).fenced = false ∧
    issueClosed (resendDone (countBeat gone0 (upLink (.en 0))) (upLink (.en 0)) beat0) beat0 = true ∧ (wireLinkAt gone0 (upLink (.en 0))).fenced = false ∧
    linkEndsOf 260 = .mesh (1, 1) (1, 2) ∧ (wireLinkAt svc 260).fenced = false ∧ (beatDest beat0).toNat / 4096 ≠ 12 ∧
    wireIsland (resolveDest svc (beatDest beat0)) = some (.en 0) ∧ svc.wire.unrouted.contains (.en 0) = false ∧
    wireIsland (resolveDest unrouted0 (beatDest beat0)) = some (.en 0) ∧ unrouted0.wire.unrouted.contains (.en 0) = true := by decide +kernel
theorem wit_WireBeatsAreCheckedAndAccepted_end : linkEndsOf (downLink (.en 0)) = .down (.en 0) ∧ (wireLinkAt svc (downLink (.en 0))).fenced = false ∧
    duplicate (resendDone (countBeat svc (downLink (.en 0))) (downLink (.en 0)) beat0) beat0 = false ∧
    keyRefused (resendDone (countBeat svc (downLink (.en 0))) (downLink (.en 0)) beat0) beat0 = false ∧
    duplicate (resendDone (countBeat (remember svc beat0) (downLink (.en 0))) (downLink (.en 0)) beat0) beat0 = true ∧
    linkEndsOf (downLink .cx) = .down .cx ∧ (wireLinkAt unkeyed0 (downLink .cx)).fenced = false ∧ parityGood keyBeat0 = true ∧ reservedTag keyBeat0 = false ∧
    duplicate (resendDone (countBeat unkeyed0 (downLink .cx)) (downLink .cx) keyBeat0) keyBeat0 = false ∧
    keyRefused (resendDone (countBeat unkeyed0 (downLink .cx)) (downLink .cx) keyBeat0) keyBeat0 = true ∧
    (beatDest { blank0 with tag := 0xC0000000#32 ++ 0#96 }).toNat / 4096 = 12 := by decide +kernel

theorem wit_ANakedBeatIsResentUpToThreeTimes : (wireLinkAt svc 0).fenced = false ∧ wireUnit (beatSource blank0) = none ∧ wireUnit (beatSource beat0) = some (.engine 0) ∧ injecting svc (.engine 0) 3 = false ∧
    (wireLinkAt (setWireLink svc { wireLinkAt svc 0 with beat := some blank0, failures := 3 }) 0).failures = 3 := by decide +kernel

theorem wit_EngineFaultsFenceToASpare : (engineAt svc 0).unit.st = .inService ∧ fenceForbidden svc 0 = false ∧ (engineAt svc 0).role ≠ .spare ∧ (spareFor svc 0).isSome = true := by
  decide +kernel
theorem wit_EngineFaultsFenceToASpare_resumes : (resuming0.wire.redirect.find? fun x => x.1 = 0) = some (0, 15) ∧ (engineAt resuming0 15).resuming = true := by decide +kernel
theorem wit_EngineFaultsFenceToASpare_none : (engineAt svc 15).unit.st = .inService ∧ fenceForbidden svc 15 = false ∧ (engineAt svc 15).role = .spare := by decide +kernel
theorem wit_EngineFaultsFenceToASpare_forbidden : (engineAt lastEngine0 0).unit.st = .inService ∧ fenceForbidden lastEngine0 0 = true := by decide +kernel

theorem wit_EpochClosesAndRecomputes : closing0.epochs.running.isSome = true ∧ drained closing0 1 = true ∧ closing0.epochs.running.map (pairWide closing0) = some false ∧
    drained (closing0.onCxl fun c => { c with reqs := [{ request0 with write := true }] }) 1 = false ∧
    (paired .inSync 0).felt.pair = .attached ∧ closesRun served = true ∧ served.epochs.running = none ∧ closesRun closing0 = true ∧ closesRun State.reset = false := by decide +kernel

theorem wit_ClosesAreSerialisedAndTheClosedEpochNeverFalls : served.epochs.running = none ∧ closing0.epochs.running.isSome = true ∧ served.epochs.queued = none := by decide +kernel

theorem wit_CurdLinesFillAndRetire : (validFrame framed0 0).isSome = true ∧ framed0.vat.ch.all (fun c => c.queue.isEmpty) = true ∧
    (offered0 true).curd.evicts.find? (fun e => e.addr = 0 && !e.offered) = some (evict0 true) ∧ (evict0 true).dirty = true ∧
    (validFrame ((offered0 true).onCurd fun c => { c with evicts := [{ evict0 true with offered := true }] }) 0).isSome = true ∧
    (offered0 false).curd.evicts.find? (fun e => e.addr = 0 && !e.offered) = some (evict0 false) ∧ (evict0 false).dirty = false := by decide +kernel
theorem wit_CurdLinesFillAndRetire_acks : (lineBank queued0 0).isSome = true ∧ nextRequest queued0 0 (0 % 2) true = some write0 ∧ ((lineBank queued0 0).map fun p => p.channel) = some 0 ∧
    write0.line = 0 ∧ write0.rmw = false := by decide +kernel
theorem wit_CurdLinesFillAndRetire_drains : (bypassSlices (walkDrain draining0)).curd.draining = some .off ∧ (bypassSlices (walkDrain draining0)).curd.lines = [] ∧
    (bypassSlices (walkDrain draining0)).curd.evicts = [] ∧ (svc.onCurd fun c => { c with powering := true }).curd.powering = true := by decide +kernel

theorem wit_ChargesFetchesAndCleansEnd : charged0.ppu.charges.find? (·.page = 0) = some { page := 0, epoch := 1, port := 0 } ∧ blockAbsent charged0 0 = false ∧
    (let t := touchDirectory (charged0.onPpu fun p => { p with charges := p.charges.erase { page := 0, epoch := 1, port := 0 } }) 0
     (frameForCharge (if (entry t 0).st = .lost then t else formStaged t 0) 0).isSome = true) ∧ blockAbsent chargedAway0 0 = true ∧
    (chargedAway0.ppu.charges.find? (·.page = 0)).isSome = true := by decide +kernel
theorem wit_ChargesFetchesAndCleansEnd_fetch : (fetching0.ppu.fetches.find? (·.page = 0)).bind (fetchIssued fetching0) = some fetching0 ∧
    (fetchingOther0.ppu.fetches.find? (·.page = 0)).bind (fetchIssued fetchingOther0) = some fetchingOther0 ∧
    slotAt fetching0 (entry fetching0 0).loc = some slot0 ∧ slot0.page = 0 ∧ slot0.region = (entry fetching0 0).region ∧
    slotAt fetchingOther0 (entry fetchingOther0 0).loc = some { slot0 with page := 1 } ∧
    (fetchingBlock0.ppu.fetches.find? (·.page = directoryBase)).bind (fetchIssued fetchingBlock0) = some fetchingBlock0 := ⟨rfl, rfl, by decide +kernel, by decide +kernel, by decide +kernel, by decide +kernel, rfl⟩
theorem wit_ChargesFetchesAndCleansEnd_recovers : recoverable (countError fetching0 (.flash (locChannel (entry fetching0 0).loc)) true) (entry fetching0 0).loc = true ∧
    recoverable (countError unreadable0 (.flash (locChannel (entry unreadable0 0).loc)) true) (entry unreadable0 0).loc = false := by decide +kernel
theorem wit_ChargesFetchesAndCleansEnd_clean : (cleaning0.ppu.moves.find? fun m => m.page = 0 && m.kind = .clean).isSome = true ∧ progTarget cleaning0 home1 .home 0 = true ∧
    cleaning0.ppu.moves.all (fun m => m.since = 0) = true ∧ readsWait cleaning0 (lunOf home1) 0 = false := by decide +kernel
theorem wit_ChargesFetchesAndCleansEnd_reclaim : (frameOf reclaim0 0).isSome = true ∧ freeFrames reclaim0 < freeTarget reclaim0 / 2 ∧ reclaimable reclaim0 0 = true ∧
    reclaim0.ppu.frames.any (fun f => reclaimable reclaim0 f.page && reclaimClass reclaim0 f.page < reclaimClass reclaim0 0) = false := by decide +kernel

theorem wit_CleansStartAndMovesEnd : cleaningRuns dirty0 = true ∧ (entry dirty0 0).st ≠ .moving ∧ cleanable (frameForClean dirty0 0) 0 = true ∧
    cleanFirst (frameForClean dirty0 0) 0 = true ∧ (validFrame (gatherPage (frameForClean dirty0 0) 0) 0).isSome = true ∧ cleaningRuns wrote0 = true ∧
    (entry wrote0 0).st = .moving ∧ (entry wrote0 0).wrote = true ∧ (validFrame wrote0 0).isSome = true := by decide +kernel
theorem wit_CleansStartAndMovesEnd_ends : cleaningRuns moving0 = true ∧ (moving0.ppu.moves.find? fun m => m.page = 0 && m.kind ≠ .clean && m.kind ≠ .rekey) = some (move0 .drain) ∧
    progTarget moving0 home1 .home 0 = true ∧ readsWait moving0 (lunOf home1) 0 = false ∧ cleaningRuns (moved0 .fold) = true ∧
    ((moved0 .fold).ppu.moves.find? fun m => m.page = 0 && m.kind ≠ .clean && m.kind ≠ .rekey) = some (move0 .fold) ∧ cleaningRuns vacating0 = true ∧
    (vacating0.ppu.moves.find? fun m => m.page = 0 && m.kind ≠ .clean && m.kind ≠ .rekey) = some (move0 .vacate) ∧ validFrame vacating0 0 = some frame0 ∧
    (frameElsewhere vacating0 0).isSome = true ∧ 0 + migrationTime vacating0 0 ≤ vacating0.now := by decide +kernel

theorem wit_DramAccessesFollowTheErrorTable : frameOf reading0 0 = some frame0 ∧ read0.line = 0 ∧ read0.write = false ∧ nextRequest reading0 0 (0 % 2) false = some read0 ∧
    decoded [] 0 .good = .good ∧ decoded [] 0 .poisonCode = .poison ∧ decoded [] 0 (.symbols [12]) = .corrected 3 ∧ decoded [] 0 (.symbols [0, 4]) = .bad ∧
    (dramAt (columnCommand (setDram reading0 0 fun x => { x with queue := [], caFails := 0 }) 0 (bankOf 0 (placeOf dram0 0)) (placeOf dram0 0).row false) 0).marks = [] ∧
    decoded [(0, 4)] 0 (.symbols [16]) = .erased none ∧ decoded [(0, 4)] 0 (.symbols [12, 16]) = .erased (some 3) := by decide +kernel
theorem wit_DramAccessesFollowTheErrorTable_scrub : (framed0.ppu.frames.find? fun g => g.no = 0 && g.valid) = some frame0 ∧ scrubMay framed0 (0 % 16) 0 = true ∧ scrubMay framed0 (0 % 16) 1 = true ∧
    (dramAt framed0 (frameChannel frame0.no)).st = .online ∧ decoded (dramAt framed0 0).marks 0 (.symbols [12]) = .corrected 3 ∧
    decoded (dramAt marked0 0).marks 0 (.symbols [16]) = .erased none ∧ (dramAt marked0 0).st = .online := by decide +kernel

theorem wit_DramTicksAndRepairsComplete : (dramAt dramOne 0).st = .online ∧ (bankAt (dramAt rowOpen0 0) 0).openRow = some 5 ∧ bankWanted rowOpen0 0 0 (some 5) = false ∧
    repairAt (repairing0 1) 0 9 1 = some (9, 1, 3) ∧ rowVacated (repairing0 1) 0 9 = true ∧ (repairing0 1).couch.orch ≠ .committed ∧
    repairAt (repairing0 2) 0 9 2 = some (9, 2, 3) ∧ bankVacated (repairing0 2) 0 9 = true ∧ (repairing0 2).couch.orch ≠ .committed := by decide +kernel
theorem wit_DramTicksAndRepairsComplete_vacated : (dramAt vacated0 0).st = .vacating ∧ vacated0.couch.orch ≠ .committed ∧ (vacateStep (leaveBlocks vacated0 (onChannel 0)) 0).ppu.frames = [] ∧
    (dramAt (vacateStep (leaveBlocks vacated0 (onChannel 0)) 0) 0).queue = [] ∧ (vacateStep (leaveBlocks vacated0 (onChannel 0)) 0).ppu.blocks = [] ∧
    (areaStep vacated0).vat.areaTarget ≠ 0 ∧ (areaStep vacated0).vat.ch.all (fun x => x.share = x.shareTo) = true := by decide +kernel

theorem wit_DramTrainingRunsItsSteps : (dramAt (training0 0 false) 0).st = .training ∧ 0 < dimms0.count ∧ (dramAt (training0 0 false) 0).step = 0 ∧
    (dramAt (training0 0 false) 0).held = false ∧ (dramAt (training0 6 false) 0).st = .training ∧
    (dramAt (training0 6 false) 0).step = 6 ∧ (dramAt (training0 6 false) 0).verify = false ∧ (dramAt (training0 6 false) 0).held = false ∧
    (dramAt (training0 1 true) 0).st = .training ∧ (dramAt (training0 1 true) 0).held = false ∧
    (dramAt (training0 1 true) 0).verify = true ∧ (dramAt (training0 1 true) 0).step ≠ 0 ∧
    (dramAt (setDram dramOne 0 fun x => { x with changing := true }) 0).changing = true ∧
    changeWaits (dramAt (setDram dramOne 0 fun x => { x with changing := true }) 0) = false := by decide +kernel
theorem wit_DramTrainingRunsItsSteps_held : (dramAt held0 0).held = true ∧ (dramAt held0 0).st = .online ∧ (dramAt held0 0).verify = true ∧ (dramAt held0 0).step ≠ 0 := by decide +kernel

theorem wit_FlashChannelsTrainFormatAndProbe : aboveCore State.reset = false ∧ (flashAt State.reset 0).st = .absent ∧ (flashAt one 0).st = .online ∧ (flashAt adding0 0).st = .adding ∧
    3 ≤ (flashAt adding0 0).addStep ∧ overdue overdue0 0 overrun0 = true ∧ homeWindow (flashAt adding0 0) = true ∧ 0 < adding0.ream.ch.length ∧
    (flashAt adding1 0).st = .adding ∧ (flashAt adding1 0).addStep = 1 ∧ targetsSupported target0 = true ∧
    (flashAt draining1 0).st = .draining ∧ pagesOn draining1 0 = [] ∧ directoryOn draining1 0 = [] ∧
    draining1.cmd.safe = false ∧ cleaningRuns draining1 = true ∧ (flashState draining1 0 .drained 0).cmd.longOps = [] ∧
    ((setFlash (flashState draining2 0 .drained 0) 0 fun f => { f with drainMark := false }).cmd.longOps.map fun o => o.kind) = [.drain [0]] ∧
    aboveCore adding1 = true := by decide +kernel
theorem wit_FlashChannelsTrainFormatAndProbe_rebuild : needsRebuild rebuild0 (entry rebuild0 0).loc = true ∧ (entry rebuild0 0).st ≠ .moving ∧ cleaningRuns rebuild0 = true ∧
    (slotAt rebuild0 (entry rebuild0 0).loc).isSome = true ∧ recoverable rebuild0 (entry rebuild0 0).loc = true ∧ rebuildTarget rebuild0 (entry rebuild0 0).loc 0x400010400 = true ∧ (validFrame rebuild0 0).isSome = true ∧
    needsRebuild rebuild1 (entry rebuild1 0).loc = true ∧ (entry rebuild1 0).st ≠ .moving ∧ cleaningRuns rebuild1 = true ∧ validFrame rebuild1 0 = none ∧
    (flashAt (failed0 false) 4).st = .failed ∧ pagesOn (failed0 false) 4 = [] ∧ directoryOn (failed0 false) 4 = [] ∧
    (flashAt (failed0 false) 4).removed = false ∧ (flashAt (failed0 true) 4).removed = true ∧ (flashAt (failed0 true) 4).st = .failed ∧
    pagesOn (failed0 true) 4 = [] ∧ directoryOn (failed0 true) 4 = [] := by decide +kernel

theorem wit_StagesAndBlocksComplete : (staging0.ream.gathering = true ∧ staging0.ream.stageClosed ≠ 0 ∧ (stageTarget staging0).isSome = true) ∧
    blockAt (blocks0 true) 0 5 = some (block0 true) ∧ (block0 true).bad = false ∧ (block0 true).erasing = true ∧ stripeIdle (blocks0 true) 0 5 = true ∧
    eraseBarred (blocks0 true) 0 (block0 true) = false ∧ windowSince (flashAt (blocks0 true) 0) 0 = true ∧ readsWait (blocks0 true) (32 * 0 + 5 / 2 ^ 26) 0 = false ∧
    blockAt (blocks0 false) 0 5 = some (block0 false) ∧ (block0 false).bad = false ∧ (block0 false).erasing = false ∧ (block0 false).sequence ≠ 0 ∧ (block0 false).closed = true ∧ (block0 false).seg = .home ∧ patrolledNow (blocks0 false) (block0 false) = false ∧
    cleaningRuns (blocks0 false) = true := by
  decide +kernel
theorem wit_StagesAndBlocksComplete_wear : blockAt worn0 0 1 = some block1 ∧ block1.bad = false ∧ block1.erasing = false ∧ block1.sequence ≠ 0 ∧
    cleaningRuns worn0 = true ∧
    ((flashAt worn0 0).targets.map (·.endurance)).getD 0 < 20 * (((flashAt worn0 0).blocks.map (·.erases)).foldl max 0 - block1.erases) ∧
    (flashAt worn0 0).blocks.all (fun x => block1.erases ≤ x.erases || (validSlots worn0 0 x.id).isEmpty) = true ∧ validSlots worn0 0 1 ≠ [] := by
  decide +kernel
theorem wit_StagesAndBlocksComplete_reclaim : stripeAt (reclaimStage short0) 0 5 = some stripe0 ∧ reclaims (reclaimStage short0) 0 0 stripe0 = true ∧
    (lunErased (reclaimStage short0) 0 0).1 * 100 < (lunErased (reclaimStage short0) 0 0).2 * reclaimPercent (reclaimStage short0) ∧
    cleaningRuns (reclaimStage short0) = true ∧ bestScore (reclaimStage short0) 0 0 stripe0 = true := by decide +kernel

theorem wit_SalometerSamplesAndPresence : powered0.power.vao = true ∧ inRange 2500 = true ∧
    inRange 99999 = false ∧ 10000000 ≤ (powered0.onSal fun x => { x with lowTime := 10000000 }).sal.lowTime ∧
    powered0.sal.present = false ∧ (pack0 false).sal.present = true ∧ (pack0 false).sal.reading = false ∧ (pack0 true).sal.present = true ∧
    (pack0 true).sal.reading = true ∧ (pack0 true).sal.id = none ∧
    ((pack0 false).onSal fun x => { x with present := false }).sal.swapped = false ∧
    identityCrc identity0 = true ∧ identityCrc [] = false ∧
    (let s := (pack0 true).onSal fun x => { x with id := some packId0 }
     s.sal.present = true ∧ s.sal.reading = true ∧ s.sal.id = some packId0 ∧ packId0.packId = (parseIdentity identity0).packId ∧ { packId0 with packId := 6 }.packId ≠ (parseIdentity identity0).packId) := by decide +kernel

theorem wit_ProbesAnchorsAndLearning : probeBlocked (pack0 false) = false ∧ (pack0 false).sal.unread = false ∧ ((pack0 false).sal.id.map (·.usable)).getD false = true ∧ (pack0 false).sal.probing = false ∧ (pack0 false).sal.firstProbe = false ∧
    (charged1 .none).sal.id = some packId0 ∧ (charged1 .none).sal.present = true ∧ 995 * packId0.chargeMv * 1000 ≤ (charged1 .none).sal.voltage * 1000 ∧
    -(ratedCurrent (charged1 .none) : Int) < (charged1 .none).sal.current * 20 ∧ (charged1 .charging).sal.phase = .charging ∧
    (charged1 .recharge).sal.phase = .recharge ∧ 0 ≤ (charged1 .recharge).sal.current ∧ (charged1 .none).sal.learned = some learned1 ∧
    packId0.packId = learned1.packId ∧ max 1 learned1.qmax * 1000000000 ≤ (charged1 .none).sal.throughput ∧
    (charged1 .none).sal.ntc0 = some 2500 ∧ (charged1 .none).sal.ntc1 = some 5000 ∧ (charged1 .none).sal.ntcFailed = 0 := by decide +kernel
theorem wit_ProbesAnchorsAndLearning_phases : ((anchorAt (charged1 .none) full).onSal fun x => { x with anchorLow := false, disagree := 0 }).sal.phase = .none ∧
    ((anchorAt (charged1 .charging) full).onSal fun x => { x with anchorLow := false, disagree := 0 }).sal.phase = .charging ∧
    ((anchorAt (charged1 .recharge) full).onSal fun x => { x with anchorLow := false, disagree := 0 }).sal.phase = .recharge := by decide +kernel

theorem wit_InputLossArmsAndCommitsTheCouch : powered0.power.vao = true ∧ (losing0 .serving).couch.raw = true ∧ (losing0 .serving).couch.inputPresent = true ∧
    (losing0 .serving).power.vao = true ∧ (losing0 .serving).couch.inputSeen = true ∧ (losing0 .serving).couch.orch = .serving ∧
    (losing0 .armed).couch.orch = .armed ∧ (committed0 true).couch.orch = .committed ∧ (committed0 true).couch.curdDrained = true ∧
    (committed0 true).couch.stopped = true ∧ (committed0 false).couch.stopped = false ∧ (committed0 false).couch.sealed = false ∧
    (committed0 false).couch.set.contains (locChannel home1) = true ∧ couchFit (flashAt (committed0 false) (locChannel home1)) = true ∧ freeLoc (committed0 false) home1 .image = true ∧
    (committed0 false).couch.todo.find? (savable (committed0 false)) = some 0 ∧ (committed0 false).couch.detected.isSome = true ∧
    (committed0 false).couch.gen.isSome = true := by decide +kernel
theorem wit_InputLossArmsAndCommitsTheCouch_others : (losing0 .down).couch.orch = .down ∧ (losing0 .committed).couch.orch = .committed ∧ (losing0 .lifting).couch.orch = .lifting ∧
    (losing0 .lifting).couch.raw = true ∧ (losing0 .lifting).couch.inputPresent = true ∧ (losing0 .lifting).power.vao = true ∧
    ((losing0 .serving).onCouch fun c => { c with inputSeen := false }).couch.inputSeen = false := by decide +kernel

theorem wit_CouchDrainsAndLiftsAndRehearses : drained0.couch.orch = .committed ∧ drained0.couch.curdDrained = false ∧ writesOut drained0 = false ∧ drained0.epochs.running = none ∧ drained0.ppu.charges = [] ∧
    drained0.curd.lines = [] ∧ drained0.curd.evicts = [] ∧ drained0.couch.stopped = false ∧
    lifting0.cmd.ready = .core ∧ lifting0.couch.orch = .lifting ∧ formatReadable lifting0 = true ∧
    (returning0.power.vao = true ∧ returning0.couch.inputPresent = false ∧ inputGood returning0 = true ∧ returning0.couch.orch = .armed ∧
      returning0.now < returning0.couch.detected.getD returning0.now + 2000000) ∧
    (roomy.onCouch fun c => { c with rehearsing := some 16 }).couch.rehearsing = some 16 ∧ (roomy.onCouch fun c => { c with rehearsing := some 16 }).curd.draining = none := by
  decide +kernel
theorem wit_CouchDrainsAndLiftsAndRehearses_fold : foldingRuns folding0 = true ∧ slotAt (resolveBlock folding0 0) (entry (resolveBlock folding0 0) 0).loc = some slotG0 ∧ slotG0.generation ≠ 0 ∧
    slotG0.generation = ((resolveBlock folding0 0).ream.generations.head?.map (·.num)).getD 0 ∧ homeTarget (resolveBlock folding0 0) home1 = true ∧
    (entry (resolveBlock folding0 0) 0).st = .couched ∧
    ((resolveBlock folding0 0).ream.generations.head?.map fun g => foldsNext (resolveBlock folding0 0) g (entry (resolveBlock folding0 0) 0).loc) = some true := by decide +kernel

theorem wit_FeltLinksTrainAndReplay : (linkAt (link0 .fullTrain) 0).st = .fullTrain ∧ (linkAt (link0 .fastRetrain) 0).st = .fastRetrain ∧ (linkAt (link0 .up) 0).st = .up ∧
    (linkAt (link0 .up) 0).retryBuf.contains 3 = true ∧ crc32c (flit0.take 240) = crc32c flit0 ∧ crc32c (flit0.take 240) ≠ 0 ∧
    field flit0 0 2 / 4096 < 2 ∧ field flit0 0 2 / 4096 = 0 ∧ field flit0 0 2 % 4096 = (linkAt (link0 .up) 0).rxSeq ∧ field flit0 2 2 < 8192 ∧
    (linkAt (link0 .trained) 0).st = .trained ∧ (linkAt (link0 .up) 0).tagFails = 0 ∧
    (linkAt (setLink (link0 .up) 0 fun l => { l with tagFails := 1 }) 0).tagFails = 1 ∧ field flit2 0 2 / 4096 = 1 ∧ field flit2 2 2 < 8192 ∧
    field flit2 4 4 / 65536 = (linkAt (link0 .up) 0).session % 65536 ∧ field flit0 4 4 / 65536 = (linkAt (link0 .up) 0).session % 65536 ∧
    field flit1 4 4 / 65536 ≠ (linkAt (link0 .up) 0).session % 65536 ∧ (follower0 1).felt.pair ≠ .detached ∧ linkAllowed (follower0 1) 0 = true ∧ (linkAt (follower0 1) 0).st = .up ∧
    field flit3 0 2 / 4096 = 0 ∧ field flit3 0 2 % 4096 ≠ (linkAt (link0 .up) 0).rxSeq ∧ field flit3 2 2 < 8192 := by decide +kernel

theorem wit_MirrorMessagesReachTheFollower : (follower0 1).felt.pair = .attached ∧ (linkAt (follower0 1) 0).st = .up ∧ hdrReserved { hdr0 with region := 0xFFFF } = true ∧
    hdrReserved hdr0 = false ∧ following (follower0 1) 7 = none ∧ hdr0.first = true ∧
    (burstOf ((follower0 1).onFelt fun f => { f with bursts := [burst0] }) 0 5).isSome = true ∧
    { hdr0 with first := false }.first = false ∧
    heldLine (follower0 1) 0 = none ∧ (heldLine held1 (0 * 64 + 0 % 64)).isSome = true ∧ held1.felt.pair = .attached ∧ (linkAt held1 0).st = .up ∧
    (regionOf held1 hdr0.region.toNat).isSome = true := by decide +kernel
theorem wit_MirrorMessagesReachTheFollower_follows :
    regionOf (follower0 1) 1 = some (follower1 1 notOwn) ∧ hdrPage (follower1 1 notOwn) hdr0 = some 0 ∧
    (following (follower0 1) 1 = some (follower1 1 notOwn) ∧ flagMirror (follower1 1 notOwn).flags ≠ 2) ∧
    (following (follower0 2) 1 = some (follower1 2 notOwn) ∧ flagMirror (follower1 2 notOwn).flags = 2) := by
  have h (m : U32) (e : isMirrored (follower1 m notOwn) = true) : holdsToken (follower1 m notOwn) = false := by
    simp [holdsToken, e]; exact notOwn_ne
  have r (m : U32) : regionOf (follower0 m) 1 = some (follower1 m notOwn) := rfl
  have g (m : U32) (e : isMirrored (follower1 m notOwn) = true) : following (follower0 m) 1 = some (follower1 m notOwn) := by
    simp only [following, r m, Option.filter, e, h m e]; rfl
  exact ⟨rfl, rfl, ⟨g 1 (by decide +kernel), by decide +kernel⟩, ⟨g 2 (by decide +kernel), by decide +kernel⟩⟩

theorem wit_MirroringIsAcknowledgedReadAndCopied :
    ((linkAt acked0 0).queue.find? fun m => match m with | .mirrorWrite _ _ _ g _ _ _ => g = 5 | _ => false) = some (.mirrorWrite 1 1 0 5 0 0 false) ∧
    (let t := setLink acked0 0 fun l => { l with queue := l.queue.erase (.mirrorWrite 1 1 0 5 0 0 false) }
     (ackedReq t (msgLine t 1 0) 5).map (·.localDone) = some true ∧ heldLine t 0 = none) ∧
    (let s := acked0.onCxl fun c => { c with reqs := c.reqs.map fun q => { q with localDone := false } }
     let t := setLink s 0 fun l => { l with queue := l.queue.erase (.mirrorWrite 1 1 0 5 0 0 false) }
     (ackedReq t (msgLine t 1 0) 5).map (·.localDone) = some false) ∧
    (let s := acked0.onCxl fun c => { c with reqs := [] }
     let t := setLink s 0 fun l => { l with queue := l.queue.erase (.mirrorWrite 1 1 0 5 0 0 false) }
     ackedReq t (msgLine t 1 0) 5 = none) ∧
    (let t := setLink staged5 0 fun l => { l with queue := l.queue.erase (.mirrorWrite 1 1 0 5 0 0 false) }
     (ackedReq t (msgLine t 1 0) 5).map (·.localDone) = some true ∧ (mustStage t 0 && !isStagedLine t 0) = true ∧ (heldLine t 0).isSome = true) ∧
    (paired .inSync 9).felt.pair = .attached ∧
    (twinWaiter (asking0 .fetch) 5).isSome = true ∧ twinWaiter recovering0 5 = none ∧ (recovering0.vat.recoveries.find? (·.1 = 5)).isSome = true ∧
    (pageAcked copying0 1 0).felt.resyncOut.contains (1, 0) = true ∧ (pageAcked copying0 1 7).felt.resyncOut.contains (1, 7) = false ∧
    ((0 :: List.range 8).find? fun t => (burstSent copying0 t 6).isSome) = some 0 ∧ burstSent copying0 0 6 = some (.pageCopy 1 0 1 6 []) ∧
    (burstOf (copying0.onFelt fun f => { f with bursts := [burst0] }) 0 5).isSome = true ∧
    copying0.felt.pair = .attached ∧ copying0.felt.resyncTodo.contains (1, 1) = true ∧ (regionOf copying0 1).isSome = true ∧
    copyHeld copying0 = false ∧
    (let s := (setLink (putQuiet copying0 { entry copying0 1 with st := .home }) 0 fun l => { l with queue := [.mirrorWrite 1 1 0 5 0 0 false], unsent := 1 }).onFelt fun f => { f with pairUnits := 400, copyUnits := 320 }
     s.felt.pair = .attached ∧ s.felt.resyncTodo.contains (1, 1) = true ∧ (foundEntry s 1).st ≠ .zero ∧ copyHeld s = true) ∧
    partBad 0 1 [] = false ∧ partBad 0 0 [] = true ∧ laterSerial 1 0 = true ∧ copying0.felt.partCount = 0 ∧ (copying0.onFelt fun f => { f with parts := [(0, [])] }).felt.parts ≠ [] := by decide +kernel
theorem wit_MirroringIsAcknowledgedReadAndCopied_holder : let r := mirrored1 .inSync (BitVec.ofNat 64 ownSerial)
    regionOf (paired .inSync (BitVec.ofNat 64 ownSerial)) 1 = some r ∧ isMirrored r = true ∧ holdsToken r = true := by
  have h : ownSerial % 2 ^ 64 = ownSerial := Nat.mod_eq_of_lt (Nat.mod_lt _ (by decide))
  refine ⟨rfl, by decide +kernel, ?_⟩
  simp only [holdsToken, mirrored1, BitVec.toNat_ofNat, h, decide_true, Bool.or_true]

theorem wit_ThePairFormsExchangesAndParts : hello0.felt.pair ≠ .detached ∧ (linkAt hello0 0).st = .up ∧ helloRecord (helloBytes 2 9) = true ∧ helloFault 0 (helloBytes 2 9) = some 1 ∧
    hello0.felt.pair ≠ .attached ∧
    (svc.onFelt fun f => { f with pair := .linking }).felt.pair = .linking ∧ (svc.onFelt fun f => { f with pair := .linking }).felt.hellos = [] ∧
    (svc.onFelt fun f => { f with pair := .linking }).felt.links.any (·.st = .up) = false ∧
    helloRecord [] = false ∧ ((svc.onFelt fun f => { f with pair := .linking, hellos := [(0, 1)] }).felt.hellos.getLast?) = some (0, 1) ∧
    copying0.felt.pair = .attached ∧ (linkAt copying0 0).st = .up ∧ copying0.epochs.running = none ∧
    (regionOf copying0 1).any (fun r => isMirrored r && decide (r.generation.toNat < 2)) = true ∧
    (waiting0.felt.opReqs.find? fun x => x.1 = 1 && waiting0.felt.ops.any (·.1 = 1)).isSome = true ∧
    (waiting0.felt.opReqs.find? fun x => match x.2.change with | .handover m _ => m = 1 | _ => false).isSome = true ∧
    (copying0.onCouch fun c => { c with orch := .serving }).couch.orch = .serving ∧
    (copying0.onEpochs fun e => { e with running := some { epoch := 1, joined := [], started := 0, localDone := false, peerDone := false, couch := false } }).epochs.running.isSome = true ∧
    (copying0.onCouch fun c => { c with orch := .committed }).couch.orch = .committed := by decide +kernel
theorem wit_ThePairFormsExchangesAndParts_hello : ∃ b, helloRecord b = true ∧ helloFault 0 b = none := by
  by_cases h : ownSerial = 9
  · exact ⟨helloBytes 1 8, by decide +kernel, by simp only [helloFault, h]; decide +kernel⟩
  · refine ⟨helloBytes 1 9, by decide +kernel, ?_⟩
    have e : field (helloBytes 1 9) 4 8 = 9 := by decide +kernel
    simp only [helloFault, e, Ne.symm h, if_false]
    decide +kernel

theorem wit_CoresAreFencedAndKeySlotsSweepAndFree : (svc.units.cores.getD 0 .reset).st = .inService ∧ svc.cipher.requests.any (·.slot = none) = false ∧
    (queueCipher svc none 0 0).cipher.requests.any (·.slot = none) = true ∧ cipherTurn (queueCipher svc none 0 0) 0 = some none ∧
    (keySlotAt (slotted0 false) 0).map (fun k => (decide (k.usage + 1 < 4 * usageLimit (slotted0 false)),
      decide (k.usage / (usageLimit (slotted0 false) / 64) = (k.usage + 1) / (usageLimit (slotted0 false) / 64)))) = some (true, true) ∧
    4 < coresInService svc ∧
    (fourCores0.units.cores.getD 0 .reset).st = .inService ∧ coresInService fourCores0 ≤ 4 ∧
    (slotOfRegion (slotted0 false) 1).map (fun k => (k.sweep, k.slot, k.generation)) = some (true, 0, 2) ∧
    (slotAt (slotted0 false) (entry (slotted0 false) 0).loc).map (fun x => (x.keySlot, x.cipher, x.keyGen)) = some (0, true, 1) ∧
    (entry (slotted0 false) 0).region = 1 ∧ (entry (slotted0 false) 0).st ≠ .moving ∧ homeTarget (slotted0 false) home1 = true ∧
    cleaningRuns (slotted0 false) = true ∧ (slotted0 false).cmd.safe = false ∧
    (keySlotAt (slotted0 true) 0).map (fun k => (k.retired, k.inflight)) = some (true, 0) ∧
    liveAny ((slotted0 true).onReam fun x => { x with slots := [] }) 0 = false := by decide +kernel

theorem wit_SensorsAreSampledAndTheClocksStep : convertible powered0 0 = true ∧ (sensorAt powered0 0).polled = false ∧
    (sensorAt (setSensor powered0 0 fun c => { c with polled := true }) 0).polled = true ∧ convertible (setSensor powered0 0 fun c => { c with polled := true }) 0 = true ∧
    (dramOne.onPower fun p => { p with vao := true }).power.vao = true ∧ hubSensor (64 + 2 * 0 + 1) = true ∧ sensorPresent dramOne (64 + 2 * 0 + 1) = true ∧
    (dramAt dramOne 0).dimms.isSome = true ∧ 0 < channelRanks (dramAt dramOne 0) ∧ (warm0 1000).cave.tj = .throttle ∧ (warm0 1000).couch.orch ≠ .committed ∧
    (warm0 1000).cave.step < 3 ∧ tjOf (warm0 1000) = some 1000 ∧ (warm0 1000).cave.stepTj < 1000 + 10 ∧ tjOf (warm0 990) = some 990 ∧
    (990 : Int) + 10 ≤ (warm0 990).cave.stepTj ∧ cooled0.cave.unwinding = true ∧ cooled0.cave.tj ≠ .throttle ∧ cooled0.cave.step ≠ 0 ∧
    cooled0.power.seq = .waitCool ∧ cooled0.couch.inputPresent = true ∧ tjOf cooled0 = some 900 := by decide +kernel

theorem wit_ThePowerUpRunsRailByRail : State.reset.power.vao = false ∧ (losing0 .serving).power.vao = true ∧
    (rising0 .waitGrant).power.seq = .waitGrant ∧ (rising0 (.rails 0)).power.seq = .rails 0 ∧ (List.range 16).any (railUsed (rising0 (.rails 0))) = true ∧
    (List.range 16).any (fun e => railUsed (rising0 (.rails 0)) e && decide (railPosition (rising0 (.rails 0)) e = 0) && !(railAt (rising0 (.rails 0)) e).enabled) = true ∧
    (let s := setRail (lone0.onPower fun p => { p with pendingHold := some 0 }) 0 fun r => { r with enabled := false }
     s.power.seq = .running ∧ s.power.pendingHold = some 0 ∧ (railAt s 0).enabled = false) ∧
    (railAt enabled0 2).enabled = true ∧ (railAt enabled0 2).good = false ∧ railPg (tableSet enabled0 12 9 0xFF) 0 = 0xFF ∧ (railAt (tableSet enabled0 12 9 0xFF) 0).enabled = true ∧
    (rising0 .settle).power.seq = .settle ∧ (rising0 .waitCool).power.seq = .waitCool ∧ powered0.power.seq ≠ .waitGrant ∧
    (lone0.onPower fun p => { p with pendingHold := some 0 }).power.seq = .running ∧ (railAt (lone0.onPower fun p => { p with pendingHold := some 0 }) 0).enabled = true ∧
    (railAt (lone0.onPower fun p => { p with pendingHold := some 0 }) 0).good = false ∧ powered0.power.button = none ∧
    (pressed0 true).power.button = some 5 ∧ (pressed0 true).power.waitButton = true ∧ (pressed0 false).power.waitButton = false ∧ (pressed0 true).power.stuck = false ∧
    (pps0.power.vao = true ∧ ppsInputMode pps0 = (if true then 1 else 2)) := by decide +kernel

theorem wit_RailsFallAndTheDeviceStaysDownWhereItMust : (railAt enabled0 0).enabled = true ∧ (railAt enabled0 0).good = false ∧ railPg enabled0 0 ≠ 0xFF ∧ enabled0.power.seq = .rails 0 ∧
    (standing0 0).power.seq = .running ∧ (railAt (standing0 0) 0).good = true ∧ (railAt (standing0 0) 0).failed = false ∧
    (railAt (standing0 1) 0).good = true ∧ (railAt (standing0 2) 0).good = true ∧ (railAt lone0 0).enabled = true ∧ (railAt (lone0) 0).good = false ∧ lone0.power.seq = .running ∧ railPg lone0 0 ≠ 0xFF ∧
    railJudged (standing0 0) 0 false = true ∧ railJudged (standing0 1) 0 false = true ∧ railJudged (standing0 2) 0 false = true ∧
    railDomain (fallen0 0) 0 = 0 ∧ railDomain (fallen0 1) 0 = 1 ∧ railDomain (fallen0 2) 0 = 2 ∧ (fallen0 0).couch.orch = .serving ∧
    powered0.power.vao = true ∧ (List.range 16).any (fun r => railPg powered0 r = 23) = false ∧
    watched0.couch.orch = .committed ∧ watched0.power.watching = true ∧
    (rising0 (.powerDown [1, 0])).power.seq = .powerDown [1, 0] ∧ (rising0 .offTime).power.seq = .offTime ∧ (rising0 .offTime).power.lockout = false ∧
    (rising0 .offTime).couch.cause ≠ .orderly ∧ ((rising0 .offTime).couch.inputPresent && (rising0 .offTime).power.absentSince.isSome) = false ∧
    (let s := ((rising0 .offTime).onPower fun p => { p with absentSince := some 0, lockout := true }).onCouch fun c => { c with inputPresent := true }
     s.power.lockout = true ∧ (s.couch.inputPresent && s.power.absentSince.isSome) = true) ∧ ((rising0 .offTime).onPower fun p => { p with lockout := true }).power.lockout = true := by decide +kernel

theorem wit_BootsRunToReadyCoreOrStartAgain : loading0.power.seq = .booting ∧ loading0.power.waitButton = false ∧ loading0.ledger.loadTries = 2 ∧
    slotImage (slotOf loading0 loading0.ledger.chosen) true = some image0 ∧ imageValid loading0 image0 = true ∧
    slotImage (slotOf loading0 loading0.ledger.chosen) false = some { image0 with signatureOk := false } ∧
    imageValid loading0 { image0 with signatureOk := false } = false ∧ (booting0 0).power.seq = .booting ∧ (booting0 0).power.waitButton = false ∧
    slotImage (slotOf ((booting0 1).onLedger fun l => { l with chosen := true }) true) true = none ∧ (booting0 0).ledger.loadTries = 0 ∧ (booting0 0).cmd.ready = .below ∧
    (booting0 0).vat.ch.any (·.st = .training) = false ∧ ((booting0 0).vat.ch.filter (·.st = .online)).isEmpty = false ∧
    (((booting0 0).onVat fun v => { v with ch := [] }).vat.ch.filter (·.st = .online)).isEmpty = true ∧ (booting0 0).log.noDram = false ∧
    (islandsReset (booting0 0)).ledger.trial = false ∧ (islandsReset (booting0 0)).ledger.expiries < 2 ∧
    (islandsReset ((booting0 0).onLedger fun l => { l with trial := true })).ledger.trial = true ∧
    (islandsReset ((booting0 0).onLedger fun l => { l with expiries := 2 })).ledger.expiries = 2 ∧
    2 < (islandsReset ((booting0 0).onLedger fun l => { l with expiries := 3 })).ledger.expiries ∧
    (List.range 40).any (fun e => (engineAt svc e).role = .management) = true ∧ svc.cmd.ready ≠ .below := by decide +kernel

theorem wit_LedgerCommandsProgramEraseAndReport : ledgerBusy svc = false ∧ svc.ledger.queue = [] ∧ ledgerBusy (machine0 (.busyErase 5)) = true ∧ svc.ledger.st = .read ∧ (machine0 .unlock1).ledger.st = .unlock1 ∧
    (machine0 (.busyProgram 5 6)).ledger.st = .busyProgram 5 6 ∧ fwErase (machine0 (.busyProgram 5 6)) = none ∧
    (machine0 (.busyErase 5)).ledger.st = .busyErase 5 ∧ fwErase (machine0 (.busyErase 5)) = none ∧ (machine0 .unlock2).ledger.st = .unlock2 ∧ svc.ledger.band = 0 ∧
    (svc.onLedger fun l => { l with band := 1 }).ledger.band = 1 := by decide +kernel

theorem wit_EventsAreCoalescedAndReported : (logged0 0 []).log.ports.find? (·.occ = occ0 0) = some { occ := occ0 0, time := 7, island := .sv } ∧ neverCoalesced (occ0 0) = true ∧
    (logged0 1 []).log.ports.find? (·.occ = occ0 1) = some { occ := occ0 1, time := 7, island := .sv } ∧ neverCoalesced (occ0 1) = false ∧
    (logged0 1 [window0 0]).log.windows.any (sameKey ·.occ (occ0 1)) = true ∧ (logged0 1 []).log.windows.any (sameKey ·.occ (occ0 1)) = false ∧
    ((logged0 1 []).onLog fun l => { l with tokens := l.tokens.map fun _ => 0 }).log.tokens.getD 1 0 = 0 ∧ (logged0 1 []).log.windows.length < 512 ∧
    (logged0 1 [window0 0]).log.windows[0]? = some (window0 0) ∧ (window0 0).closed = false ∧ (logged0 1 [window0 3]).log.windows[0]? = some (window0 3) ∧
    ((logged0 1 []).log.windows.find? fun w => w.closed && w.occ.cls = 1) = none ∧ (unitAt testing0 (.core 3)).st = .testing ∧ forcesTest (.core 3) = false ∧
    (unitAt testing1 (.slice 3)).st = .testing ∧ forcesTest (.slice 3) = true ∧ testing1.curd.draining = none ∧
    (logged0 1 []).log.tokens.getD 1 0 ≠ 0 ∧ svc.log.ports.any (·.occ = occ0 1) = false ∧
    (regionOf testing0 1).isSome = true ∧
    (testing0.cmd.longOps.findSome? fun o => match o.kind with | .snapshot r eb ee => if r = 1 && ee ≠ 0 then some (eb, ee) else none | _ => none) = some (4, 9) := by decide +kernel

theorem wit_OpcodesAreRefusedOutsideTheirReadyStates :
    (opcodeOf (.configUnseal req) = some ⟨req, 0x0104, none, .owner, .sealedOnly⟩ ∧
      Admitted svc ⟨req, 0x0104, none, .owner, .sealedOnly⟩ = true ∧ stageOf svc = some .svc ∧ svc.cmd.sealSt ≠ .sealed) ∧
    (Admitted lifted ⟨req, 0x0201, none, .owner, .service⟩ = true ∧ stageOf lifted = some .lift ∧ Stage.lift ∉ acceptedIn .service ∧
      Stage.lift ∈ acceptedIn .fromLift ∧ lifted.cmd.ready ≠ .recovery) ∧
    (Reaches sealed0 req 0x0101 .owner .fromLift = true ∧ tableReserved 1 = none ∧ (issuer sealed0 req).chain = none ∧
      sealed0.cmd.sealSt = .sealed ∧ (1 : U8).toNat ∉ [3, 4, 5, 6, 7, 8, 9, 10, 11, 12, 14, 15]) ∧
    tableReserved 15 = none := by decide +kernel

theorem wit_ChannelOfflineIsRefusedAsTheVatSays :
    (Reaches dramOne req 0x0B04 .owner .service = true ∧ (dramAt dramOne 0).st = .online ∧ (dramOne.vat.ch.filter (·.st = .online)).length = 1) ∧
    (Reaches dramTwo req 0x0B04 .owner .service = true ∧ (dramAt dramTwo 3).st = .offline ∧ (dramAt (dramAs .failed) 15).st = .failed) ∧
    (∀ st ∈ [DramSt.training, .vacating], (dramAt (dramAs st) 15).st = st ∧ ((dramAs st).vat.ch.filter (·.st = .online)).length = 2 ∧
      Reaches (dramAs st) req 0x0B04 .owner .service = true) ∧
    (Reaches pinnedOut req 0x0B04 .owner .service = true ∧ (dramAt pinnedOut 0).st = .online ∧ (pinnedOut.vat.ch.filter (·.st = .online)).length = 2 ∧
      (∀ x ∈ pinnedOut.vat.ch, x.changing = false) ∧
      (frameCount pinnedOut - channelFrames (dramAt pinnedOut 0)) * pinLimitPercent pinnedOut / 100 < pinnedPages pinnedOut) ∧
    Reaches dramTwo req 0x0B05 .owner .service = true := by decide +kernel

theorem wit_EveryStepKeepsTheEpochsAndTheArray : Sound State.reset ∧ ∃ t, step State.reset = .next t :=
  ⟨⟨⟨by decide, by decide, fun _ e => nomatch e⟩, by decide⟩, _, rfl⟩

end Sys2Proof.Tests
end

section
/-! PROOFS. Every command keeps `Sound`: one lemma per arm of exec, put together from the lemmas of Laws/Sound.lean along the arm's own
branches, and from them the step. The commands that set the epochs themselves (EPOCH_CLOSE_COMPLETE, CLOSE, GPF_PHASE2_REQUEST,
EPOCH_APPLIED, READY_LIFT) are where the order of the epochs is at stake; the others pass it on. -/

namespace Sys2Proof.Machine

theorem soundR_refused {e : Refusal} : SoundR (.refused e : Res State) := ⟨fun _ e => nomatch e⟩

theorem mctpReply_sound {s : State} {bus : Bus} {src completion : Nat} {data : List Byte} (h : Sound s) :
    SoundR (mctpReply s bus src completion data) :=
  soundR_next (ite_sound (State.emit_sound h) h)

/-- R34: a running close is of an epoch before the current one. -/
theorem Sound.running_lt {s : State} {c : Close} (h : Sound s) (e : s.epochs.running = some c) : c.epoch < s.epochs.current := by
  obtain ⟨⟨-, -, hr⟩, -⟩ := h
  exact hr c e

theorem setRunning_sound {s : State} {c : Close} (h : Sound s) (hc : c.epoch < s.epochs.current) :
    Sound (s.onEpochs fun e => { e with running := some c }) := by
  refine State.onEpochs_sound h fun h => ?_
  obtain ⟨⟨hm, hd, -⟩, -⟩ := h
  refine ⟨hm, hd, fun d e => ?_⟩
  injection e with e
  exact e ▸ hc

section Arms
variable {s : State} (h : Sound s)
include h

/-! ### The commands of Machine/Session -/

theorem execIdentify_sound {r : Req} : SoundR (execIdentify r s) := soundR_next (command_sound h fun _ _ h => ok_sound h)

theorem execSessionOpen_sound {r : Req} {kind head ld : U8} {tokenOk : Bool} : SoundR (execSessionOpen r kind head ld tokenOk s) := by
  unfold execSessionOpen
  refine soundR_next (command_sound h fun _ _ h => ite_sound (refuse_sound h) ?_)
  refine ite_sound ?_ ?_
  · exact State.onCmd_sound (checked_sound (ite_sound (State.event_sound h) h) fun _ h => ok_sound (openSession_sound h))
  · exact checked_sound (ite_sound (State.event_sound h) h) fun _ h => ok_sound (openSession_sound h)

theorem execSessionClose_sound {r : Req} {successor : U16} : SoundR (execSessionClose r successor s) :=
  soundR_next (command_sound h fun _ _ h => checked_sound h fun _ h => ite_sound (sendReply_sound (endSession_sound h))
      (finishCloses_sound (State.onCmd_sound (defer_sound h))))

theorem execNop_sound {r : Req} : SoundR (execNop r s) := soundR_next (command_sound h fun _ _ h => ok_sound h)

theorem execGetReadyState_sound {r : Req} : SoundR (execGetReadyState r s) := soundR_next (command_sound h fun _ _ h => ok_sound h)

theorem execResetSession_sound {r : Req} {object : U16} : SoundR (execResetSession r object s) :=
  soundR_next (command_sound h fun _ _ h => checked_sound h fun _ h => endSession_sound (ok_sound h))

theorem execResetPort_sound {r : Req} {object : U16} : SoundR (execResetPort r object s) :=
  soundR_next (command_sound h fun _ _ h => checked_sound h fun _ h => requestReset_sound (ok_sound h))

theorem execResetUnit_sound {r : Req} {object : U16} : SoundR (execResetUnit r object s) := by
  unfold execResetUnit
  refine soundR_next (command_sound h fun _ _ h => ?_)
  split
  · exact refuse_sound h
  · exact checked_sound h fun _ h => requestReset_sound (ok_sound h)

theorem execResetWarm_sound {r : Req} : SoundR (execResetWarm r s) :=
  soundR_next (command_sound h fun _ _ h => checked_sound h fun _ h => requestReset_sound (ok_sound h))

theorem execResetCold_sound {r : Req} : SoundR (execResetCold r s) :=
  soundR_next (command_sound h fun _ _ h => checked_sound h fun _ h => requestReset_sound (ok_sound h))

/-! ### The commands of Machine/Params -/

theorem execParamWrite_sound {r : Req} {more : Bool} {table : U8} {bytes : List Byte} : SoundR (execParamWrite r more table bytes s) :=
  soundR_next (command_sound (ite_sound (dropChain_sound h) h) fun _ _ h => writeElement_sound h)

theorem execParamRead_sound {r : Req} {table : U8} : SoundR (execParamRead r table s) :=
  soundR_next (command_sound h fun _ _ h => ok_sound h)

theorem execConfigSeal_sound {r : Req} : SoundR (execConfigSeal r s) := by
  unfold execConfigSeal
  refine soundR_next (command_sound h fun _ _ h => ite_sound (refuse_sound h) ?_)
  split
  · exact reply_sound h
  · refine ite_sound (refuse_sound h) ?_
    extract_lets _ s1
    have h1 : Sound s1 := State.onCmd_sound h
    exact ok_sound (ite_sound (endSafeProfile_sound h1) h1)

theorem execConfigUnseal_sound {r : Req} : SoundR (execConfigUnseal r s) :=
  soundR_next (command_sound h fun _ _ h => ok_sound (State.onCmd_sound h))

/-! ### The commands of Machine/Regions -/

theorem execRegionCreate_sound {r : Req} {size : U64} {flags : U32} : SoundR (execRegionCreate r size flags s) :=
  soundR_next (command_sound h fun _ _ h => checked_sound h fun _ h => requestChange_sound (reserveRuns_sound (defer_sound h)))

theorem execRegionDestroy_sound {r : Req} {region : U16} : SoundR (execRegionDestroy r region s) :=
  soundR_next (command_sound h fun _ _ h => withRegion_sound h fun _ => checked_sound h fun _ h => requestChange_sound (defer_sound h))

theorem execRegionResize_sound {r : Req} {region : U16} {size : U64} : SoundR (execRegionResize r region size s) := by
  unfold execRegionResize
  refine soundR_next (command_sound h fun _ _ h => withRegion_sound h fun _ => ?_)
  refine checked_sound h fun _ h => ?_
  refine ite_sound (ok_sound h) (ite_sound (requestChange_sound (reserveRuns_sound (defer_sound h))) (ite_sound (refuse_sound h) ?_))
  exact continueShrink_sound (State.each_sound (startLong_sound h fun _ h => setRegion_sound h) fun _ _ h => ite_sound h
      (startRelease_sound h))

theorem execRegionSetFlags_sound {r : Req} {region : U16} {flags : U32} : SoundR (execRegionSetFlags r region flags s) := by
  unfold execRegionSetFlags
  refine soundR_next (command_sound h fun _ _ h => withRegion_sound h fun _ => ?_)
  refine checked_sound h fun _ h => ?_
  extract_lets s1 s2
  have h1 : Sound s1 := defer_sound h
  have h2 : Sound s2 := ite_sound (addLong_sound h1) h1
  exact requestChange_sound (ite_sound (addLong_sound h2) h2)

theorem execRegionQuery_sound {r : Req} {region : U16} : SoundR (execRegionQuery r region s) :=
  soundR_next (command_sound h fun _ _ h => ite_sound (ok_sound h) (withRegion_sound h fun _ => ok_sound h))

theorem execRegionGrant_sound {r : Req} {region : U16} {head ld access : U8} : SoundR (execRegionGrant r region head ld access s) := by
  unfold execRegionGrant
  refine soundR_next (command_sound h fun _ _ h => withRegion_sound h fun _ => ?_)
  refine checked_sound h fun _ h => ?_
  extract_lets s1
  have h1 : Sound s1 := defer_sound h
  exact requestChange_sound (ite_sound (addLong_sound h1) h1)

theorem execCapacityAdd_sound {r : Req} {kind index : U8} : SoundR (execCapacityAdd r kind index s) := by
  unfold execCapacityAdd
  refine soundR_next (command_sound h fun _ _ h => ?_)
  refine checked_sound h fun _ h => ?_
  refine ite_sound (ok_sound (State.each_sound h fun _ _ h => setFlash_sound (flashState_sound (leaveDrain_sound h)))) (ite_sound
      (refuse_sound h) ?_)
  exact startLong_sound h fun _ h => State.each_sound (State.each_sound h fun _ _ h => setFlash_sound (flashState_sound
      (leaveDrain_sound h))) fun _ _ h => setFlash_sound (flashState_sound h)

theorem execCapacityDrain_sound {r : Req} {kind index : U8} : SoundR (execCapacityDrain r kind index s) :=
  soundR_next (command_sound h fun _ _ h => checked_sound h fun _ h => startLong_sound h fun _ h => startDrain_sound h)

/-! ### The commands of Machine/CurdPpu -/

theorem execTierPin_sound {r : Req} {region : U16} {offset length : U64} : SoundR (execTierPin r region offset length s) := by
  unfold execTierPin
  refine soundR_next (command_sound h fun _ _ h => withRegion_sound h fun _ => ?_)
  refine checked_sound h fun _ h => ?_
  extract_lets _ _ _ _ s1
  have h1 : Sound s1 := State.each_sound (setSession_sound (State.onCmd_sound h)) fun _ _ h => resolveBlock_sound h
  exact ok_sound (State.each_sound h1 fun _ _ h => pinPage_sound h)

theorem execTierUnpin_sound {r : Req} {handle : U32} : SoundR (execTierUnpin r handle s) :=
  soundR_next (command_sound h fun _ _ h => checked_sound h fun _ h => ok_sound (endPins_sound h))

theorem execTierPrefetch_sound {r : Req} {region : U16} {offset length : U64} : SoundR (execTierPrefetch r region offset length s) := by
  unfold execTierPrefetch
  refine soundR_next (command_sound h fun _ _ h => withRegion_sound h fun _ => checked_sound h fun _ h => ?_)
  extract_lets s1
  have h1 : Sound s1 := State.each_sound h fun _ _ h => resolveBlock_sound h
  exact reply_sound (State.each_sound (setSession_sound h1) fun _ _ h => startFetch_sound h)

theorem execCacheControlSet_sound {r : Req} {mode : U8} : SoundR (execCacheControlSet r mode s) := by
  unfold execCacheControlSet
  refine soundR_next (command_sound h fun _ _ h => ite_sound (ok_sound h) ?_)
  refine checked_sound h fun _ h => ?_
  extract_lets s1
  have h1 : Sound s1 := retarget_sound (State.onCurd_sound h)
  exact ite_sound (State.onCurd_sound (defer_sound h1)) (ok_sound h1)

theorem execCacheControlQuery_sound {r : Req} : SoundR (execCacheControlQuery r s) :=
  soundR_next (command_sound h fun _ _ h => ok_sound h)

theorem execZeroLines_sound {r : Req} {region : U16} {offset length : U64} : SoundR (execZeroLines r region offset length s) := by
  unfold execZeroLines
  refine soundR_next (command_sound h fun _ _ h => ?_)
  refine withRegion_sound h fun _ => checked_sound h fun _ h => ite_sound (zeroAndAnswer_sound (defer_sound h)) ?_
  exact ite_sound (refuse_sound h) (progressLong_sound (zeroAndAnswer_sound (startLong_sound h fun _ h => h)))

/-! ### The commands of Machine/Epochs -/

theorem execWatermarkClose_sound {r : Req} : SoundR (execWatermarkClose r s) :=
  soundR_next (command_sound h fun _ _ h => checked_sound h fun _ h => requestClose_sound (defer_sound h))

theorem execWatermarkQuery_sound {r : Req} : SoundR (execWatermarkQuery r s) := soundR_next (command_sound h fun _ _ h => ok_sound h)

theorem execFlushRegion_sound {r : Req} {region : U16} : SoundR (execFlushRegion r region s) :=
  soundR_next (command_sound h fun _ _ h => withRegion_sound h fun _ => checked_sound h fun _ h => checkFlush_sound
      (startLong_sound h fun _ h => setRegion_sound h))

theorem execSnapshotBegin_sound {r : Req} {region : U16} : SoundR (execSnapshotBegin r region s) :=
  soundR_next (command_sound h fun _ _ h => withRegion_sound h fun _ => checked_sound h fun _ h => requestClose_sound (defer_sound h))

theorem execSnapshotEnd_sound {r : Req} {region : U16} : SoundR (execSnapshotEnd r region s) :=
  soundR_next (command_sound h fun _ _ h => withRegion_sound h fun _ => checked_sound h fun _ h => requestClose_sound (State.onCmd_sound
      (defer_sound h)))

/-! ### The commands of Machine/Felt -/

theorem execTwinAttach_sound {r : Req} : SoundR (execTwinAttach r s) :=
  soundR_next (command_sound h fun _ _ h => checked_sound h fun _ h => startLong_sound h fun _ h => State.onFelt_sound h)

theorem execTwinDetach_sound {r : Req} : SoundR (execTwinDetach r s) := by
  unfold execTwinDetach
  refine soundR_next (command_sound h fun _ _ h => checked_sound h fun _ h => ?_)
  split
  · exact requestClose_sound (defer_sound h)
  · exact ok_sound (holdLinks_sound h)
  · exact ok_sound h
  · exact ok_sound h

theorem execTwinStatus_sound {r : Req} : SoundR (execTwinStatus r s) := soundR_next (command_sound h fun _ _ h => ok_sound h)

theorem execTwinResync_sound {r : Req} {region : U16} {flags : U8} : SoundR (execTwinResync r region flags s) :=
  soundR_next (command_sound h fun _ _ h => withRegion_sound h fun _ => checked_sound h fun _ h => ite_sound (ok_sound h)
      (startLong_sound h fun _ h => resync_sound (ite_sound (setRegion_sound h) h)))

theorem execTwinRoleHandover_sound {r : Req} {region : U16} {flags : U8} : SoundR (execTwinRoleHandover r region flags s) :=
  soundR_next (twinRole_sound h)

theorem execTwinRoleForce_sound {r : Req} {region : U16} {flags : U8} : SoundR (execTwinRoleForce r region flags s) :=
  soundR_next (twinRole_sound h)

/-! ### The commands of Machine/Salometer -/

theorem execEnergyStatus_sound {r : Req} : SoundR (execEnergyStatus r s) := soundR_next (command_sound h fun _ _ h => ok_sound h)

theorem execEnergyLearnStart_sound {r : Req} : SoundR (execEnergyLearnStart r s) :=
  soundR_next (command_sound h fun _ _ h => checked_sound h fun _ h => startLong_sound h fun _ h => learnStep_sound (State.onSal_sound h))

theorem execEnergyLearnAbort_sound {r : Req} : SoundR (execEnergyLearnAbort r s) :=
  soundR_next (command_sound h fun _ _ h => ok_sound (disqualify_sound h))

theorem execEnergyLearnedWrite_sound {r : Req} {bytes : List Byte} : SoundR (execEnergyLearnedWrite r bytes s) :=
  soundR_next (command_sound h fun _ _ h => checked_sound h fun _ h => ok_sound (judgeEnergy_sound (publish_sound (State.onSal_sound
      (putLearned_sound h)))))

theorem execDeckleStatus_sound {r : Req} : SoundR (execDeckleStatus r s) := soundR_next (command_sound h fun _ _ h => ok_sound h)

/-! ### The commands of Machine/Couch -/

theorem execCouchRehearse_sound {r : Req} {size : U16} : SoundR (execCouchRehearse r size s) :=
  soundR_next (command_sound h fun _ _ h => checked_sound h fun _ h => startLong_sound h fun _ h => force_sound (State.onCouch_sound h))

/-! ### The commands of Machine/Cave -/

theorem execThermalStatus_sound {r : Req} {first count : U16} : SoundR (execThermalStatus r first count s) :=
  soundR_next (command_sound h fun _ _ h => checked_sound h fun _ h => ok_sound h)

theorem execSensorExclude_sound {r : Req} {sensor : U16} : SoundR (execSensorExclude r sensor s) :=
  soundR_next (command_sound h fun _ _ h => checked_sound h fun _ h => ok_sound (setSensor_sound h))

theorem execSensorInclude_sound {r : Req} {sensor : U16} : SoundR (execSensorInclude r sensor s) :=
  soundR_next (command_sound h fun _ _ h => checked_sound h fun _ h => ok_sound (setSensor_sound h))

/-! ### The commands of Machine/Power -/

theorem execRailStatus_sound {r : Req} : SoundR (execRailStatus r s) := soundR_next (command_sound h fun _ _ h => ok_sound h)

theorem execRindRead_sound {r : Req} {start : U32} {count : U16} : SoundR (execRindRead r start count s) :=
  soundR_next (command_sound h fun _ _ h => checked_sound h fun _ h => ok_sound h)

theorem execOrderlyPowerDown_sound {r : Req} : SoundR (execOrderlyPowerDown r s) :=
  soundR_next (command_sound h fun _ _ h => couchCommit_sound (ok_sound h))

/-! ### The commands of Machine/Cipher -/

theorem execKeySlotBind_sound {r : Req} {slot region : U16} : SoundR (execKeySlotBind r slot region s) := by
  unfold execKeySlotBind
  refine soundR_next (command_sound h fun _ _ h => ?_)
  refine ite_sound (refuse_sound h) ?_
  exact withRegion_sound h fun _ => checked_sound h fun _ h => requestClose_sound (defer_sound h)

theorem execKeySlotRetire_sound {r : Req} {slot : U16} : SoundR (execKeySlotRetire r slot s) :=
  soundR_next (command_sound h fun _ _ h => checked_sound h fun _ h => ok_sound (retireSlot_sound h))

theorem execKeyStatus_sound {r : Req} {slot count : U16} : SoundR (execKeyStatus r slot count s) :=
  soundR_next (command_sound h fun _ _ h => checked_sound h fun _ h => ok_sound h)

theorem execStarterProvision_sound {r : Req} {mode : U8} {serial : U64} {key : BitVec 256} : SoundR
    (execStarterProvision r mode serial key s) :=
  soundR_next (command_sound h fun _ _ h => checked_sound h fun _ h => State.onCipher_sound (defer_sound h))

/-! ### The commands of Machine/EventLog -/

theorem execEventRead_sound {r : Req} {first : U64} {count : U16} {minSeverity : U8} : SoundR
    (execEventRead r first count minSeverity s) := by
  unfold execEventRead
  refine soundR_next (command_sound h fun _ _ h => checked_sound h fun _ h => ?_)
  extract_lets _
  split
  · exact ok_sound h

theorem execEventAck_sound {r : Req} {upTo : U64} : SoundR (execEventAck r upTo s) :=
  soundR_next (command_sound h fun _ _ h => ok_sound (State.onLog_sound h))

/-! ### The commands of Machine/Service -/

theorem execTraceStart_sound {r : Req} {unit : U16} {mask buffer : U32} : SoundR (execTraceStart r unit mask buffer s) :=
  soundR_next (command_sound h fun _ _ h => checked_sound h fun _ h => ok_sound (startTrace_sound h))

theorem execTraceStop_sound {r : Req} : SoundR (execTraceStop r s) :=
  soundR_next (command_sound h fun _ _ h => ok_sound (State.onCmd_sound h))

theorem execTraceRead_sound {r : Req} : SoundR (execTraceRead r s) := soundR_next (command_sound h fun _ _ h => ok_sound h)

theorem execTraceClear_sound {r : Req} : SoundR (execTraceClear r s) :=
  soundR_next (command_sound h fun _ _ h => ok_sound (wakeAll_sound (State.onCmd_sound h)))

/-! ### The commands of Machine/EventLog -/

theorem execAlarmMask_sound {r : Req} {mask : U32} : SoundR (execAlarmMask r mask s) :=
  soundR_next (command_sound h fun _ _ h => checked_sound h fun _ h => ok_sound (State.onLog_sound h))

/-! ### The commands of Machine/Service -/

theorem execUnitFence_sound {r : Req} {unit : U16} : SoundR (execUnitFence r unit s) :=
  soundR_next (command_sound h fun _ _ h => withUnit_sound h fun _ => checked_sound h fun _ h => ok_sound (fenceUnit_sound h))

theorem execUnitTest_sound {r : Req} {unit : U16} : SoundR (execUnitTest r unit s) := by
  unfold execUnitTest
  refine soundR_next ?_
  refine command_sound h fun _ _ h => withUnit_sound h fun _ => checked_sound h fun _ h => startLong_sound h fun _ h => ?_
  extract_lets s1
  have h1 : Sound s1 := setUnit_sound h
  exact ite_sound (force_sound h1) h1

theorem execUnitStatusQuery_sound {r : Req} {unit : U16} : SoundR (execUnitStatusQuery r unit s) :=
  soundR_next (command_sound h fun _ _ h => withUnit_sound h fun _ => ok_sound h)

theorem execUnitReturn_sound {r : Req} {unit : U16} : SoundR (execUnitReturn r unit s) := by
  unfold execUnitReturn
  refine soundR_next (command_sound h fun _ _ h => withUnit_sound h fun _ => ?_)
  split
  · exact checked_sound h fun _ h => ok_sound (dramOnline_sound (setUnit_sound h))
  · exact refuse_sound h
  · exact checked_sound h fun _ h => ok_sound (returnUnit_sound h)

theorem execChannelOffline_sound {r : Req} {unit : U16} : SoundR (execChannelOffline r unit s) := by
  unfold execChannelOffline
  refine soundR_next (command_sound h fun _ _ h => withUnit_sound h fun _ => ?_)
  split
  · exact ite_sound (ok_sound h) (checked_sound h fun _ h => startLong_sound h fun _ h => beginVacating_sound h)
  · exact checked_sound h fun _ h => ok_sound (ite_sound (failFlash_sound h) h)
  · exact refuse_sound h

theorem execChannelOnline_sound {r : Req} {unit : U16} : SoundR (execChannelOnline r unit s) :=
  soundR_next (command_sound h fun _ _ h => withUnit_sound h fun _ => checked_sound h fun _ h => ok_sound (dramOnline_sound h))

theorem execErrorInject_sound {r : Req} {unit : U16} {kind count : U8} {dpa : U64} : SoundR (execErrorInject r unit kind count dpa s) :=
  soundR_next (command_sound h fun _ _ h => withUnit_sound h fun _ => checked_sound h fun _ h => ok_sound (inject_sound h))

/-! ### The commands of Machine/Firmware -/

theorem execFwDownload_sound {r : Req} {offset size : U32} {data : List Byte} : SoundR (execFwDownload r offset size data s) := by
  unfold execFwDownload
  refine soundR_next (command_sound h fun _ _ h => ?_)
  refine ite_sound (checked_sound h fun _ h => startLong_sound h fun _ h => fwEraseNext_sound (setSlot_sound h)) (ite_sound
      (reply_sound h) (checked_sound h fun _ h => ?_))
  extract_lets s1
  have h1 : Sound s1 := appendImage_sound h
  exact ok_sound h1

theorem execFwVerify_sound {r : Req} : SoundR (execFwVerify r s) :=
  soundR_next (command_sound h fun _ _ h => checked_sound h fun _ h => startLong_sound h fun _ h => h)

theorem execFwActivate_sound {r : Req} {mode : U8} : SoundR (execFwActivate r mode s) := by
  unfold execFwActivate
  refine soundR_next (command_sound h fun _ _ h => ?_)
  refine checked_sound h fun _ h => ?_
  extract_lets s1
  have h1 : Sound s1 := ok_sound (activate__sound h)
  exact ite_sound (warmReset_sound h1) h1

theorem execFwConfirm_sound {r : Req} : SoundR (execFwConfirm r s) := by
  unfold execFwConfirm
  refine soundR_next (command_sound h fun _ _ h => ite_sound ?_ ?_)
  · exact ok_sound (blowFuses_sound (State.onLedger_sound (putActivations_sound h) fun h => h.2))
  · exact ok_sound h

theorem execFwStatus_sound {r : Req} : SoundR (execFwStatus r s) := soundR_next (command_sound h fun _ _ h => ok_sound h)

theorem execDiagnosticOpcode_sound {r : Req} {opcode : U16} : SoundR (execDiagnosticOpcode r opcode s) :=
  soundR_ite (soundR_next h) (soundR_ite soundR_refused (soundR_next (reject_sound h)))

/-! ### The commands of Machine/Transports -/

theorem execKolnyxWrite_sound {head ld : Nat} {payload : List Byte} : SoundR (execKolnyxWrite head ld payload s) := by
  unfold execKolnyxWrite
  refine soundR_ite (soundR_next h) ?_
  exact soundR_ite (soundR_next (State.emit_sound h)) (soundR_next (receive_sound (State.emit_sound h)))

theorem execKolnyxRead_sound {head ld : Nat} {maxLen : U32} : SoundR (execKolnyxRead head ld maxLen s) := by
  unfold execKolnyxRead
  refine soundR_ite (soundR_next h) ?_
  exact soundR_next (consumeAll_sound (releaseHeld_sound (State.emit_sound (setChannel_sound h))))

theorem execMctpMessage_sound {bus : Bus} {eid : Nat} {body : List Byte} : SoundR (execMctpMessage bus eid body s) := by
  unfold execMctpMessage
  refine soundR_ite (soundR_next h) ?_
  exact soundR_ite (soundR_next (discardSegment_sound (State.onCmd_sound h))) (soundR_next (receive_sound h))

theorem execSetEndpointId_sound {bus : Bus} {src : Nat} {eid : U8} : SoundR (execSetEndpointId bus src eid s) :=
  soundR_ite (soundR_next h) (soundR_ite (mctpReply_sound h) (mctpReply_sound (State.onCmd_sound h)))

theorem execGetEndpointId_sound {bus : Bus} {src : Nat} : SoundR (execGetEndpointId bus src s) := mctpReply_sound h

theorem execGetMctpVersionSupport_sound {bus : Bus} {src : Nat} {msgType : U8} : SoundR (execGetMctpVersionSupport bus src msgType s) :=
  soundR_ite (mctpReply_sound h) (mctpReply_sound h)

theorem execGetMessageTypeSupport_sound {bus : Bus} {src : Nat} : SoundR (execGetMessageTypeSupport bus src s) := mctpReply_sound h

theorem execGetVendorDefinedMessageSupport_sound {bus : Bus} {src : Nat} {selector : U8} : SoundR
    (execGetVendorDefinedMessageSupport bus src selector s) :=
  soundR_ite (mctpReply_sound h) (mctpReply_sound h)

theorem execMctpOtherControlMessage_sound {bus : Bus} {src : Nat} {_command : U8} : SoundR
    (execMctpOtherControlMessage bus src _command s) :=
  mctpReply_sound h

theorem execUdpDatagram_sound {ip : U32} {port : Nat} {fragmented checksumOk : Bool} {payload : List Byte} : SoundR
    (execUdpDatagram ip port fragmented checksumOk payload s) := by
  unfold execUdpDatagram
  refine soundR_ite (soundR_next h) (soundR_ite (soundR_next (discardSegment_sound (State.onCmd_sound h))) ?_)
  exact soundR_ite (soundR_next (discardSegment_sound h)) (soundR_next (receive_sound (makeUdpRoom_sound h)))

theorem execArpFrame_sound {senderIp : U32} {senderMac : BitVec 48} {targetIp : U32} : SoundR
    (execArpFrame senderIp senderMac targetIp s) :=
  soundR_next (ite_sound (State.emit_sound h) h)

theorem execIcmpEchoRequest_sound {ip : U32} {id seq : U16} {data : List Byte} : SoundR (execIcmpEchoRequest ip id seq data s) :=
  soundR_next (ite_sound (State.emit_sound h) h)

theorem execReassemblyTimeout_sound {ch : Chan} : SoundR (execReassemblyTimeout ch s) := by
  unfold execReassemblyTimeout
  refine soundR_ite (soundR_next h) ?_
  extract_lets _ s1
  have h1 : Sound s1 := chainTimesOut_sound h
  refine soundR_ite (soundR_next h1) (soundR_ite (soundR_next (consumeAll_sound (discard_sound h1))) (soundR_ite ?_ ?_))
  · exact soundR_next (setScan_sound (takePacket_sound (headerReply_sound h1)))
  · exact soundR_next (setScan_sound (discard_sound h1))

theorem execSessionIdleTimeout_sound {session : Nat} : SoundR (execSessionIdleTimeout session s) := by
  unfold execSessionIdleTimeout
  split
  · split
    · exact soundR_next h
    · exact soundR_next (endSession_sound h)
    · exact soundR_next (endSession_sound h)
    · exact soundR_next (endSession_sound h)
  · exact soundR_next h

theorem execProgressReportTick_sound : SoundR (execProgressReportTick s) :=
  soundR_next (State.each_sound h fun _ _ h => reportProgress_sound h)

/-! ### The commands of Machine/HostIO -/

theorem execCxlMemRead_sound {head ld hostTag hpa : Nat} : SoundR (execCxlMemRead head ld hostTag hpa s) := by
  unfold execCxlMemRead
  refine soundR_ite (soundR_next (State.emit_sound h)) ?_
  extract_lets _ _ _
  split
  · exact soundR_next (State.eventFor_sound (State.emit_sound h))
  · exact soundR_next (State.eventFor_sound (State.emit_sound h))
  · exact soundR_next (acceptReq_sound (takeAge_sound h))
  · exact soundR_next (acceptReq_sound (takeAge_sound h))
  · exact soundR_next (acceptReq_sound (takeAge_sound h))

theorem execCxlMemWrite_sound {head ld hostTag hpa : Nat} {data : LineData} {be : BitVec 64} {poison : Bool} : SoundR
    (execCxlMemWrite head ld hostTag hpa data be poison s) := by
  unfold execCxlMemWrite
  refine soundR_ite (soundR_next (State.emit_sound h)) ?_
  extract_lets _ _
  split
  · exact soundR_next (discardWrite_sound h)
  · exact soundR_next (discardWrite_sound h)
  · exact soundR_next (discardWrite_sound h)
  · exact soundR_next (discardWrite_sound h)
  · split
    · exact soundR_next (State.emit_sound (startWaiting_sound h))
    · next heq20 =>
        extract_lets _ _
        split
        · next heq24 => exact soundR_next (asyncClose_sound (acceptReq_sound ((mirrorWrite_sound (stopWaiting_sound (takeAge_sound
            ((admitWrite_sound h).out _ _ heq20)))).out _ _ heq24)))

theorem execHdmDecoderCommit_sound {head ld index hpaBase dpaBase size ways : Nat} : SoundR
    (execHdmDecoderCommit head ld index hpaBase dpaBase size ways s) :=
  soundR_next (State.emit_sound (setLd_sound h))

theorem execGetLdInfo_sound {head : Nat} : SoundR (execGetLdInfo head s) := soundR_next (State.emit_sound h)

theorem execGetLdAllocations_sound {head : Nat} : SoundR (execGetLdAllocations head s) := soundR_next (State.emit_sound h)

theorem execSetLdAllocations_sound {head : Nat} : SoundR (execSetLdAllocations head s) := soundR_next (State.emit_sound h)

theorem execGetDcExtentList_sound {head ld : Nat} : SoundR (execGetDcExtentList head ld s) := soundR_next (State.emit_sound h)

/-! ### The commands of Machine/Epochs -/

theorem execDcReleaseResponse_sound {head ld region : Nat} {runs : List (Nat × Nat)} : SoundR
    (execDcReleaseResponse head ld region runs s) := by
  unfold execDcReleaseResponse
  split
  · exact soundR_next h
  · exact soundR_ite (soundR_next (completeRelease_sound h)) (soundR_next (setLd_sound h))

theorem execReleaseTimeout_sound {head ld region : Nat} : SoundR (execReleaseTimeout head ld region s) := by
  unfold execReleaseTimeout
  split
  · exact soundR_next h
  · exact soundR_next (completeRelease_sound (State.eventFor_sound (State.emit_sound h)))

theorem execGpfPhase2Request_sound {head : Nat} : SoundR (execGpfPhase2Request head s) := by
  unfold execGpfPhase2Request
  refine soundR_ite ?_ (soundR_next (requestClose_sound h))
  split
  · next c e =>
    have hc := h.running_lt e
    exact soundR_next (setRunning_sound h hc)
  · exact soundR_next (State.emit_sound h)

/-! ### The commands of Machine/HostIO -/

theorem execSetShutdownState_sound {_head _ld : Nat} {state : U8} : SoundR (execSetShutdownState _head _ld state s) :=
  soundR_next (rindWrite_sound h)

/-! ### The commands of Machine/EventLog -/

theorem execGetEventRecords_sound {head ld log : Nat} : SoundR (execGetEventRecords head ld log s) := soundR_next (State.emit_sound h)

theorem execClearEventRecords_sound {head ld log : Nat} {handles : List Nat} : SoundR (execClearEventRecords head ld log handles s) := by
  unfold execClearEventRecords
  split
  · exact soundR_next h
  · exact soundR_next (setLd_sound h)

theorem execGetEventInterruptPolicy_sound {head ld : Nat} : SoundR (execGetEventInterruptPolicy head ld s) :=
  soundR_next (State.emit_sound h)

theorem execSetEventInterruptPolicy_sound {head ld : Nat} {policy : U32} : SoundR (execSetEventInterruptPolicy head ld policy s) :=
  soundR_next (setLd_sound h)

/-! ### The commands of Machine/HostIO -/

theorem execHostLinkUp_sound {port : Nat} {joined : Bool} : SoundR (execHostLinkUp port joined s) := by
  unfold execHostLinkUp
  refine soundR_ite (soundR_next h) ?_
  extract_lets s1 s2
  have h1 : Sound s1 := State.onCxl_sound h
  have h2 : Sound s2 := State.each_sound h1 fun _ _ h => settleIsland_sound h
  exact soundR_next (State.each_sound h2 fun _ _ h => offerIdentity_sound h)

theorem execHostLinkDown_sound {port : Nat} : SoundR (execHostLinkDown port s) := by
  unfold execHostLinkDown
  refine soundR_ite (soundR_next h) ?_
  extract_lets s1 s2
  have h1 : Sound s1 := linkEnds_sound h
  have h2 : Sound s2 := State.onUnits_sound h1
  exact soundR_ite (soundR_next (fencePort_sound h2)) (soundR_next h2)

/-! ### The commands of Machine/Wire -/

theorem execWireBeatReceived_sound {link : Nat} {b : Beat} : SoundR (execWireBeatReceived link b s) := by
  unfold execWireBeatReceived
  refine soundR_ite (soundR_next h) ?_
  extract_lets s1 s2
  have h1 : Sound s1 := countBeat_sound h
  refine soundR_ite (soundR_next (State.emit_sound h1)) ?_
  have h2 : Sound s2 := resendDone_sound h1
  exact soundR_ite (soundR_next (discardBeat_sound h2)) (soundR_next (receiveBeat_sound h2))

theorem execWireNakReceived_sound {link : Nat} {b : Beat} : SoundR (execWireNakReceived link b s) := by
  unfold execWireNakReceived
  refine soundR_ite (soundR_next h) ?_
  extract_lets _
  split
  · exact soundR_next (withInjection_sound h fun _ h => resend_sound (countRetry_sound h))
  · exact soundR_next (resend_sound (countRetry_sound h))

/-! ### The commands of Machine/HostIO -/

theorem execRetryResponse_sound {age : Nat} : SoundR (execRetryResponse age s) := by
  unfold execRetryResponse
  split
  · exact soundR_ite (soundR_next h) (soundR_next (serve_sound (dropReq_sound h)))
  · exact soundR_next h

/-! ### The commands of Machine/Units -/

theorem execEngineFaultDetected_sound {engine : Nat} {memory : Bool} : SoundR (execEngineFaultDetected engine memory s) := by
  unfold execEngineFaultDetected
  refine soundR_ite ?_ ?_
  · exact soundR_next (withInjection_sound h fun _ h => fenceEngine_sound (countError_sound h))
  · exact soundR_next (fenceEngine_sound h)

theorem execEngineHeartbeatTimeout_sound {engine : Nat} : SoundR (execEngineHeartbeatTimeout engine s) :=
  soundR_next (fenceEngine_sound h)

/-! ### The commands of Machine/Wire -/

theorem execSpareRoleResumed_sound {fenced : Nat} : SoundR (execSpareRoleResumed fenced s) := by
  unfold execSpareRoleResumed
  split
  · refine soundR_ite ?_ (soundR_next h)
    extract_lets _ s1 s2
    have h1 : Sound s1 := setEngine_sound h
    have h2 : Sound s2 := State.each_sound h1 fun _ _ h => atRouter_sound h
    exact soundR_next (State.event_sound h2)
  · exact soundR_next h

/-! ### The commands of Machine/Units -/

theorem execIslandFrequencyChangeDone_sound {island : Island} : SoundR (execIslandFrequencyChangeDone island s) :=
  soundR_next (State.onWire_sound h)

/-! ### The commands of Machine/Epochs -/

theorem execEpochCloseComplete_sound : SoundR (execEpochCloseComplete s) := by
  unfold execEpochCloseComplete
  split
  · exact soundR_next h
  · next c e =>
    have hc := h.running_lt e
    extract_lets s1
    have h1 : Sound s1 := ite_sound h (sendAll_sound (setRunning_sound h hc))
    have hc1 : c.epoch < s1.epochs.current := by
      dsimp only [s1]
      split
      · exact hc
      · rw [sendAll_epochs]; exact hc
    exact soundR_ite (soundR_next h) (soundR_ite (soundR_ite (soundR_next (finishCloses_sound (finishClose_sound h1 hc1))) (soundR_next h1))
      (soundR_next (finishCloses_sound (finishClose_sound h hc))))

theorem execAutoCloseIntervalExpiry_sound : SoundR (execAutoCloseIntervalExpiry s) := soundR_next (ite_sound (requestClose_sound h) h)

/-! ### The commands of Machine/CurdPpu -/

theorem execDeckleRecompute_sound : SoundR (execDeckleRecompute s) := soundR_next (deckleRecompute_sound h)

/-! ### The commands of Machine/HostIO -/

theorem execWriteCreditIdleTimeout_sound {port : Nat} : SoundR (execWriteCreditIdleTimeout port s) := soundR_next (State.onDeckle_sound h)

/-! ### The commands of Machine/CurdPpu -/

theorem execPageChargeMessage_sound {page : Nat} : SoundR (execPageChargeMessage page s) := by
  unfold execPageChargeMessage
  split
  · exact soundR_next h
  · refine soundR_ite (soundR_next (fetchBlock_sound h)) ?_
    extract_lets s1 _
    have h1 : Sound s1 := touchDirectory_sound (State.onPpu_sound h)
    split
    · exact soundR_next h
    · next heq12 => exact soundR_next (pageArrived_sound (chargeFor_sound ((frameForCharge_sound (ite_sound h1
        (formStaged_sound h1))).out _ heq12)))

theorem execCurdFillArrival_sound {line : Nat} : SoundR (execCurdFillArrival line s) := by
  unfold execCurdFillArrival
  split
  · exact soundR_next h
  · exact soundR_ite (soundR_next h) (soundR_next (fillLine_sound h))

theorem execEvictionOffer_sound {line : Nat} : SoundR (execEvictionOffer line s) := by
  unfold execEvictionOffer
  split
  · exact soundR_next h
  · extract_lets _ s1
    refine soundR_ite ?_ (soundR_next (State.onCurd_sound (setFrame_sound h)))
    have h1 : Sound s1 := State.onCurd_sound h
    split
    · exact soundR_next (chargePage_sound (writeFrame_sound h1))
    · exact soundR_next h1

theorem execDramWriteAck_sound {line : Nat} : SoundR (execDramWriteAck line s) := by
  unfold execDramWriteAck
  split
  · exact soundR_next h
  · split
    · exact soundR_next h
    · refine soundR_ite (soundR_next h) ?_
      exact soundR_next (walkDrain_sound (retireWrites_sound (watermark_sound (setDram_sound (columnCommand_sound h)))))

/-! ### The commands of Machine/HostIO -/

theorem execStreamTrackerTimeout_sound {port tracker : Nat} : SoundR (execStreamTrackerTimeout port tracker s) :=
  soundR_next (State.onCurd_sound h)

/-! ### The commands of Machine/CurdPpu -/

theorem execFrameReclaim_sound {page : Nat} : SoundR (execFrameReclaim page s) := by
  unfold execFrameReclaim
  refine soundR_ite (soundR_next h) ?_
  split
  · refine soundR_ite (soundR_next (setFrame_sound h)) ?_
    extract_lets s1
    have h1 : Sound s1 := invalidatePage_sound (dropFrame_sound h)
    exact soundR_next (wakeAll_sound (putEntry_sound h1))
  · exact soundR_next h

theorem execPageCleanStart_sound {page : Nat} : SoundR (execPageCleanStart page s) := by
  unfold execPageCleanStart
  refine soundR_ite (soundR_next h) ?_
  extract_lets _ _ s1
  refine soundR_ite (soundR_next (ite_sound (retryMove_sound h) h)) (soundR_ite (soundR_next h) ?_)
  have h1 : Sound s1 := frameForClean_sound h
  exact soundR_next (ite_sound (beginClean_sound h1) h1)

theorem execPageCleanComplete_sound {page : Nat} {loc : BitVec 40} : SoundR (execPageCleanComplete page loc s) := by
  unfold execPageCleanComplete
  refine soundR_ite (soundR_next (ite_sound (directoryClean_sound h) h)) ?_
  split
  · exact soundR_next h
  · refine soundR_ite (soundR_next h) ?_
    extract_lets _
    split
    · exact soundR_next (beginMoves_sound (checkFlush_sound (resumeMoves_sound (retireStaged_sound (putEntry_sound (progressLong_sound
        (State.onDeckle_sound (State.onPpu_sound (writeSlot_sound (targetAnswers_sound h))))))))))

theorem execCurdDrainComplete_sound : SoundR (execCurdDrainComplete s) := by
  unfold execCurdDrainComplete
  extract_lets s1
  have h1 : Sound s1 := bypassSlices_sound (walkDrain_sound h)
  split
  · exact soundR_next h1
  · refine soundR_ite (soundR_next h1) (soundR_ite (soundR_next h1) ?_)
    extract_lets s2 s3 _ s4
    have h2 : Sound s2 := State.onCurd_sound h1
    have h3 : Sound s3 := ite_sound (State.each_sound h2 fun _ _ h => unroute_sound h) h2
    have h4 : Sound s4 := State.onCurd_sound h3
    exact soundR_next (finishCloses_sound (retarget_sound (releaseForced_sound (answerJoined_sound h4))))

theorem execCurdSlicePowerUpDone_sound : SoundR (execCurdSlicePowerUpDone s) :=
  soundR_next (ite_sound (State.onCurd_sound (State.each_sound h fun _ _ h => reroute_sound h)) h)

theorem execReamFetchComplete_sound {page : Nat} {outcome : FetchOutcome} : SoundR (execReamFetchComplete page outcome s) := by
  unfold execReamFetchComplete
  split
  · exact soundR_next h
  · next t e =>
    obtain ⟨f, -, hf⟩ := Option.bind_eq_some_iff.mp e
    have ht : Sound t := (fetchIssued_sound h).out _ hf
    extract_lets _ _ s1
    refine soundR_ite (soundR_next (blockFetched_sound ht)) ?_
    split
    · exact soundR_next (fetchLost_sound (ite_sound (countError_sound ht) ht))
    · have h1 : Sound s1 := chooseLevel_sound (targetAnswers_sound ht)
      split
      · exact soundR_next (fetchDone_sound h1)
      · exact soundR_next (ite_sound (fetchDone_sound h1) (slotRecovered_sound h1))
      · exact soundR_next (withInjection_sound h1 fun _ h => fetchDone_sound (countError_sound h))
      · exact soundR_next (withInjection_sound h1 fun _ h => fetchDone_sound (countError_sound h))
      · exact soundR_next (withInjection_sound h1 fun _ h => slotRecovered_sound h)
      · exact soundR_next (slotRecovered_sound h1)

/-! ### The commands of Machine/HostIO -/

theorem execDeadlineMarginExpiry_sound {age : Nat} : SoundR (execDeadlineMarginExpiry age s) := by
  unfold execDeadlineMarginExpiry
  split
  · exact soundR_next (ite_sound (askTwin_sound h) h)
  · exact soundR_next h

/-! ### The commands of Machine/Vat -/

theorem execDramAccessComplete_sound {line : Nat} {err : DramError} : SoundR (execDramAccessComplete line err s) := by
  unfold execDramAccessComplete
  refine soundR_ite (soundR_next (directoryAccess_sound h)) ?_
  split
  · exact soundR_next h
  · extract_lets _ _ _
    split
    · extract_lets _ s1 _
      have h1 : Sound s1 := columnCommand_sound (setDram_sound h)
      split
      · exact soundR_next (vacateStep_sound (deliver_sound h1))
      · exact soundR_next (vacateStep_sound (deliver_sound h1))
      · extract_lets s2
        have h2 : Sound s2 := correctable_sound h1
        exact soundR_next (vacateStep_sound (deliver_sound (ite_sound h2 (writeFrame_sound h2))))
      · exact soundR_next (vacateStep_sound (deliver_sound (countError_sound h1)))
      · exact soundR_next (vacateStep_sound (deliver_sound (corrected_sound (countError_sound h1))))
      · exact soundR_next (uncorrectable_sound (setDram_sound h1))
    · exact soundR_next h

theorem execCaParityAlert_sound {channel : Nat} : SoundR (execCaParityAlert channel s) := by
  unfold execCaParityAlert
  extract_lets _ s1
  refine soundR_ite (soundR_next h) ?_
  have h1 : Sound s1 := State.event_sound h
  refine soundR_ite (soundR_next (failChannel_sound h1)) ?_
  exact soundR_ite (soundR_next (setDram_sound h1)) (soundR_next (setDram_sound h1))

/-! ### The commands of Machine/Dram -/

theorem execRefreshIntervalTick_sound {channel bank : Nat} : SoundR (execRefreshIntervalTick channel bank s) := by
  unfold execRefreshIntervalTick
  extract_lets _ _ _ s1
  refine soundR_ite (soundR_next h) ?_
  have h1 : Sound s1 := setBank_sound h
  exact soundR_next (setDram_sound h1)

theorem execRefreshWindowExpiry_sound {channel : Nat} : SoundR (execRefreshWindowExpiry channel s) := soundR_next (setDram_sound h)

theorem execRowIdleTimeout_sound {channel bank : Nat} : SoundR (execRowIdleTimeout channel bank s) := by
  unfold execRowIdleTimeout
  extract_lets _
  split
  · exact soundR_ite (soundR_next h) (soundR_next (setBank_sound h))
  · exact soundR_next (ite_sound h (setBank_sound h))

/-! ### The commands of Machine/Vat -/

theorem execDramTrainingStepComplete_sound {channel : Nat} {step : TrainStep} : SoundR (execDramTrainingStepComplete channel step s) := by
  unfold execDramTrainingStepComplete
  refine soundR_ite (soundR_next h) ?_
  split
  · refine soundR_ite (soundR_next h) ?_
    extract_lets s1
    have h1 : Sound s1 := setDram_sound (ite_sound (dramState_sound h) h)
    exact soundR_ite (soundR_next (setDram_sound h1)) (soundR_next (dramFailed_sound h1))
  · refine soundR_ite (soundR_next h) ?_
    extract_lets s2
    have h2 : Sound s2 := setDram_sound h
    exact soundR_ite (soundR_next h2) (soundR_next (trained_sound h2))
  · exact soundR_ite (soundR_next h) (soundR_next (trainingFails_sound (ite_sound (dramState_sound h) h)))
  · exact soundR_ite (soundR_next h) (soundR_next (trained_sound h))
  · exact soundR_ite (soundR_next h) (soundR_next (setDram_sound h))

theorem execDramFrequencyChangeDone_sound {channel : Nat} {ok : Bool} : SoundR (execDramFrequencyChangeDone channel ok s) := by
  unfold execDramFrequencyChangeDone
  extract_lets _ _ s1 s2
  refine soundR_ite (soundR_next h) ?_
  have h1 : Sound s1 := State.onWire_sound (setDram_sound h)
  have h2 : Sound s2 := ite_sound h1 (State.event_sound h1)
  exact soundR_next (ite_sound h2 (retargetBin_sound (State.onVat_sound h2)))

theorem execScrubRead_sound {frame : Nat} {errs : List (Nat × DramError)} : SoundR (execScrubRead frame errs s) := by
  unfold execScrubRead
  refine soundR_ite (soundR_next h) ?_
  split
  · exact soundR_next (State.each_sound (pageCommand_sound h) fun _ _ h => scrubLine_sound h)
  · split
    · exact soundR_next h
    · exact soundR_next (State.each_sound (pageCommand_sound h) fun _ _ h => scrubBlock_sound h)

theorem execRowRepairSpprDone_sound {channel row : Nat} {noSpare : Bool} : SoundR (execRowRepairSpprDone channel row noSpare s) := by
  unfold execRowRepairSpprDone
  split
  · exact soundR_next h
  · refine soundR_ite (soundR_next h) (soundR_ite (soundR_next (noSpareRow_sound h)) ?_)
    extract_lets s1
    have h1 : Sound s1 := setDram_sound h
    exact soundR_next (wakeAll_sound (vacateWithheld_sound (dramEvent_sound h1)))

theorem execRowRepairHpprDone_sound {channel : Nat} {e : HpprEnd} : SoundR (execRowRepairHpprDone channel e s) := by
  unfold execRowRepairHpprDone
  split
  · exact soundR_next h
  · refine soundR_ite (soundR_next h) ?_
    exact soundR_ite (soundR_next (noSpareRow_sound h)) (soundR_next (wakeAll_sound (setDram_sound h)))

theorem execChannelVacateComplete_sound {channel : Nat} : SoundR (execChannelVacateComplete channel s) := by
  unfold execChannelVacateComplete
  refine soundR_ite (soundR_next h) ?_
  extract_lets s1
  have h1 : Sound s1 := vacateStep_sound (leaveBlocks_sound h)
  exact soundR_ite (soundR_next h1) (soundR_next (endLongOf_sound (setDram_sound (dramState_sound h1))))

theorem execSpdHubLossTimeout_sound {channel : Nat} : SoundR (execSpdHubLossTimeout channel s) := by
  unfold execSpdHubLossTimeout
  extract_lets _ s1
  have h1 : Sound s1 := setDram_sound h
  split
  · exact soundR_next (failChannel_sound h1)
  · exact soundR_next (failChannel_sound h1)
  · exact soundR_next (dramFailed_sound h1)
  · exact soundR_next h1
  · exact soundR_next h1
  · exact soundR_next h1

theorem execDirectoryAreaResizeComplete_sound : SoundR (execDirectoryAreaResizeComplete s) := by
  unfold execDirectoryAreaResizeComplete
  extract_lets s1
  have h1 : Sound s1 := areaStep_sound h
  exact soundR_next (ite_sound h1 (State.onVat_sound h1))

/-! ### The commands of Machine/Couch -/

theorem execPageMoveEnd_sound {page : Nat} {loc : BitVec 40} : SoundR (execPageMoveEnd page loc s) := by
  unfold execPageMoveEnd
  refine soundR_ite (soundR_next h) (soundR_ite (soundR_next (ite_sound (moveDirectory_sound h) h)) ?_)
  split
  · exact soundR_next (beginMoves_sound (ite_sound (movedFrame_sound h) (movedHome_sound h)))
  · exact soundR_next (beginMoves_sound h)

/-! ### The commands of Machine/Ream -/

theorem execFlashTrainingComplete_sound {channel : Nat} {result : FlashTrain} {targets : Targets} {found : ChanMeta} : SoundR
    (execFlashTrainingComplete channel result targets found s) := by
  unfold execFlashTrainingComplete
  refine soundR_ite (soundR_next h) ?_
  split
  · exact soundR_ite (soundR_next (flashState_sound h)) (soundR_next (failFlash_sound h))
  · extract_lets s1 s2
    have h1 : Sound s1 := setSlow_sound h
    refine soundR_ite (soundR_next h1) ?_
    have h2 : Sound s2 := setFlash_sound h1
    refine soundR_ite ?_ ?_
    · exact soundR_ite (soundR_next (flashState_sound h2)) (soundR_next (failFlash_sound h2))
    · exact soundR_ite (soundR_next (joinGroup_sound h2)) (soundR_next (setFlash_sound h2))
  · extract_lets s3 s4
    have h3 : Sound s3 := setSlow_sound h
    refine soundR_ite (soundR_next h3) ?_
    have h4 : Sound s4 := setFlash_sound h3
    refine soundR_ite ?_ ?_
    · exact soundR_ite (soundR_next (flashState_sound h4)) (soundR_next (failFlash_sound h4))
    · exact soundR_ite (soundR_next (joinGroup_sound h4)) (soundR_next (setFlash_sound h4))

theorem execNandOperationOverrun_sound {channel : Nat} {op : NandOp} : SoundR (execNandOperationOverrun channel op s) :=
  soundR_ite (soundR_next h) (soundR_ite (soundR_next (failTarget_sound h)) (soundR_next (setFlash_sound h)))

theorem execTargetStatusTimeout_sound {channel target : Nat} : SoundR (execTargetStatusTimeout channel target s) :=
  soundR_next (failTarget_sound h)

theorem execFlashAbsentProbeTick_sound {channel : Nat} {found : Bool} : SoundR (execFlashAbsentProbeTick channel found s) :=
  soundR_ite (soundR_next (presenceEvent_sound (flashState_sound h))) (soundR_next h)

theorem execStageGatherTimeout_sound : SoundR (execStageGatherTimeout s) := soundR_next (ite_sound (State.onReam_sound h) h)

theorem execStageProgramComplete_sound : SoundR (execStageProgramComplete s) := by
  unfold execStageProgramComplete
  split
  · exact soundR_next h
  · next b t e =>
    obtain ⟨he, -⟩ := Option.filter_eq_some_iff.mp e
    have ht : Sound t := (stageTarget_sound h).out _ _ he
    refine soundR_next (State.each_sound (State.onCipher_sound (State.onReam_sound ht)) fun _ _ h => ?_)
    split
    · exact localPlaced_sound h
    · exact h

theorem execNandProgramFailure_sound {channel block : Nat} : SoundR (execNandProgramFailure channel block s) := by
  unfold execNandProgramFailure
  split
  · exact soundR_ite (soundR_next h) (soundR_next (growBad_sound h))
  · exact soundR_next (growBad_sound h)

theorem execNandEraseComplete_sound {channel block : Nat} {ok : Bool} : SoundR (execNandEraseComplete channel block ok s) := by
  unfold execNandEraseComplete
  split
  · exact soundR_next (ite_sound (State.onReam_sound h) h)
  · refine soundR_ite (soundR_next h) (soundR_ite (soundR_next (growBad_sound h)) ?_)
    extract_lets _ _ _ s1
    have h1 : Sound s1 := setFlash_sound (leaveStripe_sound (State.onReam_sound (targetAnswers_sound h)))
    exact soundR_next (ite_sound (State.event_sound h1) h1)

theorem execReclamationStart_sound {channel lun block : Nat} : SoundR (execReclamationStart channel lun block s) := by
  unfold execReclamationStart
  extract_lets s1
  have h1 : Sound s1 := reclaimStage_sound h
  split
  · split
    · exact soundR_ite (soundR_next h1) (soundR_next (emptyStripe_sound h1))
    · exact soundR_next h1

theorem execPatrolRead_sound {channel block : Nat} {neededRetry : Bool} : SoundR (execPatrolRead channel block neededRetry s) := by
  unfold execPatrolRead
  split
  · refine soundR_ite (soundR_next h) ?_
    extract_lets s1
    have h1 : Sound s1 := State.onReam_sound (setFlash_sound h)
    exact soundR_next (ite_sound (emptyBlock_sound (countError_sound h1)) h1)
  · exact soundR_next h

theorem execWearLevelMove_sound {channel block : Nat} : SoundR (execWearLevelMove channel block s) := by
  unfold execWearLevelMove
  extract_lets _ _ _
  split
  · exact soundR_ite (soundR_next (emptyBlock_sound h)) (soundR_next h)
  · exact soundR_next h

theorem execChannelFormatComplete_sound {channel : Nat} {pass : Bool} : SoundR (execChannelFormatComplete channel pass s) := by
  unfold execChannelFormatComplete
  refine soundR_ite (soundR_next h) (soundR_ite (soundR_next (failFlash_sound h)) (soundR_ite (soundR_next (holdFormat_sound h)) ?_))
  exact soundR_next (leaveAdd_sound (flashState_sound (setFlash_sound (State.each_sound (State.onReam_sound h) fun _ _ h => ite_sound
      (setFlash_sound h) h))))

theorem execChannelDrainComplete_sound {channel : Nat} : SoundR (execChannelDrainComplete channel s) := by
  unfold execChannelDrainComplete
  refine soundR_ite (soundR_next h) ?_
  extract_lets s1
  have h1 : Sound s1 := setFlash_sound (flashState_sound h)
  split
  · exact soundR_next h1
  · split
    · exact soundR_ite (soundR_next (endLong_sound h1)) (soundR_next (State.onCmd_sound h1))
    · exact soundR_next h1

theorem execRebuildStripe_sound {page : Nat} {loc : Option (BitVec 40)} : SoundR (execRebuildStripe page loc s) := by
  unfold execRebuildStripe
  refine soundR_ite (soundR_next (rebuildDirectory_sound h)) (soundR_ite (soundR_next h) (soundR_ite (soundR_next
      (State.emit_sound h)) ?_))
  split
  · split
    · exact soundR_ite (soundR_next (startMove_sound (writeSlot_sound h))) (soundR_next h)
    · exact soundR_next h
  · split
    · exact soundR_next (putEntry_sound h)
    · exact soundR_next (fetchLost_sound h)

theorem execRebuildComplete_sound {channel : Nat} : SoundR (execRebuildComplete channel s) := by
  unfold execRebuildComplete
  extract_lets _ _ _ s1
  refine soundR_ite (soundR_next h) ?_
  have h1 : Sound s1 := flashState_sound (setFlash_sound (State.onReam_sound h))
  exact soundR_next (ite_sound (presenceEvent_sound (setFlash_sound h1)) h1)

/-! ### The commands of Machine/Salometer -/

theorem execSalometerSample_sound {current : Int} {voltage : Nat} {temp0 temp1 : Int} : SoundR
    (execSalometerSample current voltage temp0 temp1 s) := by
  unfold execSalometerSample
  refine soundR_ite (soundR_next h) ?_
  extract_lets _ _ s1 s2 s3 s4
  have h1 : Sound s1 := secondMean_sound (countCharge_sound (thermistorSample_sound (probeTime_sound (State.onSal_sound h))))
  have h2 : Sound s2 := ite_sound (overrangeSample_sound h1) h1
  have h3 : Sound s3 := ite_sound (judgeEnergy_sound (State.onSal_sound h2)) h2
  have h4 : Sound s4 := ite_sound (packBands_sound h3) h3
  exact soundR_next (couchWatch_sound (ite_sound (emptyAnchor_sound h4) h4))

theorem execAutoZeroTick_sound : SoundR (execAutoZeroTick s) := soundR_next (State.onSal_sound h)

theorem execSvDiodeSample_sound {temp : Int} : SoundR (execSvDiodeSample temp s) := by
  unfold execSvDiodeSample
  refine soundR_ite (soundR_next (judgeEnergy_sound (State.onSal_sound h))) ?_
  extract_lets s1
  have h1 : Sound s1 := State.onSal_sound h
  exact soundR_next (judgeEnergy_sound (ite_sound h1 (State.event_sound h1)))

theorem execLowCurrentModeEntry_sound : SoundR (execLowCurrentModeEntry s) := soundR_next (ite_sound (State.onSal_sound h) h)

theorem execLowCurrentComparator_sound : SoundR (execLowCurrentComparator s) := soundR_next (State.onSal_sound h)

theorem execPkPresentAsserted_sound : SoundR (execPkPresentAsserted s) := soundR_next (ite_sound h (State.onSal_sound h))

theorem execPkPresentDeasserted_sound : SoundR (execPkPresentDeasserted s) := by
  unfold execPkPresentDeasserted
  refine soundR_ite (soundR_next h) ?_
  exact soundR_next (deckleImmediate_sound (couchWatch_sound (setEnergy_sound (publish_sound (State.onSal_sound (disqualify_sound h))))))

theorem execPackSwapTimeout_sound : SoundR (execPackSwapTimeout s) := soundR_next (ite_sound h (packSwap_sound (State.onSal_sound h)))

theorem execPackIdentityPoll_sound : SoundR (execPackIdentityPoll s) := soundR_next (ite_sound (State.onSal_sound h) h)

theorem execPackIdentityReadDone_sound {block : Option (List Byte)} : SoundR (execPackIdentityReadDone block s) := by
  unfold execPackIdentityReadDone
  refine soundR_ite (soundR_next h) ?_
  split
  · exact soundR_next (identityFailed_sound h)
  · refine soundR_ite (soundR_next (identityFailed_sound h)) ?_
    extract_lets _ _ s1 s2 _ s3 _ s4 s5
    have h1 : Sound s1 := State.onSal_sound h
    have h2 : Sound s2 := ite_sound (State.onSal_sound (State.event_sound h1)) h1
    have h3 : Sound s3 := ite_sound (packSwap_sound h2) h2
    have h4 : Sound s4 := State.onSal_sound h3
    have h5 : Sound s5 := ite_sound (State.event_sound h4) h4
    exact soundR_next (judgeEnergy_sound (ite_sound (deckleImmediate_sound (setEnergy_sound (publish_sound h5))) h5))

theorem execProbeStart_sound : SoundR (execProbeStart s) := soundR_next (ite_sound h (State.onSal_sound h))

theorem execProbeComplete_sound {iPre vPre iPb vPb iPost vPost rmsPre rmsPost : Int} : SoundR
    (execProbeComplete iPre vPre iPb vPb iPost vPost rmsPre rmsPost s) := by
  unfold execProbeComplete
  refine soundR_ite (soundR_next h) ?_
  extract_lets _ s1
  have h1 : Sound s1 := State.onSal_sound h
  split
  · refine soundR_ite ?_ ?_
    · exact soundR_next (judgeEnergy_sound (publish_sound (acceptProbe_sound h1)))
    · exact soundR_next (State.onSal_sound h1)

theorem execProbeAgeTimeout_sound {hour : Bool} : SoundR (execProbeAgeTimeout hour s) :=
  soundR_next (judgeEnergy_sound (State.onSal_sound h))

theorem execEnergyEstimateTick_sound : SoundR (execEnergyEstimateTick s) :=
  soundR_next (couchWatch_sound (slew_sound (judgeEnergy_sound (publish_sound (ageWarning_sound (finishCopy_sound h))))))

theorem execFullChargeAnchor_sound : SoundR (execFullChargeAnchor s) := by
  unfold execFullChargeAnchor
  split
  · exact soundR_next h
  · refine soundR_ite (soundR_next h) ?_
    extract_lets s1 s2
    have h1 : Sound s1 := State.onSal_sound (anchorAt_sound h)
    have h2 : Sound s2 := by
      dsimp only [s2]
      split
      · exact learnStep_sound (State.onSal_sound h1)
      · exact finishLearn_sound h1
      · exact h1
      · exact h1
    exact soundR_next (judgeEnergy_sound (publish_sound h2))

theorem execThermistorDisagreement_sound : SoundR (execThermistorDisagreement s) := by
  unfold execThermistorDisagreement
  split
  · exact soundR_ite (soundR_next h) (soundR_next (judgeEnergy_sound (State.event_sound (State.onSal_sound h))))
  · exact soundR_next h

theorem execLearnTimeout_sound : SoundR (execLearnTimeout s) := soundR_next (ite_sound (disqualify_sound h) h)

theorem execLearnInterruptionTimeout_sound : SoundR (execLearnInterruptionTimeout s) := soundR_next (ite_sound (disqualify_sound h) h)

theorem execLearnedRecordDailyUpdate_sound : SoundR (execLearnedRecordDailyUpdate s) := by
  unfold execLearnedRecordDailyUpdate
  split
  · exact soundR_next h
  · exact soundR_ite (soundR_next h) (soundR_next (judgeEnergy_sound (putLearned_sound (State.onSal_sound h))))

/-! ### The commands of Machine/Couch -/

theorem execInputChange_sound {powerFail : Bool} {busMv : Nat} : SoundR (execInputChange powerFail busMv s) := by
  unfold execInputChange
  refine soundR_ite (soundR_next h) ?_
  extract_lets s1 s2 _ _ s3
  have h1 : Sound s1 := ite_sound (stampFall_sound h) (clearFall_sound h)
  have h2 : Sound s2 := ite_sound (stampFall_sound h1) (clearFall_sound h1)
  have h3 : Sound s3 := State.onPower_sound h2
  exact soundR_next (State.onCouch_sound (ite_sound (State.onSal_sound h3) h3))

theorem execInputLossDetection_sound : SoundR (execInputLossDetection s) := by
  unfold execInputLossDetection
  refine soundR_ite (soundR_next h) ?_
  extract_lets s1 _ s2 s3 s4
  have h1 : Sound s1 := supplyFails_sound (State.onCouch_sound (State.onPower_sound h))
  have h2 : Sound s2 := endLedgerErase_sound (State.onPower_sound h1)
  have h3 : Sound s3 := rindWrite_sound h2
  have h4 : Sound s4 := State.onCouch_sound h3
  refine soundR_ite (soundR_next h1) (soundR_ite (soundR_next (detectDown_sound h1)) ?_)
  split
  · exact soundR_ite (soundR_next (couchCommit_sound (State.event_sound h4))) (soundR_next (arm_sound h4))
  · exact soundR_next (State.onCouch_sound h3)
  · exact soundR_next (startPowerDown_sound (State.onCouch_sound h3))
  · exact soundR_next h3
  · exact soundR_next h3

/-! ### The commands of Machine/Power -/

theorem execInputPresenceConfirmed_sound : SoundR (execInputPresenceConfirmed s) := by
  unfold execInputPresenceConfirmed
  refine soundR_ite (soundR_next h) ?_
  extract_lets _ s1 s2
  have h1 : Sound s1 := State.onCouch_sound (State.onPower_sound h)
  have h2 : Sound s2 := State.onSal_sound h1
  split
  · exact soundR_next (ite_sound (cancelCouch_sound h2) h2)
  · exact soundR_next h2
  · exact soundR_next h2
  · exact soundR_next h2
  · split
    · exact soundR_next (inputArrives_sound h2)
    · exact soundR_next (ite_sound (inputArrives_sound (State.onPower_sound h2)) h2)
    · exact soundR_next h2
    · exact soundR_next h2
    · exact soundR_next h2
    · exact soundR_next h2
    · exact soundR_next h2
    · exact soundR_next h2
    · exact soundR_next h2
    · exact soundR_next h2
    · exact soundR_next h2

/-! ### The commands of Machine/Couch -/

theorem execCommitPoint_sound : SoundR (execCommitPoint s) := soundR_next (ite_sound (couchCommit_sound h) h)

theorem execCouchCurdDrained_sound : SoundR (execCouchCurdDrained s) := by
  unfold execCouchCurdDrained
  extract_lets _ _ s1 s2 _ s3 s4
  refine soundR_ite (soundR_next h) ?_
  have h1 : Sound s1 := State.each_sound (State.onCurd_sound h) fun _ _ h => unroute_sound h
  have h2 : Sound s2 := State.each_sound h1 fun _ _ h => losePage_sound h
  have h3 : Sound s3 := State.onCouch_sound h2
  have h4 : Sound s4 := by
    refine sleepRanks_sound ?_
    split
    · exact openSummaries_sound h3
    · exact h3
  exact soundR_next (ite_sound (stopCouch_sound h4) h4)

theorem execCouchProgramComplete_sound {loc : BitVec 40} {ok : Bool} : SoundR (execCouchProgramComplete loc ok s) := by
  unfold execCouchProgramComplete
  refine soundR_ite (soundR_next h) (soundR_ite (soundR_next (abandonMoves_sound (growBad_sound h))) ?_)
  split
  · exact soundR_next (saveAt_sound h)
  · exact soundR_next h

theorem execHoldUpTimeLimit_sound : SoundR (execHoldUpTimeLimit s) := soundR_next (watchStop_sound h)

theorem execCouchSealWritten_sound : SoundR (execCouchSealWritten s) := by
  unfold execCouchSealWritten
  refine soundR_ite (soundR_next h) ?_
  extract_lets s1
  have h1 : Sound s1 := rindComplete_sound (leaveGeneration_sound h)
  exact soundR_ite (soundR_next (internalReset_sound h1)) (soundR_next (startPowerDown_sound (State.onCouch_sound h1)))

theorem execReadyLift_sound : SoundR (execReadyLift s) := by
  unfold execReadyLift
  refine soundR_ite (soundR_next h) (soundR_ite (soundR_next (State.event_sound h)) ?_)
  extract_lets _ s1 _ s2
  have h1 : Sound s1 := liftRecord_sound (State.onReam_sound h)
  have h2 : Sound s2 := by
    refine State.each_sound (liftDerive_sound h1) fun _ _ h => ?_
    split
    · exact State.emit_sound h
    · exact answerJoined_sound h
  refine soundR_next (unforce_sound (force_sound (reissueErase_sound (rindComplete_sound (State.onCouch_sound ?_)))))
  refine State.onCmd_sound (State.onRegions_sound (State.onCave_sound (restoreKeys_sound (State.onEpochs_sound h2 fun _ => ?_))))
  exact ⟨Nat.zero_le _, Nat.lt_succ_self _, fun _ e => nomatch e⟩

theorem execFoldPage_sound {page : Nat} {loc : BitVec 40} : SoundR (execFoldPage page loc s) := by
  unfold execFoldPage
  refine soundR_ite (soundR_next h) ?_
  extract_lets s1 _ _
  have h1 : Sound s1 := resolveBlock_sound h
  split
  · exact soundR_next (releaseFolded_sound h)
  · refine soundR_ite (soundR_next (State.emit_sound h1)) ?_
    exact soundR_ite (soundR_next (releaseFolded_sound h)) (soundR_next (startMove_sound (writeSlot_sound h1)))

theorem execRehearsalComplete_sound {durationUs rateMb powerMw : Nat} : SoundR (execRehearsalComplete durationUs rateMb powerMw s) := by
  unfold execRehearsalComplete
  split
  · exact soundR_next h
  · extract_lets _ _ s1
    have h1 : Sound s1 := State.onDeckle_sound (rehearsed_sound h)
    exact soundR_next (endRehearsal_sound h1)

/-! ### The commands of Machine/FeltLinks -/

theorem execFeltLinkTrained_sound {link : Nat} {full ok : Bool} : SoundR (execFeltLinkTrained link full ok s) := by
  unfold execFeltLinkTrained
  refine soundR_ite ?_ ?_
  · refine soundR_ite (soundR_next h) (soundR_ite (soundR_next (setLink_sound h)) ?_)
    extract_lets _ s1
    have h1 : Sound s1 := setLink_sound h
    exact soundR_next (ite_sound (fenceFelt_sound h1) h1)
  · refine soundR_ite (soundR_next h) (soundR_ite ?_ (soundR_next (fastFails_sound h)))
    extract_lets s2
    have h2 : Sound s2 := setLink_sound h
    exact soundR_next (pump_sound (ite_sound h2 (State.emit_sound h2)))

theorem execFeltLinkSilence_sound {link : Nat} : SoundR (execFeltLinkSilence link s) := soundR_next (linkFalls_sound h)

theorem execFastRetrainTimeout_sound {link : Nat} : SoundR (execFastRetrainTimeout link s) := soundR_next (fastFails_sound h)

theorem execFeltFlitReceived_sound {link : Nat} {flit : Flit} {crc : U32} {fecOk tagOk : Bool} : SoundR
    (execFeltFlitReceived link flit crc fecOk tagOk s) := by
  unfold execFeltFlitReceived
  refine soundR_ite (soundR_next h) (soundR_ite (soundR_next (flitBad_sound (setLink_sound h))) (soundR_ite ?_ ?_))
  · extract_lets s1 s2
    have h1 : Sound s1 := flitBad_sound h
    have h2 : Sound s2 := ite_sound (State.event_sound h1) h1
    exact soundR_ite (soundR_next (linkFalls_sound (setLink_sound h2))) (soundR_next (setLink_sound h2))
  · extract_lets s3 _ _ s4
    have h3 : Sound s3 := setLink_sound h
    refine soundR_ite (soundR_next (setLink_sound h3)) ?_
    have h4 : Sound s4 := takeAck_sound (setLink_sound (ite_sound (linkRises_sound h3) h3))
    refine soundR_ite (soundR_next h4) (soundR_ite (soundR_next (takePayload_sound (setLink_sound h4))) ?_)
    exact soundR_ite (soundR_next h4) (soundR_next (flitBad_sound h4))

theorem execFlitAckTimeout_sound {link sequence : Nat} : SoundR (execFlitAckTimeout link sequence s) :=
  soundR_ite (soundR_next h) (soundR_next (replayFlits_sound h))

/-! ### The commands of Machine/Felt -/

theorem execMirrorWrite_sound {hdr : FeltHdr} {data : LineData} {be : BitVec 64} : SoundR (execMirrorWrite hdr data be s) := by
  unfold execMirrorWrite
  refine soundR_ite (soundR_next h) (soundR_ite (soundR_next (discardMsg_sound h)) ?_)
  split
  · exact soundR_next (refuseMsg_sound h)
  · extract_lets _
    split
    · exact soundR_next (discardMsg_sound h)
    · exact soundR_ite (soundR_next (sendFelt_sound (stageTwin_sound h))) (soundR_next (placeMirror_sound h))

theorem execMirrorAck_sound {link : Nat} {tags : List U16} : SoundR (execMirrorAck link tags s) :=
  soundR_next (feltSettles_sound (joinMapping_sound (State.each_sound h fun _ _ h => ackTag_sound h)))

theorem execEpochEnd_sound {epoch origin count : Nat} : SoundR (execEpochEnd epoch origin count s) :=
  soundR_ite (soundR_next h) (soundR_next (applyReady_sound (State.onFelt_sound h)))

theorem execEpochApplied_sound {epoch : Nat} : SoundR (execEpochApplied epoch s) := by
  unfold execEpochApplied
  refine soundR_ite (soundR_next h) (soundR_next (finishCloses_sound (detachIfDue_sound (State.onFelt_sound (State.onEpochs_sound h fun h => ?_)))))
  obtain ⟨⟨hm, hd, hr⟩, -⟩ := h
  exact ⟨by dsimp only; omega, hd, hr⟩

theorem execTwinRead_sound {hdr : FeltHdr} : SoundR (execTwinRead hdr s) := by
  unfold execTwinRead
  refine soundR_ite (soundR_next h) (soundR_ite (soundR_next (discardMsg_sound h)) ?_)
  dsimp only
  split
  · exact soundR_next (sendFelt_sound h)
  · exact soundR_next (sendFelt_sound h)

theorem execTwinReadData_sound {tag : U16} {data : Line} : SoundR (execTwinReadData tag data s) := by
  unfold execTwinReadData
  refine soundR_ite (soundR_next (discardAny_sound h)) ?_
  split
  · exact soundR_next (twinServed_sound (answerRead_sound h))
  · split
    · exact soundR_next (endRecovery_sound h)
    · exact soundR_next h

theorem execNotResident_sound {tag : U16} : SoundR (execNotResident tag s) := by
  unfold execNotResident
  refine soundR_ite (soundR_next (discardAny_sound h)) ?_
  split
  · exact soundR_next (twinFails_sound h)
  · split
    · exact soundR_next (endRecovery_sound h)
    · exact soundR_next h

theorem execPageCopy_sound {hdr : FeltHdr} {fragment : Nat} {data : LineData} : SoundR (execPageCopy hdr fragment data s) := by
  unfold execPageCopy
  refine soundR_ite (soundR_next h) (soundR_ite (soundR_next (discardMsg_sound h)) ?_)
  refine soundR_ite (soundR_ite (soundR_next (refuseMsg_sound h)) (soundR_next (takeFragment_sound (dropBurst_sound h)))) ?_
  split
  · exact soundR_ite (soundR_next (takeFragment_sound h)) (soundR_next (setLink_sound h))
  · exact soundR_next (setLink_sound h)

theorem execPageAck_sound {region : U16} {page : Nat} : SoundR (execPageAck region page s) := by
  unfold execPageAck
  extract_lets _ s1 s2
  refine soundR_ite (soundR_next (discardAny_sound h)) ?_
  have h1 : Sound s1 := pageAcked_sound h
  refine soundR_ite (soundR_next (joinMapping_sound h1)) ?_
  have h2 : Sound s2 := State.onFelt_sound h1
  exact soundR_next (joinMapping_sound (checkResync_sound (progressLong_sound h2)))

theorem execPageZero_sound {hdr : FeltHdr} : SoundR (execPageZero hdr s) := by
  unfold execPageZero
  refine soundR_ite (soundR_next h) (soundR_ite (soundR_next (discardMsg_sound h)) ?_)
  split
  · exact soundR_next (refuseMsg_sound h)
  · split
    · exact soundR_next (discardMsg_sound h)
    · exact soundR_next (sendOne_sound (State.onFelt_sound (progressLong_sound (putEntry_sound (zeroPage_sound h)))))

theorem execBurstAbort_sound {link : Nat} {tag : U16} : SoundR (execBurstAbort link tag s) := by
  unfold execBurstAbort
  split
  · exact soundR_next h
  · split
    · split
      · next heq16 => exact soundR_next (sendFelt_sound (setLink_sound ((takeTag_sound h).out _ _ heq16)))
    · exact soundR_next h

theorem execMirrorRefused_sound {region : U16} {tags : List U16} : SoundR (execMirrorRefused region tags s) := by
  unfold execMirrorRefused
  refine soundR_ite (soundR_next (discardAny_sound h)) ?_
  split
  · exact soundR_next h
  · refine soundR_ite (soundR_next h) ?_
    extract_lets _ s1 s2
    have h1 : Sound s1 := State.onFelt_sound (State.each_sound h fun _ _ h => endRefused_sound h)
    have h2 : Sound s2 := setRegion_sound h1
    exact soundR_next (sendOne_sound (sendList_sound h2))

theorem execHello_sound {link : Nat} {bytes : List Byte} : SoundR (execHello link bytes s) := by
  unfold execHello
  refine soundR_ite (soundR_next h) (soundR_ite (soundR_next (discardMsg_sound h)) ?_)
  split
  · extract_lets s1 _ s2
    have h1 : Sound s1 := State.event_sound (State.onFelt_sound h)
    have h2 : Sound s2 := ite_sound (holdLink_sound h1) h1
    exact soundR_next (ite_sound (attachFails_sound h2) h2)
  · exact soundR_ite (soundR_next (joinMapping_sound (State.onFelt_sound h))) (soundR_next (formPair_sound h))

theorem execRegionList_sound {link part parts : Nat} {listNumber : U32} {entries : List ListEntry} : SoundR
    (execRegionList link part parts listNumber entries s) := by
  unfold execRegionList
  refine soundR_ite (soundR_next h) (soundR_ite (soundR_next (discardMsg_sound h)) (soundR_ite (soundR_next h) ?_))
  extract_lets _ _ s1
  have h1 : Sound s1 := State.onFelt_sound h
  exact soundR_ite (soundR_next h1) (soundR_next (reconcileAll_sound (State.onFelt_sound h1)))

theorem execStatus_sound {link pressure : Nat} {energy : Energy} {closed _mirrored _sentAt : Nat} : SoundR
    (execStatus link pressure energy closed _mirrored _sentAt s) :=
  soundR_ite (soundR_next h) (soundR_next (slewTime_sound (measureOffset_sound (State.onFelt_sound h))))

theorem execCommitNotice_sound {_time _epoch : Nat} : SoundR (execCommitNotice _time _epoch s) := by
  unfold execCommitNotice
  refine soundR_ite (soundR_next h) ?_
  split
  · exact soundR_next (rindWrite_sound h)
  · exact soundR_next (State.each_sound (twinLoss_sound h) fun _ _ h => requestClose_sound h)
  · exact soundR_next (State.each_sound (twinLoss_sound h) fun _ _ h => requestClose_sound h)
  · exact soundR_next h
  · exact soundR_next h

theorem execRegionOp_sound {region : U16} {op : RegionOpKind} : SoundR (execRegionOp region op s) := by
  unfold execRegionOp
  refine soundR_ite (soundR_next h) ?_
  split
  · exact soundR_next (finishCloses_sound (takeAnswer_sound h))
  · split
    · exact soundR_next (sendOne_sound (ite_sound (State.onFelt_sound (reserveRuns_sound h)) h))
  · split
    · exact soundR_next (sendOne_sound (ite_sound (State.onFelt_sound (reserveRuns_sound h)) h))
  · split
    · exact soundR_next (sendOne_sound (ite_sound (State.onFelt_sound (reserveRuns_sound h)) h))
  · split
    · exact soundR_next (sendOne_sound (ite_sound (State.onFelt_sound (reserveRuns_sound h)) h))

theorem execTokenOp_sound {region : U16} {kind : TokenKind} {generation : U32} : SoundR (execTokenOp region kind generation s) := by
  unfold execTokenOp
  refine soundR_ite (soundR_next h) ?_
  split
  · exact soundR_next h
  · refine soundR_ite (soundR_next h) ?_
    split
    · exact soundR_next (sendOne_sound (takeToken_sound h))
    · split
      · extract_lets s1
        have h1 : Sound s1 := State.onFelt_sound h
        exact soundR_next (finishCloses_sound (answerJoined_sound (ite_sound (takeToken_sound h1) h1)))
      · exact soundR_next h
    · exact soundR_next (ite_sound (takeToken_sound h) h)

theorem execClose_sound {epoch : Nat} : SoundR (execClose epoch s) := by
  unfold execClose
  refine soundR_ite (soundR_next h) ?_
  split
  · next c e =>
    have hc := h.running_lt e
    exact soundR_next (ite_sound (setRunning_sound h hc) h)
  · exact soundR_next (ite_sound (startClose_sound h) h)

theorem execDetach_sound : SoundR (execDetach s) := soundR_next (ite_sound (holdLinks_sound (partPair_sound h)) h)

theorem execListRequest_sound : SoundR (execListRequest s) := soundR_next (ite_sound (sendList_sound h) h)

theorem execBurstTimeout_sound {link : Nat} {tag : U16} : SoundR (execBurstTimeout link tag s) :=
  soundR_next (ite_sound (abortBurst_sound h) h)

theorem execRegionListTimeout_sound : SoundR (execRegionListTimeout s) :=
  soundR_ite (soundR_next h) (soundR_next (sendOne_sound (State.onFelt_sound h)))

theorem execLinkingTimeout_sound : SoundR (execLinkingTimeout s) := by
  unfold execLinkingTimeout
  refine soundR_ite (soundR_next h) ?_
  split
  · exact soundR_next (attachFails_sound h)
  · exact soundR_next (ite_sound h (attachFails_sound h))

theorem execFeltTimeout_sound : SoundR (execFeltTimeout s) := by
  unfold execFeltTimeout
  refine soundR_ite (soundR_next h) ?_
  extract_lets s1
  have h1 : Sound s1 := twinLoss_sound h
  exact soundR_next (ite_sound (linksOff_sound h1) h1)

theorem execStatusSendTick_sound : SoundR (execStatusSendTick s) := soundR_next (ite_sound (sendAll_sound h) h)

theorem execResyncPageSend_sound {region : U16} {page : Nat} : SoundR (execResyncPageSend region page s) := by
  unfold execResyncPageSend
  refine soundR_ite (soundR_next h) ?_
  split
  · exact soundR_next h
  · extract_lets _ s1 _
    refine soundR_ite (soundR_next h) ?_
    have h1 : Sound s1 := touchDirectory_sound h
    split
    · next heq11 =>
        extract_lets s2
        have h2 : Sound s2 := State.onFelt_sound ((takeTag_sound h1).out _ _ heq11)
        exact soundR_ite (soundR_next (sendFelt_sound h2)) (soundR_next (sendFelt_sound h2))

/-! ### The commands of Machine/Cipher -/

theorem execRekeySweepStep_sound {region : U16} {page : Nat} {loc : BitVec 40} : SoundR (execRekeySweepStep region page loc s) := by
  unfold execRekeySweepStep
  split
  · exact soundR_next h
  · extract_lets _
    split
    · exact soundR_next (endSweep_sound h)
    · refine soundR_ite (soundR_next (endSweep_sound h)) ?_
      exact soundR_next (endSweep_sound (cipherRequest_sound (putEntry_sound (writeSlot_sound h))))

theorem execKeySlotFreed_sound {slot : Nat} : SoundR (execKeySlotFreed slot s) := by
  unfold execKeySlotFreed
  split
  · exact soundR_ite (soundR_next (State.onCipher_sound h)) (soundR_next h)
  · exact soundR_next h

theorem execCipherPassComplete_sound {slot : Option Nat} {core blocks : Nat} {disagreeing : Option Nat} : SoundR
    (execCipherPassComplete slot core blocks disagreeing s) := by
  unfold execCipherPassComplete
  extract_lets _ s1 s2
  have h1 : Sound s1 := State.onCipher_sound (takeCipher_sound h)
  have h2 : Sound s2 := by
    dsimp only [s2]
    split
    · exact countUsage_sound h1
    · exact h1
  refine soundR_ite (soundR_next h) (soundR_next ?_)
  split
  · exact withInjection_sound h2 fun _ h => fenceCore_sound h
  · exact h2

theorem execCipherSelfTestTick_sound {core : Nat} {pass : Bool} : SoundR (execCipherSelfTestTick core pass s) :=
  soundR_next (ite_sound h (fenceCore_sound h))

/-! ### The commands of Machine/Cave -/

theorem execSensorSample_sound {sensor : Nat} {temp : Int} {fault : Bool} : SoundR (execSensorSample sensor temp fault s) := by
  unfold execSensorSample
  refine soundR_ite (soundR_next h) ?_
  exact soundR_ite (soundR_next (setSensor_sound h)) (soundR_next (judgeSensor_sound (convert_sound h)))

theorem execSpdHubReadTick_sound {channel slot : Nat} {temp : Int} : SoundR (execSpdHubReadTick channel slot temp s) :=
  soundR_next (ite_sound h (judgeChannel_sound (convert_sound h)))

theorem execMr4ReadTick_sound {channel rank : Nat} {temp : Option Int} : SoundR (execMr4ReadTick channel rank temp s) :=
  soundR_ite (soundR_next h) (soundR_next (judgeChannel_sound (setDram_sound h)))

theorem execSensorContinuousTimeout_sound {sensor : Nat} : SoundR (execSensorContinuousTimeout sensor s) :=
  soundR_next (ite_sound (setSensor_sound h) h)

theorem execSensorContinuousRetry_sound {sensor : Nat} {arrived : Bool} : SoundR (execSensorContinuousRetry sensor arrived s) :=
  soundR_next (ite_sound (setSensor_sound h) h)

theorem execSensorPollTick_sound {sensor : Nat} {temp : Option Int} : SoundR (execSensorPollTick sensor temp s) := by
  unfold execSensorPollTick
  refine soundR_ite (soundR_next h) ?_
  split
  · exact soundR_next (judgeSensor_sound (convert_sound h))
  · exact soundR_next (judgeSensor_sound (failSensor_sound h))

theorem execThrottleStepTimer_sound : SoundR (execThrottleStepTimer s) := soundR_next (ite_sound (takeStep_sound h) h)

theorem execThrottleUnwindTimer_sound : SoundR (execThrottleUnwindTimer s) := soundR_next (ite_sound (undoStep_sound h) h)

/-! ### The commands of Machine/Power -/

theorem execThermalRestartHold_sound : SoundR (execThermalRestartHold s) :=
  soundR_next (ite_sound (toGrant_sound (State.onCave_sound h)) h)

theorem execVaoPowerOn_sound : SoundR (execVaoPowerOn s) := by
  unfold execVaoPowerOn
  refine soundR_ite (soundR_next h) ?_
  extract_lets s1 _ s2
  have h1 : Sound s1 := State.onPower_sound h
  have h2 : Sound s2 := State.onSal_sound h1
  exact soundR_next (ite_sound (State.event_sound h2) h2)

theorem execVaoBrownOut_sound : SoundR (execVaoBrownOut s) := by
  unfold execVaoBrownOut
  refine soundR_ite (soundR_next h) ?_
  extract_lets s1
  have h1 : Sound s1 := ite_sound (leaveGeneration_sound h) h
  exact soundR_next (svLost_sound (islandsReset_sound (ledgerStop_sound (tearRecords_sound (tearRind_sound (State.onCouch_sound h1))))))

theorem execCalenderGrant_sound : SoundR (execCalenderGrant s) := by
  unfold execCalenderGrant
  extract_lets s1
  have h1 : Sound s1 := State.onPower_sound h
  exact soundR_next (ite_sound (toPosition_sound h1) h1)

theorem execChainBypassTimeout_sound : SoundR (execChainBypassTimeout s) := by
  unfold execChainBypassTimeout
  split
  · exact soundR_next (bypassChain_sound h)
  · exact soundR_next (State.onPower_sound h)
  · exact soundR_next h
  · exact soundR_next h
  · exact soundR_next h
  · exact soundR_next h
  · exact soundR_next h
  · exact soundR_next h
  · exact soundR_next h
  · exact soundR_next h
  · exact soundR_next h

theorem execRailDelayExpiry_sound {rail : Nat} : SoundR (execRailDelayExpiry rail s) := soundR_next (ite_sound (setRail_sound h) h)

theorem execRailPowerGood_sound {rail : Nat} : SoundR (execRailPowerGood rail s) := soundR_next (ite_sound (railGood_sound h) h)

theorem execRailPgTimeout_sound {rail : Nat} : SoundR (execRailPgTimeout rail s) := by
  unfold execRailPgTimeout
  refine soundR_ite (soundR_next h) (soundR_ite (soundR_next (railGood_sound h)) ?_)
  extract_lets s1
  have h1 : Sound s1 := railRecord_sound h
  split
  · exact soundR_next (startPowerDown_sound (State.onCouch_sound h1))
  · exact soundR_next (State.onPower_sound (dropRail_sound h1))

theorem execCaDnOutDelay_sound {held : Bool} : SoundR (execCaDnOutDelay held s) :=
  soundR_ite (soundR_next h) (soundR_next (bootStart_sound (State.onPower_sound h)))

theorem execCaDnInChange_sound {asserted : Bool} : SoundR (execCaDnInChange asserted s) := soundR_next (State.onPower_sound h)

theorem execPowerDownRailStep_sound : SoundR (execPowerDownRailStep s) := by
  unfold execPowerDownRailStep
  split
  · exact soundR_next (fallStep_sound h)
  · exact soundR_next h
  · exact soundR_next h
  · exact soundR_next h
  · exact soundR_next h
  · exact soundR_next h
  · exact soundR_next h
  · exact soundR_next h
  · exact soundR_next h
  · exact soundR_next h
  · exact soundR_next h

theorem execOffTimeExpiry_sound : SoundR (execOffTimeExpiry s) := by
  unfold execOffTimeExpiry
  refine soundR_ite (soundR_next h) (soundR_ite (soundR_next (State.onPower_sound h)) ?_)
  extract_lets s1
  have h1 : Sound s1 := State.onPower_sound h
  exact soundR_next (ite_sound (inputArrives_sound h1) h1)

theorem execRailFault_sound {f : RailDrop} : SoundR (execRailFault f s) := by
  unfold execRailFault
  extract_lets _ _ s1 _ s2 _
  refine soundR_ite (soundR_next h) (soundR_ite (soundR_next (State.onPower_sound h)) ?_)
  have h1 : Sound s1 := setRail_sound h
  have h2 : Sound s2 := railRecord_sound (stampFall_sound (ite_sound (railSenseInput_sound h1) (railPgInput_sound h1)))
  refine soundR_ite (soundR_next (failChannel_sound (dropRail_sound h2))) (soundR_ite ?_ ?_)
  · exact soundR_next (State.each_sound (dropRail_sound h2) fun _ _ h => failFlash_sound h)
  · exact soundR_next (coreFault_sound h2)

theorem execMonitorInputFall_sound {input : Nat} : SoundR (execMonitorInputFall input s) := by
  unfold execMonitorInputFall
  refine soundR_ite (soundR_next h) ?_
  exact soundR_next (State.event_sound (rindWrite_sound (stampFall_sound (clearFall_sound (State.onPower_sound h)))))

theorem execProgressWatchTimeout_sound : SoundR (execProgressWatchTimeout s) :=
  soundR_ite (soundR_next h) (soundR_next (startPowerDown_sound (leaveGeneration_sound (rindWrite_sound h))))

theorem execServiceButtonPress_sound : SoundR (execServiceButtonPress s) :=
  soundR_next (ite_sound h (wakeDown_sound (State.onPower_sound h)))

theorem execServiceButtonRelease_sound : SoundR (execServiceButtonRelease s) := by
  unfold execServiceButtonRelease
  split
  · exact soundR_next h
  · extract_lets _ _ s1
    have h1 : Sound s1 := State.onPower_sound h
    exact soundR_next (ite_sound (bootChoose_sound h1) h1)

theorem execButtonHold3s_sound : SoundR (execButtonHold3s s) := by
  unfold execButtonHold3s
  refine soundR_ite (soundR_next h) ?_
  extract_lets s1
  have h1 : Sound s1 := State.onPower_sound h
  exact soundR_next (ite_sound (State.event_sound h1) h1)

theorem execButtonStuckTimeout_sound : SoundR (execButtonStuckTimeout s) := by
  unfold execButtonStuckTimeout
  refine soundR_ite (soundR_next h) ?_
  extract_lets _ s1
  have h1 : Sound s1 := State.event_sound (State.onPower_sound h)
  exact soundR_next (ite_sound (bootChoose_sound h1) h1)

theorem execPpsInputEdge_sound {rising : Bool} {time : Nat} : SoundR (execPpsInputEdge rising time s) :=
  soundR_next (ite_sound (State.onPower_sound h) h)

theorem execPpsOutputSecond_sound : SoundR (execPpsOutputSecond s) := soundR_next (State.onPower_sound h)

/-! ### The commands of Machine/Boot -/

theorem execBistWaveComplete_sound {_wave : Nat} {w : BistWave} : SoundR (execBistWaveComplete _wave w s) := by
  unfold execBistWaveComplete
  refine soundR_ite (soundR_next h) ?_
  exact soundR_next (State.each_sound (ite_sound (State.onLedger_sound h fun h => h.2) h) fun _ _ h => ite_sound (fenceAtBoot_sound h) h)

theorem execImageLoadComplete_sound {genuine : Bool} : SoundR (execImageLoadComplete genuine s) := by
  unfold execImageLoadComplete
  refine soundR_ite (soundR_next h) ?_
  extract_lets _ _
  split
  · exact soundR_next (loadFails_sound h)
  · extract_lets _ s1
    refine soundR_ite ?_ (soundR_next (loadFails_sound h))
    have h1 : Sound s1 := setSlot_sound h
    exact soundR_next (State.onLedger_sound (ite_sound (recovery_sound h1) h1) fun h => h.2)

theorem execReadyCore_sound : SoundR (execReadyCore s) := by
  unfold execReadyCore
  extract_lets _ _ s1
  refine soundR_ite (soundR_next h) (soundR_ite (soundR_next (ite_sound h (State.event_sound (State.onLog_sound h)))) ?_)
  have h1 : Sound s1 := rindComplete_sound (blowFuses_sound (reserveArea_sound (State.onLedger_sound (State.onPower_sound h) fun h =>
      h.2)))
  exact soundR_ite (soundR_next (State.onCmd_sound h1)) (soundR_next (State.onCmd_sound h1))

theorem execBootWatchdogExpiry_sound : SoundR (execBootWatchdogExpiry s) := by
  unfold execBootWatchdogExpiry
  refine soundR_ite (soundR_next h) ?_
  extract_lets _ s1
  have h1 : Sound s1 := islandsReset_sound (State.onCmd_sound h)
  refine soundR_ite (soundR_next (bootStart_sound h1)) ?_
  refine soundR_ite (soundR_next (State.onLedger_sound (bootStart_sound h1) fun h => h.2)) (soundR_ite (soundR_next
      (State.onLedger_sound h1 fun h => h.2)) ?_)
  exact soundR_next (loadFails_sound (State.onLedger_sound h1 fun h => h.2))

theorem execMgmtEngineFeedTimeout_sound {engine : Nat} : SoundR (execMgmtEngineFeedTimeout engine s) :=
  soundR_ite (soundR_next h) (soundR_next (fenceEngine_sound (State.onUnits_sound h)))

theorem execServiceWatchdogExpiry_sound : SoundR (execServiceWatchdogExpiry s) :=
  soundR_ite (soundR_next h) (soundR_next (warmReset_sound (State.event_sound h)))

/-! ### The commands of Machine/Ledger -/

theorem execLedgerWordProgram_sound {address : BitVec 25} {data : U16} : SoundR (execLedgerWordProgram address data s) :=
  soundR_next (askLedger_sound h)

theorem execLedgerSectorErase_sound {address : BitVec 25} {key : U16} : SoundR (execLedgerSectorErase address key s) :=
  soundR_next (askLedger_sound h)

theorem execLedgerIdentify_sound : SoundR (execLedgerIdentify s) := soundR_next (askLedger_sound h)

theorem execLedgerReset_sound : SoundR (execLedgerReset s) := soundR_next (ledgerStop_sound h)

theorem execLedgerOtherWrite_sound {address : BitVec 25} {data : U16} : SoundR (execLedgerOtherWrite address data s) :=
  soundR_next (ledgerWrite_sound h)

theorem execLedgerStatusRead_sound : SoundR (execLedgerStatusRead s) :=
  soundR_next (ite_sound (State.onLedger_sound (State.emit_sound h) fun h => h.2) h)

theorem execLedgerOpComplete_sound {verifyOk : Bool} : SoundR (execLedgerOpComplete verifyOk s) := by
  unfold execLedgerOpComplete
  split
  · exact soundR_next h
  · extract_lets s1
    have h1 : Sound s1 := ite_sound h (State.onLedger_sound (growBadSector_sound h) fun h => h.2)
    exact soundR_next (fwErased_sound (setLedger_sound (ledgerApply_sound h1)))

theorem execLedgerEraseLimit_sound : SoundR (execLedgerEraseLimit s) := by
  unfold execLedgerEraseLimit
  split
  · extract_lets _ s1 s2
    have h2 : Sound s2 := spoilWords_sound (eraseHeld_sound (eraseArray_sound (growBadSector_sound h)))
    clear_value s2
    exact soundR_next (fwErased_sound (State.onLedger_sound h2 fun h => h.2))
  all_goals exact soundR_next h

theorem execVaoSampleTick_sound {millivolts : Nat} : SoundR (execVaoSampleTick millivolts s) := by
  unfold execVaoSampleTick
  extract_lets s1 _ _
  have h1 : Sound s1 := State.onPower_sound h
  refine soundR_ite (soundR_next (State.onLedger_sound h1 fun h => h.2)) (soundR_ite ?_ ?_)
  · exact soundR_ite (soundR_next (State.onLedger_sound h1 fun h => h.2)) (soundR_next h1)
  · exact soundR_next (State.onLedger_sound h1 fun h => h.2)

/-! ### The commands of Machine/Service -/

theorem execEventArrival_sound {o : Occurrence} : SoundR (execEventArrival o s) := soundR_next (eventArrives_sound (detected_sound h))

/-! ### The commands of Machine/EventLog -/

theorem execCoalesceWindowClose_sound {key : Nat} : SoundR (execCoalesceWindowClose key s) := by
  unfold execCoalesceWindowClose
  split
  · exact soundR_next h
  · refine soundR_ite (soundR_next h) ?_
    exact soundR_ite (soundR_next (State.onLog_sound h)) (soundR_next (writeSummary_sound (State.onLog_sound h)))

theorem execTokenRefill_sound {cls : Nat} : SoundR (execTokenRefill cls s) := by
  unfold execTokenRefill
  extract_lets s1
  have h1 : Sound s1 := State.onLog_sound h
  split
  · exact soundR_next (writeSummary_sound h1)
  · exact soundR_next h1

theorem execDropSummaryTick_sound : SoundR (execDropSummaryTick s) := soundR_next (State.each_sound h fun _ _ h => dropSummary_sound h)

/-! ### The commands of Machine/Service -/

theorem execInjectionTimeout_sound {unit : UnitId} : SoundR (execInjectionTimeout unit s) := soundR_next (endInjections_sound h)

theorem execUnitTestComplete_sound {unit : UnitId} {pass : Bool} : SoundR (execUnitTestComplete unit pass s) := by
  unfold execUnitTestComplete
  refine soundR_ite (soundR_next h) ?_
  extract_lets _ _ s1
  have h1 : Sound s1 := endLongOf_sound (setUnit_sound h)
  exact soundR_next (ite_sound (unforce_sound h1) h1)

/-! ### The commands of Machine/Firmware -/

theorem execFwVerifyComplete_sound {genuine : Bool} : SoundR (execFwVerifyComplete genuine s) := by
  unfold execFwVerifyComplete
  refine soundR_ite (soundR_next h) ?_
  extract_lets _
  split
  · exact soundR_next (endLongOf_sound (setSlot_sound h))
  · exact soundR_ite (soundR_next (endLongOf_sound (setSlot_sound h))) (soundR_next (endLongOf_sound (setSlot_sound h)))

/-! ### The commands of Machine/Epochs -/

theorem execSnapshotScanComplete_sound {region : U16} : SoundR (execSnapshotScanComplete region s) := by
  unfold execSnapshotScanComplete
  extract_lets _
  split
  · exact soundR_next (endLongOf_sound (setRegion_sound h))
  · exact soundR_next h

/-! ### The commands of Machine/Cipher -/

theorem execStarterKeyProgrammingDone_sound {ok : Bool} : SoundR (execStarterKeyProgrammingDone ok s) := by
  unfold execStarterKeyProgrammingDone
  split
  · exact soundR_next h
  · extract_lets s1
    have h1 : Sound s1 := State.onCipher_sound h
    exact soundR_next (finishCloses_sound (ite_sound (answerJoined_sound h1) (answerJoined_sound h1)))

/-! ### The commands of Machine/Transports -/

theorem execJtagInstruction_sound {instruction : Jtag} : SoundR (execJtagInstruction instruction s) :=
  soundR_next (State.emit_sound (State.onLedger_sound h fun h => h.2))

/-- Every command that answers a next state answers a sound one. -/
theorem exec_sound (i : Instr) : SoundR (exec i s) := by
  cases i with
  | identify => exact execIdentify_sound h
  | sessionOpen => exact execSessionOpen_sound h
  | sessionClose => exact execSessionClose_sound h
  | nop => exact execNop_sound h
  | getReadyState => exact execGetReadyState_sound h
  | resetSession => exact execResetSession_sound h
  | resetPort => exact execResetPort_sound h
  | resetUnit => exact execResetUnit_sound h
  | resetWarm => exact execResetWarm_sound h
  | resetCold => exact execResetCold_sound h
  | paramWrite => exact execParamWrite_sound h
  | paramRead => exact execParamRead_sound h
  | configSeal => exact execConfigSeal_sound h
  | configUnseal => exact execConfigUnseal_sound h
  | regionCreate => exact execRegionCreate_sound h
  | regionDestroy => exact execRegionDestroy_sound h
  | regionResize => exact execRegionResize_sound h
  | regionSetFlags => exact execRegionSetFlags_sound h
  | regionQuery => exact execRegionQuery_sound h
  | regionGrant => exact execRegionGrant_sound h
  | capacityAdd => exact execCapacityAdd_sound h
  | capacityDrain => exact execCapacityDrain_sound h
  | tierPin => exact execTierPin_sound h
  | tierUnpin => exact execTierUnpin_sound h
  | tierPrefetch => exact execTierPrefetch_sound h
  | cacheControlSet => exact execCacheControlSet_sound h
  | cacheControlQuery => exact execCacheControlQuery_sound h
  | zeroLines => exact execZeroLines_sound h
  | watermarkClose => exact execWatermarkClose_sound h
  | watermarkQuery => exact execWatermarkQuery_sound h
  | flushRegion => exact execFlushRegion_sound h
  | snapshotBegin => exact execSnapshotBegin_sound h
  | snapshotEnd => exact execSnapshotEnd_sound h
  | twinAttach => exact execTwinAttach_sound h
  | twinDetach => exact execTwinDetach_sound h
  | twinStatus => exact execTwinStatus_sound h
  | twinResync => exact execTwinResync_sound h
  | twinRoleHandover => exact execTwinRoleHandover_sound h
  | twinRoleForce => exact execTwinRoleForce_sound h
  | energyStatus => exact execEnergyStatus_sound h
  | energyLearnStart => exact execEnergyLearnStart_sound h
  | energyLearnAbort => exact execEnergyLearnAbort_sound h
  | energyLearnedWrite => exact execEnergyLearnedWrite_sound h
  | deckleStatus => exact execDeckleStatus_sound h
  | couchRehearse => exact execCouchRehearse_sound h
  | thermalStatus => exact execThermalStatus_sound h
  | sensorExclude => exact execSensorExclude_sound h
  | sensorInclude => exact execSensorInclude_sound h
  | railStatus => exact execRailStatus_sound h
  | rindRead => exact execRindRead_sound h
  | orderlyPowerDown => exact execOrderlyPowerDown_sound h
  | keySlotBind => exact execKeySlotBind_sound h
  | keySlotRetire => exact execKeySlotRetire_sound h
  | keyStatus => exact execKeyStatus_sound h
  | starterProvision => exact execStarterProvision_sound h
  | eventRead => exact execEventRead_sound h
  | eventAck => exact execEventAck_sound h
  | traceStart => exact execTraceStart_sound h
  | traceStop => exact execTraceStop_sound h
  | traceRead => exact execTraceRead_sound h
  | traceClear => exact execTraceClear_sound h
  | alarmMask => exact execAlarmMask_sound h
  | unitFence => exact execUnitFence_sound h
  | unitTest => exact execUnitTest_sound h
  | unitStatusQuery => exact execUnitStatusQuery_sound h
  | unitReturn => exact execUnitReturn_sound h
  | channelOffline => exact execChannelOffline_sound h
  | channelOnline => exact execChannelOnline_sound h
  | errorInject => exact execErrorInject_sound h
  | fwDownload => exact execFwDownload_sound h
  | fwVerify => exact execFwVerify_sound h
  | fwActivate => exact execFwActivate_sound h
  | fwConfirm => exact execFwConfirm_sound h
  | fwStatus => exact execFwStatus_sound h
  | diagnosticOpcode => exact execDiagnosticOpcode_sound h
  | kolnyxWrite => exact execKolnyxWrite_sound h
  | kolnyxRead => exact execKolnyxRead_sound h
  | mctpMessage => exact execMctpMessage_sound h
  | setEndpointId => exact execSetEndpointId_sound h
  | getEndpointId => exact execGetEndpointId_sound h
  | getMctpVersionSupport => exact execGetMctpVersionSupport_sound h
  | getMessageTypeSupport => exact execGetMessageTypeSupport_sound h
  | getVendorDefinedMessageSupport => exact execGetVendorDefinedMessageSupport_sound h
  | mctpOtherControlMessage _ _ command => exact execMctpOtherControlMessage_sound (_command := command) h
  | udpDatagram => exact execUdpDatagram_sound h
  | arpFrame => exact execArpFrame_sound h
  | icmpEchoRequest => exact execIcmpEchoRequest_sound h
  | reassemblyTimeout => exact execReassemblyTimeout_sound h
  | sessionIdleTimeout => exact execSessionIdleTimeout_sound h
  | progressReportTick => exact execProgressReportTick_sound h
  | cxlMemRead => exact execCxlMemRead_sound h
  | cxlMemWrite => exact execCxlMemWrite_sound h
  | hdmDecoderCommit => exact execHdmDecoderCommit_sound h
  | getLdInfo => exact execGetLdInfo_sound h
  | getLdAllocations => exact execGetLdAllocations_sound h
  | setLdAllocations => exact execSetLdAllocations_sound h
  | getDcExtentList => exact execGetDcExtentList_sound h
  | dcReleaseResponse => exact execDcReleaseResponse_sound h
  | releaseTimeout => exact execReleaseTimeout_sound h
  | gpfPhase2Request => exact execGpfPhase2Request_sound h
  | setShutdownState head ld _ => exact execSetShutdownState_sound (_head := head) (_ld := ld) h
  | getEventRecords => exact execGetEventRecords_sound h
  | clearEventRecords => exact execClearEventRecords_sound h
  | getEventInterruptPolicy => exact execGetEventInterruptPolicy_sound h
  | setEventInterruptPolicy => exact execSetEventInterruptPolicy_sound h
  | hostLinkUp => exact execHostLinkUp_sound h
  | hostLinkDown => exact execHostLinkDown_sound h
  | wireBeatReceived => exact execWireBeatReceived_sound h
  | wireNakReceived => exact execWireNakReceived_sound h
  | retryResponse => exact execRetryResponse_sound h
  | engineFaultDetected => exact execEngineFaultDetected_sound h
  | engineHeartbeatTimeout => exact execEngineHeartbeatTimeout_sound h
  | spareRoleResumed => exact execSpareRoleResumed_sound h
  | islandFrequencyChangeDone => exact execIslandFrequencyChangeDone_sound h
  | epochCloseComplete => exact execEpochCloseComplete_sound h
  | autoCloseIntervalExpiry => exact execAutoCloseIntervalExpiry_sound h
  | deckleRecompute => exact execDeckleRecompute_sound h
  | writeCreditIdleTimeout => exact execWriteCreditIdleTimeout_sound h
  | pageChargeMessage => exact execPageChargeMessage_sound h
  | curdFillArrival => exact execCurdFillArrival_sound h
  | evictionOffer => exact execEvictionOffer_sound h
  | dramWriteAck => exact execDramWriteAck_sound h
  | streamTrackerTimeout => exact execStreamTrackerTimeout_sound h
  | frameReclaim => exact execFrameReclaim_sound h
  | pageCleanStart => exact execPageCleanStart_sound h
  | pageCleanComplete => exact execPageCleanComplete_sound h
  | curdDrainComplete => exact execCurdDrainComplete_sound h
  | curdSlicePowerUpDone => exact execCurdSlicePowerUpDone_sound h
  | reamFetchComplete => exact execReamFetchComplete_sound h
  | deadlineMarginExpiry => exact execDeadlineMarginExpiry_sound h
  | dramAccessComplete => exact execDramAccessComplete_sound h
  | caParityAlert => exact execCaParityAlert_sound h
  | refreshIntervalTick => exact execRefreshIntervalTick_sound h
  | refreshWindowExpiry => exact execRefreshWindowExpiry_sound h
  | rowIdleTimeout => exact execRowIdleTimeout_sound h
  | dramTrainingStepComplete => exact execDramTrainingStepComplete_sound h
  | dramFrequencyChangeDone => exact execDramFrequencyChangeDone_sound h
  | scrubRead => exact execScrubRead_sound h
  | rowRepairSpprDone => exact execRowRepairSpprDone_sound h
  | rowRepairHpprDone => exact execRowRepairHpprDone_sound h
  | channelVacateComplete => exact execChannelVacateComplete_sound h
  | spdHubLossTimeout => exact execSpdHubLossTimeout_sound h
  | directoryAreaResizeComplete => exact execDirectoryAreaResizeComplete_sound h
  | pageMoveEnd => exact execPageMoveEnd_sound h
  | flashTrainingComplete => exact execFlashTrainingComplete_sound h
  | nandOperationOverrun => exact execNandOperationOverrun_sound h
  | targetStatusTimeout => exact execTargetStatusTimeout_sound h
  | flashAbsentProbeTick => exact execFlashAbsentProbeTick_sound h
  | stageGatherTimeout => exact execStageGatherTimeout_sound h
  | stageProgramComplete => exact execStageProgramComplete_sound h
  | nandProgramFailure => exact execNandProgramFailure_sound h
  | nandEraseComplete => exact execNandEraseComplete_sound h
  | reclamationStart => exact execReclamationStart_sound h
  | patrolRead => exact execPatrolRead_sound h
  | wearLevelMove => exact execWearLevelMove_sound h
  | channelFormatComplete => exact execChannelFormatComplete_sound h
  | channelDrainComplete => exact execChannelDrainComplete_sound h
  | rebuildStripe => exact execRebuildStripe_sound h
  | rebuildComplete => exact execRebuildComplete_sound h
  | salometerSample => exact execSalometerSample_sound h
  | autoZeroTick => exact execAutoZeroTick_sound h
  | svDiodeSample => exact execSvDiodeSample_sound h
  | lowCurrentModeEntry => exact execLowCurrentModeEntry_sound h
  | lowCurrentComparator => exact execLowCurrentComparator_sound h
  | pkPresentAsserted => exact execPkPresentAsserted_sound h
  | pkPresentDeasserted => exact execPkPresentDeasserted_sound h
  | packSwapTimeout => exact execPackSwapTimeout_sound h
  | packIdentityPoll => exact execPackIdentityPoll_sound h
  | packIdentityReadDone => exact execPackIdentityReadDone_sound h
  | probeStart => exact execProbeStart_sound h
  | probeComplete => exact execProbeComplete_sound h
  | probeAgeTimeout => exact execProbeAgeTimeout_sound h
  | energyEstimateTick => exact execEnergyEstimateTick_sound h
  | fullChargeAnchor => exact execFullChargeAnchor_sound h
  | thermistorDisagreement => exact execThermistorDisagreement_sound h
  | learnTimeout => exact execLearnTimeout_sound h
  | learnInterruptionTimeout => exact execLearnInterruptionTimeout_sound h
  | learnedRecordDailyUpdate => exact execLearnedRecordDailyUpdate_sound h
  | inputChange => exact execInputChange_sound h
  | inputLossDetection => exact execInputLossDetection_sound h
  | inputPresenceConfirmed => exact execInputPresenceConfirmed_sound h
  | commitPoint => exact execCommitPoint_sound h
  | couchCurdDrained => exact execCouchCurdDrained_sound h
  | couchProgramComplete => exact execCouchProgramComplete_sound h
  | holdUpTimeLimit => exact execHoldUpTimeLimit_sound h
  | couchSealWritten => exact execCouchSealWritten_sound h
  | readyLift => exact execReadyLift_sound h
  | foldPage => exact execFoldPage_sound h
  | rehearsalComplete => exact execRehearsalComplete_sound h
  | feltLinkTrained => exact execFeltLinkTrained_sound h
  | feltLinkSilence => exact execFeltLinkSilence_sound h
  | fastRetrainTimeout => exact execFastRetrainTimeout_sound h
  | feltFlitReceived => exact execFeltFlitReceived_sound h
  | flitAckTimeout => exact execFlitAckTimeout_sound h
  | mirrorWrite => exact execMirrorWrite_sound h
  | mirrorAck => exact execMirrorAck_sound h
  | epochEnd => exact execEpochEnd_sound h
  | epochApplied => exact execEpochApplied_sound h
  | twinRead => exact execTwinRead_sound h
  | twinReadData => exact execTwinReadData_sound h
  | notResident => exact execNotResident_sound h
  | pageCopy => exact execPageCopy_sound h
  | pageAck => exact execPageAck_sound h
  | pageZero => exact execPageZero_sound h
  | burstAbort => exact execBurstAbort_sound h
  | mirrorRefused => exact execMirrorRefused_sound h
  | hello => exact execHello_sound h
  | regionList => exact execRegionList_sound h
  | status _ _ _ _ mirrored sentAt => exact execStatus_sound (_mirrored := mirrored) (_sentAt := sentAt) h
  | commitNotice time epoch => exact execCommitNotice_sound (_time := time) (_epoch := epoch) h
  | regionOp => exact execRegionOp_sound h
  | tokenOp => exact execTokenOp_sound h
  | close => exact execClose_sound h
  | detach => exact execDetach_sound h
  | listRequest => exact execListRequest_sound h
  | burstTimeout => exact execBurstTimeout_sound h
  | regionListTimeout => exact execRegionListTimeout_sound h
  | linkingTimeout => exact execLinkingTimeout_sound h
  | feltTimeout => exact execFeltTimeout_sound h
  | statusSendTick => exact execStatusSendTick_sound h
  | resyncPageSend => exact execResyncPageSend_sound h
  | rekeySweepStep => exact execRekeySweepStep_sound h
  | keySlotFreed => exact execKeySlotFreed_sound h
  | cipherPassComplete => exact execCipherPassComplete_sound h
  | cipherSelfTestTick => exact execCipherSelfTestTick_sound h
  | sensorSample => exact execSensorSample_sound h
  | spdHubReadTick => exact execSpdHubReadTick_sound h
  | mr4ReadTick => exact execMr4ReadTick_sound h
  | sensorContinuousTimeout => exact execSensorContinuousTimeout_sound h
  | sensorContinuousRetry => exact execSensorContinuousRetry_sound h
  | sensorPollTick => exact execSensorPollTick_sound h
  | throttleStepTimer => exact execThrottleStepTimer_sound h
  | throttleUnwindTimer => exact execThrottleUnwindTimer_sound h
  | thermalRestartHold => exact execThermalRestartHold_sound h
  | vaoPowerOn => exact execVaoPowerOn_sound h
  | vaoBrownOut => exact execVaoBrownOut_sound h
  | calenderGrant => exact execCalenderGrant_sound h
  | chainBypassTimeout => exact execChainBypassTimeout_sound h
  | railDelayExpiry => exact execRailDelayExpiry_sound h
  | railPowerGood => exact execRailPowerGood_sound h
  | railPgTimeout => exact execRailPgTimeout_sound h
  | caDnOutDelay => exact execCaDnOutDelay_sound h
  | caDnInChange => exact execCaDnInChange_sound h
  | powerDownRailStep => exact execPowerDownRailStep_sound h
  | offTimeExpiry => exact execOffTimeExpiry_sound h
  | railFault => exact execRailFault_sound h
  | monitorInputFall => exact execMonitorInputFall_sound h
  | progressWatchTimeout => exact execProgressWatchTimeout_sound h
  | serviceButtonPress => exact execServiceButtonPress_sound h
  | serviceButtonRelease => exact execServiceButtonRelease_sound h
  | buttonHold3s => exact execButtonHold3s_sound h
  | buttonStuckTimeout => exact execButtonStuckTimeout_sound h
  | ppsInputEdge => exact execPpsInputEdge_sound h
  | ppsOutputSecond => exact execPpsOutputSecond_sound h
  | bistWaveComplete wave _ => exact execBistWaveComplete_sound (_wave := wave) h
  | imageLoadComplete => exact execImageLoadComplete_sound h
  | readyCore => exact execReadyCore_sound h
  | bootWatchdogExpiry => exact execBootWatchdogExpiry_sound h
  | mgmtEngineFeedTimeout => exact execMgmtEngineFeedTimeout_sound h
  | serviceWatchdogExpiry => exact execServiceWatchdogExpiry_sound h
  | ledgerWordProgram => exact execLedgerWordProgram_sound h
  | ledgerSectorErase => exact execLedgerSectorErase_sound h
  | ledgerIdentify => exact execLedgerIdentify_sound h
  | ledgerReset => exact execLedgerReset_sound h
  | ledgerOtherWrite => exact execLedgerOtherWrite_sound h
  | ledgerStatusRead => exact execLedgerStatusRead_sound h
  | ledgerOpComplete => exact execLedgerOpComplete_sound h
  | ledgerEraseLimit => exact execLedgerEraseLimit_sound h
  | vaoSampleTick => exact execVaoSampleTick_sound h
  | eventArrival => exact execEventArrival_sound h
  | coalesceWindowClose => exact execCoalesceWindowClose_sound h
  | tokenRefill => exact execTokenRefill_sound h
  | dropSummaryTick => exact execDropSummaryTick_sound h
  | injectionTimeout => exact execInjectionTimeout_sound h
  | unitTestComplete => exact execUnitTestComplete_sound h
  | fwVerifyComplete => exact execFwVerifyComplete_sound h
  | snapshotScanComplete => exact execSnapshotScanComplete_sound h
  | starterKeyProgrammingDone => exact execStarterKeyProgrammingDone_sound h
  | jtagInstruction => exact execJtagInstruction_sound h

/-- R20, R38, R410: so does the idle tick. -/
theorem idleTick_sound : SoundR (idleTick s) :=
  soundR_next (ledgerNext_sound (finishFences_sound (finishResets_sound (zeroNext_sound (wireSlots_sound (tick_sound h))))))

theorem step_sound : SoundR (step s) := by
  unfold step
  split
  · exact exec_sound (Sound.pendings h) _
  · exact idleTick_sound h

end Arms

/-- Settles O60: a step is a command or the idle tick, and each arm of exec keeps `Sound`. -/
theorem everyStepKeepsTheEpochsAndTheArray : Obligations.EveryStepKeepsTheEpochsAndTheArray :=
  fun _ t h => (step_sound h).out t

end Sys2Proof.Machine
end

section
/-! PROOFS. The Kolnyx commands of this family: the checks that a packet passes, the four wider resets, and the commands that ask for
an epoch close. -/

namespace Sys2Proof.Machine

/-! ### A packet's own checks -/

theorem firstOf_eq_none {l : List (Bool × Status × Nat)} (h : ∀ c ∈ l, c.1 = false) : firstOf l = none := by
  induction l with
  | nil => rfl
  | cons c l ih =>
    obtain ⟨bad, st, d⟩ := c
    obtain ⟨rfl, hl⟩ := List.forall_mem_cons.mp h
    exact ih hl

/-- R298: a packet that none of its opcode's refusals stops takes effect. -/
theorem checked_pass {s : State} {r : Req} {op : U16} {checks : List (Bool × Status × Nat)} {effect : State → State}
    (h : ∀ c ∈ checks, c.1 = false) : checked s r op checks effect = effect s := by
  simp [checked, firstOf_eq_none h]

/-- R302, R309: a region that exists and that the session may name. -/
theorem withRegion_named {s : State} {r : Req} {op : U16} {x : Session} {n : U16} {off : Nat} {body : Region → State} {g : Region}
    (hg : regionOf s n.toNat = some g) (hm : mayName s x g = true) : withRegion s r op x n off body = body g := by
  simp [withRegion, hg, hm]

/-! ### RESET (R37, R40, R305) -/

theorem sendBytes_resetRun (s : State) (c : Chan) (l : List Byte) : (sendBytes s c l).cmd.resetRun = s.cmd.resetRun := by
  unfold sendBytes; dsimp only; split <;> rfl

theorem sendParts_resetRun {s : State} {r : Req} {op : U16} {st : Status} {detail : Nat} {more : Bool} {n : Nat} {bs : List Byte} :
    (sendParts s r op st detail more n bs).cmd.resetRun = s.cmd.resetRun := by
  induction n generalizing s bs with
  | zero => exact sendBytes_resetRun ..
  | succ n ih => exact ih.trans (sendBytes_resetRun ..)

@[simp] theorem ok_resetRun (s : State) (r : Req) (op : U16) (params : List Byte) : (ok s r op params).cmd.resetRun = s.cmd.resetRun :=
  sendParts_resetRun

/-- R37: a reset that its reply precedes begins at once, or waits for the narrower one that runs. -/
theorem requestReset_ok_takeArrived (s : State) (r : Req) (op : U16) (scope : Nat) (u : Option UnitId) :
    requestReset (ok (takeArrived s r op) r op []) scope u =
      if s.cmd.resetRun = 0 then beginReset (ok (takeArrived s r op) r op []) scope u
      else (ok (takeArrived s r op) r op []).onCmd fun c => { c with resetNext := c.resetNext ++ [(scope, u)] } := by
  simp [requestReset]

theorem resetBusy_pass {s : State} {scope : Nat} (h : s.cmd.resetRun < 1 + scope) : (resetBusy s scope).1 = false := by
  simp [resetBusy]; omega

/-- Settles O6: nothing stops the packet, so its reply goes out and the reset is requested. -/
theorem widerResetsReplyThenReset : Obligations.WiderResetsReplyThenReset := by
  intro s r n hr after
  refine ⟨fun hrun hn => ?_, fun u hrun hu hc => ?_, fun hrun => ?_, fun hrun => ?_⟩
  · show Host.Outcome.next (command _ _ _ _ _ _ _) = _
    rw [command_reaches hr, checked_pass, requestReset_ok_takeArrived]
    simpa [hn] using resetBusy_pass (by simpa using hrun)
  · show Host.Outcome.next (command _ _ _ _ _ _ _) = _
    rw [hu, command_reaches hr]
    dsimp only
    rw [checked_pass, requestReset_ok_takeArrived]
    simpa [hc] using resetBusy_pass (by simpa using hrun)
  · show Host.Outcome.next (command _ _ _ _ _ _ _) = _
    rw [command_reaches hr, checked_pass, requestReset_ok_takeArrived]
    simpa using resetBusy_pass (by simpa using hrun)
  · show Host.Outcome.next (command _ _ _ _ _ _ _) = _
    rw [command_reaches hr, checked_pass, requestReset_ok_takeArrived]
    simpa using resetBusy_pass (by simpa using hrun)

/-! ### Commands that ask for a close (R36, R64, R313, R314) -/

@[simp] theorem takeArrived_closeQueued (s : State) (r : Req) (op : U16) : closeQueued (takeArrived s r op) = s.epochs.queued.isSome := rfl
@[simp] theorem takeArrived_regionBusy (s : State) (r : Req) (op : U16) (g : Region) :
    regionBusy (takeArrived s r op) g = regionBusy s g := by
  obtain ⟨l, k, h⟩ := takeArrived_eq s r op; rw [h]; rfl

/-- Settles O12: each command passes its refusals, and what is left of it is the request or the reply that the statement names. -/
theorem epochCommandsJoinACloseOrReply : Obligations.EpochCommandsJoinACloseOrReply := by
  intro s r n g x
  refine ⟨fun hr hq => ?_, fun hr => ?_, fun hn hg hm => ⟨fun hr hb _ => ?_, fun hr hh hsnap hq => ?_, fun hr hh hsnap hrun hq hl => ?_⟩⟩
  · show Host.Outcome.next (command _ _ _ _ _ _ _) = _
    rw [command_reaches hr, checked_pass]
    simp [hq]
  · show Host.Outcome.next (command _ _ _ _ _ _ _) = _
    rw [command_reaches hr]
    rfl
  · show Host.Outcome.next (command _ _ _ _ _ _ _) = _
    rw [hn, command_reaches hr, withRegion_named (g := g) (by simpa using hg) (by simpa using hm), checked_pass]
    · rfl
    · simp [hb]
  · show Host.Outcome.next (command _ _ _ _ _ _ _) = _
    rw [hn, command_reaches hr, withRegion_named (g := g) (by simpa using hg) (by simpa using hm), checked_pass]
    simp [hh, hsnap, hq]
  · show Host.Outcome.next (command _ _ _ _ _ _ _) = _
    rw [hn, command_reaches hr, withRegion_named (g := g) (by simpa using hg) (by simpa using hm)]
    dsimp only
    rw [checked_pass]
    simp [hh, hsnap, hq, hl]
    exact hrun

end Sys2Proof.Machine
end

section
/-! PROOFS. Requests that are served again, idle credits and stream trackers (R27, R101, R119, R225). -/

namespace Sys2Proof.Machine

/-- Settles O26: each command acts on the request, the pool or the tracker that its operand names. -/
theorem reissuesAndIdleCreditsAndTrackers : Obligations.ReissuesAndIdleCreditsAndTrackers := by
  intro s q
  refine ⟨fun _ hfind hold => ?_, fun _ => rfl, fun _ _ => rfl, fun hfind => ?_⟩
  · show execRetryResponse q.age s = _
    simp [execRetryResponse, hfind, hold]
  · show execDeadlineMarginExpiry q.age s = _
    simp [execDeadlineMarginExpiry, hfind]

end Sys2Proof.Machine
end

section
/-! PROOFS. Two records that few operations touch: the links of the Wire and the closed epoch, and often the epochs whole. -/
namespace Sys2Proof.Machine

/-- `s` has the Wire links and the closed epoch of `a`; where `whole` is set, every epoch of `a`. -/
def Kept (whole : Bool) (a s : State) : Prop :=
  s.wire.links = a.wire.links ∧ s.epochs.closed = a.epochs.closed ∧ (whole = true → s.epochs = a.epochs)

section
variable {whole : Bool} {a s : State}

theorem Kept.refl : Kept whole s s := ⟨rfl, rfl, fun _ => rfl⟩

theorem ite_kept {t : State} {c : Prop} [Decidable c] (hs : Kept whole a s) (ht : Kept whole a t) : Kept whole a (if c then s else t) := by
  split <;> assumption

theorem State.each_kept {α : Type} {l : List α} {f : State → α → State} (h : Kept whole a s)
    (g : ∀ s x, Kept whole a s → Kept whole a (f s x)) : Kept whole a (s.each l f) := by
  unfold State.each
  induction l generalizing s with
  | nil => exact h
  | cons x l ih => exact ih (g s x h)

theorem State.onlyIf_kept {c : Bool} {f : State → State} (h : Kept whole a s) (g : ∀ s, Kept whole a s → Kept whole a (f s)) :
    Kept whole a (s.onlyIf c f) := by
  unfold State.onlyIf
  split
  · exact g s h
  · exact h

/-- The epochs may change where only the closed one is spoken of. -/
theorem Kept.onEpochs {f : Epochs → Epochs} (h : Kept false a s) (hf : (f s.epochs).closed = s.epochs.closed) :
    Kept false a (s.onEpochs f) := by
  obtain ⟨hl, hc, -⟩ := h
  exact ⟨hl, hf.trans hc, nofun⟩

theorem State.onWire_kept {f : Wire → Wire} (h : Kept whole a s) (hf : (f s.wire).links = s.wire.links) : Kept whole a (s.onWire f) := by
  obtain ⟨hl, hc⟩ := h
  exact ⟨hf.trans hl, hc⟩

theorem State.onCmd_kept {f : Cmd → Cmd} (h : Kept whole a s) : Kept whole a (s.onCmd f) := h
theorem State.onCxl_kept {f : Cxl → Cxl} (h : Kept whole a s) : Kept whole a (s.onCxl f) := h
theorem State.onRegions_kept {f : Regions → Regions} (h : Kept whole a s) : Kept whole a (s.onRegions f) := h
theorem State.onPpu_kept {f : Ppu → Ppu} (h : Kept whole a s) : Kept whole a (s.onPpu f) := h
theorem State.onCurd_kept {f : Curd → Curd} (h : Kept whole a s) : Kept whole a (s.onCurd f) := h
theorem State.onDeckle_kept {f : Deckle → Deckle} (h : Kept whole a s) : Kept whole a (s.onDeckle f) := h
theorem State.onVat_kept {f : Vat → Vat} (h : Kept whole a s) : Kept whole a (s.onVat f) := h
theorem State.onReam_kept {f : Ream → Ream} (h : Kept whole a s) : Kept whole a (s.onReam f) := h
theorem State.onCouch_kept {f : Couch → Couch} (h : Kept whole a s) : Kept whole a (s.onCouch f) := h
theorem State.onFelt_kept {f : Felt → Felt} (h : Kept whole a s) : Kept whole a (s.onFelt f) := h
theorem State.onCipher_kept {f : Cipher → Cipher} (h : Kept whole a s) : Kept whole a (s.onCipher f) := h
theorem State.onLog_kept {f : Log → Log} (h : Kept whole a s) : Kept whole a (s.onLog f) := h
theorem State.onUnits_kept {f : Units → Units} (h : Kept whole a s) : Kept whole a (s.onUnits f) := h
theorem State.emit_kept {o : Out} (h : Kept whole a s) : Kept whole a (s.emit o) := h
theorem State.draw_kept (h : Kept whole a s) : Kept whole a s.draw := h

/-! ### One lemma per operation, each after those it calls -/


theorem bindSlot_kept {slot region : Nat} (h : Kept whole a s) : Kept whole a (bindSlot s slot region) := State.onCipher_kept h

theorem setRegion_kept {n : Nat} {f : Region → Region} (h : Kept whole a s) : Kept whole a (setRegion s n f) := State.onRegions_kept h

theorem startResync_kept {num : Nat} (h : Kept whole a s) : Kept whole a (startResync s num) := by
  unfold startResync
  split
  · exact h
  · extract_lets s1
    have h1 : Kept whole a s1 := setRegion_kept h
    exact State.draw_kept (State.onFelt_kept h1)

theorem postEvent_kept {o : Occurrence} (h : Kept whole a s) : Kept whole a (postEvent s o) := State.onLog_kept h

theorem State.event_kept {cls code severity : Nat} {unit : U16} {region address detail : Nat} (h : Kept whole a s) : Kept whole a
    (State.event s cls code severity unit region address detail) :=
  postEvent_kept h

theorem keyRegion_kept {region : Nat} (h : Kept whole a s) : Kept whole a (keyRegion s region) := by
  unfold keyRegion
  refine ite_kept h ?_
  split
  · exact bindSlot_kept h
  · exact State.event_kept h

theorem putQuiet_kept {e : DirEntry} (h : Kept whole a s) : Kept whole a (putQuiet s e) := State.onPpu_kept h

theorem putEntry_kept {e : DirEntry} (h : Kept whole a s) : Kept whole a (putEntry s e) := State.onPpu_kept (putQuiet_kept h)

theorem repin_kept {page : Nat} (h : Kept whole a s) : Kept whole a (repin s page) := ite_kept h (putEntry_kept h)

theorem resolvePage_kept {e : DirEntry} (h : Kept whole a s) : Kept whole a (resolvePage s e) :=
  putQuiet_kept (ite_kept (State.event_kept h) h)

theorem resolveBlock_kept {page : Nat} (h : Kept whole a s) : Kept whole a (resolveBlock s page) :=
  State.each_kept h fun _ _ h => resolvePage_kept h

theorem putFrame_kept {f : Frame} (h : Kept whole a s) : Kept whole a (putFrame s f) := State.onPpu_kept h

theorem assignFrame_kept {page n : Nat} {t : State} (h : Kept whole a s) (e : assignFrame s page = some (n, t)) : Kept whole a t := by
  unfold assignFrame at e
  split at e
  · cases e; exact h
  · split at e
    · cases e; exact putFrame_kept h
    · cases e

theorem startFetch_kept {page : Nat} {prefetch : Bool} (h : Kept whole a s) : Kept whole a (startFetch s page prefetch) := by
  unfold startFetch
  refine ite_kept h (ite_kept (State.onPpu_kept h) ?_)
  have hp : Kept whole a (match assignFrame s page with | some (n, s) => (some n, s) | none => ((none : Option Nat), s)).2 := by
    split
    · next e => exact assignFrame_kept h e
    · exact h
  dsimp only
  split
  · exact putEntry_kept (State.onPpu_kept hp)
  · exact putQuiet_kept (State.onPpu_kept hp)
  · exact putQuiet_kept (State.onPpu_kept hp)

theorem startKept_kept {page : Nat} (h : Kept whole a s) : Kept whole a (startKept s page) := State.onPpu_kept (startFetch_kept h)

theorem pinPage_kept {page : Nat} (h : Kept whole a s) : Kept whole a (pinPage s page) := by
  unfold pinPage
  extract_lets s1
  have h1 : Kept whole a s1 := repin_kept (resolveBlock_kept h)
  exact ite_kept (startKept_kept h1) h1

theorem pinRegion_kept {num : Nat} (h : Kept whole a s) : Kept whole a (pinRegion s num) := by
  unfold pinRegion
  split
  · exact h
  · extract_lets _ s1
    have h1 : Kept whole a s1 := State.each_kept (setRegion_kept h) fun _ _ h => pinPage_kept h
    exact setRegion_kept h1

theorem unpinRegion_kept {num : Nat} (h : Kept whole a s) : Kept whole a (unpinRegion s num) := by
  unfold unpinRegion
  split
  · exact h
  · exact State.each_kept (setRegion_kept h) fun _ _ h => repin_kept h

theorem applyFlags_kept {num : Nat} {flags : U32} (h : Kept whole a s) : Kept whole a (applyFlags s num flags) := by
  unfold applyFlags
  split
  · exact h
  · extract_lets s1 s2 s3
    have h1 : Kept whole a s1 := setRegion_kept h
    have h2 : Kept whole a s2 := ite_kept (startResync_kept h1) h1
    have h3 : Kept whole a s3 := ite_kept (keyRegion_kept h2) h2
    exact ite_kept (pinRegion_kept h3) (ite_kept (unpinRegion_kept h3) h3)

theorem setGrant_kept {num head ld : Nat} {access : Access} (h : Kept whole a s) : Kept whole a (setGrant s num head ld access) :=
  setRegion_kept h

theorem takeToken_kept {num holder : Nat} {generation : U32} (h : Kept whole a s) : Kept whole a (takeToken s num holder generation) :=
  setRegion_kept h

theorem unreserve_kept {runs : List (Nat × Nat)} (h : Kept whole a s) : Kept whole a (unreserve s runs) := State.onRegions_kept h

theorem setDram_kept {c : Nat} {f : Dram → Dram} (h : Kept whole a s) : Kept whole a (setDram s c f) := State.onVat_kept h

theorem setBank_kept {channel : Nat} {b : Bank} (h : Kept whole a s) : Kept whole a (setBank s channel b) := setDram_kept h

theorem neighbourEvent_kept {channel : Nat} {b : Bank} (h : Kept whole a s) : Kept whole a (neighbourEvent s channel b) := by
  unfold neighbourEvent
  refine ite_kept ?_ h
  extract_lets s1
  have h1 : Kept whole a s1 := setBank_kept h
  exact setDram_kept (State.event_kept h1)

theorem columnCommand_kept {channel bank row : Nat} {hold : Bool} {bursts : Nat} (h : Kept whole a s) : Kept whole a
    (columnCommand s channel bank row hold bursts) :=
  neighbourEvent_kept (setDram_kept (setBank_kept h))

theorem pageCommand_kept {no bursts : Nat} (h : Kept whole a s) : Kept whole a (pageCommand s no bursts) :=
  columnCommand_kept (columnCommand_kept h)

theorem writeLocations_kept {no : Nat} (h : Kept whole a s) : Kept whole a (writeLocations s no) := pageCommand_kept (pageCommand_kept h)

theorem zeroSlot_kept {no : Nat} (h : Kept whole a s) : Kept whole a (zeroSlot s no) :=
  ite_kept h (State.onPpu_kept (writeLocations_kept h))

theorem writeBlock_kept {at_ : Nat × Nat} (h : Kept whole a s) : Kept whole a (writeBlock s at_) :=
  writeLocations_kept (writeLocations_kept (zeroSlot_kept (zeroSlot_kept h)))

theorem loadBlock_kept {extent : Nat} (h : Kept whole a s) : Kept whole a (loadBlock s extent) := by
  unfold loadBlock
  split
  · exact State.onPpu_kept h
  · split
    · exact State.onPpu_kept (writeBlock_kept h)
    · split
      · exact State.onPpu_kept (writeBlock_kept h)
      · exact h

theorem logRoot_kept {records : List (Nat × BitVec 40 × Nat)} (h : Kept whole a s) : Kept whole a (logRoot s records) :=
  State.onRegions_kept (State.onReam_kept h)

theorem allocateExtent_kept {e : Nat} (h : Kept whole a s) : Kept whole a (allocateExtent s e) :=
  logRoot_kept (State.onReam_kept (loadBlock_kept h))

theorem pinLimitEvent_kept {num : Nat} (h : Kept whole a s) : Kept whole a (pinLimitEvent s num) := State.event_kept h

theorem createRegion_kept {num size : Nat} {flags : U32} {runs : List (Nat × Nat)} {epoch : Nat} (h : Kept whole a s) : Kept whole a
    (createRegion s num size flags runs epoch) := by
  unfold createRegion
  extract_lets _ _ _ s1 s2
  have h1 : Kept whole a s1 := State.each_kept (State.onRegions_kept (unreserve_kept h)) fun _ _ h => allocateExtent_kept h
  have h2 : Kept whole a s2 := ite_kept (pinLimitEvent_kept h1) h1
  exact ite_kept (keyRegion_kept h2) h2

theorem setLd_kept {head ld : Nat} {f : Ld → Ld} (h : Kept whole a s) : Kept whole a (setLd s head ld f) := State.onCxl_kept h

theorem offerRuns_kept {num head ld : Nat} {access : Access} {runs : List (Nat × Nat)} (h : Kept whole a s) : Kept whole a
    (offerRuns s num head ld access runs) :=
  ite_kept h (State.emit_kept (setLd_kept h))

theorem growRegion_kept {num size : Nat} {runs : List (Nat × Nat)} (h : Kept whole a s) : Kept whole a (growRegion s num size runs) := by
  unfold growRegion
  extract_lets _ _ s1 s2
  have h1 : Kept whole a s1 := State.each_kept (setRegion_kept (unreserve_kept h)) fun _ _ h => allocateExtent_kept h
  have h2 : Kept whole a s2 := by
    dsimp only [s2]
    split
    · exact ite_kept h1 (ite_kept (pinRegion_kept h1) (pinLimitEvent_kept (unpinRegion_kept h1)))
    · exact h1
  split
  · exact State.each_kept h2 fun _ _ h => offerRuns_kept h
  · exact h2

theorem applyStart_kept {epoch : Nat} {c : Change} (h : Kept whole a s) : Kept whole a (applyStart s epoch c) := by
  unfold applyStart
  split
  · exact applyFlags_kept h
  · exact ite_kept h (setGrant_kept h)
  · exact State.onRegions_kept h
  · split
    · exact State.event_kept (takeToken_kept h)
    · exact h
  · split
    · exact State.onFelt_kept (takeToken_kept h)
    · exact h
  · split
    · exact ite_kept (takeToken_kept h) h
    · exact h
  · exact createRegion_kept h
  · exact growRegion_kept h
  · exact h
  · exact h
  · exact h
  · exact h
  · exact h
  · exact h
  · exact h
  · exact h
  · exact h
  · exact h

/-- R34: a close begins by moving the current epoch on; what its changes then do leaves the epochs alone. -/
theorem startClose_kept_began {joined : List Joined} {couch peer : Bool} : Kept true (s.onEpochs fun e => { e with
    running := some { epoch := e.current, joined := joined, started := s.now, localDone := false, peerDone := peer, couch := couch },
    current := e.current + 1, began := s.now, asyncBytes := 0 }) (startClose s joined couch peer) := by
  refine State.each_kept ⟨rfl, rfl, fun _ => rfl⟩ fun s j h => ?_
  dsimp only
  split
  · exact bindSlot_kept h
  · exact applyStart_kept h

theorem startClose_kept {joined : List Joined} {couch peer : Bool} (h : Kept false a s) : Kept false a (startClose s joined couch peer) := by
  obtain ⟨hl, hc, -⟩ := startClose_kept_began (s := s) (joined := joined) (couch := couch) (peer := peer)
  obtain ⟨hl', hc', -⟩ := h
  exact ⟨hl.trans hl', hc.trans hc', nofun⟩

theorem requestClose_kept {joined : List Joined} (h : Kept false a s) : Kept false a (requestClose s joined) := by
  unfold requestClose
  split
  · exact startClose_kept h
  · exact Kept.onEpochs h rfl

theorem setEngine_kept {e : Nat} {f : Engine → Engine} (h : Kept whole a s) : Kept whole a (setEngine s e f) := State.onUnits_kept h

theorem setLine_kept {line : Nat} {f : CurdLine → CurdLine} (h : Kept whole a s) : Kept whole a (setLine s line f) := State.onCurd_kept h

theorem setUnit_kept {u : UnitId} {f : Unit_ → Unit_} (h : Kept whole a s) : Kept whole a (setUnit s u f) := by
  unfold setUnit
  split
  · exact setEngine_kept h
  · exact State.onUnits_kept h
  · exact State.onUnits_kept h
  · exact State.onUnits_kept h
  · exact State.onUnits_kept h
  · exact State.onUnits_kept h
  · exact State.onUnits_kept h
  · exact h
  · exact h

theorem countError_kept {u : UnitId} {uncorrectable : Bool} (h : Kept whole a s) : Kept whole a (countError s u uncorrectable) :=
  setUnit_kept h

theorem sliceCorrected_kept {i : Nat} (h : Kept whole a s) : Kept whole a (sliceCorrected s i) := by
  unfold sliceCorrected
  extract_lets s1
  have h1 : Kept whole a s1 := State.onCurd_kept (countError_kept h)
  exact ite_kept (State.onCurd_kept (State.event_kept h1)) h1

theorem stuckAccess_kept {line way : Nat} (h : Kept whole a s) : Kept whole a (stuckAccess s line way) :=
  ite_kept (sliceCorrected_kept h) h

theorem walkSlices_kept {which : Nat → Bool} (h : Kept whole a s) : Kept whole a (walkSlices s which) :=
  State.each_kept h fun _ _ h => ite_kept (State.onCurd_kept (setLine_kept (stuckAccess_kept h))) h

theorem walkDrain_kept (h : Kept whole a s) : Kept whole a (walkDrain s) := ite_kept (walkSlices_kept h) (ite_kept h (walkSlices_kept h))

theorem reroute_kept {i : Island} (h : Kept whole a s) : Kept whole a (reroute s i) := h

theorem retarget_kept (h : Kept whole a s) : Kept whole a (retarget s) := by
  unfold retarget
  refine ite_kept h (ite_kept (walkDrain_kept (State.onCurd_kept h)) ?_)
  exact State.onCurd_kept (ite_kept (State.each_kept h fun _ _ h => reroute_kept h) h)

theorem unforce_kept {bit : Nat} (h : Kept whole a s) : Kept whole a (unforce s bit) := retarget_kept (State.onCurd_kept h)

theorem settleForce_kept (h : Kept whole a s) : Kept whole a (settleForce s) := ite_kept (unforce_kept h) h

theorem endInjections_kept {u : UnitId} (h : Kept whole a s) : Kept whole a (endInjections s u) := settleForce_kept (State.onCmd_kept h)

theorem unroute_kept {i : Island} (h : Kept whole a s) : Kept whole a (unroute s i) := by
  unfold unroute
  refine State.onWire_kept h ?_
  split <;> rfl

theorem clusterOff_kept {c : Nat} (h : Kept whole a s) : Kept whole a (clusterOff s c) := ite_kept (unroute_kept h) h

theorem redirectTo_kept {e k : Nat} (h : Kept whole a s) : Kept whole a (redirectTo s e k) := h

theorem handWork_kept {k : Nat} {work : List Beat} (h : Kept whole a s) : Kept whole a (handWork s k work) := setEngine_kept h

theorem ownCredit_kept {own : Bool} {t : State} (h : Kept whole a s) (e : ownCredit s = some (own, t)) : Kept whole a t := by
  unfold ownCredit at e
  split at e
  · split at e
    · cases e; exact h
    · cases e
  · split at e
    · cases e
    · cases e; exact State.onFelt_kept h

theorem setLink_kept {t : Nat} {f : Link → Link} (h : Kept whole a s) : Kept whole a (setLink s t f) := State.onFelt_kept h

theorem takeTag_kept {k : Nat} {tag : U16} {t : State} (h : Kept whole a s) (e : takeTag s k = (tag, t)) : Kept whole a t := by
  cases e
  exact setLink_kept h

theorem pump_kept {t : Nat} (h : Kept whole a s) : Kept whole a (pump s t) := by
  unfold pump
  refine ite_kept h ?_
  extract_lets _
  split
  · exact State.onFelt_kept (State.each_kept (setLink_kept h) fun _ _ h => State.emit_kept h)

theorem sendFelt_kept {t : Nat} {m : FeltMsg} (h : Kept whole a s) : Kept whole a (sendFelt s t m) := pump_kept (setLink_kept h)

theorem mirrorWrite_kept {r : Region} {q q' : HostReq} {t : State} (h : Kept false a s) (e : mirrorWrite s r q = (t, q')) : Kept false a t := by
  unfold mirrorWrite at e
  extract_lets counted page at e
  have hc : Kept false a counted := ite_kept (Kept.onEpochs h rfl) h
  clear_value counted
  split at e
  · cases e; exact hc
  · dsimp only at e
    cases e
    exact ite_kept (sendFelt_kept (setLink_kept hc)) (State.onFelt_kept (sendFelt_kept (setLink_kept hc)))

theorem dropReq_kept {age : Nat} (h : Kept whole a s) : Kept whole a (dropReq s age) := State.onCxl_kept h

theorem asyncClose_kept {before : Nat} (h : Kept false a s) : Kept false a (asyncClose s before) := ite_kept (requestClose_kept h) h

theorem keepReq_kept {q : HostReq} (h : Kept whole a s) : Kept whole a (keepReq s q) := State.onCxl_kept h

theorem turnAway_kept {q : HostReq} {u : Refuser} (h : Kept whole a s) : Kept whole a (turnAway s q u) := keepReq_kept h

theorem sliceRetry_kept {q : HostReq} (h : Kept whole a s) : Kept whole a (sliceRetry s q) := turnAway_kept h

theorem park_kept {q : HostReq} {st : ReqSt} (h : Kept whole a s) : Kept whole a (park s q st) := keepReq_kept h

theorem fetchBlock_kept {extent : Nat} (h : Kept whole a s) : Kept whole a (fetchBlock s extent) := ite_kept h (State.onPpu_kept h)

theorem waitBlock_kept {q : HostReq} (h : Kept whole a s) : Kept whole a (waitBlock s q) := park_kept (fetchBlock_kept h)

theorem touchDirectory_kept {page : Nat} (h : Kept whole a s) : Kept whole a (touchDirectory s page) :=
  State.onPpu_kept (loadBlock_kept (resolveBlock_kept h))

theorem setFrame_kept {page : Nat} {g : Frame → Frame} (h : Kept whole a s) : Kept whole a (setFrame s page g) := State.onPpu_kept h

theorem fillFrame_kept {page : Nat} {d : PageData} (h : Kept whole a s) : Kept whole a (fillFrame s page d) := by
  unfold fillFrame
  extract_lets s1
  have h1 : Kept whole a s1 := by
    dsimp only [s1]
    split
    · exact pageCommand_kept h
    · exact h
  exact setFrame_kept h1

theorem formStaged_kept {page : Nat} (h : Kept whole a s) : Kept whole a (formStaged s page) := by
  unfold formStaged
  refine ite_kept ?_ h
  split
  · next e =>
      refine ite_kept (putEntry_kept (fillFrame_kept (assignFrame_kept h e))) ?_
      exact putEntry_kept (fillFrame_kept (assignFrame_kept h e))
  · exact h

theorem stageBase_kept {q : HostReq} {l : Line} {t : State} (h : Kept whole a s) (e : stageBase s q = some (l, t)) : Kept whole a t := by
  unfold stageBase at e
  dsimp only at e
  split at e
  · cases e; exact h
  · split at e
    · obtain ⟨⟨n, u⟩, hn, he⟩ := Option.map_eq_some_iff.1 e
      cases he
      exact putEntry_kept (fillFrame_kept (assignFrame_kept h hn))
    · cases e; exact h
    · split at e
      · cases e; exact h
      · cases e

theorem queueCipher_kept {slot : Option Nat} {gen level : Nat} (h : Kept whole a s) : Kept whole a (queueCipher s slot gen level) :=
  State.onCipher_kept h

theorem updateEvict_kept {line : Nat} {l : Line} (h : Kept whole a s) : Kept whole a (updateEvict s line l) := State.onCurd_kept h

theorem returnCredit_kept {port : Nat} (h : Kept whole a s) : Kept whole a (returnCredit s port) :=
  ite_kept (State.onDeckle_kept h) (State.onFelt_kept h)

theorem releaseCredit_kept {q : HostReq} (h : Kept whole a s) : Kept whole a (releaseCredit s q) := ite_kept (returnCredit_kept h) h

theorem stageLine_kept {q : HostReq} {l : Line} (h : Kept whole a s) : Kept whole a (stageLine s q l) := by
  unfold stageLine
  extract_lets _ s1
  have h1 : Kept whole a s1 := State.onReam_kept h
  exact park_kept (releaseCredit_kept (setFrame_kept (updateEvict_kept (setLine_kept (State.onPpu_kept (queueCipher_kept (ite_kept
      (State.onReam_kept h1) h1)))))))

theorem stageWrite_kept {q : HostReq} {base : Line} (h : Kept whole a s) : Kept whole a (stageWrite s q base) := stageLine_kept h

theorem serveStage_kept {q : HostReq} (h : Kept whole a s) : Kept whole a (serveStage s q) := by
  unfold serveStage
  refine ite_kept (park_kept h) (ite_kept (waitBlock_kept h) ?_)
  extract_lets s1 s2
  have h1 : Kept whole a s1 := touchDirectory_kept h
  have h2 : Kept whole a s2 := ite_kept h1 (formStaged_kept h1)
  split
  · next e => exact stageWrite_kept (ite_kept (startFetch_kept (stageBase_kept h2 e)) (stageBase_kept h2 e))
  · exact park_kept (startFetch_kept h2)

theorem stuckLine_kept {line : Nat} (h : Kept whole a s) : Kept whole a (stuckLine s line) := by
  unfold stuckLine
  split
  · exact stuckAccess_kept h
  · exact h

theorem sendCharge_kept {q : HostReq} (h : Kept whole a s) : Kept whole a (sendCharge s q) := State.onPpu_kept h

theorem touchWay_kept {line way : Nat} {last : Bool} (h : Kept whole a s) : Kept whole a (touchWay s line way last) := State.onCurd_kept h

theorem pushVictim_kept {v : CurdLine} (h : Kept whole a s) : Kept whole a (pushVictim s v) := State.onCurd_kept (stuckAccess_kept h)

theorem takeWay_kept {line w : Nat} {t : State} (h : Kept whole a s) (e : takeWay s line = some (w, t)) : Kept whole a t := by
  unfold takeWay at e
  dsimp only at e
  split at e
  · cases e
  · split at e
    · cases e; exact h
    · split at e
      · split at e
        · cases e
        · cases e; exact pushVictim_kept h
      · cases e

theorem allocateLine_kept {line : Nat} {st : LineSt} {data : Line} {epoch : U32} {t : State} (h : Kept whole a s)
    (e : allocateLine s line st data epoch = some t) : Kept whole a t := by
  unfold allocateLine at e
  split at e
  · cases e; exact touchWay_kept (setLine_kept h)
  · obtain ⟨⟨w, u⟩, hw, he⟩ := Option.map_eq_some_iff.1 e
    cases he
    exact touchWay_kept (State.onCurd_kept (takeWay_kept h hw))

theorem dirtyLine_kept {q : HostReq} {base : Line} {was : LineSt} {t : State} (h : Kept whole a s)
    (e : dirtyLine s q base was = some t) : Kept whole a t := by
  unfold dirtyLine at e
  obtain ⟨u, hu, he⟩ := Option.map_eq_some_iff.1 e
  have hk : Kept whole a u := allocateLine_kept (stuckLine_kept h) hu
  cases he
  exact ite_kept (releaseCredit_kept hk) (sendCharge_kept hk)

theorem setChannel_kept {ch : Chan} {f : Channel → Channel} (h : Kept whole a s) : Kept whole a (setChannel s ch f) := State.onCmd_kept h

theorem sendBytes_kept {ch : Chan} {bytes : List Byte} (h : Kept whole a s) : Kept whole a (sendBytes s ch bytes) := by
  unfold sendBytes
  extract_lets s1
  have h1 : Kept whole a s1 := h
  split
  · exact setChannel_kept h1
  · exact h1
  · exact h1
  · exact h1

theorem sendReply_kept {ch : Chan} {p : Reply} (h : Kept whole a s) : Kept whole a (sendReply s ch p) :=
  sendBytes_kept (State.emit_kept h)

theorem sendParts_kept {r : Req} {op : U16} {st : Status} {detail : Nat} {more : Bool} {n : Nat} {bs : List Byte} (h : Kept whole a s) :
    Kept whole a (sendParts s r op st detail more n bs) := by
  induction n generalizing s bs with
  | zero => exact sendReply_kept h
  | succ n ih => exact ih (sendReply_kept h)

theorem settle_kept {r : Req} (h : Kept whole a s) : Kept whole a (settle s r) := State.onCmd_kept h

theorem reply_kept {r : Req} {op : U16} {st : Status} {detail : Nat} {params : List Byte} (h : Kept whole a s) : Kept whole a
    (reply s r op st detail params) :=
  sendParts_kept (settle_kept h)

theorem answerJoined_kept {q : Option (Req × U16 × Nat)} {st : Status} {detail : Nat} {params : List Byte}
    (h : Kept whole a s) : Kept whole a (answerJoined s q st detail params) := by
  unfold answerJoined
  split
  · exact ite_kept (reply_kept h) h
  · exact h

theorem endLong_kept {o : LongOp} {st : Status} {detail : Nat} {params : List Byte} (h : Kept whole a s) : Kept whole a
    (endLong s o st detail params) := by
  unfold endLong
  extract_lets _ _ s1
  have h1 : Kept whole a s1 := postEvent_kept (State.onCmd_kept h)
  split
  · exact sendParts_kept (State.onCmd_kept h1)
  · exact h1

theorem endLongOf_kept {p : LongKind → Bool} {st : Status} {detail : Nat} {params : List Byte} (h : Kept whole a s) : Kept whole a
    (endLongOf s p st detail params) := by
  unfold endLongOf
  split
  · exact endLong_kept h
  · exact h

theorem zeroDone_kept {mark : Nat} (h : Kept whole a s) : Kept whole a (zeroDone s mark) := by
  unfold zeroDone
  refine ite_kept h ?_
  split
  · extract_lets s1
    have h1 : Kept whole a s1 := State.onCmd_kept h
    split
    · exact answerJoined_kept h1
    · exact endLongOf_kept h1
  · exact h

theorem answerWrite_kept {q : HostReq} (h : Kept whole a s) : Kept whole a (answerWrite s q) := by
  unfold answerWrite
  extract_lets s1
  have h1 : Kept whole a s1 := dropReq_kept h
  exact ite_kept (State.emit_kept h1) (ite_kept (zeroDone_kept h1) (ite_kept h1 (sendFelt_kept h1)))

theorem localPlaced_kept {q : HostReq} (h : Kept whole a s) : Kept whole a (localPlaced s q) :=
  ite_kept (park_kept h) (answerWrite_kept h)

theorem rowRequested_kept {line : Nat} (h : Kept whole a s) : Kept whole a (rowRequested s line) := by
  unfold rowRequested
  split
  · exact h
  · exact ite_kept h (setBank_kept h)

theorem watermark_kept {channel sub : Nat} (h : Kept whole a s) : Kept whole a (watermark s channel sub) := setDram_kept h

theorem queueWrite_kept {line : Nat} {l : Line} {rmw : Bool} (h : Kept whole a s) : Kept whole a (queueWrite s line l rmw) := by
  unfold queueWrite
  split
  · exact h
  · exact watermark_kept (setDram_kept (rowRequested_kept h))

theorem writeFrame_kept {line : Nat} {l : Line} {rmw : Bool} (h : Kept whole a s) : Kept whole a (writeFrame s line l rmw) := by
  unfold writeFrame
  split
  · exact queueWrite_kept (setFrame_kept h)
  · exact h

theorem chargePage_kept {page : Nat} {epoch : U32} (h : Kept whole a s) : Kept whole a (chargePage s page epoch) := putEntry_kept h

theorem consumeCredit_kept {port : Nat} (h : Kept whole a s) : Kept whole a (consumeCredit s port) :=
  ite_kept (State.onDeckle_kept h) (State.onFelt_kept h)

theorem chargeFor_kept {page : Nat} {epoch : U32} {port : Nat} {credit : Bool} (h : Kept whole a s) : Kept whole a
    (chargeFor s page epoch port credit) := by
  unfold chargeFor
  extract_lets _ s1
  have h1 : Kept whole a s1 := chargePage_kept h
  exact ite_kept h1 (ite_kept (returnCredit_kept h1) (consumeCredit_kept h1))

theorem writeThrough_kept {q : HostReq} (h : Kept whole a s) : Kept whole a (writeThrough s q) := by
  unfold writeThrough
  extract_lets _ _ _ s1
  have h1 : Kept whole a s1 := updateEvict_kept (setLine_kept (stuckLine_kept h))
  exact park_kept (chargeFor_kept (writeFrame_kept h1))

theorem zeroAllocate_kept {page : Nat} {t : State} (h : Kept whole a s) (e : zeroAllocate s page = some t) : Kept whole a t := by
  obtain ⟨⟨n, u⟩, hn, he⟩ := Option.map_eq_some_iff.1 e
  cases he
  exact putEntry_kept (fillFrame_kept (assignFrame_kept h hn))

theorem poisonAllocate_kept {page : Nat} {t : State} (h : Kept whole a s) (e : poisonAllocate s page = some t) : Kept whole a t := by
  obtain ⟨⟨n, u⟩, hn, he⟩ := Option.map_eq_some_iff.1 e
  cases he
  exact putEntry_kept (fillFrame_kept (assignFrame_kept h hn))

theorem fetchAhead_kept {r : Region} {first depth : Nat} {ascending : Bool} (h : Kept whole a s) : Kept whole a
    (fetchAhead s r first depth ascending) := by
  unfold fetchAhead
  refine ite_kept h (State.each_kept h fun _ _ h => ?_)
  refine ite_kept h ?_
  split
  · exact ite_kept (startFetch_kept h) h
  · exact h

theorem noteMiss_kept {r : Region} {k : Nat} (h : Kept whole a s) : Kept whole a (noteMiss s r k) := by
  unfold noteMiss
  refine ite_kept h ?_
  extract_lets s1
  have h1 : Kept whole a s1 := setRegion_kept h
  exact ite_kept (fetchAhead_kept h1) h1

theorem notePageMiss_kept {q : HostReq} (h : Kept whole a s) : Kept whole a (notePageMiss s q) := by
  unfold notePageMiss
  split
  · split
    · exact ite_kept h (noteMiss_kept h)
    · exact h
  · exact h

theorem serveThrough_kept {q : HostReq} (h : Kept whole a s) : Kept whole a (serveThrough s q) := by
  unfold serveThrough
  refine ite_kept (park_kept h) (ite_kept (waitBlock_kept h) ?_)
  extract_lets s1 s2
  have h1 : Kept whole a s1 := touchDirectory_kept h
  have h2 : Kept whole a s2 := ite_kept h1 (formStaged_kept h1)
  split
  · exact writeThrough_kept h2
  · split
    · split
      · next e1 => exact writeThrough_kept (zeroAllocate_kept h2 e1)
      · exact park_kept h2
    · split
      · next e2 => exact writeThrough_kept (poisonAllocate_kept h2 e2)
      · exact park_kept h2
    · exact park_kept (notePageMiss_kept (startFetch_kept h2))

theorem queueRead_kept {line : Nat} {curd : Bool} (h : Kept whole a s) : Kept whole a (queueRead s line curd) := by
  unfold queueRead
  split
  · exact setDram_kept (rowRequested_kept h)
  · exact h

theorem countDeadline_kept {q : HostReq} (h : Kept whole a s) : Kept whole a (countDeadline s q) := by
  unfold countDeadline
  split
  · exact ite_kept (setRegion_kept h) h
  · exact h

theorem State.eventFor_kept {cls code severity head ld region address : Nat} (h : Kept whole a s) : Kept whole a
    (State.eventFor s cls code severity head ld region address) :=
  postEvent_kept h

theorem answerRead_kept {q : HostReq} {l : Line} (h : Kept whole a s) : Kept whole a (answerRead s q l) := by
  unfold answerRead
  extract_lets dropped
  have h1 : Kept whole a dropped := dropReq_kept h
  have h2 := countDeadline_kept (q := q) (State.emit_kept (o := .readData q.port q.ld q.hostTag l) h1)
  exact ite_kept h1 (ite_kept (State.eventFor_kept h2) h2)

theorem readFrame_kept {q : HostReq} {f : Frame} {wb : Bool} (h : Kept whole a s) : Kept whole a (readFrame s q f wb) := by
  unfold readFrame
  refine ite_kept (turnAway_kept h) (ite_kept ?_ (ite_kept (answerRead_kept h) (park_kept (queueRead_kept h))))
  split
  · next e => exact park_kept (ite_kept (allocateLine_kept h e) (queueRead_kept (allocateLine_kept h e)))
  · exact sliceRetry_kept h

theorem missWrite_kept {q : HostReq} (h : Kept whole a s) : Kept whole a (missWrite s q) := by
  have hd : ∀ {t : State} {l : Line} {was : LineSt}, Kept whole a t →
      Kept whole a (match dirtyLine t q l was with | some s => localPlaced s q | none => sliceRetry t q) := by
    intro t l was h
    split
    · next e => exact localPlaced_kept (dirtyLine_kept h e)
    · exact sliceRetry_kept h
  unfold missWrite
  refine ite_kept (hd h) (ite_kept (waitBlock_kept h) ?_)
  extract_lets s1 s2
  have h1 : Kept whole a s1 := touchDirectory_kept h
  have h2 : Kept whole a s2 := ite_kept h1 (formStaged_kept h1)
  split
  · exact readFrame_kept h2
  · split
    · exact hd h2
    · exact hd h2
    · split
      · next e => exact park_kept (notePageMiss_kept (startFetch_kept (allocateLine_kept h2 e)))
      · exact sliceRetry_kept h2

theorem missMarked_kept {q : HostReq} (h : Kept whole a s) : Kept whole a (missMarked s q) :=
  ite_kept (waitBlock_kept h) (ite_kept (serveThrough_kept h) (missWrite_kept h))

theorem serveBack_kept {q : HostReq} (h : Kept whole a s) : Kept whole a (serveBack s q) := by
  unfold serveBack
  split
  · refine ite_kept (park_kept h) ?_
    split
    · next e1 => exact localPlaced_kept (dirtyLine_kept h e1)
    · exact sliceRetry_kept h
  · split
    · refine ite_kept ?_ (missMarked_kept (State.onCurd_kept h))
      split
      · next e2 => exact localPlaced_kept (dirtyLine_kept h e2)
      · exact sliceRetry_kept h
    · exact missMarked_kept h

theorem serveWrite_kept {q : HostReq} (h : Kept whole a s) : Kept whole a (serveWrite s q) :=
  ite_kept (serveStage_kept h) (ite_kept (serveBack_kept h) (serveThrough_kept h))

theorem markInjected_kept {n : Nat} (h : Kept whole a s) : Kept whole a (markInjected n s) := State.onLog_kept h

theorem spendInjection_kept {u : UnitId} {kind : Nat} (h : Kept whole a s) : Kept whole a (spendInjection s u kind) := State.onCmd_kept h

theorem withInjection_kept {u : UnitId} {kind : Nat} {f : State → State} (h : Kept whole a s) (g : ∀ s, Kept whole a s → Kept whole a (f s)) :
    Kept whole a (withInjection s u kind f) :=
  ite_kept (markInjected_kept (g _ (spendInjection_kept h))) (g _ h)

theorem bypassSlices_kept (h : Kept whole a s) : Kept whole a (bypassSlices s) := by
  unfold bypassSlices
  refine State.each_kept h fun _ _ h => ?_
  split
  · exact ite_kept (State.onCurd_kept (unroute_kept (State.onUnits_kept h))) h
  · exact h

theorem fenceSlice_kept {i : Nat} (h : Kept whole a s) : Kept whole a (fenceSlice s i) :=
  bypassSlices_kept (walkDrain_kept (State.onUnits_kept (setUnit_kept (endInjections_kept h))))

theorem failSlice_kept {i : Nat} (h : Kept whole a s) : Kept whole a (failSlice s i) := ite_kept h (State.event_kept (fenceSlice_kept h))

theorem sliceSpoiled_kept {i : Nat} (h : Kept whole a s) : Kept whole a (sliceSpoiled s i) := by
  unfold sliceSpoiled
  extract_lets s1
  have h1 : Kept whole a s1 := State.onCurd_kept (countError_kept h)
  exact ite_kept (failSlice_kept h1) h1

theorem dropLine_kept {line : Nat} (h : Kept whole a s) : Kept whole a (dropLine s line) := State.onCurd_kept h

theorem poisonDirty_kept {line : Nat} (h : Kept whole a s) : Kept whole a (poisonDirty s line) := by
  unfold poisonDirty
  split
  · split
    · exact h
    · exact sliceSpoiled_kept (dropLine_kept h)
    · exact sliceSpoiled_kept (setLine_kept h)
  · exact sliceSpoiled_kept (State.onCurd_kept h)

theorem spoilLine_kept {line : Nat} (h : Kept whole a s) : Kept whole a (spoilLine s line) := by
  unfold spoilLine
  extract_lets _ s1
  have h1 : Kept whole a s1 := poisonDirty_kept h
  exact ite_kept (State.event_kept h1) h1

theorem readInjected_kept {line : Nat} (h : Kept whole a s) : Kept whole a (readInjected s line) := by
  unfold readInjected
  refine ite_kept h (ite_kept (settleForce_kept (withInjection_kept h fun _ h => sliceCorrected_kept h)) ?_)
  refine ite_kept (settleForce_kept (withInjection_kept h fun _ h => spoilLine_kept h)) ?_
  exact ite_kept (settleForce_kept (withInjection_kept h fun _ h => setLine_kept h)) h

theorem askTwin_kept {q : HostReq} (h : Kept whole a s) : Kept whole a (askTwin s q) := by
  unfold askTwin
  extract_lets _
  split
  · exact h
  · extract_lets _
    split
    · next e => exact sendFelt_kept (keepReq_kept (takeTag_kept h e))

theorem estimateTwin_kept {q : HostReq} (h : Kept whole a s) : Kept whole a (estimateTwin s q) := by
  unfold estimateTwin
  split
  · exact h
  · exact ite_kept (askTwin_kept (State.draw_kept h)) (State.draw_kept h)

theorem waitFetch_kept {q : HostReq} (h : Kept whole a s) : Kept whole a (waitFetch s q) := by
  unfold waitFetch
  extract_lets _ _ _ s1
  have h1 : Kept whole a s1 := park_kept (notePageMiss_kept (startFetch_kept h))
  exact ite_kept h1 (estimateTwin_kept h1)

theorem readUnframed_kept {q : HostReq} {wb : Bool} (h : Kept whole a s) : Kept whole a (readUnframed s q wb) := by
  unfold readUnframed
  extract_lets _
  split
  · exact answerRead_kept h
  · exact answerRead_kept h
  · refine ite_kept ?_ (waitFetch_kept h)
    split
    · next e => exact waitFetch_kept (allocateLine_kept h e)
    · exact sliceRetry_kept h

theorem serveRead_kept {q : HostReq} (h : Kept whole a s) : Kept whole a (serveRead s q) := by
  unfold serveRead
  extract_lets _ _ mode s1 hit s2 s3
  have h1 : Kept whole a s1 := ite_kept h (readInjected_kept h)
  have h2 : Kept whole a s2 := touchDirectory_kept h1
  have h3 : Kept whole a s3 := ite_kept h2 (formStaged_kept h2)
  clear_value s3 s2 hit s1 mode
  split
  · exact ite_kept (park_kept h1) (answerRead_kept (touchWay_kept (stuckAccess_kept h1)))
  · split
    · exact answerRead_kept h1
    · refine ite_kept (waitBlock_kept h1) ?_
      split
      · exact readFrame_kept h3
      · exact readUnframed_kept h3

theorem serve_kept {q : HostReq} (h : Kept whole a s) : Kept whole a (serve s q) :=
  ite_kept (sliceRetry_kept h) (ite_kept (serveWrite_kept h) (serveRead_kept h))

theorem acceptZero_kept {q : HostReq} (h : Kept false a s) : Kept false a (acceptZero s q) := by
  unfold acceptZero
  split
  · next e1 _ =>
      extract_lets _
      split
      · next e2 => exact asyncClose_kept (serve_kept (mirrorWrite_kept (dropReq_kept (ownCredit_kept h e1)) e2))
  · exact h

theorem wakeCredit_kept (h : Kept false a s) : Kept false a (wakeCredit s) := State.each_kept h fun _ _ h => acceptZero_kept h

theorem dropFrame_kept {page : Nat} (h : Kept whole a s) : Kept whole a (dropFrame s page) := State.onPpu_kept h

theorem dropPrefetches_kept (h : Kept whole a s) : Kept whole a (dropPrefetches s) := by
  unfold dropPrefetches
  refine ite_kept h ?_
  refine State.onCmd_kept (State.each_kept (State.onPpu_kept h) fun _ _ h => ?_)
  extract_lets s1
  have h1 : Kept whole a s1 := ite_kept (dropFrame_kept h) h
  exact putQuiet_kept h1

theorem deckleJudge_kept (h : Kept false a s) : Kept false a (deckleJudge s) := by
  unfold deckleJudge
  extract_lets _ _ s1 _ s2 _ s3
  have h1 : Kept false a s1 := State.onDeckle_kept h
  have h2 : Kept false a s2 := ite_kept (State.event_kept h1) h1
  have h3 : Kept false a s3 := ite_kept (State.event_kept h2) h2
  exact wakeCredit_kept (dropPrefetches_kept (State.onDeckle_kept (ite_kept (State.onDeckle_kept (State.event_kept h3)) h3)))

theorem deckleImmediate_kept (h : Kept false a s) : Kept false a (deckleImmediate s) := by
  unfold deckleImmediate
  extract_lets s1 s2
  have h1 : Kept false a s1 := State.onReam_kept h
  have h2 : Kept false a s2 := State.onReam_kept h1
  split
  · split
    · exact deckleJudge_kept (State.onDeckle_kept h2)

theorem fenceEngine_kept {e : Nat} (h : Kept false a s) : Kept false a (fenceEngine s e) := by
  unfold fenceEngine
  refine ite_kept h (ite_kept (State.event_kept (setEngine_kept h)) ?_)
  extract_lets spare _ s1 s2 s3
  have h1 : Kept false a s1 := setEngine_kept (endInjections_kept h)
  have h2 : Kept false a s2 := by
    dsimp only [s2]
    split
    · exact redirectTo_kept (handWork_kept h1)
    · exact h1
  have h3 : Kept false a s3 := clusterOff_kept (State.event_kept h2)
  clear_value s3 s2 s1 spare
  split
  · exact clusterOff_kept (redirectTo_kept (handWork_kept (setEngine_kept h1)))
  · refine ite_kept (clusterOff_kept (State.event_kept h1)) ?_
    exact ite_kept (deckleImmediate_kept h3) h3

theorem offerRest_kept {r : Region} {head ld : Nat} (h : Kept whole a s) : Kept whole a (offerRest s r head ld) := offerRuns_kept h

theorem offerAgain_kept {num head ld : Nat} (h : Kept whole a s) : Kept whole a (offerAgain s num head ld) := by
  unfold offerAgain
  split
  · exact offerRest_kept h
  · exact h

theorem sendOne_kept {m : FeltMsg} (h : Kept whole a s) : Kept whole a (sendOne s m) := by
  unfold sendOne
  split
  · exact sendFelt_kept h
  · exact h

theorem requestChange_kept {num : Nat} {op : Option RegionOpKind} {j : Joined} (h : Kept false a s) : Kept false a
    (requestChange s num op j) := by
  unfold requestChange
  split
  · exact ite_kept (sendOne_kept (State.onFelt_kept h)) (requestClose_kept h)
  · exact requestClose_kept h

theorem continueShrink_kept {num : Nat} (h : Kept false a s) : Kept false a (continueShrink s num) := by
  unfold continueShrink
  refine ite_kept h ?_
  split
  · exact requestChange_kept h
  · exact h

theorem completeRelease_kept {head ld : Nat} {x : Release} (h : Kept false a s) : Kept false a (completeRelease s head ld x) := by
  unfold completeRelease
  extract_lets s1
  have h1 : Kept false a s1 := setLd_kept h
  split
  · exact endLongOf_kept (offerAgain_kept h1)
  · exact continueShrink_kept (offerAgain_kept h1)

theorem releaseAll_kept {head ld : Nat} (h : Kept false a s) : Kept false a (releaseAll s head ld) := by
  unfold releaseAll
  split
  · exact State.each_kept h fun _ _ h => completeRelease_kept h
  · exact h

theorem endLd_kept {head ld : Nat} (h : Kept false a s) : Kept false a (endLd s head ld) := by
  unfold endLd
  extract_lets s1
  have h1 : Kept false a s1 := releaseAll_kept h
  exact ite_kept (setLd_kept h1) h1

theorem setSession_kept {n : Nat} {f : Session → Session} (h : Kept whole a s) : Kept whole a (setSession s n f) := State.onCmd_kept h

theorem endPins_kept {num : Nat} {which : Pin → Bool} (h : Kept whole a s) : Kept whole a (endPins s num which) := by
  unfold endPins
  split
  · exact h
  · refine State.each_kept (setSession_kept h) fun _ _ h => ?_
    split
    · exact State.each_kept h fun _ _ h => repin_kept h
    · exact h

theorem endSession_kept {num : Nat} {handed : Bool} (h : Kept whole a s) : Kept whole a (endSession s num handed) := by
  unfold endSession
  split
  · exact h
  · extract_lets _ _ _ s1 _ s2
    have h1 : Kept whole a s1 := endPins_kept (State.each_kept (State.onCmd_kept h) fun _ _ h => sendReply_kept h)
    have h2 : Kept whole a s2 := State.onCmd_kept h1
    exact ite_kept (State.event_kept h2) h2

theorem endMailboxes_kept {head : Nat} {only : Option Nat} (h : Kept whole a s) : Kept whole a (endMailboxes s head only) :=
  State.onCmd_kept (State.each_kept h fun _ _ h => endSession_kept h)

theorem settleIsland_kept {i : Island} {off : Bool} (h : Kept whole a s) : Kept whole a (settleIsland s i off) :=
  ite_kept (reroute_kept h) (ite_kept h (unroute_kept h))

theorem linkEnds_kept {port : Nat} (h : Kept false a s) : Kept false a (linkEnds s port) := by
  unfold linkEnds
  extract_lets s1 s2
  have h1 : Kept false a s1 := State.onCxl_kept h
  have h2 : Kept false a s2 := State.each_kept h1 fun _ _ h => endLd_kept h
  exact State.each_kept (endMailboxes_kept h2) fun _ _ h => settleIsland_kept h

theorem closePort_kept {i : Nat} (h : Kept false a s) : Kept false a (closePort s i) := unroute_kept (ite_kept (linkEnds_kept h) h)

theorem fencePort_kept {i : Nat} (h : Kept false a s) : Kept false a (fencePort s i) := by
  unfold fencePort
  extract_lets s1
  have h1 : Kept false a s1 := setUnit_kept (endInjections_kept h)
  exact ite_kept (closePort_kept h1) h1

theorem retag_kept {line : Nat} {old new : U16} (h : Kept whole a s) : Kept whole a (retag s line old new) := State.onCxl_kept h

theorem moveCount_kept {epoch t u : Nat} (h : Kept whole a s) : Kept whole a (moveCount s epoch t u) := State.onFelt_kept h

theorem resendMsg_kept {t : Nat} {m : FeltMsg} (h : Kept whole a s) : Kept whole a (resendMsg s t m) := by
  unfold resendMsg
  split
  · extract_lets _ _
    split
    · next e1 =>
        extract_lets s1
        have h1 : Kept whole a s1 := retag_kept (takeTag_kept h e1)
        exact sendFelt_kept (ite_kept (moveCount_kept h1) h1)
  · extract_lets _
    split
    · next e2 => exact sendFelt_kept (takeTag_kept h e2)
  · extract_lets _
    split
    · next e3 => exact sendFelt_kept (takeTag_kept h e3)
  · extract_lets _ _
    split
    · next e4 => exact sendFelt_kept (retag_kept (takeTag_kept h e4))
  · split
    · exact sendFelt_kept h
    · exact h

theorem remap_kept (h : Kept whole a s) : Kept whole a (remap s) := by
  unfold remap
  refine ite_kept h ?_
  exact State.each_kept h fun _ _ h => ite_kept h (State.each_kept (setLink_kept h) fun _ _ h => resendMsg_kept h)

theorem holdLink_kept {t : Nat} (h : Kept whole a s) : Kept whole a (holdLink s t) := setLink_kept (remap_kept (setLink_kept h))

theorem fenceFelt_kept {t : Nat} (h : Kept whole a s) : Kept whole a (fenceFelt s t) := by
  unfold fenceFelt
  extract_lets s1
  have h1 : Kept whole a s1 := setUnit_kept (endInjections_kept h)
  exact unroute_kept (holdLink_kept (ite_kept (State.event_kept h1) h1))

theorem dramState_kept {channel : Nat} {st : DramSt} {cause item : Nat} (h : Kept whole a s) : Kept whole a
    (dramState s channel st cause item) := by
  unfold dramState
  extract_lets _ _ s1
  have h1 : Kept whole a s1 := settleIsland_kept (setDram_kept h)
  exact ite_kept h1 (State.event_kept h1)

theorem dramFailed_kept {channel cause item : Nat} (h : Kept whole a s) : Kept whole a (dramFailed s channel cause item) :=
  State.event_kept (dramState_kept h)

theorem invalidatePage_kept {page : Nat} (h : Kept whole a s) : Kept whole a (invalidatePage s page) := State.onCurd_kept h

theorem loseDirectory_kept {pages : List Nat} (h : Kept whole a s) : Kept whole a (loseDirectory s pages) := by
  unfold loseDirectory
  extract_lets _ s1
  have h1 : Kept whole a s1 := by
    refine State.each_kept h fun _ _ h => ?_
    extract_lets s2
    have h2 : Kept whole a s2 := State.onPpu_kept h
    exact putEntry_kept (dropFrame_kept (invalidatePage_kept h2))
  exact ite_kept h1 (State.event_kept h1)

theorem leaveBlocks_kept {gone : Nat → Bool} (h : Kept whole a s) : Kept whole a (leaveBlocks s gone) := by
  unfold leaveBlocks
  refine State.each_kept (State.onPpu_kept h) fun _ _ h => ?_
  split
  · exact State.onPpu_kept h
  · split
    · exact State.onPpu_kept h
    · exact h

theorem failBlocks_kept {channel : Nat} (h : Kept whole a s) : Kept whole a (failBlocks s channel) :=
  leaveBlocks_kept (State.each_kept (State.onPpu_kept h) fun _ _ h => loadBlock_kept (loseDirectory_kept h))

theorem gatherPage_kept {page : Nat} (h : Kept whole a s) : Kept whole a (gatherPage s page) := by
  unfold gatherPage
  extract_lets _ _ _ s1
  have h1 : Kept whole a s1 := setFrame_kept (State.each_kept h fun _ _ h => stuckAccess_kept h)
  exact State.onCurd_kept (ite_kept h1 (putEntry_kept h1))

theorem coverPage_kept {page : Nat} (h : Kept whole a s) : Kept whole a (coverPage s page) := by
  unfold coverPage
  extract_lets _ _
  split
  · next e =>
      extract_lets s1
      have h1 : Kept whole a s1 := fillFrame_kept (assignFrame_kept h e)
      exact ite_kept (putEntry_kept h1) (gatherPage_kept (putEntry_kept h1))
  · exact putEntry_kept h

theorem losePage_kept {page : Nat} (h : Kept whole a s) : Kept whole a (losePage s page) := by
  unfold losePage
  extract_lets _ _ s1 _
  have h1 : Kept whole a s1 := ite_kept h (State.event_kept h)
  refine ite_kept ?_ (putEntry_kept (dropFrame_kept (State.onCurd_kept h1)))
  split
  · next e => exact gatherPage_kept (putEntry_kept (fillFrame_kept (assignFrame_kept (putEntry_kept h1) e)))
  · exact putEntry_kept h1

theorem failPage_kept {f : Frame} (h : Kept whole a s) : Kept whole a (failPage s f) := by
  unfold failPage
  extract_lets _ _ _ s1
  have h1 : Kept whole a s1 := dropFrame_kept (State.onPpu_kept h)
  refine ite_kept (putQuiet_kept h1) (ite_kept (ite_kept (startKept_kept (putEntry_kept h1)) (putEntry_kept h1)) ?_)
  refine ite_kept (State.onPpu_kept (putEntry_kept h1)) ?_
  exact ite_kept (coverPage_kept (putEntry_kept h1)) (losePage_kept (putEntry_kept h1))

theorem throughPlaced_kept {q : HostReq} (h : Kept whole a s) : Kept whole a (throughPlaced s q) := by
  unfold throughPlaced
  split
  · exact stageLine_kept h
  · exact localPlaced_kept h

theorem settleWrites_kept {queue : List DramReq} (h : Kept whole a s) : Kept whole a (settleWrites s queue) := by
  unfold settleWrites
  refine State.each_kept h fun _ _ h => ?_
  split
  · exact throughPlaced_kept h
  · exact h

theorem fillReqs_kept {line : Nat} {qs : List HostReq} {l : Line} {d : Bool} (h : Kept whole a s) : Kept whole a (fillReqs s line qs l d) := by
  induction qs generalizing s l d with
  | nil => exact h
  | cons q qs ih =>
    unfold fillReqs
    dsimp only
    split
    · split
      · exact ih (stageWrite_kept h)
      · split
        · exact ih (writeThrough_kept h)
        · exact ih (localPlaced_kept (ite_kept (releaseCredit_kept (setLine_kept h)) (sendCharge_kept (setLine_kept h))))
    · exact ih (answerRead_kept h)

theorem fillLine_kept {line : Nat} {l : Line} (h : Kept whole a s) : Kept whole a (fillLine s line l) := by
  unfold fillLine
  split
  · refine ite_kept ?_ h
    extract_lets s1
    have h1 : Kept whole a s1 := setLine_kept h
    exact fillReqs_kept h1
  · exact h

theorem deliver_kept {d : DramReq} {l : Line} (h : Kept whole a s) : Kept whole a (deliver s d l) := by
  unfold deliver
  refine ite_kept h ?_
  split
  · exact answerRead_kept h
  · exact h

theorem poisonQueue_kept {queue : List DramReq} (h : Kept whole a s) : Kept whole a (poisonQueue s queue) :=
  State.each_kept h fun _ _ h => ite_kept h (ite_kept (fillLine_kept h) (deliver_kept h))

theorem holdForTwin_kept (h : Kept whole a s) : Kept whole a (holdForTwin s) := State.onCxl_kept h

theorem wakeAll_kept (h : Kept whole a s) : Kept whole a (wakeAll s) := State.each_kept h fun _ _ h => serve_kept (dropReq_kept h)

theorem failChannel_kept {channel cause : Nat} (h : Kept whole a s) : Kept whole a (failChannel s channel cause) := by
  unfold failChannel
  extract_lets _ _ _ s1
  have h1 : Kept whole a s1 := failBlocks_kept (endLongOf_kept (setDram_kept (dramFailed_kept h)))
  exact wakeAll_kept (State.onCurd_kept (settleWrites_kept (poisonQueue_kept (holdForTwin_kept (State.each_kept h1 fun _ _ h =>
      failPage_kept h)))))

theorem leaveDrain_kept {c : Nat} {st : Status} {detail : Nat} (h : Kept whole a s) : Kept whole a (leaveDrain s c st detail) := by
  unfold leaveDrain
  split
  · exact h
  · split
    · exact ite_kept (endLong_kept h) (State.onCmd_kept h)
    · exact h

theorem couchLoses_kept {c : Nat} (h : Kept whole a s) : Kept whole a (couchLoses s c) := State.onCouch_kept h

theorem setFlash_kept {c : Nat} {f : Flash → Flash} (h : Kept whole a s) : Kept whole a (setFlash s c f) := State.onReam_kept h

theorem flashState_kept {channel : Nat} {st : FlashSt} {cause : Nat} (h : Kept whole a s) : Kept whole a
    (flashState s channel st cause) := by
  unfold flashState
  extract_lets _ _ s1
  have h1 : Kept whole a s1 := settleIsland_kept (setFlash_kept h)
  exact ite_kept h1 (State.event_kept h1)

theorem leaveAdd_kept {c : Nat} {ok : Bool} (h : Kept whole a s) : Kept whole a (leaveAdd s c ok) := by
  unfold leaveAdd
  split
  · exact h
  · split
    · exact ite_kept (endLong_kept h) (State.onCmd_kept h)
    · exact h

theorem presenceEvent_kept {c : Nat} {present : Bool} (h : Kept whole a s) : Kept whole a (presenceEvent s c present) :=
  State.event_kept h

theorem failFlash_kept {c cause : Nat} {removed : Bool} (h : Kept false a s) : Kept false a (failFlash s c cause removed) := by
  unfold failFlash
  split
  · extract_lets s1
    have h1 : Kept false a s1 := leaveDrain_kept h
    exact deckleImmediate_kept (setFlash_kept (flashState_kept (State.onlyIf_kept h1 fun _ h => couchLoses_kept h)))
  · extract_lets s2
    have h2 : Kept false a s2 := leaveDrain_kept h
    exact deckleImmediate_kept (setFlash_kept (flashState_kept (State.onlyIf_kept h2 fun _ h => couchLoses_kept h)))
  · extract_lets _ s3
    have h3 : Kept false a s3 := flashState_kept (leaveAdd_kept h)
    exact ite_kept (presenceEvent_kept h3) h3
  · exact ite_kept (presenceEvent_kept (flashState_kept h)) h
  · exact ite_kept (presenceEvent_kept (flashState_kept h)) h
  · exact setFlash_kept h
  · exact setFlash_kept h

theorem fenceCore_kept {core : Nat} (h : Kept whole a s) : Kept whole a (fenceCore s core) :=
  ite_kept h (ite_kept (State.event_kept (State.onUnits_kept h)) (State.event_kept (setUnit_kept h)))

theorem fenceIsland_kept {i : Island} (h : Kept false a s) : Kept false a (fenceIsland s i) := by
  unfold fenceIsland
  split
  · exact State.each_kept h fun _ _ h => fenceEngine_kept h
  · exact ite_kept (fenceSlice_kept h) h
  · exact ite_kept (fencePort_kept h) h
  · exact ite_kept (fenceFelt_kept h) h
  · exact ite_kept (failChannel_kept h) h
  · exact ite_kept (failFlash_kept h) h
  · exact State.each_kept h fun _ _ h => fenceCore_kept h
  · exact h
  · exact h

theorem sendEnds_kept {e : Nat} (h : Kept whole a s) : Kept whole a (sendEnds s e) := by
  unfold sendEnds
  extract_lets _ s1
  have h1 : Kept whole a s1 := State.onFelt_kept h
  exact ite_kept (State.each_kept h1 fun _ _ h => sendFelt_kept h) h1

theorem applyOffWait_kept (h : Kept whole a s) : Kept whole a (applyOffWait s) := h

theorem freeExtent_kept {e : Nat} (h : Kept whole a s) : Kept whole a (freeExtent s e) :=
  State.onPpu_kept (State.onReam_kept (State.onCurd_kept (State.each_kept h fun _ _ h => consumeCredit_kept h)))

theorem releaseExtent_kept {e : Nat} (h : Kept whole a s) : Kept whole a (releaseExtent s e) :=
  freeExtent_kept (State.each_kept h fun _ _ h => State.emit_kept (State.onCxl_kept h))

theorem setKeySlot_kept {n : Nat} {f : KeySlot → KeySlot} (h : Kept whole a s) : Kept whole a (setKeySlot s n f) := State.onCipher_kept h

theorem retireSlot_kept {slot : Nat} (h : Kept whole a s) : Kept whole a (retireSlot s slot) := setKeySlot_kept h

theorem destroyRegion_kept {num : Nat} (h : Kept whole a s) : Kept whole a (destroyRegion s num) := by
  unfold destroyRegion
  split
  · exact h
  · extract_lets _ s1 s2
    have h1 : Kept whole a s1 := State.each_kept (State.onCmd_kept h) fun _ _ h => releaseExtent_kept h
    have h2 : Kept whole a s2 := by
      dsimp only [s2]
      split
      · exact retireSlot_kept h1
      · exact h1
    exact State.onRegions_kept (State.onFelt_kept h2)

theorem shrinkRegion_kept {num size : Nat} (h : Kept whole a s) : Kept whole a (shrinkRegion s num size) := by
  unfold shrinkRegion
  split
  · exact h
  · exact setRegion_kept (State.each_kept h fun _ _ h => releaseExtent_kept h)

theorem startRelease_kept {num head ld : Nat} {runs : List (Nat × Nat)} {why : ReleaseFor} {access : Access}
    (h : Kept whole a s) : Kept whole a (startRelease s num head ld runs why access) :=
  State.emit_kept (setLd_kept h)

theorem holdLinks_kept (h : Kept whole a s) : Kept whole a (holdLinks s) := State.onFelt_kept h

theorem lagRegions_kept (h : Kept whole a s) : Kept whole a (lagRegions s) := State.onFelt_kept (State.onRegions_kept h)

theorem trackStore_kept {port line : Nat} {m : Bool} {t : State} (h : Kept whole a s) (e : trackStore s port line = (m, t)) :
    Kept whole a t := by
  unfold trackStore at e
  dsimp only at e
  split at e <;> cases e <;> exact State.onCurd_kept h

theorem streamAccess_kept {r : Region} {k : Nat} (h : Kept whole a s) : Kept whole a (streamAccess s r k) := by
  unfold streamAccess
  refine ite_kept h (fetchAhead_kept (setRegion_kept ?_))
  exact State.onPpu_kept h

theorem notePage_kept {q : HostReq} (h : Kept whole a s) : Kept whole a (notePage s q) := by
  unfold notePage
  split
  · split
    · exact streamAccess_kept h
    · exact h
  · exact h

theorem acceptReq_kept {q : HostReq} (h : Kept whole a s) : Kept whole a (acceptReq s q) := by
  unfold acceptReq
  refine ite_kept ?_ (serve_kept (notePage_kept h))
  split
  · next e => exact serve_kept (notePage_kept (trackStore_kept h e))

theorem placeMirror_kept {link : Nat} {tag : U16} {page line region : Nat} {data : LineData} {be : BitVec 64}
    {poison : Bool} {epoch : Nat} (h : Kept whole a s) : Kept whole a
    (placeMirror s link tag page line region data be poison epoch) :=
  acceptReq_kept (State.onFelt_kept (State.onCxl_kept h))

theorem applyStaged_kept {upTo : Nat} (h : Kept whole a s) : Kept whole a (applyStaged s upTo) := by
  unfold applyStaged
  refine State.each_kept (State.onFelt_kept h) fun _ _ h => ?_
  split
  · split
    · exact placeMirror_kept h
    · exact h
  · exact h

theorem applyEpoch_kept {e : Nat} (h : Kept whole a s) : Kept whole a (applyEpoch s e) :=
  sendOne_kept (State.onFelt_kept (applyStaged_kept h))

theorem applyReady_kept (h : Kept whole a s) : Kept whole a (applyReady s) :=
  State.each_kept h fun _ _ h => ite_kept (applyEpoch_kept h) h

theorem proceedAlone_kept (h : Kept false a s) : Kept false a (proceedAlone s) := by
  unfold proceedAlone
  refine State.each_kept (State.each_kept (State.onFelt_kept h) fun _ _ h => unreserve_kept h) fun _ _ h => ?_
  split
  · refine answerJoined_kept ?_
    split
    · exact ite_kept (takeToken_kept h) h
    · exact h
  · exact answerJoined_kept h
  · exact requestClose_kept h

theorem twinFails_kept {q : HostReq} (h : Kept whole a s) : Kept whole a (twinFails s q) := keepReq_kept h

theorem dramEvent_kept {code severity no line device : Nat} {cls : DramClass} {region primary : Nat} (h : Kept whole a s) : Kept whole a
    (dramEvent s code severity no line device cls region primary) :=
  State.event_kept h

theorem writeHalf_kept {d : DramReq} {poison : Bool} (h : Kept whole a s) : Kept whole a (writeHalf s d poison) := by
  unfold writeHalf
  split
  · exact h
  · exact setDram_kept h

theorem recovered_kept {d : DramReq} {l : Line} (h : Kept whole a s) : Kept whole a (recovered s d l) := by
  unfold recovered
  split
  · exact deliver_kept h
  · extract_lets s1
    have h1 : Kept whole a s1 := dramEvent_kept h
    exact ite_kept (writeHalf_kept h1) (deliver_kept (ite_kept h1 (writeFrame_kept h1)))

theorem poisonFrameLine_kept {channel line : Nat} (h : Kept whole a s) : Kept whole a (poisonFrameLine s channel line) := by
  unfold poisonFrameLine
  split
  · exact setFrame_kept h
  · exact ite_kept h (setFrame_kept (setDram_kept h))

theorem spoilAccess_kept {d : DramReq} (h : Kept whole a s) : Kept whole a (spoilAccess s d) := by
  unfold spoilAccess
  split
  · exact deliver_kept h
  · extract_lets s1
    have h1 : Kept whole a s1 := dramEvent_kept h
    exact ite_kept (setFrame_kept (writeHalf_kept h1)) (deliver_kept (poisonFrameLine_kept h1))

theorem endRecovery_kept {x : U16 × DramReq} {l : Option Line} (h : Kept whole a s) : Kept whole a (endRecovery s x l) := by
  unfold endRecovery
  extract_lets s1
  have h1 : Kept whole a s1 := State.onVat_kept h
  split
  · exact recovered_kept h1
  · exact spoilAccess_kept h1

theorem fallBack_kept (h : Kept whole a s) : Kept whole a (fallBack s) := by
  unfold fallBack
  extract_lets s1 s2
  have h1 : Kept whole a s1 := State.each_kept h fun _ _ h => twinFails_kept h
  have h2 : Kept whole a s2 := State.each_kept h1 fun _ _ h => endRecovery_kept h
  exact State.each_kept (State.onPpu_kept h2) fun _ _ h => losePage_kept h

theorem twinDone_kept {q : HostReq} (h : Kept whole a s) : Kept whole a (twinDone s q) := by
  unfold twinDone
  refine ite_kept (keepReq_kept h) ?_
  split
  · exact stageLine_kept h
  · exact answerWrite_kept h

theorem completeLocally_kept (h : Kept whole a s) : Kept whole a (completeLocally s) := State.each_kept h fun _ _ h => twinDone_kept h

theorem partPair_kept {st : Pair} (h : Kept false a s) : Kept false a (partPair s st) :=
  proceedAlone_kept (fallBack_kept (completeLocally_kept (State.onFelt_kept (lagRegions_kept (applyReady_kept h)))))

theorem sendAll_kept {m : FeltMsg} (h : Kept whole a s) : Kept whole a (sendAll s m) := State.each_kept h fun _ _ h => sendFelt_kept h

theorem finishDetach_kept {q : Option (Req × U16 × Nat)} (h : Kept false a s) : Kept false a (finishDetach s q) :=
  answerJoined_kept (holdLinks_kept (partPair_kept (sendAll_kept h)))

/-- What a change at the end of its close leaves: R36's alignment to the twin's epoch sets the epochs, and a DETACH closes on its own. -/
theorem applyEnd_kept_whole {e : Nat} {j : Joined} (h : Kept whole a s) (align : ∀ m, j.change = .align m → whole = false)
    (detach : j.change = .detach → whole = false) : Kept whole a (applyEnd s e j) := by
  unfold applyEnd
  split
  · exact answerJoined_kept h
  · exact answerJoined_kept (destroyRegion_kept h)
  · exact answerJoined_kept h
  · exact endLongOf_kept (shrinkRegion_kept h)
  · extract_lets _ s1
    have h1 : Kept whole a s1 := answerJoined_kept h
    split
    · exact ite_kept h1 (endLongOf_kept h1)
    · exact h1
  · split
    · exact answerJoined_kept h
    · refine ite_kept (answerJoined_kept (offerRest_kept h)) (ite_kept (answerJoined_kept (setGrant_kept (State.onCmd_kept h))) ?_)
      exact startRelease_kept (answerJoined_kept (setGrant_kept h))
  · exact answerJoined_kept h
  · exact answerJoined_kept (setRegion_kept h)
  · exact answerJoined_kept (State.onCmd_kept h)
  · exact answerJoined_kept h
  · exact State.emit_kept h
  · split
    · exact ite_kept (sendOne_kept (State.onFelt_kept h)) (answerJoined_kept (ite_kept (takeToken_kept h) h))
    · exact answerJoined_kept h
  · exact answerJoined_kept h
  · exact h
  · next e =>
    cases detach e
    exact ite_kept (finishDetach_kept h) (State.onFelt_kept h)
  · next m e =>
    cases align m e
    exact Kept.onEpochs h rfl
  · exact endLongOf_kept (setRegion_kept h)
  · exact h

theorem applyEnd_kept {e : Nat} {j : Joined} (h : Kept false a s) : Kept false a (applyEnd s e j) :=
  applyEnd_kept_whole h (fun _ _ => rfl) (fun _ => rfl)

theorem applyFollower_kept {num : Nat} {op : RegionOpKind} {runs : List (Nat × Nat)} {epoch : Nat} (h : Kept whole a s) : Kept whole a
    (applyFollower s num op runs epoch) := by
  unfold applyFollower
  extract_lets _
  split
  · exact setRegion_kept (createRegion_kept h)
  · split
    · exact ite_kept (growRegion_kept h) (shrinkRegion_kept h)
    · exact h
  · exact destroyRegion_kept h
  · exact ite_kept (applyFlags_kept h) (setRegion_kept (applyFlags_kept h))
  · exact h

theorem followerInSync_kept (h : Kept whole a s) : Kept whole a (followerInSync s) :=
  State.onFelt_kept (State.each_kept h fun _ _ h => ite_kept (endLongOf_kept (setRegion_kept h)) h)

theorem rollKeys_kept (h : Kept whole a s) : Kept whole a (rollKeys s) := State.each_kept h fun _ _ h => ite_kept (setKeySlot_kept h) h

theorem checkResync_kept {num : Nat} (h : Kept false a s) : Kept false a (checkResync s num) := by
  unfold checkResync
  split
  · exact ite_kept (requestClose_kept h) h
  · exact h

/-- What follows the record of a close's end leaves the closed epoch that it recorded. -/
theorem finishClose_kept {c : Close} : Kept false (s.onEpochs fun e => { e with closed := max e.closed c.epoch }) (finishClose s c) := by
  unfold finishClose
  extract_lets ended sent changed follow followed synced regions rolled queued
  have hEnded : Kept false (s.onEpochs fun e => { e with closed := max e.closed c.epoch }) ended := ⟨rfl, rfl, nofun⟩
  have hChanged := State.each_kept (l := c.joined) (sendEnds_kept (e := c.epoch) (applyOffWait_kept hEnded))
    fun s j h => applyEnd_kept (e := c.epoch) (j := j) h
  generalize (s.onEpochs fun e => { e with closed := max e.closed c.epoch }) = a at hChanged ⊢
  have hFollowed : Kept false a followed :=
    ite_kept (State.each_kept (State.onFelt_kept hChanged) fun _ _ h => applyFollower_kept h) hChanged
  have hRegions : Kept false a regions := State.onRegions_kept (ite_kept (followerInSync_kept hFollowed) hFollowed)
  have hRolled : Kept false a rolled := ite_kept hRegions (rollKeys_kept hRegions)
  have hQueued : Kept false a queued := by
    dsimp only [queued]
    split
    · exact requestClose_kept (Kept.onEpochs hRolled rfl)
    · exact hRolled
  exact ite_kept hQueued (State.each_kept hQueued fun _ _ h => checkResync_kept h)

end
end Sys2Proof.Machine
end

section
/-! PROOFS. Closes are serialised, and the closed epoch does not fall (R36, R57, R75). -/

namespace Sys2Proof.Machine

/-- No close runs and none waits. -/
def NoClose (s : State) : Prop := s.epochs.running = none ∧ s.epochs.queued = none

theorem NoClose.of_kept {a s : State} (h : NoClose a) (k : Kept true a s) : NoClose s := by
  obtain ⟨-, -, ke⟩ := k
  rw [NoClose, ke rfl]
  exact h

/-- R36, R75: of the changes that a close carries, DETACH alone asks for another close; the alignment to the twin's epoch moves the current
epoch and asks for none. -/
theorem applyEnd_noClose {s : State} {e : Nat} {j : Joined} (h : NoClose s) (hj : j.change ≠ .detach) : NoClose (applyEnd s e j) := by
  by_cases align : ∃ m, j.change = .align m
  · obtain ⟨m, hm⟩ := align
    unfold applyEnd
    rw [hm]
    exact h
  · exact h.of_kept (applyEnd_kept_whole Kept.refl (fun m hm => absurd ⟨m, hm⟩ align) (fun hd => absurd hd hj))

/-- The Couch's own close has no part in the twin, rolls no key and checks no resync. -/
theorem finishClose_noClose {s : State} {c : Close} (hq : s.epochs.queued = none) (hc : c.couch = true)
    (hj : ∀ j ∈ c.joined, j.change ≠ .detach) : NoClose (finishClose s c) := by
  have alone : ∀ t, ¬ pairWide t c = true := fun t => by simp [pairWide, hc]
  unfold finishClose
  extract_lets ended sent changed follow followed synced regions rolled queued
  have hEnded : NoClose ended := ⟨rfl, hq⟩
  have hChanged : NoClose changed := List.foldlRecOn c.joined _ (hEnded.of_kept (sendEnds_kept (applyOffWait_kept Kept.refl)))
    fun _ h j hm => applyEnd_noClose h (hj j hm)
  have hFollowed : followed = changed := if_neg (alone _)
  have hSynced : synced = followed := if_neg (alone _)
  have hRolled : rolled = regions := if_pos hc
  have hRegions : NoClose regions := by
    show NoClose synced
    rw [hSynced, hFollowed]
    exact hChanged
  rw [if_pos hc]
  dsimp only [queued]
  rw [hRolled]
  split
  · next h => exact absurd (hRegions.2.symm.trans h) nofun
  · exact hRegions

theorem requestClose_epochs_idle {s : State} {js : List Joined} (h : s.epochs.running = none) :
    (requestClose s js).epochs = (s.onEpochs fun e => { e with
      running := some { epoch := e.current, joined := js, started := s.now, localDone := false, peerDone := false, couch := false },
      current := e.current + 1, began := s.now, asyncBytes := 0 }).epochs := by
  obtain ⟨-, -, he⟩ := startClose_kept_began (s := s) (joined := js) (couch := false) (peer := false)
  rw [← he rfl, requestClose, h]

theorem requestClose_running {s : State} {js : List Joined} {c : Close} (h : s.epochs.running = some c) :
    requestClose s js = s.onEpochs fun e => { e with queued := some (e.queued.getD [] ++ js) } := by
  rw [requestClose, h]

theorem finishClose_closed {s : State} {c : Close} : (finishClose s c).epochs.closed = max s.epochs.closed c.epoch := by
  obtain ⟨-, hc, -⟩ := finishClose_kept (s := s) (c := c)
  exact hc

/-- Settles O33: of requestClose and finishClose the epochs alone are read, and what follows the record of the end leaves them. -/
theorem closesAreSerialisedAndTheClosedEpochNeverFalls : Obligations.ClosesAreSerialisedAndTheClosedEpochNeverFalls := by
  refine fun s js c => ⟨requestClose_epochs_idle, fun h => ?_, finishClose_closed.ge, fun hq hc hj => ?_⟩
  · rw [requestClose_running h]
    rfl
  · obtain ⟨hr, -⟩ := finishClose_noClose hq hc hj
    exact hr

end Sys2Proof.Machine
end

section
/-! PROOFS. The Wire's links: what is recorded of each, and the resend and the fence of one (R28). -/

namespace Sys2Proof.Machine

section
variable {s t : State} {k no : Nat}

theorem find?_insertBy {α : Type} {key : α → Nat} {x : α} {l : List α} :
    (insertBy key x l).find? (key · = k) = if k = key x then some x else l.find? (key · = k) := by
  induction l with
  | nil => by_cases h : key x = k <;> simp [insertBy, h, eq_comm]
  | cons y ys ih =>
    unfold insertBy
    by_cases hx : k = key x
    · subst hx
      split
      · simp
      · split
        · simp
        · next h => rw [List.find?_cons_of_neg (by simpa [eq_comm] using h), ih, if_pos rfl, if_pos rfl]
    · split
      · simp [hx, eq_comm]
      · split
        · next h => simp [hx, ← h, eq_comm]
        · rw [List.find?_cons, List.find?_cons, ih, if_neg hx]

theorem wireLinkAt_no : (wireLinkAt s k).no = k := by
  unfold wireLinkAt
  cases h : s.wire.links.find? (·.no = k) with
  | none => rfl
  | some l => simpa using List.find?_some h

theorem wireLinkAt_of_links (h : t.wire.links = s.wire.links) : wireLinkAt t k = wireLinkAt s k := by
  rw [wireLinkAt, h, wireLinkAt]

theorem wireLinkAt_of_kept (h : Kept false s t) : wireLinkAt t k = wireLinkAt s k := by
  obtain ⟨hl, -⟩ := h
  exact wireLinkAt_of_links hl

theorem wireLinkAt_emit {o : Out} : wireLinkAt (s.emit o) k = wireLinkAt s k := rfl

theorem wireLinkAt_setWireLink {l : WireLink} : wireLinkAt (setWireLink s l) k = if k = l.no then l else wireLinkAt s k := by
  show ((insertBy WireLink.no l s.wire.links).find? (·.no = k)).getD _ = _
  rw [find?_insertBy]
  split <;> rfl

theorem wireLinkAt_setWireLink_of_ne {l : WireLink} (h : k ≠ l.no) : wireLinkAt (setWireLink s l) k = wireLinkAt s k := by
  rw [wireLinkAt_setWireLink, if_neg h]

theorem wireLinkAt_judgeRetries_of_ne (h : k ≠ no) : wireLinkAt (judgeRetries s no) k = wireLinkAt s k := by
  have hk : k ≠ (wireLinkAt s no).no := by rwa [wireLinkAt_no]
  unfold judgeRetries
  dsimp only
  split
  · exact (wireLinkAt_of_kept (State.event_kept Kept.refl)).trans (wireLinkAt_setWireLink_of_ne hk)
  · exact wireLinkAt_setWireLink_of_ne hk

/-- R28: the same beat in error, as often, and as much in or out of use. -/
def SameErrors (l m : WireLink) : Prop := l.beat = m.beat ∧ l.failures = m.failures ∧ l.fenced = m.fenced

theorem judgeRetries_sameErrors : SameErrors (wireLinkAt (judgeRetries s no) no) (wireLinkAt s no) := by
  unfold judgeRetries
  dsimp only
  split
  · rw [wireLinkAt_of_kept (State.event_kept Kept.refl), wireLinkAt_setWireLink, if_pos wireLinkAt_no.symm]
    exact ⟨rfl, rfl, rfl⟩
  · rw [wireLinkAt_setWireLink, if_pos wireLinkAt_no.symm]
    exact ⟨rfl, rfl, rfl⟩

theorem wireLinkAt_countRetry_of_ne (h : k ≠ no) : wireLinkAt (countRetry s no) k = wireLinkAt s k :=
  (wireLinkAt_judgeRetries_of_ne h).trans (wireLinkAt_setWireLink_of_ne (by rwa [wireLinkAt_no]))

theorem countRetry_sameErrors : SameErrors (wireLinkAt (countRetry s no) no) (wireLinkAt s no) := by
  have h := judgeRetries_sameErrors (s := setWireLink s { wireLinkAt s no with retries := (wireLinkAt s no).retries ++ [s.now] }) (no := no)
  rwa [wireLinkAt_setWireLink, if_pos wireLinkAt_no.symm] at h

theorem routeBeat_kept {whole : Bool} {link : Nat} {r : Nat × Nat} {b : Beat} (h : Kept whole t s) : Kept whole t (routeBeat s link r b) := by
  unfold routeBeat
  split
  · exact ite_kept (State.onWire_kept h rfl) (State.event_kept (State.emit_kept h))
  · exact h

theorem rerouteBeats_kept {whole : Bool} {beats : List Beat} (h : Kept whole t s) : Kept whole t (rerouteBeats s no beats) := by
  unfold rerouteBeats
  split
  · exact State.each_kept h fun _ _ h => routeBeat_kept h
  · exact h
  · exact h

/-- R28: of the links' records a fence writes those of the two directions alone; the units it cuts off fence units of their own. -/
theorem fenceWireLink_kept : Kept false (closeDirection (closeDirection s no) (reverseLink no)) (fenceWireLink s no) := by
  unfold fenceWireLink
  extract_lets l m closed waiting rerouted
  have hm : m.no = reverseLink no := wireLinkAt_no
  have h : Kept false (closeDirection (closeDirection s no) m.no) waiting := State.onWire_kept (State.event_kept Kept.refl) rfl
  rw [hm] at h
  exact State.each_kept (rerouteBeats_kept (rerouteBeats_kept h)) fun _ _ h => fenceIsland_kept h

theorem closeDirection_fenced : (wireLinkAt (closeDirection s no) no).fenced = true := by
  rw [closeDirection, wireLinkAt_setWireLink, if_pos wireLinkAt_no.symm]

theorem wireLinkAt_closeDirection_of_ne (h : k ≠ no) : wireLinkAt (closeDirection s no) k = wireLinkAt s k :=
  wireLinkAt_setWireLink_of_ne (by rwa [wireLinkAt_no])

theorem closeDirection_fenced_of_fenced (h : (wireLinkAt s k).fenced = true) : (wireLinkAt (closeDirection s no) k).fenced = true := by
  by_cases hk : k = no
  · subst hk; exact closeDirection_fenced
  · rwa [wireLinkAt_closeDirection_of_ne hk]

theorem fenceWireLink_fenced : (wireLinkAt (fenceWireLink s no) no).fenced = true := by
  rw [wireLinkAt_of_kept fenceWireLink_kept]
  exact closeDirection_fenced_of_fenced closeDirection_fenced

theorem fenceWireLink_fenced_reverse : (wireLinkAt (fenceWireLink s no) (reverseLink no)).fenced = true := by
  rw [wireLinkAt_of_kept fenceWireLink_kept]
  exact closeDirection_fenced

theorem wireLinkAt_fenceWireLink_of_ne (h : k ≠ no) (hr : k ≠ reverseLink no) : wireLinkAt (fenceWireLink s no) k = wireLinkAt s k := by
  rw [wireLinkAt_of_kept fenceWireLink_kept, wireLinkAt_closeDirection_of_ne hr, wireLinkAt_closeDirection_of_ne h]

/-- R28: how often in a row the beat has failed with this NAK. -/
def failuresNow (l : WireLink) (b : Beat) : Nat := if l.beat = some b then l.failures + 1 else 1

theorem SameErrors.failuresNow {l m : WireLink} {b : Beat} (h : SameErrors l m) : failuresNow l b = failuresNow m b := by
  obtain ⟨hb, hf, -⟩ := h
  rw [Machine.failuresNow, hb, hf, Machine.failuresNow]

theorem resend_again {b : Beat} (h : failuresNow (wireLinkAt s no) b < 4) : resend s no b =
    (setWireLink s { wireLinkAt s no with beat := some b, failures := failuresNow (wireLinkAt s no) b }).emit (.wireResend no b) :=
  if_neg (Nat.not_le.2 h)

theorem wireLinkAt_resend_again_of_ne {b : Beat} (h : failuresNow (wireLinkAt s no) b < 4) (hk : k ≠ no) :
    wireLinkAt (resend s no b) k = wireLinkAt s k := by
  rw [resend_again h, wireLinkAt_emit, wireLinkAt_setWireLink_of_ne (by rwa [wireLinkAt_no])]

theorem wireLinkAt_resend_again {b : Beat} (h : failuresNow (wireLinkAt s no) b < 4) :
    (wireLinkAt (resend s no b) no).beat = some b ∧ (wireLinkAt (resend s no b) no).failures = failuresNow (wireLinkAt s no) b ∧
      (wireLinkAt (resend s no b) no).fenced = (wireLinkAt s no).fenced := by
  have hno : (wireLinkAt s no).no = no := wireLinkAt_no
  rw [resend_again h, wireLinkAt_emit, wireLinkAt_setWireLink, if_pos hno.symm]
  generalize wireLinkAt s no = l
  exact ⟨rfl, rfl, rfl⟩

theorem wireResend_mem_out {b : Beat} (h : failuresNow (wireLinkAt s no) b < 4) : Out.wireResend no b ∈ (resend s no b).out := by
  rw [resend_again h, Machine.emit_out]
  exact List.mem_append_right _ (List.mem_singleton_self _)

theorem resend_fourth {b : Beat} (h : 4 ≤ failuresNow (wireLinkAt s no) b) : resend s no b = fenceWireLink s no := if_pos h

/-- A NAK without an injection of link errors at the beat's source. -/
theorem execWireNakReceived_plain {b : Beat} (open_ : (wireLinkAt s no).fenced = false)
    (plain : ∀ u, wireUnit (beatSource b) = some u → injecting s u 3 = false) :
    execWireNakReceived no b s = .next (resend (countRetry s no) no b) := by
  unfold execWireNakReceived
  simp only [open_, Bool.false_eq_true, if_false]
  split
  · next u hu => simp [withInjection, plain u hu]
  · rfl
end

/-- Settles O30: the record of the link decides between the resend and the fence. -/
theorem aNakedBeatIsResentUpToThreeTimes : Obligations.ANakedBeatIsResentUpToThreeTimes := by
  intro s l b open_ plain n
  have hn : failuresNow (wireLinkAt (countRetry s l) l) b = n := countRetry_sameErrors.failuresNow
  refine ⟨resend (countRetry s l) l b, ?_, fun few => ?_, fun many => ?_, fun k hk hr => ?_⟩
  · show execWireNakReceived l b s = _
    exact execWireNakReceived_plain open_ plain
  · obtain ⟨hb, hf, ho⟩ := wireLinkAt_resend_again (hn.trans_lt few)
    obtain ⟨-, -, hc⟩ := countRetry_sameErrors (s := s) (no := l)
    exact ⟨hb, hf.trans hn, ho.trans (hc.trans open_), wireResend_mem_out (hn.trans_lt few)⟩
  · rw [resend_fourth (many.trans_eq hn.symm)]
    exact ⟨rfl, fenceWireLink_fenced, fenceWireLink_fenced_reverse⟩
  · rcases Nat.lt_or_ge n 4 with few | many
    · rw [wireLinkAt_resend_again_of_ne (hn.trans_lt few) hk, wireLinkAt_countRetry_of_ne hk]
    · rw [resend_fourth (many.trans_eq hn.symm), wireLinkAt_fenceWireLink_of_ne hk (hr many), wireLinkAt_countRetry_of_ne hk]

end Sys2Proof.Machine
end

section
/-! PROOFS. The end of a close, the interval that asks for one, and the Deckle's recompute (R34, R36, R49, R57, R59). -/

namespace Sys2Proof.Machine

theorem closesRun_iff {s : State} :
    closesRun s = true ↔ (s.cmd.ready = .lift ∨ s.cmd.ready = .service) ∧ s.couch.orch ≠ .committed ∧ s.couch.orch ≠ .down := by
  simp [closesRun, and_assoc]

section
variable {s : State} {c : Close} (run : s.epochs.running = some c)
include run

theorem execEpochCloseComplete_undrained (h : drained s c.epoch = false) : execEpochCloseComplete s = .next s := by
  rw [execEpochCloseComplete, run]
  simp [h]

theorem execEpochCloseComplete_alone (h : drained s c.epoch = true) (w : pairWide s c = false) :
    execEpochCloseComplete s = .next (finishCloses (finishClose s c)) := by
  rw [execEpochCloseComplete, run]
  simp [h, w]

theorem execEpochCloseComplete_pairWide (h : drained s c.epoch = true) (w : pairWide s c = true) : execEpochCloseComplete s =
    let t := if c.localDone then s else sendAll (s.onEpochs fun e => { e with running := some { c with localDone := true } }) (.close c.epoch)
    .next (if c.peerDone then finishCloses (finishClose t c) else t) := by
  rw [execEpochCloseComplete, run]
  simp only [h, w, Bool.not_true, Bool.false_eq_true, if_false, if_true]
  cases c.peerDone <;> rfl
end

/-- Settles O32: each command is read off its arm; that the closed epoch does not fall is what follows the record of the end. -/
theorem epochClosesAndRecomputes : Obligations.EpochClosesAndRecomputes := by
  intro s
  refine ⟨fun idle => ?_, fun c run => ⟨fun h => ?_, fun h w => ⟨?_, finishClose_closed.ge⟩, fun h w => ?_⟩, ?_, rfl, rfl⟩
  · show execEpochCloseComplete s = _
    rw [execEpochCloseComplete, idle]
  · exact execEpochCloseComplete_undrained run h
  · exact execEpochCloseComplete_alone run h w
  · exact execEpochCloseComplete_pairWide run h w
  · intro runs
    have hc : closesRun s = true ↔ runs := closesRun_iff
    refine ⟨fun hr idle => ?_, fun hr c run => ?_, fun hr => ?_⟩
    · show execAutoCloseIntervalExpiry s = _
      rw [execAutoCloseIntervalExpiry, if_pos (hc.2 hr), requestClose, idle]
      rfl
    · show execAutoCloseIntervalExpiry s = _
      rw [execAutoCloseIntervalExpiry, if_pos (hc.2 hr), requestClose_running run]
      simp only [List.append_nil]
    · show execAutoCloseIntervalExpiry s = _
      rw [execAutoCloseIntervalExpiry, if_neg fun h => hr (hc.1 h)]

end Sys2Proof.Machine
end

section
/-! PROOFS. A beat at its receiver (R12, R13, R16, R17, R20 to R28). -/

namespace Sys2Proof.Machine

section
variable {s : State} {l : Nat} {b : Beat} {i : Island}

theorem receiveBeat_up (h : linkEndsOf l = .up i) : receiveBeat s l b = atFirstRouter s l i b := by
  rw [receiveBeat, h]

theorem receiveBeat_mesh {q r : Nat × Nat} (h : linkEndsOf l = .mesh q r) : receiveBeat s l b = (atRouter s l r b).emit (.wireAccept l) := by
  rw [receiveBeat, h]

theorem receiveBeat_down (h : linkEndsOf l = .down i) : receiveBeat s l b = atIsland s l i b := by
  rw [receiveBeat, h]

theorem atIsland_unrouted (h : routed s i = false) : atIsland s l i b = undeliverable s l b := by
  simp [atIsland, h]

theorem atIsland_changing (h : routed s i = true) (hc : s.wire.changing.contains i = true) : atIsland s l i b = holdAtRouter s l i b := by
  rw [atIsland, if_neg (by simp [h]), if_pos hc]

theorem atIsland_reached (h : routed s i = true) (hc : s.wire.changing.contains i = false) : atIsland s l i b = atEndpoint s l b := by
  rw [atIsland, if_neg (by simp [h]), if_neg (by rw [hc]; exact Bool.false_ne_true)]

theorem atEndpoint_duplicate (h : duplicate s b = true) : atEndpoint s l b = s := if_pos h

theorem atEndpoint_keyRefused (h : duplicate s b = false) (hk : keyRefused s b = true) : atEndpoint s l b =
    ((remember s b).emit (.wireKeyError l b.tag)).event 1 4 1 (beatDest b) (detail := b.tag.toNat / 2 ^ 96) := by
  rw [atEndpoint, if_neg (by simp [h]), if_pos hk]

theorem atEndpoint_taken (h : duplicate s b = false) (hk : keyRefused s b = false) : atEndpoint s l b =
    (captureBeat (answerWork (remember s b) b) b (resolveDest s (beatDest b)) false).emit (.wireAccept l) := by
  rw [atEndpoint, if_neg (by simp [h]), if_neg (by simp [hk])]

theorem atFirstRouter_closed (h : issueClosed s b = true) : atFirstRouter s l i b = s := if_pos h

theorem atFirstRouter_open (h : issueClosed s b = false) : atFirstRouter s l i b =
    (atRouter (captureBeat (issueWork s b) b (beatSource b) true) l (routerFor i) b).emit (.wireAccept l) := by
  rw [atFirstRouter, if_neg (by simp [h])]

theorem routeBeat_routed {r : Nat × Nat} (h : wireIsland (resolveDest s (beatDest b)) = some i) (hr : s.wire.unrouted.contains i = false) :
    routeBeat s l r b = enqueueBeat s l r i b := by
  simp only [routeBeat, h, routed, hr, Bool.not_false, if_true]

theorem routeBeat_unrouted {r : Nat × Nat} (h : wireIsland (resolveDest s (beatDest b)) = some i) (hr : s.wire.unrouted.contains i = true) :
    routeBeat s l r b = undeliverable s l b := by
  simp only [routeBeat, h, routed, hr, Bool.not_true, Bool.false_eq_true, if_false]

/-- R20, R24, R28: what the receiver does with a beat once its checks have passed. -/
theorem execWireBeatReceived_good (open_ : (wireLinkAt s l).fenced = false) (hp : parityGood b = true) (hr : reservedTag b = false) :
    execWireBeatReceived l b s = .next (receiveBeat (resendDone (countBeat s l) l b) l b) := by
  simp [execWireBeatReceived, open_, hp, hr]
end

/-- Settles O29: the checks of the beat in their order, and then the kind of its link. -/
theorem wireBeatsAreCheckedAndAccepted : Obligations.WireBeatsAreCheckedAndAccepted := by
  intro s l b open_ t
  refine ⟨fun hp => ?_, fun hp hr => ?_, fun hp hr => ?_, fun u r hg => ?_, fun u r i hg hi => ⟨fun hu => ?_, fun hu => ?_⟩⟩
  · show execWireBeatReceived l b s = _
    simp [execWireBeatReceived, open_, hp]
  · show execWireBeatReceived l b s = _
    simp [execWireBeatReceived, open_, hp, hr, discardBeat, t]
  · have good : exec (.wireBeatReceived l b) s = .next (receiveBeat t l b) := execWireBeatReceived_good open_ hp hr
    rw [good]
    refine ⟨fun i he => ?_, fun q r he => ?_, fun i he => ?_, fun i he h hc => ?_⟩
    · rw [receiveBeat_up he]
      exact ⟨fun h => by rw [atFirstRouter_closed h], fun h => by rw [atFirstRouter_open h]⟩
    · rw [receiveBeat_mesh he]
    · rw [receiveBeat_down he]
      exact ⟨fun h => by rw [atIsland_unrouted h]; rfl, fun h hc => by rw [atIsland_changing h hc]; rfl⟩
    · rw [receiveBeat_down he, atIsland_reached h hc]
      exact ⟨fun h => by rw [atEndpoint_duplicate h],
        fun h hk => by rw [atEndpoint_keyRefused h hk], fun h hk => by rw [atEndpoint_taken h hk]⟩
  · exact if_pos hg
  · rw [atRouter, if_neg hg, routeBeat_routed hi hu]
    rfl
  · rw [atRouter, if_neg hg, routeBeat_unrouted hi hu]
    rfl

end Sys2Proof.Machine
end

section
/-! PROOFS. The fence of an engine and the spare that takes its role (R12, R16, R17, R19). -/

namespace Sys2Proof.Machine

section
variable {s : State} {e : Nat} (serving : (engineAt s e).unit.st = .inService)
include serving

theorem fenceEngine_last (h : fenceForbidden s e = true) : fenceEngine s e =
    (setEngine s e fun x => { x with failing := true }).event 0 1 3 (unitWord 1 e) (detail := engineDetail e 0xFF (engineAt s e).role) := by
  unfold fenceEngine
  rw [if_neg (not_not.2 serving), if_pos h]

/-- R16: the spare takes the role with its number, the work and the messages. -/
theorem fenceEngine_spare {k : Nat} (h : fenceForbidden s e = false) (hr : (engineAt s e).role ≠ .spare) (hk : spareFor s e = some k) :
    fenceEngine s e =
      let t := setEngine (endInjections s (.engine e)) e fun x => { x with
        role := .fenced, instance_ := 255, failing := false, resuming := false, work := [], unit := { x.unit with st := .fenced } }
      let t := setEngine t k fun y => { y with role := (engineAt s e).role, instance_ := (engineAt s e).instance_, resuming := true }
      clusterOff (redirectTo (handWork t k (engineAt s e).work) e k) (e / 16) := by
  unfold fenceEngine
  simp only [serving, h, if_neg hr, hk, ne_eq, not_true_eq_false, Bool.false_eq_true, if_false]

/-- R16: without a spare another engine of the role takes the work and the messages; a fenced spare has its event alone. -/
theorem fenceEngine_noSpare (h : fenceForbidden s e = false) (hn : (engineAt s e).role = .spare ∨ spareFor s e = none) :
    fenceEngine s e =
      let t := setEngine (endInjections s (.engine e)) e fun x => { x with
        role := .fenced, instance_ := 255, failing := false, resuming := false, work := [], unit := { x.unit with st := .fenced } }
      if (engineAt s e).role = .spare then clusterOff (t.event 2 1 2 (unitWord 1 e) (detail := engineDetail e 0xFF .spare)) (e / 16)
      else
        let t := match takeOver t (engineAt s e).role (engineAt s e).instance_ with
          | some k => redirectTo (handWork t k (engineAt s e).work) e k
          | none => t
        let t := clusterOff (t.event 2 2 2 (unitWord 1 e) (detail := engineDetail e 0xFF (engineAt s e).role)) (e / 16)
        if (engineAt s e).role = .couch then deckleImmediate t else t := by
  have hs : (if (engineAt s e).role = .spare then none else spareFor s e) = none := by
    rcases hn with hr | hn
    · exact if_pos hr
    · simp only [hn, ite_self]
  unfold fenceEngine
  simp only [serving, h, hs, ne_eq, not_true_eq_false, Bool.false_eq_true, if_false] <;> rfl
end

theorem execSpareRoleResumed_resuming {s : State} {e k : Nat} (hk : s.wire.redirect.find? (·.1 = e) = some (e, k))
    (hr : (engineAt s k).resuming = true) : execSpareRoleResumed e s =
      let t := setEngine s k fun x => { x with resuming := false }
      let t := t.each (engineAt t k).work fun u b => atRouter u (upLink (.en (k / 16))) (routerFor (.en (k / 16))) b
      .next (t.event 2 1 2 (unitWord 1 e) (detail := engineDetail e k (engineAt t k).role)) := by
  simp only [execSpareRoleResumed, hk, hr, if_true]

/-- Settles O31: the three faults come to the one fence, and the fence is read by its cases. -/
theorem engineFaultsFenceToASpare : Obligations.EngineFaultsFenceToASpare := by
  intro s e
  exact ⟨rfl, rfl, rfl, fun _ serving h hr hk => fenceEngine_spare serving h hr hk, fun serving h hn => fenceEngine_noSpare serving h hn,
    fun serving h => fenceEngine_last serving h, fun _ hk hr => execSpareRoleResumed_resuming hk hr, fun _ => rfl⟩

end Sys2Proof.Machine
end

section
/-! PROOFS. The pair of two devices: how it forms, what it exchanges and how it parts (R36, R256, R258 to R260, R265 to R274, R315). -/

namespace Sys2Proof.Machine

theorem execHello_rejoin {s : State} {link : Nat} {b : List Byte} (up : (linkAt s link).st = .up) (h : helloRecord b = true)
    (hf : helloFault link b = none) (hp : s.felt.pair = .attached) :
    execHello link b s = .next (joinMapping (s.onFelt fun f => { f with hellos := f.hellos.filter (·.1 ≠ link) })) := by
  simp [execHello, up, h, hf, hp]

section
variable {s : State} {link : Nat} {b : List Byte} (near : s.felt.pair ≠ .detached) (up : (linkAt s link).st = .up)
include near up

theorem execHello_unsound (h : helloRecord b = false) : execHello link b s = .next (discardMsg s link) := by
  simp [execHello, near, up, h]

theorem execHello_form (h : helloRecord b = true) (hf : helloFault link b = none) (hp : s.felt.pair ≠ .attached) :
    execHello link b s = .next (formPair s link b) := by
  simp [execHello, near, up, h, hf, hp]

theorem execHello_fault {d : Nat} (h : helloRecord b = true) (hf : helloFault link b = some d) : execHello link b s =
    let t := (s.onFelt fun f => { f with hellos := f.hellos.filter (·.1 ≠ link) ++ [(link, d)] }).event 7 3 2 (unitWord 6 link) (detail := d)
    let u := if d = 3 then holdLink t link else t
    .next (if t.felt.pair = .linking && helloLost t then attachFails u .conflict d else u) := by
  unfold execHello
  rw [if_neg (by simp [near, up]), if_neg (by simp [h]), hf]
end

section
variable {s : State}

theorem execLinkingTimeout_silent (h : s.felt.pair = .linking) (hn : s.felt.hellos = []) :
    execLinkingTimeout s = .next (if s.felt.links.any (·.st = .up) then s else attachFails s .twinDown 0) := by
  simp [execLinkingTimeout, h, hn]

theorem execLinkingTimeout_fault {l d : Nat} (h : s.felt.pair = .linking) (hl : s.felt.hellos.getLast? = some (l, d)) :
    execLinkingTimeout s = .next (attachFails s .conflict d) := by
  simp [execLinkingTimeout, h, hl]
end

section
variable {s : State} (pair : s.felt.pair = .attached)
include pair

theorem execStatus_up {link p c m at_ : Nat} {e : Energy} (up : (linkAt s link).st = .up) : execStatus link p e c m at_ s =
    .next (slewTime (measureOffset (s.onFelt fun f => { f with twinPressure := p, twinEnergy := e, twinClosed := c }))) := by
  simp [execStatus, pair, up]

theorem execStatusSendTick_attached :
    execStatusSendTick s = .next (sendAll s (.status (pressure s / 10) s.sal.state s.epochs.closed s.epochs.mirrored s.now)) := by
  rw [execStatusSendTick, if_pos pair]

theorem execClose_running {c : Close} {e : Nat} (run : s.epochs.running = some c) : execClose e s =
    .next (if c.epoch = e then s.onEpochs fun x => { x with running := some { c with peerDone := true } } else s) := by
  rw [execClose, if_neg (not_not.2 pair), run]

theorem execClose_idle {e : Nat} (idle : s.epochs.running = none) :
    execClose e s = .next (if s.epochs.current = e then startClose s [] false true else s) := by
  rw [execClose, if_neg (not_not.2 pair), idle]

/-- R268: the answer of the follower to an operation that is no answer itself. -/
def answerOperation (s : State) (n : Nat) (op : RegionOpKind) : State :=
  sendOne (if (followerCheck s n op).1 = .accepted then (reserveRuns s (followerCheck s n op).2).onFelt fun f =>
    { f with reservedOps := f.reservedOps.filter (·.1 ≠ n) ++ [(n, op, (followerCheck s n op).2)] } else s)
    (.regionOp n (.answer (followerCheck s n op).1))

theorem execRegionOp_asked {n : U16} {op : RegionOpKind} (h : ∀ a, op ≠ .answer a) :
    execRegionOp n op s = .next (answerOperation s n.toNat op) := by
  unfold execRegionOp
  rw [if_neg (not_not.2 pair)]
  cases op with
  | answer a => exact absurd rfl (h a)
  | create _ _ => rfl
  | resize _ => rfl
  | destroy => rfl
  | setFlags _ => rfl

theorem execRegionOp_answer {n : U16} {a : OpAnswer} : execRegionOp n (.answer a) s = .next (finishCloses (takeAnswer s n.toNat a)) := by
  unfold execRegionOp
  rw [if_neg (not_not.2 pair)]

section
variable {n : U16} {g : U32} {r : Region} (hr : regionOf s n.toNat = some r) (hm : isMirrored r = true)
include hr hm

theorem execTokenOp_offer : execTokenOp n .offer g s =
    .next (sendOne (takeToken s n.toNat (if holdsToken r then s.felt.twinSerial.toNat else ownSerial) g) (.tokenOp n.toNat .accept g)) := by
  simp [execTokenOp, pair, hr, hm]

theorem execTokenOp_force : execTokenOp n .force g s =
    .next (if r.generation.toNat < g.toNat then takeToken s n.toNat s.felt.twinSerial.toNat g else s) := by
  simp [execTokenOp, pair, hr, hm]

/-- R266: the operation waits for the token of this region. -/
def handsOver (n : Nat) (x : Nat × Joined) : Bool := match x.2.change with | .handover m _ => m = n | _ => false

theorem execTokenOp_accept {x : Nat × Joined}
    (hx : s.felt.opReqs.find? (handsOver n.toNat) = some x) :
    execTokenOp n .accept g s =
      let t := s.onFelt fun f => { f with opReqs := f.opReqs.erase x }
      .next (finishCloses (answerJoined (if x.2.change = .handover n.toNat false then takeToken t n.toNat ownSerial g else t) x.2.req .ok 0 [])) := by
  unfold execTokenOp
  dsimp only
  rw [if_neg (not_not.2 pair), hr]
  dsimp only
  rw [if_neg (by simp [hm])]
  generalize hf : List.find? _ s.felt.opReqs = found
  cases hf.symm.trans hx
  rfl
end

theorem execFeltTimeout_attached :
    execFeltTimeout s = .next (if (twinLoss s).couch.orch = .committed then linksOff (twinLoss s) else twinLoss s) := by
  rw [execFeltTimeout, if_neg (not_not.2 pair)]

theorem execDetach_attached : execDetach s = .next (holdLinks (partPair s .detached)) := by
  rw [execDetach, if_pos pair]

theorem execCommitNotice_ended {at_ e : Nat} (h : s.couch.orch = .lifting ∨ s.couch.orch = .down) : execCommitNotice at_ e s = .next s := by
  rw [execCommitNotice, if_neg (not_not.2 pair)]
  rcases h with h | h <;> rw [h]

theorem execCommitNotice_committed {at_ e : Nat} (h : s.couch.orch = .committed) :
    execCommitNotice at_ e s = .next (rindWrite s 0x0B 0 s.felt.twinSerial.toNat) := by
  rw [execCommitNotice, if_neg (not_not.2 pair), h]

/-- R274: the survivor takes over the regions in sync whose token the twin held, where it is set to. -/
theorem execCommitNotice_serving {at_ e : Nat} (h : s.couch.orch = .serving ∨ s.couch.orch = .armed) : execCommitNotice at_ e s =
    .next ((twinLoss s).each
      (if takeoverOnCommit s then (s.regions.list.filter fun r => flagMirror r.flags = 1 && r.mirror = .inSync && !holdsToken r).map (·.num) else [])
      fun s n => requestClose s [{ change := .takeover n, req := none }]) := by
  rw [execCommitNotice, if_neg (not_not.2 pair)]
  rcases h with h | h <;> rw [h]
end

/-- Settles O49: HELLO and the time-out of linking by the pair's state, and each message of a pair that stands by its arm. -/
theorem thePairFormsExchangesAndParts : Obligations.ThePairFormsExchangesAndParts := by
  intro s
  refine ⟨fun link b near up h => execHello_unsound near up h, fun link b near up h => ⟨?_, ?_, ?_⟩, fun h => ⟨?_, ?_⟩, fun pair => ?_⟩
  · exact fun hf hp => execHello_rejoin up h hf hp
  · exact fun hf hp => execHello_form near up h hf hp
  · exact fun d hf => execHello_fault near up h hf
  · exact fun hn => execLinkingTimeout_silent h hn
  · exact fun l d hl => execLinkingTimeout_fault h hl
  refine ⟨fun link p e c m at_ up => execStatus_up pair (m := m) (at_ := at_) up, execStatusSendTick_attached pair,
    fun c e run => execClose_running pair run,
    fun e idle => execClose_idle pair idle, fun n op h => execRegionOp_asked pair h, fun n x hx => ?_, fun n g r hr hm => ⟨?_, ?_, ?_⟩,
    execFeltTimeout_attached pair, execDetach_attached pair, fun at_ e => ⟨?_, ?_, ?_⟩⟩
  · have answer : ∀ a, exec (.regionOp n (.answer a)) s = .next (finishCloses (takeAnswer s n.toNat a)) := fun a => execRegionOp_answer pair
    simp only [answer, takeAnswer, hx, and_self]
  · exact execTokenOp_offer pair hr hm
  · exact execTokenOp_force pair hr hm
  · exact fun x hx => execTokenOp_accept pair hr hm hx
  · exact fun h => execCommitNotice_ended pair (at_ := at_) (e := e) h
  · exact fun h => execCommitNotice_committed pair (at_ := at_) (e := e) h
  · exact fun h => execCommitNotice_serving pair (at_ := at_) (e := e) h

end Sys2Proof.Machine
end

section
/-! PROOFS. The state after reset (R56, R57, R414). -/

namespace Sys2Proof.Machine

/-- R56, R57: epoch 1 is current, none is closed or mirrored, and no close runs. -/
theorem epochsInOrder_reset : EpochsInOrder State.reset.epochs := ⟨Nat.le_refl 0, Nat.zero_lt_one, nofun⟩

/-- Settles O59: the epochs of reset are in order, and the Ledger's array lists nothing. -/
theorem resetIsSound : Obligations.ResetIsSound := ⟨⟨epochsInOrder_reset, reset_wf⟩, rfl, rfl⟩

end Sys2Proof.Machine
end

section
/-! PROOFS. Host reads and writes by the row of the access table that they fall under (R43, R47, R59, R82, R100, R225). -/

namespace Sys2Proof.Machine

section
variable {s : State} {h l tag a : Nat} {data : LineData} {be : BitVec 64} {poison : Bool}

theorem execCxlMemRead_closed (closed : portOpen s h = false) : execCxlMemRead h l tag a s = .next (s.emit (.noCredit h)) :=
  if_pos (by simp [closed])

theorem execCxlMemWrite_closed (closed : portOpen s h = false) :
    execCxlMemWrite h l tag a data be poison s = .next (s.emit (.noCredit h)) :=
  if_pos (by simp [closed])

/-- R82: the code and the region of the event that a write has which the table discards. -/
def Row.discards : Row → Option (Nat × Nat)
  | .unmapped => some (1, 0xFFFF)
  | .violation n => some (2, n)
  | .readOnly r => some (3, r.num)
  | .unkeyed r => some (5, r.num)
  | .granted _ => none

/-- R82, R100: the region that a read is served from. -/
def Row.serves : Row → Option Region
  | .readOnly r | .unkeyed r | .granted r => some r
  | .unmapped | .violation _ => none

/-- R100: the request that an accepted read of the DPA `d` becomes. -/
def readReq (s : State) (h l tag d : Nat) (r : Region) : HostReq :=
  { age := s.cxl.nextAge, write := false, port := h, ld := l, hostTag := tag, line := d / 64, data := 0, be := 0, poison := false,
    epoch := s.epochs.current, region := r.num, accepted := s.now, st := .line, credit := false, needAck := false, localDone := false,
    twinAsked := false, mirrorTag := 0xFFFF, deadline := deadlineOf r, late := false, marked := false }

/-- R33, R43: the request that a write of the DPA `d` becomes once it is accepted, with a credit or without. -/
def writeReq (s : State) (h l tag d : Nat) (data : LineData) (be : BitVec 64) (poison : Bool) (r : Region) (credit : Bool) : HostReq :=
  { age := s.cxl.nextAge, write := true, port := h, ld := l, hostTag := tag, line := d / 64, data := data, be := be, poison := poison,
    epoch := s.epochs.current, region := r.num, accepted := s.now, st := .line, credit := credit, needAck := false, localDone := false,
    twinAsked := false, mirrorTag := 0xFFFF, deadline := none, late := false, marked := false }

variable (open_ : portOpen s h = true)
include open_

/-- R82: a read that is served from no region returns zeros, with the event that a write of the place would have. -/
theorem execCxlMemRead_zeros {code n : Nat} (row : (classify s h l (decodeHpa s h l a)).serves = none)
    (event : (classify s h l (decodeHpa s h l a)).discards = some (code, n)) : execCxlMemRead h l tag a s =
      .next ((s.emit (.readData h l tag zeroLine)).eventFor 6 code 1 h l n ((decodeHpa s h l a).getD 0)) := by
  rw [execCxlMemRead, if_neg (by simp [open_])]
  dsimp only
  generalize classify s h l (decodeHpa s h l a) = c at row event ⊢
  cases c with
  | unmapped => cases event; rfl
  | violation => cases event; rfl
  | readOnly => exact nomatch row
  | unkeyed => exact nomatch row
  | granted => exact nomatch row

theorem execCxlMemRead_serves {r : Region} (row : (classify s h l (decodeHpa s h l a)).serves = some r) : execCxlMemRead h l tag a s =
    .next (acceptReq (takeAge s) (readReq s h l tag ((decodeHpa s h l a).getD 0) r)) := by
  rw [execCxlMemRead, if_neg (by simp [open_])]
  dsimp only
  generalize classify s h l (decodeHpa s h l a) = c at row ⊢
  cases c with
  | unmapped => exact nomatch row
  | violation => exact nomatch row
  | readOnly => cases row; rfl
  | unkeyed => cases row; rfl
  | granted => cases row; rfl

theorem execCxlMemWrite_discards {code n : Nat} (event : (classify s h l (decodeHpa s h l a)).discards = some (code, n)) :
    execCxlMemWrite h l tag a data be poison s = .next (discardWrite s h l tag code n ((decodeHpa s h l a).getD 0)) := by
  rw [execCxlMemWrite, if_neg (by simp [open_])]
  dsimp only
  generalize classify s h l (decodeHpa s h l a) = c at event ⊢
  cases c with
  | granted => exact nomatch event
  | unmapped => cases event; rfl
  | violation => cases event; rfl
  | readOnly => cases event; rfl
  | unkeyed => cases event; rfl

section
variable {r : Region} (row : classify s h l (decodeHpa s h l a) = .granted r)
include row

theorem execCxlMemWrite_waits (full : admitWrite s h ((decodeHpa s h l a).getD 0 / pageBytes) (isMirrored r) = none) :
    execCxlMemWrite h l tag a data be poison s = .next ((startWaiting s h l tag (isMirrored r)).emit (.noCredit h)) := by
  rw [execCxlMemWrite, if_neg (by simp [open_])]
  simp only [row, full]

/-- R33, R43, R59: an accepted write takes the next age, is mirrored and served, and may ask for a close. -/
theorem execCxlMemWrite_accepted {credit : Bool} {t : State}
    (admitted : admitWrite s h ((decodeHpa s h l a).getD 0 / pageBytes) (isMirrored r) = some (credit, t)) :
    execCxlMemWrite h l tag a data be poison s =
      let m := mirrorWrite (stopWaiting (takeAge t) h l tag) r (writeReq t h l tag ((decodeHpa s h l a).getD 0) data be poison r credit)
      .next (asyncClose (acceptReq m.1 m.2) t.epochs.asyncBytes) := by
  rw [execCxlMemWrite, if_neg (by simp [open_])]
  simp only [row, admitted]
  rfl
end
end

/-- Settles O25: the port first, then the row of the table, then the credit. -/
theorem hostAccessesFollowTheAccessTable : Obligations.HostAccessesFollowTheAccessTable := by
  refine fun s h l tag a data be poison => ⟨fun closed => ⟨execCxlMemRead_closed closed, execCxlMemWrite_closed closed⟩, fun open_ => ?_⟩
  intro dpa d
  refine ⟨fun row => ?_, fun n row => ?_, fun r row => ?_, fun r row => ?_, fun r row => ?_,
    fun r row => ⟨fun full => ?_, fun c t admitted => ?_⟩⟩
  · exact ⟨execCxlMemRead_zeros open_ (by rw [row]; rfl) (by rw [row]; rfl), execCxlMemWrite_discards open_ (by rw [row]; rfl)⟩
  · exact ⟨execCxlMemRead_zeros open_ (by rw [row]; rfl) (by rw [row]; rfl), execCxlMemWrite_discards open_ (by rw [row]; rfl)⟩
  · exact execCxlMemWrite_discards open_ (by rw [row]; rfl)
  · exact execCxlMemWrite_discards open_ (by rw [row]; rfl)
  · exact execCxlMemRead_serves open_ (by rcases row with row | row | row <;> rw [row] <;> rfl)
  · exact execCxlMemWrite_waits open_ row full
  · exact execCxlMemWrite_accepted open_ row admitted

end Sys2Proof.Machine
end

section
/-! PROOFS. The HDM decoders, the FM API, the lists and the event records of one LD (R63, R77, R78, R79, R447). -/

namespace Sys2Proof.Machine

section
variable {s : State} {h l : Nat} {d : Ld} (found : ldOf s h l = some d)
include found

theorem execGetDcExtentList_found : execGetDcExtentList h l s = .next (s.emit (.extentList h l d.held)) := by
  rw [execGetDcExtentList, found]
  rfl

theorem execGetEventRecords_found {k : Nat} :
    execGetEventRecords h l k s = .next (s.emit (.events h l k (d.logs.getD k []) (d.overflow.getD k 0))) := by
  rw [execGetEventRecords, found]
  rfl

theorem execGetEventInterruptPolicy_found : execGetEventInterruptPolicy h l s = .next (s.emit (.policy h l d.policy)) := by
  rw [execGetEventInterruptPolicy, found]
  rfl

theorem execClearEventRecords_found {k : Nat} {hs : List Nat} : execClearEventRecords h l k hs s = .next (setLd s h l fun d =>
    { d with logs := d.logs.modify k fun r => r.filter fun e => !hs.contains e.handle, overflow := d.overflow.set k 0 }) := by
  rw [execClearEventRecords, found]
end

/-- Settles O27: a decoder's commit, the FM API and the two settings take no case; the lists are read from the LD's own record. -/
theorem cxlManagementCommandsComplete : Obligations.CxlManagementCommandsComplete := by
  refine fun s h l => ⟨fun _ _ _ _ _ => rfl, rfl, rfl, rfl, fun _ => rfl, fun _ => rfl, fun d found => ⟨?_, fun k => ?_, ?_, fun k hs => ?_⟩⟩
  · exact execGetDcExtentList_found found
  · exact execGetEventRecords_found found
  · exact execGetEventInterruptPolicy_found found
  · exact execClearEventRecords_found found

end Sys2Proof.Machine
end

section
/-! PROOFS. What the walk of the Curd, its forced modes and the Ledger's erase leave alone. -/

namespace Sys2Proof.Machine

/-- The parts that the walk of the Curd's slices and a change of its mode can touch. -/
def walkParts : List Part := [.wire, .curd, .log, .units]

section
variable {s : State}

theorem sameBut_ite {ps : List Part} {c : Prop} [Decidable c] {t u : State} (ht : SameBut ps s t) (hu : SameBut ps s u) :
    SameBut ps s (if c then t else u) := by split <;> assumption

theorem sameBut_walk {t : State} (h : t = { s with wire := t.wire, curd := t.curd, log := t.log, units := t.units }) :
    SameBut walkParts s t := by
  intro p hp
  rw [h]
  cases p <;> simp [walkParts] at hp <;> rfl

theorem onCurd_frame {f : Curd → Curd} : SameBut walkParts s (s.onCurd f) := sameBut_walk rfl

theorem sliceCorrected_frame {i : Nat} : SameBut walkParts s (sliceCorrected s i) := by
  unfold sliceCorrected
  exact sameBut_ite (sameBut_walk rfl) (sameBut_walk rfl)

theorem stuckAccess_frame {line way : Nat} : SameBut walkParts s (stuckAccess s line way) := sameBut_ite sliceCorrected_frame .refl

theorem walkSlices_frame {which : Nat → Bool} : SameBut walkParts s (walkSlices s which) :=
  .each fun _ _ => sameBut_ite (stuckAccess_frame.trans (sameBut_walk rfl)) .refl

theorem walkDrain_frame : SameBut walkParts s (walkDrain s) := sameBut_ite walkSlices_frame (sameBut_ite .refl walkSlices_frame)

theorem retarget_frame : SameBut walkParts s (retarget s) := by
  unfold retarget
  refine sameBut_ite .refl (sameBut_ite (onCurd_frame.trans walkDrain_frame) (.trans ?_ onCurd_frame))
  exact sameBut_ite (.each fun _ _ => sameBut_walk rfl) .refl

theorem force_frame {bit : Nat} : SameBut walkParts s (force s bit) := onCurd_frame.trans retarget_frame
theorem unforce_frame {bit : Nat} : SameBut walkParts s (unforce s bit) := onCurd_frame.trans retarget_frame

theorem rindComplete_frame {type : Nat} : SameBut [.ledger] s (rindComplete s type) := sameBut_ledger rfl

theorem reissueErase_frame {rindOnly : Bool} : SameBut [.ledger] s (reissueErase s rindOnly) := by
  unfold reissueErase
  split
  · exact .refl
  · exact sameBut_ite (sameBut_ledger rfl) (sameBut_ledger rfl)

/-- R241: the end of the Lift's record, and WT forced for the Lift in place of start-up. -/
def liftEnd (s : State) : State := unforce (force (reissueErase (rindComplete s 6) true) 1) 0

theorem liftEnd_frame : SameBut (.ledger :: walkParts) s (liftEnd s) := by
  have ledger : SameBut (.ledger :: walkParts) s (reissueErase (rindComplete s 6) true) :=
    (rindComplete_frame.trans reissueErase_frame).mono (by decide)
  exact ledger.trans ((force_frame.trans unforce_frame).mono (by decide))

@[simp] theorem liftEnd_epochs : (liftEnd s).epochs = s.epochs := liftEnd_frame .epochs (by decide)
@[simp] theorem liftEnd_regions : (liftEnd s).regions = s.regions := liftEnd_frame .regions (by decide)
@[simp] theorem liftEnd_cmd : (liftEnd s).cmd = s.cmd := liftEnd_frame .cmd (by decide)
@[simp] theorem liftEnd_couch : (liftEnd s).couch = s.couch := liftEnd_frame .couch (by decide)
end

end Sys2Proof.Machine
end

section
/-! PROOFS. The drained Curd, READY.LIFT, folding, rehearsals and the return of the input (R56, R92, R227, R232, R241, R244, R247). -/

namespace Sys2Proof.Machine

/-! ### COUCH_CURD_DRAINED (R227, R232) -/

theorem execCouchCurdDrained_drains {s : State} (orch : s.couch.orch = .committed) (first : s.couch.curdDrained = false)
    (runs : s.couch.stopped = false) (writes : writesOut s = false) (idle : s.epochs.running = none) (charges : s.ppu.charges = [])
    (lines : s.curd.lines.any (·.st ≠ .clean) = false) (evicts : s.curd.evicts.any (·.dirty) = false) :
    execCouchCurdDrained s =
      let t := (s.onCurd fun c => { c with lines := [], evicts := [], draining := none, off := true }).each ((List.range 16).map Island.cu) unroute
      let t := t.each ((chargedEntries t).filter fun e => (frameOf t e.page).isNone) fun t e => losePage t e.page
      let todo := if t.couch.gen.isSome then saveList t else []
      let u := t.onCouch fun c => { c with curdDrained := true, todo := todo }
      let v := sleepRanks (u.couch.gen.elim u fun g => openSummaries u { g with openEpoch := u.epochs.closed, manifest := u.ppu.dirtyBlocks })
      .next (if todo.isEmpty && !v.couch.stopped then stopCouch v 1 else v) := by
  unfold execCouchCurdDrained
  rw [if_neg (by rw [lines, evicts]; simp [orch, first, runs, writes, idle, charges])]
  extract_lets emptied off lost todo listed opened off' lost' todo' listed' opened'
  have same : opened = opened' := by
    show sleepRanks _ = sleepRanks (listed.couch.gen.elim listed _)
    congr 1
    cases listed.couch.gen <;> rfl
  rw [same]

/-! ### READY_LIFT (R56, R241, R244) -/

section
variable {s : State} (ready : s.cmd.ready = .core) (orch : s.couch.orch = .lifting)
include ready orch

theorem execReadyLift_unreadable (h : formatReadable s = false) :
    execReadyLift s = .next (s.event 0 9 3 (detail := newestGeneration s)) := by
  rw [execReadyLift, if_neg (by simp [ready, orch]), if_pos (by rw [h]; rfl)]

theorem execReadyLift_readable (h : formatReadable s = true) : ∃ u t, execReadyLift s = .next t ∧ t = unforce (force u 1) 0 ∧
    t.epochs.current = highestEpoch s + 1 ∧ t.epochs.closed = highestEpoch s ∧ t.regions.readOnly = true ∧ t.cmd.ready = .lift ∧
    t.couch.orch = .serving ∧ t.couch.folding = true := by
  unfold execReadyLift
  rw [if_neg (by simp [ready, orch]), if_neg (by simp [h])]
  extract_lets top recorded closes answered epochs cave lift serving
  refine ⟨_, liftEnd serving, rfl, rfl, ?_⟩
  rw [liftEnd_epochs, liftEnd_regions, liftEnd_cmd, liftEnd_couch]
  exact ⟨rfl, rfl, rfl, rfl, rfl, rfl⟩
end

/-! ### FOLD_PAGE (R247) -/

section
variable {s : State} {page : Nat} {loc : BitVec 40} {x : Slot} (runs : foldingRuns s = true) (low : page < directoryBase)
include runs low

theorem execFoldPage_unslotted (none_ : slotAt (resolveBlock s page) (entry (resolveBlock s page) page).loc = none) :
    execFoldPage page loc s = .next (releaseFolded s) := by
  rw [execFoldPage, if_neg (by simp [runs, low])]
  simp only [none_]

variable (slot : slotAt (resolveBlock s page) (entry (resolveBlock s page) page).loc = some x)
include slot

theorem execFoldPage_other
    (other : x.generation = 0 ∨ x.generation ≠ ((resolveBlock s page).ream.generations.head?.map (·.num)).getD 0) :
    execFoldPage page loc s = .next (releaseFolded s) := by
  rw [execFoldPage, if_neg (by simp [runs, low])]
  simp only [slot]
  rw [if_neg (by rcases other with h | h <;> simp [h]), if_pos (by rcases other with h | h <;> simp [h])]

variable (image : x.generation ≠ 0) (oldest : x.generation = ((resolveBlock s page).ream.generations.head?.map (·.num)).getD 0)
include image oldest

theorem execFoldPage_moving (st : (entry (resolveBlock s page) page).st = .moving) :
    execFoldPage page loc s = .next ((resolveBlock s page).emit (.retryResponse page)) := by
  rw [execFoldPage, if_neg (by simp [runs, low])]
  simp only [slot]
  rw [if_pos (by simp [image, ← oldest, st])]

theorem execFoldPage_moves (target : homeTarget (resolveBlock s page) loc = true)
    (st : (entry (resolveBlock s page) page).st = .couched ∨ (entry (resolveBlock s page) page).st = .home ∨
      (entry (resolveBlock s page) page).st = .clean)
    (chosen : ((resolveBlock s page).ream.generations.head?.map fun g =>
      foldsNext (resolveBlock s page) g (entry (resolveBlock s page) page).loc) = some true) :
    execFoldPage page loc s = .next (startMove (writeSlot (resolveBlock s page) { x with loc := loc, generation := 0 } 0) page .fold x.data loc) := by
  have still : (entry (resolveBlock s page) page).st ≠ .moving := by rcases st with h | h | h <;> simp [h]
  rw [execFoldPage, if_neg (by simp [runs, low])]
  simp only [slot]
  rw [if_neg (by simp [still]), if_neg (by rcases st with h | h | h <;> simp [image, ← oldest, target, chosen, h])]
end

/-! ### REHEARSAL_COMPLETE (R92) -/

theorem execRehearsalComplete_ends {s : State} {g us mb mw : Nat} (runs : s.couch.rehearsing = some g) (idle : s.curd.draining = none) :
    execRehearsalComplete us mb mw s =
      let f := min 0xFFFFFFFF (mb * 1000000 * 10000 / max 1 (rateData s))
      let t := (rehearsed s (g * gib)).onDeckle fun d => { d with m := min 9200 f }
      .next (endRehearsal t .ok 0 (le 4 us ++ le 4 mb ++ le 4 mw ++ le 4 f ++ le 4 (planMs t f))) := by
  rw [execRehearsalComplete, runs, idle]
  rfl

/-! ### INPUT_PRESENCE_CONFIRMED (R227) -/

/-- R227: the return of the input is recorded. -/
def presenceNoted (s : State) : State :=
  ((s.onPower fun p => { p with absentSince := absenceKept s }).onCouch fun c => { c with inputPresent := true }).onSal fun x =>
    { x with suspended := x.suspended.map fun _ => s.now }

section
variable {s : State} (vao : s.power.vao = true) (absent : s.couch.inputPresent = false) (good : inputGood s = true)
include vao absent good

theorem execInputPresenceConfirmed_armed (orch : s.couch.orch = .armed) : execInputPresenceConfirmed s =
    .next (if s.now < s.couch.detected.getD s.now + 2000000 then cancelCouch (presenceNoted s) else presenceNoted s) := by
  rw [execInputPresenceConfirmed, if_neg (by simp [vao, absent, good])]
  simp only [onSal_couch, onCouch_couch, onPower_couch, orch]
  rfl

theorem execInputPresenceConfirmed_noted (orch : s.couch.orch = .serving ∨ s.couch.orch = .committed ∨ s.couch.orch = .lifting) :
    execInputPresenceConfirmed s = .next (presenceNoted s) := by
  rw [execInputPresenceConfirmed, if_neg (by simp [vao, absent, good])]
  rcases orch with orch | orch | orch <;> simp only [onSal_couch, onCouch_couch, onPower_couch, orch] <;> rfl

section
variable (orch : s.couch.orch = .down)
include orch

theorem execInputPresenceConfirmed_waiting (seq : s.power.seq = .waitInput) :
    execInputPresenceConfirmed s = .next (inputArrives (presenceNoted s)) := by
  rw [execInputPresenceConfirmed, if_neg (by simp [vao, absent, good])]
  simp only [onSal_couch, onCouch_couch, onPower_couch, onSal_power, onCouch_power, onPower_power, orch, seq]
  rfl

theorem execInputPresenceConfirmed_staying (seq : s.power.seq = .stayDown) : execInputPresenceConfirmed s = .next (if longAbsent s
    then inputArrives ((presenceNoted s).onPower fun p => { p with lockout := false, restarts := [], seq := .waitInput })
    else presenceNoted s) := by
  rw [execInputPresenceConfirmed, if_neg (by simp [vao, absent, good])]
  simp only [onSal_couch, onCouch_couch, onPower_couch, onSal_power, onCouch_power, onPower_power, orch, seq]
  rfl
end
end

/-- Settles O45: each command passes what holds it back, and then its cases are those of the Couch, the format, the slot and the power-up. -/
theorem couchDrainsAndLiftsAndRehearses : Obligations.CouchDrainsAndLiftsAndRehearses := by
  intro s
  refine ⟨fun orch first runs writes idle charges lines evicts => ?_, fun ready orch h => ?_, fun ready orch h => ?_,
    fun page loc x runs low => ?_, fun vao absent good => ⟨?_, ?_, ?_, ?_⟩, fun g us mb mw runs idle => ?_⟩
  · exact execCouchCurdDrained_drains orch first runs writes idle charges lines evicts
  · exact execReadyLift_unreadable ready orch h
  · exact execReadyLift_readable ready orch h
  · exact ⟨fun none_ => execFoldPage_unslotted runs low none_, fun slot => ⟨fun other => execFoldPage_other runs low slot other,
      fun image oldest => ⟨fun st => execFoldPage_moving runs low slot image oldest st,
        fun target st chosen => execFoldPage_moves runs low slot image oldest target st chosen⟩⟩⟩
  · exact fun orch => execInputPresenceConfirmed_armed vao absent good orch
  · exact fun orch => execInputPresenceConfirmed_noted vao absent good orch
  · exact fun orch seq => execInputPresenceConfirmed_waiting vao absent good orch seq
  · exact fun orch seq => execInputPresenceConfirmed_staying vao absent good orch seq
  · exact execRehearsalComplete_ends runs idle

end Sys2Proof.Machine
end

section
/-! PROOFS. The messages of the twin at a device of an attached pair (R58, R119, R253, R255, R262, R264, R272, R480). -/

namespace Sys2Proof.Machine

section
variable {s : State} {h : FeltHdr} {d : LineData} {be : BitVec 64} {i : Nat}
variable (pair : s.felt.pair = .attached) (up : (linkAt s h.link).st = .up)
include pair

theorem execEpochEnd_attached {e o n : Nat} : execEpochEnd e o n s =
    .next (applyReady (s.onFelt fun f => { f with ends := (f.ends.filter fun x => !(x.1 = e && x.2.1 = o)) ++ [(e, o, n)] })) := by
  rw [execEpochEnd, if_neg (not_not.2 pair)]

include up

/-- The pair is attached and the link of the message is up. -/
theorem linked : ¬ (s.felt.pair ≠ .attached || (linkAt s h.link).st ≠ .up) = true := by simp [pair, up]

/-! ### A reserved region or tag (R253) -/

section
variable (reserved : hdrReserved h = true)
include reserved

theorem execMirrorWrite_reserved : execMirrorWrite h d be s = .next (discardMsg s h.link) := by
  rw [execMirrorWrite, if_neg (linked pair up), if_pos reserved]

theorem execPageZero_reserved : execPageZero h s = .next (discardMsg s h.link) := by
  rw [execPageZero, if_neg (linked pair up), if_pos reserved]

theorem execPageCopy_reserved : execPageCopy h i d s = .next (discardMsg s h.link) := by
  rw [execPageCopy, if_neg (linked pair up), if_pos reserved]

theorem execTwinRead_reserved : execTwinRead h s = .next (discardMsg s h.link) := by
  rw [execTwinRead, if_neg (linked pair up), if_pos reserved]
end

section
variable (plain : hdrReserved h = false)
include plain

/-! ### MIRROR_WRITE and PAGE_ZERO (R58, R262, R264, R272, R480) -/

theorem execMirrorWrite_unfollowed (none_ : following s h.region.toNat = none) : execMirrorWrite h d be s = .next (refuseMsg s h) := by
  rw [execMirrorWrite, if_neg (linked pair up), if_neg (by simp [plain]), none_]

theorem execPageZero_unfollowed (none_ : following s h.region.toNat = none) : execPageZero h s = .next (refuseMsg s h) := by
  rw [execPageZero, if_neg (linked pair up), if_neg (by simp [plain]), none_]

section
variable {r : Region} (follows : following s h.region.toNat = some r)
include follows

theorem execMirrorWrite_outside (none_ : hdrPage r h = none) : execMirrorWrite h d be s = .next (discardMsg s h.link) := by
  rw [execMirrorWrite, if_neg (linked pair up), if_neg (by simp [plain]), follows]
  simp only [none_]

theorem execPageZero_outside (none_ : hdrPage r h = none) : execPageZero h s = .next (discardMsg s h.link) := by
  rw [execPageZero, if_neg (linked pair up), if_neg (by simp [plain]), follows]
  simp only [none_]

variable {p : Nat} (page : hdrPage r h = some p)
include page

theorem execMirrorWrite_sync (sync : flagMirror r.flags ≠ 2) : execMirrorWrite h d be s =
    .next (placeMirror s h.link h.tag p (h.lineIndex % 64) r.num d (if h.byteEnables then be else BitVec.allOnes 64) h.poison
      (wideEpoch s h.epoch)) := by
  rw [execMirrorWrite, if_neg (linked pair up), if_neg (by simp [plain]), follows]
  simp only [page, if_neg sync]

theorem execMirrorWrite_async (async : flagMirror r.flags = 2) : execMirrorWrite h d be s =
    .next (sendFelt (stageTwin s
      { epoch := wideEpoch s h.epoch, origin := h.link, region := r.num, line := h.lineIndex, data := d,
        be := if h.byteEnables then be else BitVec.allOnes 64, poison := h.poison }) h.link (.mirrorAck [h.tag])) := by
  rw [execMirrorWrite, if_neg (linked pair up), if_neg (by simp [plain]), follows]
  simp only [page, if_pos async]

theorem execPageZero_zeroes : execPageZero h s =
    let t := putEntry (zeroPage s p) { entry (zeroPage s p) p with epoch := h.epoch }
    .next (sendOne ((progressLong t (· = .resync r.num) 1 0).onFelt fun f => { f with copied := addNew f.copied r.num })
      (.pageAck r.num (h.lineIndex / 64))) := by
  rw [execPageZero, if_neg (linked pair up), if_neg (by simp [plain]), follows]
  simp only [page]
end

/-! ### PAGE_COPY (R154, R255, R272, R480) -/

section
variable (first : h.first = true)
include first

theorem execPageCopy_own (own : ((following s h.region.toNat).isSome ||
      ((regionOf s h.region.toNat).bind fun r => recoveringPage s r (h.lineIndex / 64)).isSome) = true) : execPageCopy h i d s =
    .next (takeFragment (dropBurst s h.link h.tag)
      { link := h.link, tag := h.tag, region := h.region.toNat, page := h.lineIndex / 64, epoch := h.epoch, data := [], count := 0 } i
      { data := d, poison := h.poison }) := by
  rw [execPageCopy, if_neg (linked pair up), if_neg (by simp [plain]), if_pos first]
  dsimp only
  rw [if_neg]
  rw [← Option.not_isSome, ← Bool.not_or, own]
  exact Bool.false_ne_true

theorem execPageCopy_refused (other : ((following s h.region.toNat).isSome ||
      ((regionOf s h.region.toNat).bind fun r => recoveringPage s r (h.lineIndex / 64)).isSome) = false) :
    execPageCopy h i d s = .next (refuseMsg s h) := by
  rw [execPageCopy, if_neg (linked pair up), if_neg (by simp [plain]), if_pos first]
  dsimp only
  rw [if_pos]
  rw [← Option.not_isSome, ← Bool.not_or, other]
  rfl
end

section
variable (later : h.first = false)
include later

theorem execPageCopy_next {b : Burst} (burst : burstOf s h.link h.tag = some b) : execPageCopy h i d s =
    .next (if b.count = i then takeFragment s b i { data := d, poison := h.poison }
      else setLink s h.link fun l => { l with discarded := l.discarded + 1 }) := by
  rw [execPageCopy, if_neg (linked pair up), if_neg (by simp [plain]), if_neg (by simp [later]), burst]
  dsimp only
  split <;> rfl

theorem execPageCopy_stray (none_ : burstOf s h.link h.tag = none) :
    execPageCopy h i d s = .next (setLink s h.link fun l => { l with discarded := l.discarded + 1 }) := by
  rw [execPageCopy, if_neg (linked pair up), if_neg (by simp [plain]), if_neg (by simp [later]), none_]
end

/-! ### TWIN_READ (R119, R264) -/

/-- R119: what stands of the line that a twin read names in the Curd or in a VALID frame. -/
def twinLine (s : State) (h : FeltHdr) : Option Line :=
  ((regionOf s h.region.toNat).bind fun r => hdrPage r h).bind fun p => heldLine s (p * 64 + h.lineIndex % 64)

theorem execTwinRead_held {l : Line} (held : twinLine s h = some l) :
    execTwinRead h s = .next (sendFelt s h.link (.twinReadData h.tag l)) := by
  rw [execTwinRead, if_neg (linked pair up), if_neg (by simp [plain])]
  unfold twinLine at held
  simp only [held]

theorem execTwinRead_missing (held : twinLine s h = none) : execTwinRead h s = .next (sendFelt s h.link (.notResident h.tag)) := by
  rw [execTwinRead, if_neg (linked pair up), if_neg (by simp [plain])]
  unfold twinLine at held
  simp only [held]
end
end

/-- Settles O47: the link and the header's reserved values first, then whether this device follows the region, and then the message. -/
theorem mirrorMessagesReachTheFollower : Obligations.MirrorMessagesReachTheFollower := by
  intro s h d be pair up en
  refine ⟨fun reserved => ⟨?_, ?_, fun i => ?_, ?_⟩, fun plain => ⟨fun none_ => ⟨?_, ?_⟩, fun r p follows page =>
      ⟨fun sync => ?_, fun async => ?_, ?_⟩, fun r follows none_ => ⟨?_, ?_⟩, fun first i => ⟨fun own => ?_, fun other => ?_⟩,
    fun later => ⟨fun b i burst => ?_, fun i none_ => ?_⟩,
    fun l held => ?_, fun held => ?_⟩, fun e o n => ?_⟩
  · exact execMirrorWrite_reserved pair up reserved
  · exact execPageZero_reserved pair up reserved
  · exact execPageCopy_reserved pair up reserved
  · exact execTwinRead_reserved pair up reserved
  · exact execMirrorWrite_unfollowed pair up plain none_
  · exact execPageZero_unfollowed pair up plain none_
  · exact execMirrorWrite_sync pair up plain follows page sync
  · exact execMirrorWrite_async pair up plain follows page async
  · exact execPageZero_zeroes pair up plain follows page
  · exact execMirrorWrite_outside pair up plain follows none_
  · exact execPageZero_outside pair up plain follows none_
  · exact execPageCopy_own pair up plain first own
  · exact execPageCopy_refused pair up plain first other
  · exact execPageCopy_next pair up plain later burst
  · exact execPageCopy_stray pair up plain later none_
  · exact execTwinRead_held pair up plain held
  · exact execTwinRead_missing pair up plain held
  · exact execEpochEnd_attached pair

end Sys2Proof.Machine
end

section
/-! PROOFS. Acknowledgements, twin read answers, page copies, lists and refusals at a holder (R43, R58, R119, R147, R255, R257, R261, R264,
R271, R272, R480). -/

namespace Sys2Proof.Machine

/-! ### MIRROR_ACK (R43, R261, R262, R273) -/

section
variable {s : State} {q : HostReq}

theorem twinDone_early (early : q.localDone = false) : twinDone s q = keepReq s { q with needAck := false } :=
  if_pos (by simp [early])

theorem twinDone_answers (done : q.localDone = true)
    (plain : (mustStage s (q.line / 64) && !isStagedLine s q.line) = false ∨ heldLine s q.line = none) :
    twinDone s q = answerWrite s { q with needAck := false } := by
  have none_ : (if mustStage s (q.line / 64) && !isStagedLine s q.line then heldLine s q.line else none) = none := by
    rcases plain with h | h
    · rw [h]; rfl
    · rw [h, ite_self]
  rw [twinDone, if_neg (by simp [done]), none_]

theorem twinDone_stages {l : Line} (done : q.localDone = true)
    (stage : (mustStage s (q.line / 64) && !isStagedLine s q.line) = true) (held : heldLine s q.line = some l) :
    twinDone s q = stageLine s { q with needAck := false, credit := false } l := by
  rw [twinDone, if_neg (by simp [done]), if_pos stage, held]
end

/-- R262: a mirror write of this tag. -/
def writesTag (tag : U16) (m : FeltMsg) : Bool := match m with | .mirrorWrite _ _ _ g _ _ _ => g = tag | _ => false

section
variable {s : State} {link region li : Nat} {tag : U16} {ep : U32} {d : LineData} {be : BitVec 64} {p : Bool}

variable (sent : (linkAt s link).queue.find? (writesTag tag) = some (.mirrorWrite region ep li tag d be p))
include sent

/-- R261: the acknowledged write leaves the queue of its link. -/
theorem ackTag_unwaited :
    let t := setLink s link fun l => { l with queue := l.queue.erase (.mirrorWrite region ep li tag d be p) }
    ackedReq t (msgLine t region li) tag = none → ackTag s link tag = t := by
  intro t none_
  unfold ackTag
  generalize hf : List.find? _ (linkAt s link).queue = found
  cases hf.symm.trans sent
  simp only [t] at none_ ⊢
  simp only [none_]

/-- R43: the host's write whose mirror message was acknowledged goes on from there. -/
theorem ackTag_waited {q : HostReq} :
    let t := setLink s link fun l => { l with queue := l.queue.erase (.mirrorWrite region ep li tag d be p) }
    ackedReq t (msgLine t region li) tag = some q → ackTag s link tag = twinDone t q := by
  intro t some_
  unfold ackTag
  generalize hf : List.find? _ (linkAt s link).queue = found
  cases hf.symm.trans sent
  simp only [t] at some_ ⊢
  simp only [some_]
end

/-! ### EPOCH_APPLIED, TWIN_READ_DATA and NOT_RESIDENT (R58, R119, R147, R264) -/

theorem execEpochApplied_attached {s : State} {e : Nat} (pair : s.felt.pair = .attached) : execEpochApplied e s =
    .next (finishCloses (detachIfDue ((s.onEpochs fun x => { x with mirrored := max x.mirrored (min e x.closed) }).onFelt fun f =>
      { f with lag := f.lag.filter (e < ·.1) }))) := by
  rw [execEpochApplied, if_neg (not_not.2 pair)]

theorem execTwinReadData_reserved {s : State} {d : Line} : execTwinReadData 0xFFFF d s = .next (discardAny s) := if_pos rfl
theorem execNotResident_reserved {s : State} : execNotResident 0xFFFF s = .next (discardAny s) := if_pos rfl

section
variable {s : State} {tag : U16} {d : Line} (plain : tag ≠ 0xFFFF)
include plain

section
variable {q : HostReq} (waits : twinWaiter s tag = some q)
include waits

theorem execTwinReadData_read : execTwinReadData tag d s = .next (twinServed (answerRead s q d) q.region) := by
  rw [execTwinReadData, if_neg plain, waits]

theorem execNotResident_read : execNotResident tag s = .next (keepReq s { q with mirrorTag := 0xFFFF }) := by
  rw [execNotResident, if_neg plain, waits]
  rfl
end

section
variable {x : U16 × DramReq} (none_ : twinWaiter s tag = none) (recovers : s.vat.recoveries.find? (·.1 = tag) = some x)
include none_ recovers

theorem execTwinReadData_recovery : execTwinReadData tag d s =
    .next (recovered (s.onVat fun v => { v with recoveries := v.recoveries.erase x }) x.2 d) := by
  rw [execTwinReadData, if_neg plain, none_]
  simp only [recovers]
  rfl

theorem execNotResident_recovery : execNotResident tag s =
    .next (spoilAccess (s.onVat fun v => { v with recoveries := v.recoveries.erase x }) x.2) := by
  rw [execNotResident, if_neg plain, none_]
  simp only [recovers]
  rfl
end
end

/-! ### PAGE_ACK, BURST_ABORT and BURST_TIMEOUT (R43, R255, R270, R272) -/

theorem execPageAck_reserved {s : State} {page : Nat} : execPageAck 0xFFFF page s = .next (discardAny s) := by
  unfold execPageAck
  exact if_pos rfl

section
variable {s : State} {region : U16} {page : Nat} (plain : region ≠ 0xFFFF)
include plain

theorem execPageAck_other (other : (pageAcked s region.toNat page).felt.resyncOut.contains (region.toNat, page) = false) :
    execPageAck region page s = .next (joinMapping (pageAcked s region.toNat page)) := by
  unfold execPageAck
  rw [if_neg plain]
  dsimp only
  rw [if_pos (by rw [other]; rfl)]

theorem execPageAck_copied (copied : (pageAcked s region.toNat page).felt.resyncOut.contains (region.toNat, page) = true) :
    execPageAck region page s =
      let u := (pageAcked s region.toNat page).onFelt fun f => { f with resyncOut := f.resyncOut.erase (region.toNat, page) }
      .next (joinMapping (checkResync (progressLong u (fun k => k = .resync region.toNat || k = .mirrorOn region.toNat) 1
        ((((regionOf u region.toNat).bind fun r => pageAt r.runs page).map (pagePoisoned u)).getD 0)) region.toNat)) := by
  unfold execPageAck
  rw [if_neg plain]
  dsimp only
  rw [if_neg (by rw [copied]; exact Bool.false_ne_true)]
end

theorem linkAt_setLink {s : State} {t : Nat} {f : Link → Link} (h : t < s.felt.links.length) :
    linkAt (setLink s t f) t = f (linkAt s t) := by
  simp [linkAt, setLink, State.onFelt, h]

theorem setLink_links_length {s : State} {t : Nat} {f : Link → Link} : (setLink s t f).felt.links.length = s.felt.links.length :=
  List.length_modify ..

/-- R255: the aborted burst leaves its link's queue and is counted there, and goes again under the next tag. -/
theorem execBurstAbort_resends {s : State} {link t region k : Nat} {tag : U16} {ep : U32} {d : PageData}
    (on : ((link :: List.range 8).find? fun t => (burstSent s t tag).isSome) = some t)
    (sent : burstSent s t tag = some (.pageCopy region k ep tag d)) :
    ∃ u, execBurstAbort link tag s = .next (sendFelt u t (.pageCopy region k ep (takeTag s t).1 d)) ∧
      (t < s.felt.links.length → (linkAt u t).queue = (linkAt s t).queue.erase (.pageCopy region k ep tag d) ∧
        (linkAt u t).aborts = sat32 ((linkAt s t).aborts + 1)) := by
  unfold execBurstAbort
  simp only [on, sent]
  refine ⟨_, rfl, fun h => ?_⟩
  rw [linkAt_setLink (by simpa [takeTag, setLink_links_length] using h)]
  simp only [takeTag, linkAt_setLink h, and_self]

theorem execBurstTimeout_aborts {s : State} {link : Nat} {tag : U16} (h : (burstOf s link tag).isSome = true) :
    execBurstTimeout link tag s = .next (abortBurst s link tag) := by
  rw [execBurstTimeout, if_pos h]

/-! ### RESYNC_PAGE_SEND (R261, R272) -/

section
variable {s : State} {region : U16} {page : Nat} {r : Region} (pair : s.felt.pair = .attached)
  (due : s.felt.resyncTodo.contains (region.toNat, page) = true) (found : regionOf s region.toNat = some r)
include pair due found

theorem execResyncPageSend_held (st : (foundEntry s ((pageAt r.runs page).getD 0)).st ≠ .zero) (held : copyHeld s = true) :
    execResyncPageSend region page s = .next s := by
  unfold execResyncPageSend
  dsimp only
  rw [if_neg (by rw [due]; simp [pair]), found]
  dsimp only
  rw [if_pos (by simp [st, held])]

theorem execResyncPageSend_sends (free : (foundEntry s ((pageAt r.runs page).getD 0)).st = .zero ∨ copyHeld s = false) :
    execResyncPageSend region page s =
      let p := (pageAt r.runs page).getD 0
      let t := touchDirectory s p
      let u := (takeTag t (linkOfPage t p)).2.onFelt fun f =>
        { f with resyncTodo := f.resyncTodo.erase (region.toNat, page), resyncOut := f.resyncOut ++ [(region.toNat, page)] }
      .next (sendFelt u (linkOfPage t p)
        (if (entry u p).st = .zero then .pageZero region.toNat page (entry u p).epoch (takeTag t (linkOfPage t p)).1
         else .pageCopy region.toNat page (entry u p).epoch (takeTag t (linkOfPage t p)).1
          (if (entry u p).st = .lost then poisonPage else pageContent u p))) := by
  unfold execResyncPageSend
  dsimp only
  rw [if_neg (by rw [due]; simp [pair]), found]
  dsimp only
  rw [if_neg (by rcases free with h | h <;> simp [h])]
  split <;> rfl
end

/-! ### LIST_REQUEST, REGION_LIST and REGION_LIST_TIMEOUT (R257, R271) -/

section
variable {s : State} {link part parts : Nat} {n : U32} {entries : List ListEntry} (pair : s.felt.pair = .attached)
include pair

theorem execListRequest_attached : execListRequest s = .next (sendList s) := by
  rw [execListRequest, if_pos pair]

theorem execRegionList_bad (bad : partBad part parts entries = true) :
    execRegionList link part parts n entries s = .next (discardMsg s link) := by
  rw [execRegionList, if_neg (not_not.2 pair), if_pos bad]

variable (good : partBad part parts entries = false)
include good

theorem execRegionList_older (some_ : s.felt.partCount ≠ 0) (older : laterSerial s.felt.partNumber n = true) :
    execRegionList link part parts n entries s = .next s := by
  rw [execRegionList, if_neg (not_not.2 pair), if_neg (by simp [good]), if_pos (by simp [some_, older])]

theorem execRegionList_newest (newest : s.felt.partCount = 0 ∨ laterSerial s.felt.partNumber n = false) :
    execRegionList link part parts n entries s =
      let held := insertBy (·.1) (part, entries) (if s.felt.partNumber = n && s.felt.partCount = parts then s.felt.parts else [])
      let t := s.onFelt fun f => { f with parts := held, partCount := parts, partNumber := n }
      .next (if held.length < parts then t
        else reconcileAll (t.onFelt fun f => { f with parts := [], peerList := held.flatMap (·.2) })) := by
  rw [execRegionList, if_neg (not_not.2 pair), if_neg (by simp [good]), if_neg (by rcases newest with h | h <;> simp [h])]
  exact (apply_ite Host.Outcome.next _ _ _).symm
end

theorem execRegionListTimeout_asks {s : State} (h : s.felt.parts ≠ []) : execRegionListTimeout s =
    .next (sendOne (s.onFelt fun f => { f with parts := [] }) (.listRequest s.felt.listNumber.toNat)) := by
  rw [execRegionListTimeout, if_neg (by simpa using h)]

/-! ### MIRROR_REFUSED (R270, R480) -/

theorem execMirrorRefused_reserved {s : State} {tags : List U16} : execMirrorRefused 0xFFFF tags s = .next (discardAny s) := if_pos rfl

theorem execMirrorRefused_lags {s : State} {region : U16} {tags : List U16} {r : Region} (plain : region ≠ 0xFFFF)
    (found : regionOf s region.toNat = some r) (mirrored : isMirrored r = true) (mine : holdsToken r = true) :
    execMirrorRefused region tags s =
      let t := s.each (s.felt.links.flatMap fun l => refusedOn l r.num tags) endRefused
      let u := t.onFelt fun f => { f with
        links := f.links.map (fun l => withoutRefused l r.num tags)
        resyncTodo := f.resyncTodo.filter (·.1 ≠ r.num)
        resyncOut := f.resyncOut.filter (·.1 ≠ r.num) }
      let v := setRegion u r.num fun r =>
        { opEnded r .resync with mirror := .lagging, ec := if r.mirror = .inSync then commonEpoch u r else r.ec, metaDirty := true }
      .next (sendOne (sendList v) (.listRequest v.felt.listNumber.toNat)) := by
  rw [execMirrorRefused, if_neg plain, found]
  dsimp only
  rw [if_neg (by simp [mirrored, mine])]

/-- Settles O48: each message is read off its arm; the tags of an acknowledgement come to what an acknowledged write does. -/
theorem mirroringIsAcknowledgedReadAndCopied : Obligations.MirroringIsAcknowledgedReadAndCopied := by
  intro s
  refine ⟨fun _ _ => rfl, fun link tag region ep li d be p sent => ⟨?_, fun q some_ => ⟨fun early => ?_, fun done =>
      ⟨fun plain => ?_, fun l stage held => ?_⟩⟩⟩,
    fun e pair => ?_, fun d => ⟨execTwinReadData_reserved (d := d), execNotResident_reserved⟩, fun tag q d plain waits => ⟨?_, ?_⟩,
    fun tag x d plain none_ recovers => ⟨?_, ?_⟩, fun page => execPageAck_reserved (page := page), fun region page plain => ⟨?_, ?_⟩,
    fun link t tag region k ep d on sent => ?_, fun link tag h => ?_, fun region page r pair due found => ⟨?_, ?_⟩,
    fun pair => ⟨?_, fun link part parts n entries => ⟨?_, ?_, ?_⟩⟩, ?_, fun tags => execMirrorRefused_reserved (tags := tags),
    fun region tags r plain found mirrored mine => ?_⟩
  · exact fun none_ => ackTag_unwaited sent none_
  · exact (ackTag_waited sent some_).trans (twinDone_early early)
  · exact (ackTag_waited sent some_).trans (twinDone_answers done plain)
  · exact (ackTag_waited sent some_).trans (twinDone_stages done stage held)
  · exact execEpochApplied_attached pair
  · exact execTwinReadData_read plain waits
  · exact execNotResident_read plain waits
  · exact execTwinReadData_recovery plain none_ recovers
  · exact execNotResident_recovery plain none_ recovers
  · exact fun other => execPageAck_other plain other
  · exact fun copied => execPageAck_copied plain copied
  · exact execBurstAbort_resends on sent
  · exact execBurstTimeout_aborts h
  · exact fun st held => execResyncPageSend_held pair due found st held
  · exact fun free => execResyncPageSend_sends pair due found free
  · exact execListRequest_attached pair
  · exact fun bad => execRegionList_bad pair bad
  · exact fun good some_ older => execRegionList_older pair good some_ older
  · exact fun good newest => execRegionList_newest pair good newest
  · exact fun h => execRegionListTimeout_asks h
  · exact execMirrorRefused_lags plain found mirrored mine

end Sys2Proof.Machine
end

section
/-! PROOFS. The region and capacity commands (R73 to R88, R308 to R310): what a packet of the owner passes, and what it asks for. -/

namespace Sys2Proof.Machine

/-! ### The owner's packets (R297, R302) -/

theorem isOwner_of_reaches {s : State} {r : Req} {op : U16} {col : Column} (h : Reaches s r op .owner col = true) :
    isOwner s (issuer s r) = true := by
  unfold Reaches at h
  unfold issuer
  cases hs : sessionOn s r.ch with
  | none => simp [hs] at h
  | some x =>
    simp only [hs, Bool.and_eq_true] at h
    simpa using h.2.2

/-- R297, R302: the owner may name every region, so that a packet of the owner that names one acts on it. -/
theorem command_region {s : State} {r : Req} {op : U16} {col : Column} (h : Reaches s r op .owner col = true) {n : U16} {g : Region}
    (hg : regionOf s n.toNat = some g) {step7 : Option (Status × Nat)} (h7 : step7 = none) {off : Nat} {body : State → Session → Region → State} :
    command s r op step7 .owner col (fun t x => withRegion t r op x n off (body t x)) = body (takeArrived s r op) (issuer s r) g := by
  rw [h7, command_reaches h, withRegion_named (by simpa using hg) (by simp [mayName, isOwner_of_reaches h])]

/-- An update of some channels is one update of the Ream. -/
theorem each_setFlash (s : State) (cs : List Nat) (f : Flash → Flash) :
    (s.each cs fun s c => setFlash s c f) = s.onReam fun r => { r with ch := cs.foldl (fun l c => l.modify c f) r.ch } := by
  induction cs generalizing s with
  | nil => rfl
  | cons c cs ih => exact ih (setFlash s c f)

/-! ### The refusals read nothing of the arrival queue -/

section
variable (s : State) (r : Req) (op : U16)

@[simp] theorem takeArrived_allocationError (n has : Nat) : allocationError (takeArrived s r op) n has = allocationError s n has := by
  obtain ⟨l, k, h⟩ := takeArrived_eq s r op; rw [h]; rfl
@[simp] theorem takeArrived_freeRegionNumber : freeRegionNumber (takeArrived s r op) = freeRegionNumber s := by
  obtain ⟨l, k, h⟩ := takeArrived_eq s r op; rw [h]; rfl
@[simp] theorem takeArrived_dcExtents (head ld : Nat) : dcExtents (takeArrived s r op) head ld = dcExtents s head ld := by
  obtain ⟨l, k, h⟩ := takeArrived_eq s r op; rw [h]; rfl
@[simp] theorem takeArrived_flagChecks (g : Region) (f : U32) : flagChecks (takeArrived s r op) g f = flagChecks s g f := by
  obtain ⟨l, k, h⟩ := takeArrived_eq s r op; rw [h]; rfl
@[simp] theorem takeArrived_namedChannels (kind index : Nat) : namedChannels (takeArrived s r op) kind index = namedChannels s kind index := by
  obtain ⟨l, k, h⟩ := takeArrived_eq s r op; rw [h]; rfl
@[simp] theorem takeArrived_allocated : allocated (takeArrived s r op) = allocated s := rfl
@[simp] theorem takeArrived_homeWithout (cs : List Nat) : homeWithout (takeArrived s r op) cs = homeWithout s cs := by
  obtain ⟨l, k, h⟩ := takeArrived_eq s r op
  rw [homeWithout, homeWithout, each_setFlash, each_setFlash, h]
  rfl
@[simp] theorem takeArrived_groupsBroken (cs : List Nat) : groupsBroken (takeArrived s r op) cs = groupsBroken s cs := rfl
@[simp] theorem takeArrived_drainBytes (cs : List Nat) : drainBytes (takeArrived s r op) cs = drainBytes s cs := rfl
@[simp] theorem takeArrived_regionListReply (x : Session) : regionListReply (takeArrived s r op) x = regionListReply s x := by
  obtain ⟨l, k, h⟩ := takeArrived_eq s r op; rw [h]; rfl
end

/-- R296: checks that pass leave those behind them. -/
theorem firstOf_append {a b : List (Bool × Status × Nat)} (h : firstOf a = none) : firstOf (a ++ b) = firstOf b := by
  induction a with
  | nil => rfl
  | cons c a ih =>
    obtain ⟨bad, st, d⟩ := c
    cases bad with
    | true => cases h
    | false => exact ih h

theorem checked_none {s : State} {r : Req} {op : U16} {checks : List (Bool × Status × Nat)} {effect : State → State}
    (h : firstOf checks = none) : checked s r op checks effect = effect s := by simp only [checked, h]

/-- Settles O9: nothing refuses the packet, and what is left of its command is the request of the change. -/
theorem regionChangesWaitForAnEpochBoundary : Obligations.RegionChangesWaitForAnEpochBoundary := by
  intro s r n g x
  refine ⟨fun size flags hr hf hsize hspace m hm hs => ?_, fun hr hn hg hgrants htok hbusy => ?_,
    fun size hr hn hg hsize htok hbusy => ⟨fun hsame => ?_, fun hmore hspace hext => ?_⟩,
    fun flags hr hn hf hg hchecks htok hbusy hlong hmirror hclass => ?_,
    fun head ld access hr hn hg hh hl ha hext hbusy => ?_⟩
  · show Host.Outcome.next (command _ _ _ _ _ _ _) = _
    rw [hf, command_reaches hr]
    dsimp only
    rw [checked_pass (by simp [hsize, hspace, spaceCheck, hm]; simpa using hs), takeArrived_freeRegionNumber, hm]
    rfl
  · show Host.Outcome.next (command _ _ _ _ _ _ _) = _
    rw [command_region hr hg hn, checked_pass (by simp [hgrants, htok, hbusy])]
  · show Host.Outcome.next (command _ _ _ _ _ _ _) = _
    rw [command_region hr hg hn]
    dsimp only
    rw [checked_pass (by simp [← hsame, hsize, htok, hbusy, spaceCheck]), if_pos hsame]
  · show Host.Outcome.next (command _ _ _ _ _ _ _) = _
    rw [command_region hr hg hn]
    dsimp only
    rw [checked_pass (by simpa [hsize, htok, hbusy, spaceCheck, hmore] using And.intro hspace hext), if_neg (by omega), if_pos (by simpa using hmore)]
  · have off : (decide (flagMirror flags ≠ 0) && !isMirrored g) = false := by simp [isMirrored, hmirror]
    have kept : (decide (flagClass flags = 0) && decide (flagClass g.flags ≠ 0)) = false := by simp [hclass]
    show Host.Outcome.next (command _ _ _ _ _ _ _) = _
    rw [command_region hr hg (by rw [hn]; exact hf)]
    dsimp only
    rw [checked_none (by simp [firstOf_append, hchecks, firstOf, htok, hbusy, hlong]), off, kept]
    rfl
  · have opens : (if access = 0 then Access.none else if access = 1 then .readOnly else .readWrite) =
        if access = 1 then .readOnly else .readWrite := by rcases ha with rfl | rfl <;> rfl
    have still : (if access = 1 then Access.readOnly else .readWrite) ≠ .none := by split <;> nofun
    have low : ¬ 2 < access.toNat := by rcases ha with rfl | rfl <;> decide
    show Host.Outcome.next (command _ _ _ _ _ _ _) = _
    rw [command_region hr hg (by rw [hn]; exact if_neg low)]
    dsimp only
    rw [opens]
    generalize (if access = 1 then Access.readOnly else Access.readWrite) = a at still ⊢
    rw [checked_pass (by simpa [hh, hl, hbusy, still] using hext)]
    simp [still, x]

/-! ### CAPACITY_ADD and CAPACITY_DRAIN (R87, R88) -/

/-- None of some channels is in a state that none of them may have. -/
theorem any_flashAt_eq_false {s : State} {cs : List Nat} {st : FlashSt} (h : ∀ c ∈ cs, (flashAt s c).st ≠ st) :
    (cs.any fun c => (flashAt s c).st = st) = false := by simpa using h

/-- R87: the channels that a packet adds or takes back are those of their states. -/
theorem filter_flashAt_eq_nil {s : State} {cs : List Nat} {st : FlashSt} (h : ∀ c ∈ cs, (flashAt s c).st ≠ st) :
    (cs.filter fun c => (flashAt s c).st = st) = [] := by simpa using h

section
variable {s : State} {r : Req} {kind index : U8} (hr : Reaches s r 0x0207 .owner .service = true) (hk : kind.toNat ≤ 1)
  (hi : indexBad kind.toNat index.toNat = false)
include hr hk hi

theorem execCapacityAdd_online (on : ∀ c ∈ namedChannels s kind.toNat index.toNat, (flashAt s c).st = .online) :
    execCapacityAdd r kind index s = .next (ok (takeArrived s r 0x0207) r 0x0207 []) := by
  have never (st : FlashSt) (h : st ≠ .online) : ∀ c ∈ namedChannels s kind.toNat index.toNat, (flashAt (takeArrived s r 0x0207) c).st ≠ st :=
    fun c hc e => h (e.symm.trans (on c hc))
  have noFresh : ((namedChannels s kind.toNat index.toNat).filter fun c => (flashAt (takeArrived s r 0x0207) c).st = .present ||
      (flashAt (takeArrived s r 0x0207) c).st = .drained) = [] := by
    simpa using fun c hc => ⟨never .present (by decide) c hc, never .drained (by decide) c hc⟩
  rw [execCapacityAdd, if_neg (by omega), command_reaches hr]
  dsimp only
  rw [takeArrived_namedChannels, checked_pass, noFresh, filter_flashAt_eq_nil (never .draining (by decide))]
  · rfl
  · simp only [hi, any_flashAt_eq_false (never .absent (by decide)), any_flashAt_eq_false (never .failed (by decide)),
      any_flashAt_eq_false (never .adding (by decide))]
    decide

theorem execCapacityAdd_fresh (fresh : ∀ c ∈ namedChannels s kind.toNat index.toNat, (flashAt s c).st = .present ∨ (flashAt s c).st = .drained)
    (some_ : namedChannels s kind.toNat index.toNat ≠ []) (room : longFull s = false) :
    execCapacityAdd r kind index s = .next (startLong (takeArrived s r 0x0207) r 0x0207 (issuer s r)
      (.add (namedChannels s kind.toNat index.toNat)) (5 * (namedChannels s kind.toNat index.toNat).length) 3 fun t =>
        t.each (namedChannels s kind.toNat index.toNat) fun t c => setFlash (flashState t c .adding 0) c fun f => { f with addStep := 1 }) := by
  have never (st : FlashSt) (h : st ≠ .present) (h' : st ≠ .drained) :
      ∀ c ∈ namedChannels s kind.toNat index.toNat, (flashAt (takeArrived s r 0x0207) c).st ≠ st :=
    fun c hc e => (fresh c hc).elim (fun k => h (e.symm.trans k)) (fun k => h' (e.symm.trans k))
  have all : ((namedChannels s kind.toNat index.toNat).filter fun c => (flashAt (takeArrived s r 0x0207) c).st = .present ||
      (flashAt (takeArrived s r 0x0207) c).st = .drained) = namedChannels s kind.toNat index.toNat :=
    List.filter_eq_self.mpr fun c hc => by simpa [flashAt] using fresh c hc
  rw [execCapacityAdd, if_neg (by omega), command_reaches hr]
  dsimp only
  rw [takeArrived_namedChannels, checked_pass, all, filter_flashAt_eq_nil (never .draining (by decide) (by decide)),
    if_neg (by simpa using some_), takeArrived_longFull, if_neg (by simp [room])]
  · rfl
  · simp only [hi, any_flashAt_eq_false (never .absent (by decide) (by decide)), any_flashAt_eq_false (never .failed (by decide) (by decide)),
      any_flashAt_eq_false (never .adding (by decide) (by decide))]
    decide
end

/-- Settles O10: the query passes what guards its region; the channels that the packet names are all of the one kind, so that the other
kinds are empty. -/
theorem capacityCommandsStartOrReply : Obligations.CapacityCommandsStartOrReply := by
  intro s r kind index x cs
  refine ⟨fun hr => ⟨?_, fun n g h0 hF hg hm => ?_⟩, fun hr hk hi => ⟨?_, ?_⟩, fun hr hk hi some_ on fits groups room => ?_⟩
  · show Host.Outcome.next (command _ _ _ _ _ _ _) = _
    rw [if_neg (by decide), command_reaches hr, if_pos rfl, takeArrived_regionListReply]
  · show Host.Outcome.next (command _ _ _ _ _ _ _) = _
    rw [if_neg hF, command_reaches hr, if_neg h0, withRegion_named (by simpa using hg) (by simpa using hm)]
  · exact execCapacityAdd_online hr hk hi
  · exact execCapacityAdd_fresh hr hk hi
  · show Host.Outcome.next (command _ _ _ _ _ _ _) = _
    rw [if_neg (by omega), command_reaches hr]
    dsimp only
    have noOther : (cs.any fun c => (flashAt (takeArrived s r 0x0208) c).st ≠ .online) = false := by simpa [flashAt] using on
    have named : namedChannels s kind.toNat index.toNat ≠ [] := some_
    rw [takeArrived_namedChannels, noOther, checked_pass (by simpa [hi, named] using And.intro fits groups), takeArrived_drainBytes]

end Sys2Proof.Machine
end

section
/-! PROOFS. Releases of capacity, GPF and the links of the hosts (R62, R77, R80, R81, R449). -/

namespace Sys2Proof.Machine

section
variable {s : State} {h l n : Nat} {x : Release} (found : ((ldOf s h l).bind fun d => d.releases.find? (·.region = n)) = some x)
include found

theorem execDcReleaseResponse_all {runs : List (Nat × Nat)} (all : x.runs.all runs.contains = true) :
    execDcReleaseResponse h l n runs s = .next (completeRelease s h l x) := by
  rw [execDcReleaseResponse, found]
  dsimp only
  rw [if_pos (by simpa using all)]

theorem execDcReleaseResponse_some {runs : List (Nat × Nat)} (some_ : x.runs.all runs.contains = false) :
    execDcReleaseResponse h l n runs s = .next (setLd s h l fun d =>
      { d with releases := d.releases.map fun y => if y = x then { x with runs := x.runs.filter fun k => !runs.contains k } else y
               held := d.held.filter fun k => !(k.1 = n && x.runs.contains k.2 && runs.contains k.2) }) := by
  rw [execDcReleaseResponse, found]
  dsimp only
  rw [if_neg (by simpa using some_)]

theorem execReleaseTimeout_found : execReleaseTimeout h l n s =
    .next (completeRelease ((s.emit (.releaseCapacity h l n x.runs true)).eventFor 13 5 1 h l n 0) h l x) := by
  rw [execReleaseTimeout, found]
end

/-- Settles O28: each command finds its release, or passes what holds its port back. -/
theorem releasesAndLinksComplete : Obligations.ReleasesAndLinksComplete := by
  intro s h l
  refine ⟨fun n x found => ⟨fun runs all => ?_, fun runs some_ => ?_, ?_⟩, fun serving => ?_,
    fun joined above inService enabled down free => ?_, fun up => ?_⟩
  · exact execDcReleaseResponse_all found all
  · exact execDcReleaseResponse_some found some_
  · exact execReleaseTimeout_found found
  · exact if_neg serving
  · have open_ : ¬ (!aboveCore s || (s.units.ports.getD h .reset).st ≠ .inService || !portEnabled s h || s.cxl.linkUp.contains h ||
        (h % 2 = 1 && s.cxl.joined.contains (h - 1))) = true := by
      rw [above, inService, enabled, down]
      simpa using free
    exact if_neg open_
  · show execHostLinkDown h s = _
    rw [execHostLinkDown, if_neg (by simpa using up)]
    exact (apply_ite Host.Outcome.next ..).symm

end Sys2Proof.Machine
end

section
/-! PROOFS. Page charge messages, fetches, cleans and reclaims (R70, R72, R90, R98, R107 to R111, R166, R170, R176, R177). -/

namespace Sys2Proof.Machine

/-! ### PAGE_CHARGE_MESSAGE (R98, R107) -/

section
variable {s : State} {page : Nat} {m : ChargeMsg} (found : s.ppu.charges.find? (·.page = page) = some m)
include found

theorem execPageChargeMessage_fetches (absent : blockAbsent s page = true) :
    execPageChargeMessage page s = .next (fetchBlock s (blockOf page)) := by
  rw [execPageChargeMessage, found]
  exact if_pos absent

/-- The page's block touched and its staged lines gathered: what the charge looks for a frame with. -/
def chargeReady (s : State) (page : Nat) (m : ChargeMsg) : State :=
  let t := touchDirectory (s.onPpu fun p => { p with charges := p.charges.erase m }) page
  if (entry t page).st = .lost then t else formStaged t page

variable (present : blockAbsent s page = false)
include present

theorem execPageChargeMessage_present : execPageChargeMessage page s = (frameForCharge (chargeReady s page m) page).elim (.next s) fun u =>
    .next (pageArrived (chargeFor u page m.epoch m.port true) page) := by
  unfold chargeReady
  rw [execPageChargeMessage, found]
  dsimp only
  rw [if_neg (by simp [present])]
  generalize frameForCharge _ page = frame
  cases frame <;> rfl

theorem execPageChargeMessage_charges {u : State} (frame : frameForCharge (chargeReady s page m) page = some u) :
    execPageChargeMessage page s = .next (pageArrived (chargeFor u page m.epoch m.port true) page) := by
  rw [execPageChargeMessage_present found present, frame]
  rfl

theorem execPageChargeMessage_waits (frame : frameForCharge (chargeReady s page m) page = none) :
    execPageChargeMessage page s = .next s := by
  rw [execPageChargeMessage_present found present, frame]
  rfl
end

/-! ### REAM_FETCH_COMPLETE (R166, R170, R176, R177) -/

/-- R170, R176: what the outcome of a read does with the slot of the page. -/
def fetchEnds (w : State) (page region : Nat) (u : UnitId) (x : Slot) : FetchOutcome → State
  | .decoded => fetchDone w page x.data
  | .misread tag new => if pageTagged tag page region then fetchDone w page x.data else slotRecovered w page x new
  | .retried | .soft => withInjection w u 0 fun t => fetchDone (countError t u false) page x.data
  | .rebuilt new => withInjection w u 1 fun t => slotRecovered t page x (some new)
  | .lost => slotRecovered w page x none

section
variable {s t : State} {page : Nat} {f : Fetch} {o : FetchOutcome} (found : s.ppu.fetches.find? (·.page = page) = some f)
  (issued : fetchIssued s f = some t)
include found issued

theorem fetch_issued : (s.ppu.fetches.find? (·.page = page)).bind (fetchIssued s) = some t := by rw [found]; exact issued

theorem execReamFetchComplete_block (high : directoryBase ≤ page) :
    execReamFetchComplete page o s = .next (blockFetched t (page - directoryBase) o) := by
  rw [execReamFetchComplete, fetch_issued found issued]
  exact if_pos high

variable (low : page < directoryBase)
include low

theorem execReamFetchComplete_slot {x : Slot} (slot : slotAt t (entry t page).loc = some x) (mine : x.page = page)
    (own : x.region = (entry t page).region) : execReamFetchComplete page o s =
      .next (fetchEnds (chooseLevel (targetAnswers t (entry t page).loc .read) (entry t page).loc) page (entry t page).region
        (.flash (locChannel (entry t page).loc)) x o) := by
  rw [execReamFetchComplete, fetch_issued found issued]
  dsimp only
  rw [if_neg (by omega), slot, Option.filter_some_pos (by simp [mine, own])]
  cases o <;> rfl

theorem execReamFetchComplete_other
    (other : ∀ x, slotAt t (entry t page).loc = some x → x.page ≠ page ∨ x.region ≠ (entry t page).region) :
    execReamFetchComplete page o s = .next (fetchLost
      (if (slotAt t (entry t page).loc).isSome then countError t (.flash (locChannel (entry t page).loc)) true else t) page) := by
  have none_ : (slotAt t (entry t page).loc).filter (fun x => x.page = page && x.region = (entry t page).region) = none :=
    Option.filter_eq_none_iff.mpr fun x hx => by simpa [imp_iff_not_or] using other x hx
  rw [execReamFetchComplete, fetch_issued found issued]
  dsimp only
  rw [if_neg (by omega), none_]
end

/-- R450: the uncorrectable error of the page's channel, counted. -/
abbrev lossCounted (w : State) (page : Nat) : State := countError w (.flash (locChannel (entry w page).loc)) true

section
variable {w : State} {page : Nat} {x : Slot} {new : BitVec 40}

theorem slotRecovered_unrecoverable (h : recoverable (lossCounted w page) (entry w page).loc = false) :
    slotRecovered w page x (some new) = fetchLost (lossCounted w page) page := by
  rw [slotRecovered]
  dsimp only
  rw [Option.filter_some_neg (by simp [h])]

theorem slotRecovered_recoverable (h : recoverable (lossCounted w page) (entry w page).loc = true) :
    slotRecovered w page x (some new) =
      let l := (entry w page).loc
      let v := fetchDone (suspectBlock ((lossCounted w page).event 5 3 1 (unitIdWord (.flash (locChannel l))) (entry w page).region
        (page * 4096) page) l) page x.data
      if rebuildTarget v l new && (entry v page).st ≠ .moving && (entry v page).loc = l && cleaningRuns v
      then startMove (writeSlot v { x with loc := new, generation := 0 } 0) page .rebuild x.data new else v := by
  rw [slotRecovered]
  dsimp only
  rw [Option.filter_some_pos (by exact h)]
  rfl
end

/-! ### PAGE_CLEAN_COMPLETE and FRAME_RECLAIM (R72, R108, R110, R111) -/

theorem execPageCleanComplete_enters {s : State} {page : Nat} {loc : BitVec 40} {m : Move} (low : page < directoryBase)
    (found : (s.ppu.moves.find? fun m => m.page = page && m.kind = .clean) = some m) (target : progTarget s loc .home m.since = true)
    (served : readsWait s (lunOf loc) m.since = false) :
    execPageCleanComplete page loc s =
      let e := entry s page
      let k := keyWord s e.region
      let t := (writeSlot (targetAnswers s loc)
        { loc := loc, page := page, region := e.region, epoch := wideEpoch s m.epoch, keySlot := k.1, keyGen := k.2.1, cipher := k.2.2,
          generation := 0, data := m.data } e.loc).onPpu fun p => { p with moves := p.moves.erase m }
      let t := progressLong (t.onDeckle fun d => { d with cleaned := d.cleaned + 4096 }) (fun x => x = .flush e.region) 1 (poisonedData m.data)
      .next (beginMoves (checkFlush (resumeMoves (retireStaged (putEntry t
        { e with loc := loc, keyGen := BitVec.ofNat 2 k.2.1, st := if e.wrote then .dirty else .clean, wrote := false,
                 charged := e.wrote }) page m.order) page) e.region)) := by
  rw [execPageCleanComplete, if_neg (by omega), found]
  dsimp only
  rw [if_neg (by simp [target, served])]
  rfl

theorem execFrameReclaim_due {s : State} {page : Nat} {f : Frame} (found : frameOf s page = some f)
    (short : freeFrames s < freeTarget s / 2) (may : reclaimable s page = true)
    (first : s.ppu.frames.any (fun f => reclaimable s f.page && reclaimClass s f.page < reclaimClass s page) = false) :
    execFrameReclaim page s = .next (if f.referenced then setFrame s page fun f => { f with referenced := false }
        else wakeAll (putEntry (invalidatePage (dropFrame s page) page) { entry s page with st := .home, frame := none })) := by
  rw [execFrameReclaim]
  dsimp only
  rw [first, if_neg (by simp [may]; omega), found]
  exact (apply_ite Host.Outcome.next ..).symm

/-- Settles O35: the charge by its block and its frame, the fetch by the slot that it finds, and the clean and the reclaim once nothing holds
them back. -/
theorem chargesFetchesAndCleansEnd : Obligations.ChargesFetchesAndCleansEnd := by
  intro s page
  refine ⟨fun m found => ⟨fun u present frame => ?_, fun present frame => ?_, fun absent => ?_⟩,
    fun f t found issued => ⟨fun low x slot mine own => ?_, fun low o other => ?_, fun high o => ?_⟩,
    fun w x new => ⟨slotRecovered_recoverable, slotRecovered_unrecoverable, rfl⟩,
    fun m loc low found target served => ?_, fun f found short may first => ?_⟩
  · exact execPageChargeMessage_charges found present frame
  · exact execPageChargeMessage_waits found present frame
  · exact execPageChargeMessage_fetches found absent
  · have ends (o : FetchOutcome) := execReamFetchComplete_slot (o := o) found issued low slot mine own
    exact ⟨ends .decoded, fun tag new => ends (.misread tag new), ends .retried, ends .soft, fun new => ends (.rebuilt new), ends .lost⟩
  · exact execReamFetchComplete_other found issued low other
  · exact execReamFetchComplete_block found issued high
  · exact execPageCleanComplete_enters low found target served
  · exact execFrameReclaim_due found short may first

end Sys2Proof.Machine
end

section
/-! PROOFS. The start of a clean and the end of a move (R71, R72, R110, R152). -/

namespace Sys2Proof.Machine

/-! ### PAGE_CLEAN_START (R110) -/

/-- R110: the page in MOVING for its clean, with the data gathered in the frame. -/
theorem beginClean_gathered {s : State} {page : Nat} {f : Frame} (frame : validFrame (gatherPage s page) page = some f) :
    beginClean s page =
      cipherRequest (startMove (pageCommand (gatherPage s page) f.no) page .clean f.data 0) (entry (gatherPage s page) page).region 4 := by
  rw [beginClean, frame]

section
variable {s : State} {page : Nat} (runs : cleaningRuns s = true) (low : page < directoryBase)
include runs low

theorem execPageCleanStart_begins (still : (entry s page).st ≠ .moving) (first : cleanFirst s page = true)
    (ready : cleanable (frameForClean s page) page = true) : execPageCleanStart page s = .next (beginClean (frameForClean s page) page) := by
  rw [execPageCleanStart, if_neg (by simp [runs, low])]
  dsimp only
  rw [if_neg still, if_neg (by simp [first]), if_pos ready]

theorem execPageCleanStart_moving (moving : (entry s page).st = .moving)
    (due : (entry s page).wrote = true ∨ (entry s page).charged = true ∨ isStaged s page = true) (frame : (validFrame s page).isSome = true) :
    execPageCleanStart page s = .next (retryMove s page .clean (entry s page).loc) := by
  rw [execPageCleanStart, if_neg (by simp [runs, low])]
  dsimp only
  rw [if_pos moving, if_pos (by rcases due with h | h | h <;> simp [h, frame])]
end

/-! ### PAGE_MOVE_END (R71, R72, R152) -/

section
variable {s : State} {m : Move} {loc : BitVec 40}

theorem movedHome_copies (kind : m.kind = .drain ∨ m.kind = .relocate) (target : progTarget s loc .home m.since = true)
    (served : readsWait s (lunOf loc) m.since = false) : movedHome s m loc =
      let t := endMove (copySlot (targetAnswers s loc) (entry s m.page).loc loc) m { entry s m.page with loc := loc }
      if m.kind = .drain then
        progressLong t (fun k => match k with | .drain cs => cs.contains (locChannel (entry s m.page).loc) | _ => false) 4096 (poisonedData m.data)
      else t := by
  have free : ¬ (!progTarget s loc .home m.since || readsWait s (lunOf loc) m.since) = true := by simp [target, served]
  rw [movedHome]
  rcases kind with k | k <;> simp only [k, if_neg free] <;> rfl

theorem movedHome_programmed (kind : m.kind = .rebuild ∨ m.kind = .fold) : movedHome s m m.target =
      releaseFolded (endMove (s.onReam fun r => { r with slots := r.slots.filter fun y => !(y.loc = (entry s m.page).loc && y.generation = 0) }) m
        { entry s m.page with loc := m.target }) := by
  rw [movedHome]
  rcases kind with k | k <;> simp only [k] <;> exact if_neg (by simp)

theorem movedFrame_gone (none_ : validFrame s m.page = none) : movedFrame s m = endMove s m (entry s m.page) := by
  rw [movedFrame, none_]

theorem movedFrame_vacates {f : Frame} {n : Nat} (frame : validFrame s m.page = some f)
    (read : m.since + migrationTime s (frameChannel f.no) ≤ s.now) (free : frameElsewhere s (frameChannel f.no) = some n) :
    movedFrame s m =
      let c := frameChannel f.no
      let t := s.onPpu fun p => { p with frames := insertBy (·.no) { f with no := n } (p.frames.filter (·.no ≠ f.no)) }
      let t := setDram t c fun d => { d with queue := d.queue.filter fun x => x.line / 64 ≠ m.page }
      let t := setDram (pageCommand t n) (frameChannel n) fun d => { d with queue := d.queue ++ (dramAt s c).queue.filter fun d => d.line / 64 = m.page }
      let t := progressLong t (fun k => k = .offline c) 4096 (poisonedData f.data)
      endMove t m { entry t m.page with frame := some n } := by
  rw [movedFrame, frame]
  dsimp only
  rw [if_neg (by omega), free]
  rfl

variable {page : Nat} (runs : cleaningRuns s = true)
include runs

theorem execPageMoveEnd_block (high : directoryBase ≤ page) (target : dirTarget s loc = true) (safe : s.cmd.safe = false)
    (leaves : (s.ream.root.any fun x => x.1 / 2 = page - directoryBase && (flashAt s (locChannel x.2.1)).st = .draining) = true) :
    execPageMoveEnd page loc s = .next (moveDirectory s (page - directoryBase) loc) := by
  rw [execPageMoveEnd, if_neg (by simp [runs]), if_pos high]
  dsimp only
  rw [leaves, if_pos (by simp [target, safe])]

section
variable {t : State} (low : page < directoryBase)
  (found : (s.ppu.moves.find? fun m => m.page = page && m.kind ≠ .clean && m.kind ≠ .rekey) = some m)
include low found

theorem execPageMoveEnd_home (kind : m.kind ≠ .vacate) (moved : movedHome s m loc = t) :
    execPageMoveEnd page loc s = .next (beginMoves t) := by
  rw [execPageMoveEnd, if_neg (by simp [runs]), if_neg (by omega), found]
  dsimp only
  rw [if_neg kind, moved]

theorem execPageMoveEnd_frame (kind : m.kind = .vacate) (moved : movedFrame s m = t) :
    execPageMoveEnd page loc s = .next (beginMoves t) := by
  rw [execPageMoveEnd, if_neg (by simp [runs]), if_neg (by omega), found]
  dsimp only
  rw [if_pos kind, moved]
end
end

/-- R72: the end of a move settles the entry once, and charges the directory block unless the page only changed its frame. -/
theorem endMove_settles (t : State) (m : Move) (e : DirEntry) : endMove t m e =
      let u := t.onPpu fun p => { p with moves := p.moves.erase m }
      let n := { e with st := if e.st = .moving then movedState u e (decide (m.kind ≠ .vacate)) else e.st, prev := .free, wrote := false }
      resumeMoves (if m.kind ≠ .vacate ∨ e.wrote = true then putEntry u n else putQuiet u n) m.page := by
  by_cases h : m.kind ≠ .vacate ∨ e.wrote = true
  · simp [endMove, h]
  · simp [endMove, h]

/-- Settles O36: the clean begins once nothing goes before it, and a move ends by what its kind asks for. -/
theorem cleansStartAndMovesEnd : Obligations.CleansStartAndMovesEnd := by
  intro s page loc runs
  refine ⟨fun high target safe leaves => ?_, fun low => ⟨fun f still first ready frame => ?_, fun moving due frame => ?_,
    fun m found => ?_, endMove_settles⟩⟩
  · exact execPageMoveEnd_block runs high target safe leaves
  · exact (execPageCleanStart_begins runs low still first ready).trans (congrArg _ (beginClean_gathered frame))
  · exact execPageCleanStart_moving runs low moving due frame
  · refine ⟨fun kind target served => ?_, fun kind at_ => ?_, fun kind none_ => ?_, fun kind f n frame read free => ?_⟩
    · exact execPageMoveEnd_home runs low found (by rcases kind with k | k <;> simp [k]) (movedHome_copies kind target served)
    · exact execPageMoveEnd_home runs low found (by rcases kind with k | k <;> simp [k]) (at_ ▸ movedHome_programmed kind)
    · exact execPageMoveEnd_frame runs low found kind (movedFrame_gone none_)
    · exact execPageMoveEnd_frame runs low found kind (movedFrame_vacates frame read free)

end Sys2Proof.Machine
end

section
/-! PROOFS. Training, formats, probes, target failures, drains and rebuilds of flash channels (R72, R87, R90, R158 to R161, R185 to R188). -/

namespace Sys2Proof.Machine

/-! ### What the operations on a channel leave of the Ream -/

/-- What every update keeps, a run of updates keeps. -/
theorem State.each_keeps {α : Type} {P : State → Prop} {s : State} {l : List α} {f : State → α → State} (h : P s)
    (keeps : ∀ s a, P s → P (f s a)) : P (s.each l f) := by
  unfold State.each
  induction l generalizing s with
  | nil => exact h
  | cons a l ih => exact ih (keeps s a h)

@[simp] theorem settleIsland_ream (s : State) (i : Island) (off : Bool) : (settleIsland s i off).ream = s.ream := by
  unfold settleIsland
  split
  · rfl
  · split <;> rfl

/-- R158: a change of state is one update of the channel, beside the island and the event. -/
theorem flashState_ream (s : State) (c : Nat) (st : FlashSt) (cause : Nat) : (flashState s c st cause).ream =
    { s.ream with ch := s.ream.ch.modify c fun f => { f with st := st, cause := if st = .failed then cause else 0 } } := by
  unfold flashState
  dsimp only
  split <;> exact settleIsland_ream ..

theorem flashAt_flashState {s : State} {c : Nat} {st : FlashSt} {cause : Nat} (h : c < s.ream.ch.length) :
    (flashAt (flashState s c st cause) c).st = st := by
  simp [flashAt, flashState_ream, h]

@[simp] theorem endLong_ream (s : State) (o : LongOp) (st : Status) (detail : Nat) (params : List Byte) :
    (endLong s o st detail params).ream = s.ream := by
  unfold endLong
  dsimp only
  split
  · exact sendParts_frame .ream (by decide)
  · rfl

@[simp] theorem leaveAdd_ream (s : State) (c : Nat) (ok : Bool) : (leaveAdd s c ok).ream = s.ream := by
  unfold leaveAdd
  split
  · rfl
  · split
    · dsimp only
      split
      · exact endLong_ream ..
      · rfl
    · rfl

/-! ### FLASH_TRAINING_COMPLETE (R158, R159, R185) -/

/-- R158: the rate that training reached, and what it found of the channel's targets. -/
def trainedTo (s : State) (c : Nat) (r : FlashTrain) (t : Targets) (m : ChanMeta) : State :=
  setFlash (setSlow s c (decide (r = .fallback))) c fun f => { f with targets := some t, found := some m, deadTargets := [], overruns := [] }

section
variable {s : State} {c : Nat} {r : FlashTrain} {t : Targets} {m : ChanMeta}

theorem execFlashTrainingComplete_serving (serving : (flashAt s c).st = .online ∨ (flashAt s c).st = .draining) :
    execFlashTrainingComplete c r t m s = .next (if r = .failed then failFlash s c 2 false else setSlow s c (decide (r = .fallback))) := by
  cases r with
  | failed | full | fallback => rcases serving with h | h <;> simp [execFlashTrainingComplete, h]

section
variable (below : aboveCore s = false) (absent : (flashAt s c).st = .absent)
include below absent

theorem execFlashTrainingComplete_bootFails : execFlashTrainingComplete c .failed t m s = .next (flashState s c .failed 2) := by
  simp [execFlashTrainingComplete, below, absent]

theorem execFlashTrainingComplete_boots (trained : r ≠ .failed) : execFlashTrainingComplete c r t m s =
    .next (if targetsSupported t then joinGroup (trainedTo s c r t m) c m else flashState (trainedTo s c r t m) c .failed (unsupportedCause t)) := by
  cases r with
  | failed => exact absurd rfl trained
  | full | fallback => cases hs : targetsSupported t <;> simp [execFlashTrainingComplete, below, absent, hs, trainedTo]
end

section
variable (above : aboveCore s = true) (adding : (flashAt s c).st = .adding) (step : (flashAt s c).addStep = 1)
include above adding step

theorem execFlashTrainingComplete_addFails : execFlashTrainingComplete c .failed t m s = .next (failFlash s c 2 false) := by
  simp [execFlashTrainingComplete, above, adding, step]

theorem execFlashTrainingComplete_adds (trained : r ≠ .failed) : execFlashTrainingComplete c r t m s =
    .next (if targetsSupported t then setFlash (trainedTo s c r t m) c fun f => { f with addStep := 3 }
      else failFlash (trainedTo s c r t m) c (unsupportedCause t) false) := by
  cases r with
  | failed => exact absurd rfl trained
  | full | fallback => cases hs : targetsSupported t <;> simp [execFlashTrainingComplete, above, adding, step, hs, trainedTo]
end
end

/-! ### CHANNEL_FORMAT_COMPLETE (R186, R188) -/

theorem setFlash_ch_length (s : State) (c : Nat) (f : Flash → Flash) : (setFlash s c f).ream.ch.length = s.ream.ch.length :=
  List.length_modify ..

theorem setFlash_membership (s : State) (c : Nat) (f : Flash → Flash) : (setFlash s c f).ream.membership = s.ream.membership := rfl

/-- R188: the mark of the new generation stands in channels that serve, and changes neither the memberships nor how many channels there are. -/
theorem marked_kept (s : State) (cs : List Nat) (mark : Flash → Flash) :
    (s.each cs fun s k => if (flashAt s k).st = .online || (flashAt s k).st = .draining then setFlash s k mark else s).ream.membership =
      s.ream.membership ∧
    (s.each cs fun s k => if (flashAt s k).st = .online || (flashAt s k).st = .draining then setFlash s k mark else s).ream.ch.length =
      s.ream.ch.length := by
  refine State.each_keeps (P := fun t => t.ream.membership = s.ream.membership ∧ t.ream.ch.length = s.ream.ch.length) ⟨rfl, rfl⟩ fun t k h => ?_
  split
  · exact ⟨h.1, (setFlash_ch_length ..).trans h.2⟩
  · exact h

section
variable {s : State} {c : Nat} (adding : (flashAt s c).st = .adding) (step : 3 ≤ (flashAt s c).addStep)
include adding step

theorem execChannelFormatComplete_fails : execChannelFormatComplete c false s = .next (failFlash s c 0 false) := by
  rw [execChannelFormatComplete, if_neg (by simp [adding, step])]
  rfl

theorem execChannelFormatComplete_holds (window : homeWindow (flashAt s c) = false) :
    execChannelFormatComplete c true s = .next (holdFormat s c) := by
  rw [execChannelFormatComplete, if_neg (by simp [adding, step]), if_neg (by decide), if_pos (by simp [window])]

/-- R188: the generation of the group is the next one, and the channel serves. -/
theorem execChannelFormatComplete_joins (window : homeWindow (flashAt s c) = true) : ∃ t, execChannelFormatComplete c true s = .next t ∧
    t.ream.membership = s.ream.membership.set (c / 12) (s.ream.membership.getD (c / 12) 0 + 1) ∧
    (c < s.ream.ch.length → (flashAt t c).st = .online) := by
  rw [execChannelFormatComplete, if_neg (by simp [adding, step]), if_neg (by decide), if_neg (by simp [window])]
  refine ⟨_, rfl, ?_, fun hc => ?_⟩
  · rw [leaveAdd_ream, flashState_ream]
    dsimp only
    rw [setFlash_membership, (marked_kept _ _ _).1]
    rfl
  · rw [flashAt, leaveAdd_ream]
    refine flashAt_flashState ?_
    rw [setFlash_ch_length, (marked_kept _ _ _).2]
    exact hc
end

/-! ### CHANNEL_DRAIN_COMPLETE and REBUILD_COMPLETE (R87, R90) -/

/-- R87: the channel out of service, its mark cleared. -/
def drainEnded (s : State) (c : Nat) : State := setFlash (flashState s c .drained 0) c fun f => { f with drainMark := false }

/-- R87: an operation that drains a channel. -/
def drains (c : Nat) (o : LongOp) : Bool := match o.kind with | .drain cs => cs.contains c | _ => false

section
variable {s : State} {c : Nat} (draining : (flashAt s c).st = .draining) (pages : pagesOn s c = []) (blocks : directoryOn s c = [])
  (safe : s.cmd.safe = false) (runs : cleaningRuns s = true)
include draining pages blocks safe runs

theorem execChannelDrainComplete_alone (none_ : (drainEnded s c).cmd.longOps.find? (drains c) = none) :
    execChannelDrainComplete c s = .next (drainEnded s c) := by
  rw [execChannelDrainComplete, if_neg (by simp [draining, pages, blocks, safe, runs])]
  dsimp only
  split
  next => rfl
  next o h => cases none_.symm.trans h

theorem execChannelDrainComplete_operation {o : LongOp} {cs : List Nat} (some_ : (drainEnded s c).cmd.longOps.find? (drains c) = some o)
    (kind : o.kind = .drain cs) : execChannelDrainComplete c s = .next (if cs = [c] then endLong (drainEnded s c) o .ok 0 [] else
      (drainEnded s c).onCmd fun k => { k with longOps := k.longOps.map fun y => if y = o then { o with kind := .drain (cs.filter (· ≠ c)) } else y }) := by
  rw [execChannelDrainComplete, if_neg (by simp [draining, pages, blocks, safe, runs])]
  dsimp only
  split
  next h => cases some_.symm.trans h
  next p h =>
  obtain rfl : o = p := Option.some.inj (some_.symm.trans h)
  rw [kind]
  exact (apply_ite Host.Outcome.next ..).symm
end

theorem execRebuildComplete_ends {s : State} {c : Nat} (failed : (flashAt s c).st = .failed) (pages : pagesOn s c = [])
    (blocks : directoryOn s c = []) : execRebuildComplete c s =
      let t := setFlash (s.onReam fun r => { r with slots := r.slots.filter fun x => locChannel x.loc ≠ c || x.generation ≠ 0 }) c
        fun f => { f with drainMark := false }
      .next (if (flashAt s c).removed then presenceEvent (setFlash (flashState t c .absent 0) c fun f => { f with removed := false }) c false
        else flashState t c .present 0) := by
  rw [execRebuildComplete, if_neg (by simp [failed, pages, blocks])]
  dsimp only
  cases (flashAt s c).removed <;> rfl

/-! ### REBUILD_STRIPE (R72, R90) -/

section
variable {s : State} {page : Nat} (low : page < directoryBase) (lost : needsRebuild s (entry s page).loc = true) (runs : cleaningRuns s = true)
include low lost runs

theorem execRebuildStripe_moving {o : Option (BitVec 40)} (moving : (entry s page).st = .moving) :
    execRebuildStripe page o s = .next (s.emit (.retryResponse page)) := by
  rw [execRebuildStripe, if_neg (by omega), if_neg (by simp [lost, runs]), if_pos moving]

variable (still : (entry s page).st ≠ .moving)
include still

theorem execRebuildStripe_moves {l : BitVec 40} {x : Slot} (can : recoverable s (entry s page).loc = true)
    (slot : slotAt s (entry s page).loc = some x) (target : rebuildTarget s (entry s page).loc l = true) :
    execRebuildStripe page (some l) s = .next (startMove (writeSlot s { x with loc := l, generation := 0 } 0) page .rebuild x.data l) := by
  rw [execRebuildStripe, if_neg (by omega), if_neg (by simp [lost, runs]), if_neg still]
  rw [Option.filter_some_pos (by exact can), slot]
  exact if_pos target

section
variable {o : Option (BitVec 40)} (cannot : o = none ∨ recoverable s (entry s page).loc = false)
include cannot

theorem execRebuildStripe_rewrites (frame : (validFrame s page).isSome = true) :
    execRebuildStripe page o s = .next (putEntry s { entry s page with loc := 0, keyGen := 0, st := .dirty, charged := true }) := by
  obtain ⟨f, hf⟩ := Option.isSome_iff_exists.mp frame
  have none_ : (o.filter fun _ => recoverable s (entry s page).loc) = none := by rcases cannot with rfl | h <;> simp [*]
  rw [execRebuildStripe, if_neg (by omega), if_neg (by simp [lost, runs]), if_neg still, none_, hf]

theorem execRebuildStripe_loses (frame : validFrame s page = none) : execRebuildStripe page o s = .next (fetchLost s page) := by
  have none_ : (o.filter fun _ => recoverable s (entry s page).loc) = none := by rcases cannot with rfl | h <;> simp [*]
  rw [execRebuildStripe, if_neg (by omega), if_neg (by simp [lost, runs]), if_neg still, none_, frame]
end
end

/-- Settles O40: each command by the state of its channel, and the rebuild of a page by its stripe and its frame. -/
theorem flashChannelsTrainFormatAndProbe : Obligations.FlashChannelsTrainFormatAndProbe := by
  intro s c f
  refine ⟨fun below absent r t m => ⟨?_, ?_⟩, fun serving t m => ⟨?_, ?_, ?_⟩, fun above adding step r t m => ⟨?_, ?_⟩,
    fun adding step => ⟨?_, ?_, ?_⟩, fun _ => rfl, fun op late => ?_, fun found => ?_,
    fun draining pages blocks safe runs => ⟨?_, fun o some_ kind => ?_, fun o cs some_ kind others => ?_⟩, fun page o high => ?_,
    fun page low lost runs => ⟨fun o moving => ?_, fun still => ⟨fun l x can slot target => ?_, fun o cannot => ⟨?_, ?_⟩⟩⟩,
    fun failed pages blocks => ⟨fun in_ => ?_, fun out => ?_⟩⟩
  · rintro rfl
    exact execFlashTrainingComplete_bootFails (t := t) (m := m) below absent
  · exact execFlashTrainingComplete_boots below absent
  · exact execFlashTrainingComplete_serving (r := .full) (t := t) (m := m) serving
  · exact execFlashTrainingComplete_serving (r := .fallback) (t := t) (m := m) serving
  · exact execFlashTrainingComplete_serving (r := .failed) (t := t) (m := m) serving
  · rintro rfl
    exact execFlashTrainingComplete_addFails (t := t) (m := m) above adding step
  · exact execFlashTrainingComplete_adds above adding step
  · exact execChannelFormatComplete_fails adding step
  · exact execChannelFormatComplete_holds adding step
  · exact execChannelFormatComplete_joins adding step
  · show execNandOperationOverrun c op s = _
    rw [execNandOperationOverrun, if_neg (by simp [late])]
    exact (apply_ite Host.Outcome.next ..).symm
  · exact (apply_ite Host.Outcome.next ..).symm
  · exact execChannelDrainComplete_alone draining pages blocks safe runs
  · exact (execChannelDrainComplete_operation draining pages blocks safe runs some_ kind).trans (by rw [if_pos rfl]; rfl)
  · exact (execChannelDrainComplete_operation draining pages blocks safe runs some_ kind).trans (by rw [if_neg others]; rfl)
  · exact if_pos high
  · exact execRebuildStripe_moving low lost runs moving
  · exact execRebuildStripe_moves low lost runs still can slot target
  · exact execRebuildStripe_rewrites low lost runs still cannot
  · exact execRebuildStripe_loses low lost runs still cannot
  · exact (execRebuildComplete_ends failed pages blocks).trans (by rw [in_]; rfl)
  · exact (execRebuildComplete_ends failed pages blocks).trans (by rw [out]; rfl)

end Sys2Proof.Machine
end

section
/-! PROOFS. The commands of the TIER group and of the cache (R105, R113 to R115, R121, R311, R312): what a packet that names a range
passes, and what its command does. -/

namespace Sys2Proof.Machine

/-! ### What a packet passes -/

/-- R297: a packet acts on the region that it names, where the session may name it. -/
theorem command_named {s : State} {r : Req} {op : U16} {who : Issuer} {col : Column} (h : Reaches s r op who col = true) {n : U16} {g : Region}
    (hg : regionOf s n.toNat = some g) (hm : mayName s (issuer s r) g = true) {step7 : Option (Status × Nat)} (h7 : step7 = none) {off : Nat}
    {body : State → Session → Region → State} :
    command s r op step7 who col (fun t x => withRegion t r op x n off (body t x)) = body (takeArrived s r op) (issuer s r) g := by
  rw [h7, command_reaches h, withRegion_named (by simpa using hg) (by simpa using hm)]

/-! ### The limits and the modes read nothing of the arrival queue -/

section
variable (s : State) (r : Req) (op : U16)

@[simp] theorem takeArrived_pinLimit : pinLimit (takeArrived s r op) = pinLimit s := by
  obtain ⟨l, k, h⟩ := takeArrived_eq s r op; rw [h]; rfl
@[simp] theorem takeArrived_pinWould (pages : List Nat) : pinWould (takeArrived s r op) pages = pinWould s pages := rfl
@[simp] theorem takeArrived_mayZero (x : Session) (g : Region) : mayZero (takeArrived s r op) x g = mayZero s x g := by
  obtain ⟨l, k, h⟩ := takeArrived_eq s r op; rw [h]; rfl
@[simp] theorem takeArrived_cacheReply : cacheReply (takeArrived s r op) = cacheReply s := rfl
end

/-- Settles O11: the packet passes its session's checks, its region's and its range's, and what is left of it is the command's effect and
its reply. -/
theorem tierCommandsComplete : Obligations.TierCommandsComplete := by
  intro s r
  refine ⟨fun n g off len hn hg hm hr range held limit handles => ?_, fun handle hr owns => ?_, fun n g off len hn hg hm hr range held => ?_,
    fun hr => ⟨?_, ?_, fun mode m named idle => ?_⟩, fun n g off len hn hg hm hr range zeros idle token short => ?_⟩
  · show Host.Outcome.next (command _ _ _ _ _ _ _) = _
    rw [command_named hr hg hm hn]
    dsimp only
    rw [checked_none (by simp [firstOf_append, range, firstOf, held, Nat.not_lt.mpr limit, Nat.not_le.mpr handles]), takeArrived_cmd_nextHandle]
  · show Host.Outcome.next (command _ _ _ _ _ _ _) = _
    rw [command_reaches hr, checked_pass (by simpa using owns)]
  · show Host.Outcome.next (command _ _ _ _ _ _ _) = _
    rw [command_named hr hg hm hn]
    dsimp only
    rw [checked_none (by simp [firstOf_append, range, firstOf, held])]
  · show Host.Outcome.next (command _ _ _ _ _ _ _) = _
    rw [command_reaches hr, takeArrived_cacheReply]
  · show Host.Outcome.next (command _ _ _ _ _ _ _) = _
    rw [if_neg (by decide), command_reaches hr, if_pos rfl, takeArrived_cacheReply]
  · have change : mode ≠ 3 ∧ ¬ 3 < mode.toNat ∧ (if mode = 0 then Mode.wb else if mode = 1 then .wt else .off) = m := by
      rcases named with ⟨rfl, rfl⟩ | ⟨rfl, rfl⟩ | ⟨rfl, rfl⟩ <;> decide
    obtain ⟨set, low, asked⟩ := change
    show Host.Outcome.next (command _ _ _ _ _ _ _) = _
    rw [if_neg low, command_reaches hr, if_neg set, asked]
    dsimp only
    rw [checked_pass (by simp [idle])]
  · show Host.Outcome.next (command _ _ _ _ _ _ _) = _
    rw [command_named hr hg hm hn]
    dsimp only
    rw [checked_none (by simp [firstOf_append, range, firstOf, zeros, idle, token]), if_pos short]

end Sys2Proof.Machine
end

section
/-! PROOFS. The slices' lines: fills, offers of evicted lines, acknowledged writes, drains and power-up (R94 to R102, R121, R122). -/

namespace Sys2Proof.Machine

/-! ### Fills, offers and acknowledgements (R94, R98, R102) -/

section
variable {s : State} {line : Nat} {f : Frame} (frame : validFrame s (line / 64) = some f)
include frame

theorem execCurdFillArrival_fills (read : ((dramAt s (frameChannel f.no)).queue.any fun d => d.line = line && !d.write && d.curd) = false) :
    execCurdFillArrival line s = .next (fillLine s line (frameLine f line)) := by
  rw [execCurdFillArrival, frame]
  dsimp only
  rw [if_neg (by rw [read]; decide)]
end

/-- R102: an eviction entry that has been offered to the frame of its page. -/
def markOffered (s : State) (e : Evict) : State :=
  s.onCurd fun c => { c with evicts := c.evicts.map fun x => if x = e then { e with offered := true } else x }

section
variable {s : State} {line : Nat} {e : Evict} (offer : (s.curd.evicts.find? fun e => e.addr = line && !e.offered) = some e)
include offer

theorem execEvictionOffer_dirty (dirty : e.dirty = true) (frame : (validFrame (markOffered s e) (line / 64)).isSome = true) :
    execEvictionOffer line s = .next (chargePage (writeFrame (markOffered s e) line e.data false) (line / 64) e.epoch) := by
  obtain ⟨f, hf⟩ := Option.isSome_iff_exists.mp frame
  rw [markOffered] at hf ⊢
  rw [execEvictionOffer, offer]
  dsimp only
  rw [if_pos dirty, hf]

theorem execEvictionOffer_clean (clean : e.dirty = false) :
    execEvictionOffer line s = .next ((setFrame s (line / 64) fun f => if f.valid then { f with referenced := true } else f).onCurd fun c =>
      { c with evicts := c.evicts.filter (· ≠ e) }) := by
  rw [execEvictionOffer, offer]
  dsimp only
  rw [if_neg (by rw [clean]; decide)]
end

theorem execDramWriteAck_acks {s : State} {line : Nat} {p : LinePlace} {d : DramReq} (bank : lineBank s line = some p)
    (next : nextRequest s p.channel (line % 2) true = some d) (mine : d.line = line) (plain : d.rmw = false) :
    execDramWriteAck line s = .next (walkDrain (retireWrites (watermark (setDram (columnCommand s p.channel p.bank p.row false) p.channel
      fun c => { c with queue := c.queue.erase d }) p.channel (line % 2)) line)) := by
  rw [execDramWriteAck, bank]
  dsimp only
  rw [next]
  dsimp only
  rw [if_neg (by simp [mine, plain])]

/-! ### The end of a drain (R121, R122) -/

/-- R121: the slices once drained for a mode: toward OFF they hold no line and take no route. -/
def slicesDrained (s : State) (m : Mode) : State :=
  let t := s.onCurd fun c => { c with draining := none, lines := if m = .off then [] else c.lines, evicts := if m = .off then [] else c.evicts, off := m = .off }
  if m = .off then t.each ((List.range 16).map Island.cu) unroute else t

/-- R121, R122: the end of a drain: its request is answered, and the next target is taken up. -/
def drainEnd (s : State) (m : Mode) : State :=
  let t := slicesDrained s m
  let u := t.onCurd fun c => { c with drainReq := none }
  finishCloses (retarget (releaseForced (answerJoined u t.curd.drainReq .ok 0
    (match t.curd.drainReq with | some (_, op, _) => if op = 0x0304 then cacheReply u else [] | none => []))))

theorem execCurdDrainComplete_drained {s : State} {m : Mode} (drains : (bypassSlices (walkDrain s)).curd.draining = some m)
    (lines : ((bypassSlices (walkDrain s)).curd.lines.any (·.st = .dirty)) = false)
    (evicts : ((bypassSlices (walkDrain s)).curd.evicts.any (·.dirty)) = false)
    (filling : m = .off → ((bypassSlices (walkDrain s)).curd.lines.any (·.st = .filling)) = false) :
    execCurdDrainComplete s = .next (drainEnd (bypassSlices (walkDrain s)) m) := by
  have fills : ¬ (m = .off && (bypassSlices (walkDrain s)).curd.lines.any (·.st = .filling)) = true := by simpa using filling
  rw [execCurdDrainComplete]
  dsimp only
  rw [drains]
  dsimp only
  rw [if_neg (by rw [lines, evicts]; decide), if_neg fills]
  rfl

/-- Settles O34: each command finds its frame, its entry or its write, or nothing holds the drain back; then it has one effect. -/
theorem curdLinesFillAndRetire : Obligations.CurdLinesFillAndRetire := by
  intro s line
  refine ⟨fun f frame read => ?_, fun e offer => ⟨fun dirty frame => ?_, fun clean => ?_⟩, fun p d bank next mine plain => ?_,
    fun m drains lines evicts filling => ?_, fun powering => ?_⟩
  · exact execCurdFillArrival_fills frame read
  · exact execEvictionOffer_dirty offer dirty frame
  · exact execEvictionOffer_clean offer clean
  · exact execDramWriteAck_acks bank next mine plain
  · exact execCurdDrainComplete_drained drains lines evicts filling
  · exact congrArg Host.Outcome.next (if_pos powering)

end Sys2Proof.Machine
end

section
/-! PROOFS. CHANNEL_OFFLINE and CHANNEL_ONLINE of a DRAM channel (R155): what a packet that names the channel passes, and its refusals in
their order. -/

namespace Sys2Proof.Machine

/-! ### A packet that names a DRAM channel (R297, R321) -/

theorem unitField_dram {c : Nat} (hc : c < 16) (off : Nat) : unitField (BitVec.ofNat 16 (0x3000 + c)) off = .ok (.dram c) := by
  have word : (BitVec.ofNat 16 (0x3000 + c)).toNat = 0x3000 + c := by rw [BitVec.toNat_ofNat]; omega
  have cls : (0x3000 + c) / 4096 = 3 := by omega
  have index : (0x3000 + c) % 4096 = c := by omega
  rw [unitField, word, cls, index]
  exact if_pos hc

theorem command_dram {s : State} {r : Req} {op : U16} {who : Issuer} {col : Column} (h : Reaches s r op who col = true) {c : Nat} (hc : c < 16)
    {low high : Nat} (hl : low ≤ 3) (hh : 3 ≤ high) (body : State → Session → UnitId → State) :
    command s r op (unitReserved (BitVec.ofNat 16 (0x3000 + c))) who col
        (fun t x => withUnit t r op (BitVec.ofNat 16 (0x3000 + c)) low high (body t x)) =
      body (takeArrived s r op) (issuer s r) (.dram c) := by
  have free : unitReserved (BitVec.ofNat 16 (0x3000 + c)) = none := by rw [unitReserved, unitField_dram hc]
  have within : ¬ (unitCls (.dram c) < low ∨ high < unitCls (.dram c)) := by change ¬ (3 < low ∨ high < 3); omega
  rw [free, command_reaches h, withUnit, unitField_dram hc]
  exact if_neg (by simpa only [Bool.or_eq_true, decide_eq_true_eq] using within)

theorem checked_some {s : State} {r : Req} {op : U16} {checks : List (Bool × Status × Nat)} {effect : State → State} {st : Status} {d : Nat}
    (h : firstOf checks = some (st, d)) : checked s r op checks effect = refuse s r op st d := by simp only [checked, h]

/-! ### CHANNEL_OFFLINE (R155) -/

@[simp] theorem takeArrived_dramAt (s : State) (r : Req) (op : U16) (c : Nat) : dramAt (takeArrived s r op) c = dramAt s c := rfl
@[simp] theorem takeArrived_dramOfflineChecks (s : State) (r : Req) (op : U16) (c : Nat) :
    dramOfflineChecks (takeArrived s r op) c = dramOfflineChecks s c := by
  obtain ⟨l, k, h⟩ := takeArrived_eq s r op; rw [h]; rfl

section
variable {s : State} {c : Nat}

theorem dramOfflineChecks_last (last : (dramAt s c).st = .online ∧ (s.vat.ch.filter (·.st = .online)).length = 1) :
    firstOf (dramOfflineChecks s c) = some (.conflict, 2) := by
  simp [dramOfflineChecks, firstOf, last]

variable (others : ¬ ((dramAt s c).st = .online ∧ (s.vat.ch.filter (·.st = .online)).length = 1))
include others

theorem dramOfflineChecks_busy
    (busy : (dramAt s c).st = .training ∨ (dramAt s c).st = .vacating ∨ ∃ x ∈ s.vat.ch, x.changing = true) :
    firstOf (dramOfflineChecks s c) = some (.busy, 3) := by
  simp [dramOfflineChecks, firstOf, others, or_assoc, busy]

theorem dramOfflineChecks_noSpace
    (idle : ¬ ((dramAt s c).st = .training ∨ (dramAt s c).st = .vacating ∨ ∃ x ∈ s.vat.ch, x.changing = true))
    (full : offlineNoSpace s c = true) : firstOf (dramOfflineChecks s c) = some (.noSpace, 9) := by
  simp [dramOfflineChecks, firstOf, others, or_assoc, idle, full]
end

section
variable {s : State} {r : Req} {c : Nat} (hr : Reaches s r 0x0B04 .owner .service = true) (hc : c < 16)
include hr hc

theorem execChannelOffline_out (out : (dramAt s c).st = .offline ∨ (dramAt s c).st = .failed) :
    execChannelOffline r (BitVec.ofNat 16 (0x3000 + c)) s = .next (ok (takeArrived s r 0x0B04) r 0x0B04 []) := by
  rw [execChannelOffline, command_dram hr hc (by decide) (by decide)]
  dsimp only
  rw [if_pos (by rcases out with h | h <;> simp [h])]

theorem execChannelOffline_refused {st : Status} {detail : Nat} (in_ : (dramAt s c).st ∈ [DramSt.online, .training, .vacating])
    (refused : firstOf (dramOfflineChecks s c) = some (st, detail)) :
    execChannelOffline r (BitVec.ofNat 16 (0x3000 + c)) s = .next (refuse (takeArrived s r 0x0B04) r 0x0B04 st detail) := by
  have stands : ¬ ((dramAt s c).st = .offline ∨ (dramAt s c).st = .failed ∨ (dramAt s c).st = .absent) := by
    simp only [List.mem_cons, List.not_mem_nil, or_false] at in_
    rcases in_ with h | h | h <;> simp [h]
  rw [execChannelOffline, command_dram hr hc (by decide) (by decide)]
  dsimp only
  rw [if_neg (by simp only [Bool.or_eq_true, decide_eq_true_eq, or_assoc]; exact stands), checked_some (by simpa using refused)]
end

/-! ### CHANNEL_ONLINE (R153, R155) -/

theorem dramOnline_serving {s : State} {c : Nat} (h : (dramAt s c).st = .online ∨ (dramAt s c).st = .training) : dramOnline s c = s := by
  rcases h with h | h <;> simp only [dramOnline, h]

theorem execChannelOnline_serving {s : State} {r : Req} {c : Nat} (hr : Reaches s r 0x0B05 .owner .service = true) (hc : c < 16)
    (serves : (dramAt s c).st = .online ∨ (dramAt s c).st = .training) :
    execChannelOnline r (BitVec.ofNat 16 (0x3000 + c)) s = .next (ok (takeArrived s r 0x0B05) r 0x0B05 []) := by
  have idle : (decide ((dramAt s c).st ≠ .online) && decide ((dramAt s c).st ≠ .training)) = false := by
    rcases serves with h | h <;> simp [h]
  rw [execChannelOnline, command_dram hr hc (by decide) (by decide)]
  dsimp only [unitIndex]
  rw [takeArrived_dramAt, idle, checked_pass (by simp), dramOnline_serving (by exact serves)]

/-- Settles O58: a channel out of service is answered at once; the refusals of one in service are read in the order of the table. -/
theorem channelOfflineIsRefusedAsTheVatSays : Obligations.ChannelOfflineIsRefusedAsTheVatSays := by
  intro r c s hc
  refine ⟨fun hr => ⟨fun out => ?_, fun last => ?_, fun in_ others busy => ?_, fun on others idle full => ?_⟩, fun hr serves => ?_⟩
  · exact execChannelOffline_out hr hc out
  · exact execChannelOffline_refused hr hc (by simp [last.1]) (dramOfflineChecks_last last)
  · exact execChannelOffline_refused hr hc in_ (dramOfflineChecks_busy others busy)
  · have noSpace : offlineNoSpace s c = true := by simpa [offlineNoSpace] using full
    exact execChannelOffline_refused hr hc (by simp [on]) (dramOfflineChecks_noSpace others idle noSpace)
  · exact execChannelOnline_serving hr hc serves

end Sys2Proof.Machine
end

section
/-! PROOFS. Accesses and scrub reads of the DRAM by the answer of their decode (R133, R144 to R150). -/

namespace Sys2Proof.Machine

/-! ### The decoder (R144) -/

theorem decoded_unmarked {marks : List (Nat × Nat)} {unit : Nat} (unmarked : (marks.any fun m => m.1 = unit) = false) (k : Nat) (rest : List Nat) :
    decoded marks unit (.symbols (k :: rest)) = if rest.all (deviceOf · = deviceOf k) then .corrected (deviceOf k) else .bad := by
  have none_ : (marks.find? fun m => m.1 = unit) = none := by simpa using unmarked
  rw [decoded, none_]

/-! ### DRAM_ACCESS_COMPLETE (R133, R146, R147) -/

/-- R133, R146: the burst of a request is issued: a read leaves its queue, a partial write has its read behind it. -/
def burstIssued (s : State) (f : Frame) (d : DramReq) : State :=
  let c := frameChannel f.no
  let p := placeOf (dramAt s c) (f.no / 16)
  let t := setDram s c fun x =>
    { x with queue := if d.write then x.queue.map fun y => if y = d then { d with rmw := false } else y else x.queue.erase d, caFails := 0 }
  columnCommand t c (bankOf (d.line % 2) p) p.row false

/-- R133: a burst that decodes is delivered, and may have been the last that a vacated location waited for. -/
def burstDelivered (s : State) (f : Frame) (d : DramReq) : State := vacateStep (deliver s d d.data) (frameChannel f.no)

/-- R147: the error table: what follows an access by the answer of its decode. -/
def accessOutcome (s : State) (f : Frame) (d : DramReq) : Decoded → State
  | .good | .poison => burstDelivered s f d
  | .corrected k =>
    let u := correctable s f.no d.line k
    burstDelivered (if queuedWrite u d.line || (validFrame u (d.line / 64)).isNone then u else writeFrame u d.line (frameLine f d.line) false) f d
  | .erased none => burstDelivered (countError s (.dram (frameChannel f.no)) false) f d
  | .erased (some k) => burstDelivered (corrected (countError s (.dram (frameChannel f.no)) false) f.no d.line k) f d
  | .bad => uncorrectable (setDram s (frameChannel f.no) fun x => { x with queue := if d.write then x.queue.erase { d with rmw := false } else x.queue }) f.no d

/-- R133: the request that DRAM_ACCESS_COMPLETE reads: the read that the subchannel serves next, or the partial write. -/
def readsNext (s : State) (c : Nat) (d : DramReq) : Prop :=
  (d.write = false ∧ nextRequest s c (d.line % 2) false = some d) ∨
  (d.write = true ∧ d.rmw = true ∧ nextRequest s c (d.line % 2) false = none ∧ nextRequest s c (d.line % 2) true = some d)

theorem find?_readsNext {s : State} {c : Nat} {d : DramReq} (next : readsNext s c d) :
    ([nextRequest s c (d.line % 2) false, nextRequest s c (d.line % 2) true].find? fun o =>
      o.any fun x => decide (x.line = d.line) && (!x.write || x.rmw)) = some (some d) := by
  rcases next with ⟨read, next⟩ | ⟨write, half, none_, next⟩
  · simp [next, read]
  · simp [none_, next, half]

theorem execDramAccessComplete_outcome {s : State} {f : Frame} {d : DramReq} (low : d.line / 64 < directoryBase)
    (frame : frameOf s (d.line / 64) = some f) (next : readsNext s (frameChannel f.no) d) {err : DramError} {answer : Decoded}
    (decodes : decoded (dramAt (burstIssued s f d) (frameChannel f.no)).marks
      ((placeOf (dramAt s (frameChannel f.no)) (f.no / 16)).rank * 2 + d.line % 2) err = answer) :
    execDramAccessComplete d.line err s = .next (accessOutcome (burstIssued s f d) f d answer) := by
  rw [execDramAccessComplete, if_neg (by omega), frame]
  dsimp only
  rw [find?_readsNext next]
  unfold burstIssued at decodes ⊢
  dsimp only at decodes ⊢
  rw [decodes]
  cases answer with
  | good | poison | bad | corrected => rfl
  | erased device => cases device <;> rfl

/-! ### SCRUB_READ (R147, R150) -/

section
variable {u : State} {n : Nat} {errs : List (Nat × DramError)} (may0 : scrubMay u (n % 16) 0 = true) (may1 : scrubMay u (n % 16) 1 = true)
include may0 may1

theorem execScrubRead_frame {g : Frame} (frame : (u.ppu.frames.find? fun g => g.no = n && g.valid) = some g) : execScrubRead n errs u =
    .next ((pageCommand u n).each (errs.filter fun x => decide (x.1 < 64)) fun v x => scrubLine v g x.1 x.2) := by
  rw [execScrubRead]
  rw [if_neg (by simp [may0, may1]), frame]

theorem execScrubRead_block {b : Nat × Nat × Nat} (noFrame : u.ppu.frames.any (fun g => g.no = n && g.valid) = false)
    (block : (u.ppu.blocks.find? fun b => blockOn b fun k => k = n) = some b) : execScrubRead n errs u =
    .next ((pageCommand u n).each (errs.filter fun x => decide (x.1 < 64)) fun v x => scrubBlock v n b.1 x.1 x.2) := by
  have none_ : (u.ppu.frames.find? fun g => g.no = n && g.valid) = none := by simpa using noFrame
  rw [execScrubRead]
  rw [if_neg (by simp [may0, may1]), none_]
  dsimp only
  rw [block]
end

/-- R147, R150: what follows a scrubbed line by the answer of its decode. -/
def scrubOutcome (u : State) (g : Frame) (i : Nat) : Decoded → State :=
  let c := frameChannel g.no
  let l := g.page * 64 + i
  let e := entry u g.page
  fun
  | .good => u
  | .poison => dramEvent u 5 2 g.no l 15 .poison e.region (l * 64)
  | .erased none => countError u (.dram c) false
  | .erased (some k) => corrected (countError u (.dram c) false) g.no l k
  | .corrected k => if queuedWrite (correctable u g.no l k) l then correctable u g.no l k else queueWrite (correctable u g.no l k) l (frameLine g l) false
  | .bad =>
    let v := countError u (.dram c) true
    rowBad (if e.charged = false ∧ e.st = .clean then dramEvent v 3 1 g.no l 15 .uncorrectable e.region g.page
      else if twinHolds v e then recoverLine v { line := l, write := false, curd := true, data := frameLine g l, rmw := false, since := v.now }
      else dramEvent v 5 2 g.no l 15 .uncorrectable e.region (l * 64)) c (rowOf (placeOf (dramAt u c) (g.no / 16)))

theorem scrubLine_outcome {u : State} {g : Frame} {i : Nat} (err : DramError)
    (serves : (dramAt u (frameChannel g.no)).st = .online ∨ (dramAt u (frameChannel g.no)).st = .vacating) :
    scrubLine u g i err = scrubOutcome u g i (decoded (dramAt u (frameChannel g.no)).marks
      ((placeOf (dramAt u (frameChannel g.no)) (g.no / 16)).rank * 2 + (g.page * 64 + i) % 2) err) := by
  rw [scrubLine]
  dsimp only
  rw [if_neg (by rcases serves with h | h <;> simp [h])]
  generalize decoded _ _ err = answer
  cases answer with
  | good | poison | corrected => rfl
  | erased device => cases device <;> rfl
  | bad => simp [scrubOutcome]

/-- Settles O37: an access and a scrubbed line each come to the answer of their decode, and then to its row of the error table. -/
theorem dramAccessesFollowTheErrorTable : Obligations.DramAccessesFollowTheErrorTable := by
  refine ⟨fun s line err high => if_pos high, ?_⟩
  rintro s line f d low frame c p rfl next
  refine ⟨fun err answer => ?_, fun err k answer => ?_, fun err answer => ?_, fun err k answer => ?_, fun err answer => ?_,
    fun u n g frame may0 may1 errs => ?_, fun u n b noFrame block may0 may1 errs => ?_, ?_, ?_⟩
  · rcases answer with good | poison
    · exact execDramAccessComplete_outcome low frame next good
    · exact execDramAccessComplete_outcome low frame next poison
  · exact execDramAccessComplete_outcome low frame next answer
  · exact execDramAccessComplete_outcome low frame next answer
  · exact execDramAccessComplete_outcome low frame next answer
  · exact execDramAccessComplete_outcome low frame next answer
  · exact execScrubRead_frame may0 may1 frame
  · exact execScrubRead_block may0 may1 noFrame block
  · intro u g i err c l answer serves
    have outcome : scrubLine u g i err = scrubOutcome u g i answer := scrubLine_outcome err serves
    refine ⟨fun h => ?_, fun h => ?_, fun h => ?_, fun k h => ?_, fun k h => ?_, fun h => ?_⟩ <;> exact outcome.trans (congrArg _ h)
  · rintro marks unit _ unmarked k rest rfl
    rw [decoded_unmarked unmarked]
    exact ⟨fun same => if_pos (by simpa using same), fun other => if_neg (by simpa using other)⟩

end Sys2Proof.Machine
end

section
/-! PROOFS. Refresh, row timeouts, parity alerts, lost hubs, row repair and vacated channels of the DRAM (R135 to R140, R147, R151 to R157). -/

namespace Sys2Proof.Machine

/-! ### Refresh (R139, R140) -/

section
variable {s : State} {c b : Nat}

theorem execRefreshIntervalTick_refreshes (serves : (dramAt s c).st = .online ∨ (dramAt s c).st = .vacating)
    (awake : (dramAt s c).asleep.contains (b % 1024 / 32) = false) : execRefreshIntervalTick c b s =
      let t := setBank s c (bankAt (dramAt s c) b)
      .next (setDram t c fun x => { x with
        timing := timingSet x.reduced x.band
        banks := x.banks.map fun y => if refreshed t b y then refreshBank (refreshBusy s c b || refreshCch s c b) (refreshCch s c b) y else y }) := by
  rw [execRefreshIntervalTick, if_neg (by rw [awake]; rcases serves with h | h <;> simp [h])]

theorem execRefreshIntervalTick_still
    (out : ((dramAt s c).st ≠ .online ∧ (dramAt s c).st ≠ .vacating) ∨ (dramAt s c).asleep.contains (b % 1024 / 32) = true) :
    execRefreshIntervalTick c b s = .next s := by
  rw [execRefreshIntervalTick, if_pos (by simpa using out)]

theorem refreshBank_idle (y : Bank) (cch : Bool) :
    refreshBank false cch y = { y with postponed := 0, openRow := none, pulledIn := min 4 (y.pulledIn + 1) } := rfl

theorem refreshBank_pulledIn {y : Bank} (cch : Bool) (h : 0 < y.pulledIn) : refreshBank true cch y = { y with pulledIn := y.pulledIn - 1 } := by
  rw [refreshBank, if_pos rfl, if_pos h]

theorem refreshBank_postpones {y : Bank} (cch : Bool) (h : y.pulledIn = 0) : refreshBank true cch y =
    if y.postponed < (if cch then 5 else 4) then { y with postponed := y.postponed + 1 } else { y with openRow := none } := by
  rw [refreshBank, if_pos rfl, if_neg (by omega)]

/-! ### ROW_IDLE_TIMEOUT (R135) -/

theorem execRowIdleTimeout_open {r : Nat} (row : (bankAt (dramAt s c) b).openRow = some r) : execRowIdleTimeout c b s =
    .next (if bankWanted s c b (some r) then s else
      let k := bankAt (dramAt s c) b
      setBank s c { k with openRow := none, judged := true, predictor := if k.judged then k.predictor else min 3 (k.predictor + 1) }) := by
  rw [execRowIdleTimeout, row]
  exact (apply_ite Host.Outcome.next ..).symm

theorem execRowIdleTimeout_closed (row : (bankAt (dramAt s c) b).openRow = none) : execRowIdleTimeout c b s =
    .next (if (bankAt (dramAt s c) b).judged then s else
      setBank s c { bankAt (dramAt s c) b with judged := true, predictor := min 3 ((bankAt (dramAt s c) b).predictor + 1) }) := by
  unfold execRowIdleTimeout
  dsimp only
  split
  next r h => cases row.symm.trans h
  next => rfl
end

/-! ### CA_PARITY_ALERT and SPD_HUB_LOSS_TIMEOUT (R147, R153) -/

section
variable {s : State} {c : Nat}

theorem execCaParityAlert_counts (serves : (dramAt s c).st = .online ∨ (dramAt s c).st = .vacating) : execCaParityAlert c s =
    let t := s.event 4 6 1 (unitWord 3 c) (detail := (dramAt s c).caFails + 1)
    .next (if 3 ≤ (dramAt s c).caFails then failChannel t c 3
      else if (dramAt s c).caFails = 2 then setDram t c fun x => { x with caFails := 3, held := true, verify := true }
      else setDram t c fun x => { x with caFails := x.caFails + 1 }) := by
  rw [execCaParityAlert, if_neg (by rcases serves with h | h <;> simp [h])]
  simp only [apply_ite Host.Outcome.next]

theorem execCaParityAlert_out (online : (dramAt s c).st ≠ .online) (vacating : (dramAt s c).st ≠ .vacating) :
    execCaParityAlert c s = .next s := by
  rw [execCaParityAlert, if_pos (by simp [online, vacating])]

/-- R153, R154: what a hub that is silent for 100 ms does to its channel, by the channel's state. -/
def hubLost (s : State) (c : Nat) : DramSt → State
  | .online | .vacating => failChannel (setDram s c fun x => { x with lost := true }) c 4
  | .training => dramFailed (setDram s c fun x => { x with lost := true }) c 4
  | .absent | .offline | .failed => setDram s c fun x => { x with lost := true }

theorem execSpdHubLossTimeout_hubLost {st : DramSt} (h : (dramAt s c).st = st) : execSpdHubLossTimeout c s = .next (hubLost s c st) := by
  rw [execSpdHubLossTimeout, h]
  cases st <;> rfl
end

/-! ### Row repair (R151) -/

section
variable {s : State} {c row : Nat} {x : Nat × Nat × Nat} (still : s.couch.orch ≠ .committed)
include still

section
variable (step : repairAt s c row 1 = some x) (vacated : rowVacated s c row = true)
include step vacated

theorem execRowRepairSpprDone_repairs : execRowRepairSpprDone c row false s =
    let t := setDram s c fun y => { y with
      repair := y.repair.map fun z => if z = x then (row, 2, x.2.2) else z, withheld := y.withheld.erase row, sppr := y.sppr ++ [(row, x.2.2)] }
    .next (wakeAll (vacateWithheld (dramEvent t 8 1 (rowLocation t c row) 0 x.2.2 .repair 0xFFFF row) c)) := by
  rw [execRowRepairSpprDone, step]
  dsimp only
  rw [if_neg (by simp [vacated, still]), if_neg (by decide)]

theorem execRowRepairSpprDone_noSpare : execRowRepairSpprDone c row true s = .next (noSpareRow s c x) := by
  rw [execRowRepairSpprDone, step]
  dsimp only
  rw [if_neg (by simp [vacated, still]), if_pos rfl]
end

variable (step : repairAt s c row 2 = some x) (vacated : bankVacated s c row = true)
include step vacated

theorem execRowRepairHpprDone_repairs : execRowRepairHpprDone c ⟨row, false⟩ s =
    .next (wakeAll (setDram s c fun y => { y with repair := y.repair.erase x, hppr := addNew y.hppr (row, x.2.2) })) := by
  rw [execRowRepairHpprDone, step]
  dsimp only
  rw [if_neg (by simp [vacated, still]), if_neg (by decide)]

theorem execRowRepairHpprDone_noSpare : execRowRepairHpprDone c ⟨row, true⟩ s = .next (noSpareRow s c x) := by
  rw [execRowRepairHpprDone, step]
  dsimp only
  rw [if_neg (by simp [vacated, still]), if_pos rfl]
end

/-! ### CHANNEL_VACATE_COMPLETE and DIRECTORY_AREA_RESIZE_COMPLETE (R153, R157) -/

/-- R153: the last step of a vacate: what still stands in the channel leaves it. -/
def vacateLast (s : State) (c : Nat) : State := vacateStep (leaveBlocks s (onChannel c)) c

theorem execChannelVacateComplete_offline {s : State} {c : Nat} (vacating : (dramAt s c).st = .vacating) (still : s.couch.orch ≠ .committed)
    (frames : (vacateLast s c).ppu.frames.any (fun f => onChannel c f.no) = false) (queue : (dramAt (vacateLast s c) c).queue = [])
    (blocks : (vacateLast s c).ppu.blocks.any (fun y => blockOn y (onChannel c)) = false) : execChannelVacateComplete c s =
      .next (endLongOf (setDram (dramState (vacateLast s c) c .offline 0) c fun x => { x with banks := [], repair := [] })
        (· = .offline c) .ok 0 []) := by
  rw [execChannelVacateComplete, if_neg (by simp [vacating, still]), ← vacateLast]
  exact if_neg (by simp [frames, queue, blocks])

theorem execDirectoryAreaResizeComplete_ends {s : State} (runs : (areaStep s).vat.areaTarget ≠ 0)
    (moved : ∀ x ∈ (areaStep s).vat.ch, x.share = x.shareTo) :
    execDirectoryAreaResizeComplete s = .next ((areaStep s).onVat fun v => { v with areaTarget := 0 }) := by
  rw [execDirectoryAreaResizeComplete, if_neg (by simpa [runs] using moved)]

/-- Settles O38: each command passes what holds it back, by the state of its channel, its bank or its repair, and then has one effect. -/
theorem dramTicksAndRepairsComplete : Obligations.DramTicksAndRepairsComplete := by
  intro s c b row d k
  refine ⟨fun serves => ⟨fun awake => ?_, ?_, ?_⟩, fun out => ?_, fun training => ?_, fun out => ?_, fun online vacating => ?_,
    fun y cch => ⟨refreshBank_idle y cch, refreshBank_pulledIn cch, refreshBank_postpones cch⟩, rfl, fun r open_ unwanted => ?_,
    fun r open_ wanted => ?_, fun closed => ?_, fun x step vacated still => ⟨?_, ?_⟩, fun x step vacated still => ⟨?_, ?_⟩,
    fun vacating still frames queue blocks => ?_, fun runs moved => ?_⟩
  · exact execRefreshIntervalTick_refreshes serves awake
  · exact execCaParityAlert_counts serves
  · rcases serves with h | h <;> exact execSpdHubLossTimeout_hubLost h
  · exact execRefreshIntervalTick_still out
  · exact execSpdHubLossTimeout_hubLost training
  · rcases out with h | h | h <;> exact execSpdHubLossTimeout_hubLost h
  · exact execCaParityAlert_out online vacating
  · exact (execRowIdleTimeout_open open_).trans (by rw [unwanted]; rfl)
  · exact (execRowIdleTimeout_open open_).trans (by rw [wanted]; rfl)
  · exact execRowIdleTimeout_closed closed
  · exact execRowRepairSpprDone_repairs still step vacated
  · exact execRowRepairSpprDone_noSpare still step vacated
  · exact execRowRepairHpprDone_repairs still step vacated
  · exact execRowRepairHpprDone_noSpare still step vacated
  · exact execChannelVacateComplete_offline vacating still frames queue blocks
  · exact execDirectoryAreaResizeComplete_ends runs moved

end Sys2Proof.Machine
end

section
/-! PROOFS. The training of a DRAM channel, its retraining, and frequency changes (R125, R126, R141 to R143). -/

namespace Sys2Proof.Machine

/-! ### DRAM_TRAINING_STEP_COMPLETE (R125, R126, R141, R142) -/

theorem dramAt_setDram_held {s : State} {c : Nat} {f : Dram → Dram} (same : ∀ d, (f d).held = d.held) :
    (dramAt (setDram s c f) c).held = (dramAt s c).held := by
  show ((s.vat.ch.modify c f).getD c .reset).held = (s.vat.ch.getD c .reset).held
  simp only [List.getD_eq_getElem?_getD, List.getElem?_modify_eq]
  cases s.vat.ch[c]? with
  | none => rfl
  | some d => exact same d

theorem setDram_setDram (s : State) (c : Nat) (f g : Dram → Dram) : setDram (setDram s c f) c g = setDram s c fun d => g (f d) :=
  congrArg (fun l => s.onVat fun v => { v with ch := l }) (List.modify_modify_eq ..)

/-- R142: a channel in use goes on with the requests that were held. -/
def goesOn (s : State) (c : Nat) : State := setDram s c fun y => { y with held := false, verify := false, step := 7 }

theorem trained_held {s : State} {c : Nat} (held : (dramAt s c).held = true) : trained s c = goesOn s c := if_pos held

theorem trained_free {s : State} {c : Nat} (free : (dramAt s c).held = false) : trained s c = enterOnline s c := if_neg (by simp [free])

/-- R126, R142: the channel is in its training, or is in use and retrains with its requests held. -/
def trains (s : State) (c : Nat) : Prop :=
  (dramAt s c).st = .training ∨ (dramAt s c).held = true ∧ ((dramAt s c).st = .online ∨ (dramAt s c).st = .vacating)

/-- R141: the step that the channel has passed last; step 6 holds the results. -/
def stepPassed (s : State) (c k : Nat) : State :=
  setDram s c fun y => { y with step := k, results := if k = 6 then y.dimms.map (·.spdId) else y.results }

theorem execDramTrainingStepComplete_spdRead {s : State} {c : Nat} {d : Dimms}
    (starts : (dramAt s c).st = .training ∨ ((dramAt s c).st = .absent ∧ s.power.seq = .booting)) (some_ : 0 < d.count)
    (first : (dramAt s c).step = 0) (free : (dramAt s c).held = false) : execDramTrainingStepComplete c (.spdRead d) s =
      let t := setDram (if (dramAt s c).st = .absent then dramState s c .training 0 else s) c fun x => { x with dimms := some d }
      .next (if supported d then setDram t c fun x => { x with step := 1, verify := x.results = some d.spdId }
        else dramFailed t c 1 (unsupportedItem d)) := by
  have accepts : ¬ (d.count = 0 ∨ (dramAt s c).step ≠ 0 ∨ (dramAt s c).held = true) := by simp [first, free]; omega
  rw [execDramTrainingStepComplete, if_neg (by rcases starts with h | ⟨h, boots⟩ <;> simp [*])]
  dsimp only
  rw [if_neg (by simpa [and_assoc] using accepts), apply_ite Host.Outcome.next]
  rcases starts with h | ⟨h, boots⟩ <;> simp [*]

section
variable {s : State} {c : Nat} (training : trains s c)
include training

theorem trains_not_absent : (dramAt s c).st ≠ .absent := by
  rcases training with h | ⟨-, h | h⟩ <;> simp [h]

/-- R126, R142: the report of a channel that trains is not ignored. -/
theorem trains_heard : ¬ ((dramAt s c).st ≠ .training && !((dramAt s c).st = .absent && s.power.seq = .booting) &&
    !((dramAt s c).held && ((dramAt s c).st = .online || (dramAt s c).st = .vacating))) = true := by
  rcases training with h | ⟨held, h | h⟩ <;> simp [*]

section
variable (full : (dramAt s c).verify = false)
include full

theorem execDramTrainingStepComplete_passed (more : (dramAt s c).step < 6) :
    execDramTrainingStepComplete c (.passed ((dramAt s c).step + 1)) s = .next (stepPassed s c ((dramAt s c).step + 1)) := by
  have absent := trains_not_absent training
  rw [execDramTrainingStepComplete, if_neg (trains_heard training)]
  dsimp only
  rw [if_neg (by simp [absent, full]; omega), if_pos (by omega)]
  rfl

theorem execDramTrainingStepComplete_last (last : (dramAt s c).step = 6) : execDramTrainingStepComplete c (.passed 7) s =
    .next (trained (setDram s c fun y => { y with step := 7 }) c) := by
  have absent := trains_not_absent training
  rw [execDramTrainingStepComplete, if_neg (trains_heard training)]
  dsimp only
  rw [if_neg (by simp [absent, full, last]), if_neg (by decide)]
  rfl

theorem execDramTrainingStepComplete_failed : execDramTrainingStepComplete c (.failed ((dramAt s c).step + 1)) s =
    .next (trainingFails s c ((dramAt s c).step + 1)) := by
  have absent := trains_not_absent training
  rw [execDramTrainingStepComplete, if_neg (trains_heard training), if_neg (by simp [full])]
  simp [absent]
end

variable (verify : (dramAt s c).verify = true) (begun : (dramAt s c).step ≠ 0)
include verify begun

theorem execDramTrainingStepComplete_verified : execDramTrainingStepComplete c .verified s = .next (trained s c) := by
  have absent := trains_not_absent training
  rw [execDramTrainingStepComplete, if_neg (trains_heard training), if_neg (by simp [absent, verify, begun])]

theorem execDramTrainingStepComplete_verifyFailed : execDramTrainingStepComplete c .verifyFailed s =
    .next (setDram s c fun y => { y with verify := false, step := 1 }) := by
  have absent := trains_not_absent training
  rw [execDramTrainingStepComplete, if_neg (trains_heard training), if_neg (by simp [absent, verify, begun])]
end

/-! ### DRAM_FREQUENCY_CHANGE_DONE (R143) -/

/-- R143 steps 3 to 7: the channel at its new bin, its banks precharged and off the Wire's list; a read-back that fails holds its requests
for a verification, with an event. -/
def binChanged (s : State) (c : Nat) (good : Bool) : State :=
  let t := setDram s c fun y => runAt s y.target { y with
    changing := false, held := y.held || !good, verify := y.verify || !good,
    banks := y.banks.map fun b => { b with openRow := none, judged := true, hits := 0, postponed := 0 } }
  let t := t.onWire fun w => { w with changing := w.changing.filter (· ≠ .mc c) }
  if good then t else t.event 4 9 0 (unitWord 3 c) (detail := changeDetail (dramCode (dramAt s c).st) (dramCode (dramAt s c).st) 0x21)

theorem execDramFrequencyChangeDone_ends {s : State} {c : Nat} (changing : (dramAt s c).changing = true)
    (served : changeWaits (dramAt s c) = false) (good : Bool) : execDramFrequencyChangeDone c good s =
      .next (if (binChanged s c good).vat.ch.any (·.changing) then binChanged s c good
        else retargetBin ((binChanged s c good).onVat fun v => { v with pendingReduced := none })) := by
  rw [execDramFrequencyChangeDone, if_neg (by simp [changing, served])]
  rfl

/-- Settles O39: a step of the training by what it reports, and the end of the training by whether requests are held. -/
theorem dramTrainingRunsItsSteps : Obligations.DramTrainingRunsItsSteps := by
  intro s c x
  refine ⟨fun d starts some_ first free => ?_, fun training => ⟨fun full free => ⟨fun more => ?_, fun last => ?_, ?_⟩,
    fun verify begun free => ⟨?_, ?_⟩⟩, fun held uses verify begun => ?_, fun held uses full => ⟨fun more => ?_, fun last => ?_, ?_⟩,
    fun changing served good => ?_⟩
  · exact execDramTrainingStepComplete_spdRead starts some_ first free
  · exact execDramTrainingStepComplete_passed (.inl training) full more
  · refine (execDramTrainingStepComplete_last (.inl training) full last).trans (congrArg _ (trained_free ?_))
    exact (dramAt_setDram_held (f := fun y => { y with step := 7 }) fun _ => rfl).trans free
  · refine (execDramTrainingStepComplete_failed (.inl training) full).trans (congrArg _ (if_neg ?_))
    exact Bool.eq_false_iff.mp free
  · exact (execDramTrainingStepComplete_verified (.inl training) verify begun).trans (congrArg _ (trained_free free))
  · exact execDramTrainingStepComplete_verifyFailed (.inl training) verify begun
  · exact (execDramTrainingStepComplete_verified (.inr ⟨held, uses⟩) verify begun).trans (congrArg _ (trained_held held))
  · exact execDramTrainingStepComplete_passed (.inr ⟨held, uses⟩) full more
  · refine (execDramTrainingStepComplete_last (.inr ⟨held, uses⟩) full last).trans (congrArg _ ((trained_held ?_).trans ?_))
    · exact (dramAt_setDram_held (f := fun y => { y with step := 7 }) fun _ => rfl).trans held
    · exact setDram_setDram ..
  · exact execDramTrainingStepComplete_failed (.inr ⟨held, uses⟩) full
  · exact execDramFrequencyChangeDone_ends changing served good

end Sys2Proof.Machine
end

section
/-! PROOFS. The stage's pages, grown bad blocks, erases, reclamation, patrol and wear levelling (R169, R171, R173, R177, R179 to R181). -/

namespace Sys2Proof.Machine

/-! ### STAGE_PROGRAM_COMPLETE (R171) -/

/-- R43, R171: both copies of a page stand in a pair of blocks: its records are programmed, and its writes complete. -/
def stagePageDone (k : StageBlock) (s : State) : State :=
  let n := min stagePageRecords s.ream.stageClosed
  let p := programRecords n k.seq s.ream.stage
  let t := (s.onReam fun r => { r with
    stage := p.2, stageClosed := r.stageClosed - n,
    stageBlocks := r.stageBlocks.map fun x => if x.seq = k.seq then { x with pages := x.pages + 1 } else x }).onCipher fun c =>
      { c with requests := dropStageRequests n c.requests }
  t.each p.1 fun s r =>
    match s.cxl.reqs.find? fun q => q.line = r.line && q.st = .stage with
    | some q => localPlaced s q
    | none => s

theorem execStageProgramComplete_programs {s t : State} {k : StageBlock} (closed : s.ream.stageClosed ≠ 0)
    (target : stageTarget s = some (k, t)) : execStageProgramComplete s = .next (stagePageDone k t) := by
  rw [execStageProgramComplete, target, Option.filter_some_pos (by simp [closed])]
  rfl

/-! ### NAND_PROGRAM_FAILURE and NAND_ERASE_COMPLETE (R161, R169, R173, R177, R180, R181) -/

theorem execNandProgramFailure_grows {s : State} {c id : Nat} (good : ∀ b, blockAt s c id = some b → b.bad = false) :
    execNandProgramFailure c id s = .next (growBad s c id) := by
  unfold execNandProgramFailure
  split
  next b found => exact if_neg (by simp [good b found])
  next => rfl

theorem execNandEraseComplete_rehearsal {s : State} {c id : Nat} {ok : Bool} (none_ : blockAt s c id = none) :
    execNandEraseComplete c id ok s = .next (if ok && !s.couch.eraseHold && homeWindow (flashAt s c) then
      s.onReam fun r => { r with rehearsal := r.rehearsal - slcBlock (flashAt s c) } else s) := by
  rw [execNandEraseComplete, none_]

/-- R169, R173, R181: the block holds nothing, has left its stripe, and is one of the erased ones with one more erase. -/
def blockErased (s : State) (c id : Nat) : State :=
  let t := leaveStripe ((targetAnswers s (BitVec.ofNat 40 (c * 2 ^ 33 + id * 4)) .erase).onReam fun r =>
    { r with slots := r.slots.filter fun x => !(locChannel x.loc = c && blockId x.loc = id) }) c id
  setFlash t c fun f => { f with blocks := f.blocks.map fun x => if x.id = id then { blankBlock id with erases := x.erases + 1 } else x }

section
variable {s : State} {c id : Nat} {b : Block} (found : blockAt s c id = some b) (good : b.bad = false)
include found good

/-- R161, R177: nothing holds the erase of the block back, so what is left of its end is its result. -/
theorem execNandEraseComplete_ends (erasing : b.erasing = true) (idle : stripeIdle s c id = true) (free : eraseBarred s c b = false)
    (window : windowSince (flashAt s c) b.eraseSince = true) (first : readsWait s (32 * c + id / 2 ^ 26) b.eraseSince = false) (ok : Bool) :
    execNandEraseComplete c id ok s =
    .next (if !ok then growBad s c id
      else if !wearHigh (flashAt s c) && wearHigh (flashAt (blockErased s c id) c) then (blockErased s c id).event 5 6 1 (unitWord 4 c)
      else blockErased s c id) := by
  rw [execNandEraseComplete, found]
  dsimp only
  rw [if_neg (by simp [good, erasing, idle, free, window, first, -Nat.reducePow])]
  exact (apply_ite Host.Outcome.next ..).symm

/-! ### PATROL_READ and WEAR_LEVEL_MOVE (R181) -/

section
variable (still : b.erasing = false) (runs : cleaningRuns s = true)
include still runs

theorem execPatrolRead_visits (used : b.sequence ≠ 0) (closed : b.closed = true) (home : b.seg = .home) (due : patrolledNow s b = false)
    (retry : Bool) : execPatrolRead c id retry s =
      let t := (setFlash s c fun f => { f with blocks := f.blocks.map fun x => if x.id = id then { x with patrolled := some s.now } else x }).onReam
        fun r => { r with patrolled := r.patrolled + 1 }
      .next (if retry then emptyBlock (countError t (.flash c) false) c id else t) := by
  rw [execPatrolRead, found]
  exact if_neg (by simp [good, still, runs, used, closed, home, due])

theorem execWearLevelMove_moves
    (spread : ((flashAt s c).targets.map (·.endurance)).getD 0 < 20 * (((flashAt s c).blocks.map (·.erases)).foldl max 0 - b.erases))
    (lowest : ((flashAt s c).blocks.all fun x => b.erases ≤ x.erases || (validSlots s c x.id).isEmpty) = true)
    (valid : validSlots s c id ≠ []) : execWearLevelMove c id s = .next (emptyBlock s c id) := by
  rw [execWearLevelMove, found]
  have holds : (!(validSlots s c id).isEmpty) = true := by simp [valid]
  dsimp only
  rw [if_pos (by rw [decide_eq_true spread, lowest, holds, good, still, runs]; rfl)]
end
end

/-! ### RECLAMATION_START (R171, R179) -/

/-- R179: the LUN is short of erased blocks, and the stripe that the block names is the best of those it may take. -/
theorem execReclamationStart_empties {s : State} {c l id : Nat} {p : Stripe} (stripe : stripeAt (reclaimStage s) c id = some p)
    (takes : reclaims (reclaimStage s) c l p = true)
    (short : (lunErased (reclaimStage s) c l).1 * 100 < (lunErased (reclaimStage s) c l).2 * reclaimPercent (reclaimStage s))
    (runs : cleaningRuns (reclaimStage s) = true) (best : bestScore (reclaimStage s) c l p = true) :
    execReclamationStart c l id s = .next (emptyStripe (reclaimStage s) p) := by
  rw [execReclamationStart]
  dsimp only
  rw [stripe]
  exact if_neg (by simp [takes, short, runs, best])

/-- Settles O41: a command finds its page, its block or its stripe, and passes what holds it back; an erase then ends by its result, and a
patrol read by whether it needed read-retry. -/
theorem stagesAndBlocksComplete : Obligations.StagesAndBlocksComplete := by
  intro s c id b
  refine ⟨fun gathers => ?_, fun k w closed target => ?_, fun none_ => ⟨?_, fun ok => ?_⟩, fun found good => ⟨?_,
    fun erasing idle free window first => ⟨?_, ?_⟩, fun still used runs => ⟨fun closed home due => ⟨?_, ?_⟩, fun spread lowest valid => ?_⟩⟩,
    fun l p stripe takes short runs best => ?_⟩
  · exact congrArg Host.Outcome.next (if_pos gathers)
  · exact execStageProgramComplete_programs closed target
  · exact execNandProgramFailure_grows fun b found => nomatch none_.symm.trans found
  · exact execNandEraseComplete_rehearsal none_
  · exact execNandProgramFailure_grows fun d same => (Option.some.inj (found.symm.trans same)) ▸ good
  · exact execNandEraseComplete_ends found good erasing idle free window first false
  · exact execNandEraseComplete_ends found good erasing idle free window first true
  · exact execPatrolRead_visits found good still runs used closed home due true
  · exact execPatrolRead_visits found good still runs used closed home due false
  · exact execWearLevelMove_moves found good still runs spread lowest valid
  · exact execReclamationStart_empties stripe takes short runs best

end Sys2Proof.Machine
end

section
/-! PROOFS. The energy commands (R208, R209, R213, R214, R247, R316 to R318): the status bytes and the refusals read the Salometer and the
tables, which the arrival of the packet leaves. -/

namespace Sys2Proof.Machine

section
variable (s : State) (r : Req) (op : U16)

@[simp] theorem takeArrived_energyStatusBytes : energyStatusBytes (takeArrived s r op) = energyStatusBytes s := by
  obtain ⟨l, k, h⟩ := takeArrived_eq s r op; rw [h]; rfl
@[simp] theorem takeArrived_probeLoadFitted : probeLoadFitted (takeArrived s r op) = probeLoadFitted s := by
  obtain ⟨l, k, h⟩ := takeArrived_eq s r op; rw [h]; rfl
@[simp] theorem takeArrived_imageCapacity : imageCapacity (takeArrived s r op) = imageCapacity s := by
  obtain ⟨l, k, h⟩ := takeArrived_eq s r op; rw [h]; rfl
@[simp] theorem takeArrived_boundNow : boundNow (takeArrived s r op) = boundNow s := by
  obtain ⟨l, k, h⟩ := takeArrived_eq s r op; rw [h]; rfl
@[simp] theorem takeArrived_rateData : rateData (takeArrived s r op) = rateData s := by
  obtain ⟨l, k, h⟩ := takeArrived_eq s r op; rw [h]; rfl
@[simp] theorem takeArrived_dirtyBound : dirtyBound (takeArrived s r op) = dirtyBound s := by
  obtain ⟨l, k, h⟩ := takeArrived_eq s r op; rw [h]; rfl
@[simp] theorem takeArrived_pressure : pressure (takeArrived s r op) = pressure s := by
  obtain ⟨l, k, h⟩ := takeArrived_eq s r op; rw [h]; rfl
@[simp] theorem takeArrived_stagePathNow : stagePathNow (takeArrived s r op) = stagePathNow s := by
  obtain ⟨l, k, h⟩ := takeArrived_eq s r op; rw [h]; rfl
@[simp] theorem takeArrived_belowFreeFloor : belowFreeFloor (takeArrived s r op) = belowFreeFloor s := by
  obtain ⟨l, k, h⟩ := takeArrived_eq s r op; rw [h]; rfl
@[simp] theorem takeArrived_couchPower : couchPower (takeArrived s r op) = couchPower s := by
  obtain ⟨l, k, h⟩ := takeArrived_eq s r op; rw [h]; rfl
theorem takeArrived_deckleStatusBytes : deckleStatusBytes (takeArrived s r op) = deckleStatusBytes s := by
  unfold deckleStatusBytes
  rw [takeArrived_dirtyBound, takeArrived_boundNow, takeArrived_pressure, takeArrived_stagePathNow, takeArrived_belowFreeFloor,
    takeArrived_couchPower, takeArrived_imageCapacity]
  rfl
end

/-- Settles O14: nothing refuses the packet, and what is left of its command is the reply, the record or the long operation. -/
theorem energyCommandsComplete : Obligations.EnergyCommandsComplete := by
  intro s r x
  refine ⟨fun hr => ?_, fun hr => ?_, fun hr idle pack load window noRehearsal _ => ?_, fun hr => ?_, fun b hr wellFormed crc idle => ?_,
    fun size hr => ?_⟩
  · show Host.Outcome.next (command _ _ _ _ _ _ _) = _
    rw [command_reaches hr, takeArrived_energyStatusBytes]
  · show Host.Outcome.next (command _ _ _ _ _ _ _) = _
    rw [command_reaches hr, takeArrived_deckleStatusBytes]
  · show Host.Outcome.next (command _ _ _ _ _ _ _) = _
    rw [command_reaches hr, checked_pass (by simp [idle, pack, load, window, noRehearsal])]
  · show Host.Outcome.next (command _ _ _ _ _ _ _) = _
    rw [command_reaches hr]
  · show Host.Outcome.next (command _ _ _ _ _ _ _) = _
    rw [wellFormed, command_reaches hr, checked_pass (by simp [crc, idle])]
  · intro g small noRehearsal unarmed idle room _
    show Host.Outcome.next (command _ _ _ _ _ _ _) = _
    rw [command_reaches hr]
    dsimp only
    rw [checked_pass (by simp [noRehearsal, unarmed, idle]; exact ⟨small, by simpa [g] using room⟩), takeArrived_rateData]

end Sys2Proof.Machine
end

section
/-! PROOFS. Samples of the Salometer, and the presence and identity of the pack (R193 to R198, R201, R210, R212). -/

namespace Sys2Proof.Machine

/-! ### What ends a learning cycle leaves the pack's identity (R210, R214) -/

/-- R293, R440: the end of a long operation is an event and a report. -/
theorem endLong_frame {s : State} {o : LongOp} {st : Status} {detail : Nat} {params : List Byte} :
    SameBut [.out, .cmd, .log] s (endLong s o st detail params) := by
  have left {u t : State} (h : SameBut [.out, .cmd] u t) : SameBut [.out, .cmd, .log] u t := h.mono (by simp)
  unfold endLong
  extract_lets d s1 s2
  have reported : SameBut [.out, .cmd, .log] s s2 :=
    (left (sameBut_outCmd (t := s1) rfl)).trans ((sameBut_log (t := s2) rfl).mono (by simp))
  split
  · exact reported.trans ((left (sameBut_outCmd rfl)).trans (left sendParts_frame))
  · exact reported

theorem endLongOf_frame {s : State} {p : LongKind → Bool} {st : Status} {detail : Nat} {params : List Byte} :
    SameBut [.out, .cmd, .log] s (endLongOf s p st detail params) := by
  unfold endLongOf
  split
  · exact endLong_frame
  · exact .refl

@[simp] theorem endLongOf_sal (s : State) (p : LongKind → Bool) (st : Status) (detail : Nat) (params : List Byte) :
    (endLongOf s p st detail params).sal = s.sal := endLongOf_frame .sal (by decide)

theorem disqualify_id (s : State) (cause : Nat) : (disqualify s cause).sal.id = s.sal.id := by
  unfold disqualify
  split
  · rfl
  · simp only [endLongOf_sal, onSal_sal]

theorem putLearned_id (s : State) (r : Learned) : (putLearned s r).sal.id = s.sal.id := by
  unfold putLearned
  split <;> rfl

/-- R210: a swap discards what was counted and learned; the identity of the new pack is taken by itself. -/
theorem packSwap_id (s : State) : (packSwap s).sal.id = s.sal.id := by
  have ended : (disqualify (s.event 10 4 1) 5).sal.id = s.sal.id := disqualify_id ..
  unfold packSwap
  extract_lets s1 s2
  show s2.sal.id = _
  suffices h : s2.sal.id = s1.sal.id from h.trans ended
  unfold s2
  split
  · split
    · exact putLearned_id ..
    · rfl
  · rfl

/-! ### PACK_IDENTITY_READ_DONE (R197, R198, R210, R212) -/

/-- R197: a good block is read; reserved fields of it are logged once for each pack. -/
def identityRead (s : State) (b : List Byte) : State :=
  let p := parseIdentity b
  let t := s.onSal fun x => { x with reading := false, unread := false }
  if (decide (field b 3 1 ≠ 0) || decide (field b 24 4 ≠ 0)) && !s.sal.reservedLogged.contains p.packId then
    (t.event 10 7 1 (detail := p.packId)).onSal fun x => { x with reservedLogged := p.packId :: x.reservedLogged }
  else t

theorem identityRead_id (s : State) (b : List Byte) : (identityRead s b).sal.id = s.sal.id := by
  unfold identityRead
  dsimp only
  split <;> rfl

/-- R210: the identity before is that of another pack; where there is none, `first` says. -/
def otherPack (s : State) (p : PackId) (first : Bool) : Bool := (s.sal.id.map fun q => decide (q.packId ≠ p.packId)).getD first

theorem otherPack_some {s : State} {q : PackId} (known : s.sal.id = some q) (p : PackId) (first : Bool) :
    otherPack s p first = decide (q.packId ≠ p.packId) := by simp [otherPack, known]

theorem otherPack_none {s : State} (unknown : s.sal.id = none) (p : PackId) (first : Bool) : otherPack s p first = first := by
  simp [otherPack, unknown]

/-- R197, R200, R212: the identity is taken: another chemistry than the written table's is logged, and a swap leaves the energy state DEGRADED. -/
def takeIdentity (s : State) (p : PackId) (swap other : Bool) : State :=
  let s := s.onSal fun x => { x with id := some p, before := if swap then none else x.before }
  let s := if other && p.usable && (s.cmd.tables.getD 8 none).isSome && (chemistryWritten s).isNone then s.event 9 5 1 (detail := p.chemistry) else s
  if swap && s.sal.state ≠ .absent && p.usable then deckleImmediate (setEnergy (publish s) .degraded false) else s

section
variable {s : State} (present : s.sal.present = true) (reading : s.sal.reading = true)
include present reading

theorem execPackIdentityReadDone_failed {o : Option (List Byte)} (bad : ∀ b, o = some b → identityCrc b = false) :
    execPackIdentityReadDone o s = .next (identityFailed s) := by
  unfold execPackIdentityReadDone
  rw [if_neg (by simp [present, reading])]
  cases o with
  | none => rfl
  | some b => exact if_pos (by simp [bad b rfl])

theorem execPackIdentityReadDone_good {b : List Byte} (good : identityCrc b = true) :
    execPackIdentityReadDone (some b) s =
      let t := identityRead s b
      let p := parseIdentity b
      let u := if otherPack t p false then packSwap t else t
      .next (judgeEnergy (takeIdentity u p (otherPack t p false) (otherPack u p true))) := by
  rw [execPackIdentityReadDone, if_neg (by simp [present, reading])]
  exact if_neg (by simp [good])

/-- R210: where an identity was known, another pack is a swap, and the same pack is not judged against the written table again. -/
theorem execPackIdentityReadDone_known {b : List Byte} (good : identityCrc b = true) {q : PackId} (known : s.sal.id = some q) :
    execPackIdentityReadDone (some b) s =
      let t := identityRead s b
      let other := decide (q.packId ≠ (parseIdentity b).packId)
      .next (judgeEnergy (takeIdentity (if other then packSwap t else t) (parseIdentity b) other other)) := by
  have before := (identityRead_id s b).trans known
  rw [execPackIdentityReadDone_good present reading good]
  dsimp only
  rw [otherPack_some before, otherPack_some]
  split
  · exact (packSwap_id _).trans before
  · exact before

theorem execPackIdentityReadDone_first {b : List Byte} (good : identityCrc b = true) (unknown : s.sal.id = none) :
    execPackIdentityReadDone (some b) s = .next (judgeEnergy (takeIdentity (identityRead s b) (parseIdentity b) false true)) := by
  have before := (identityRead_id s b).trans unknown
  rw [execPackIdentityReadDone_good present reading good]
  dsimp only
  rw [otherPack_none before, if_neg nofun, otherPack_none before]
end

/-- Settles O42: each command passes what holds it back, and an identity that is read is of another pack, of the same one or the first. -/
theorem salometerSamplesAndPresence : Obligations.SalometerSamplesAndPresence := by
  intro s
  refine ⟨fun i v temp0 temp1 on => ?_, rfl, fun t good => ?_, fun t bad => ?_, fun low => ?_, rfl, fun absent => ?_, fun present => ?_,
    fun absent unswapped => ?_, fun present idle => ?_, fun present reading => ⟨fun o bad => ?_, fun b good => ⟨fun q id other => ?_,
      fun q id same => ?_, fun id => ?_⟩⟩⟩
  · exact if_neg (by simp [on])
  · exact if_pos good
  · exact if_neg (by simp [bad])
  · exact congrArg Host.Outcome.next (if_pos low)
  · exact congrArg Host.Outcome.next (if_neg (by simp [absent]))
  · exact if_neg (by simp [present])
  · exact congrArg Host.Outcome.next (if_neg (by simp [absent, unswapped]))
  · exact congrArg Host.Outcome.next (if_pos (by simp [present, idle]))
  · exact execPackIdentityReadDone_failed present reading bad
  · show execPackIdentityReadDone (some b) s = _
    rw [execPackIdentityReadDone_known present reading good id, decide_eq_true other]
    rfl
  · show execPackIdentityReadDone (some b) s = _
    rw [execPackIdentityReadDone_known present reading good id, decide_eq_false (not_not_intro same)]
    rfl
  · exact execPackIdentityReadDone_first present reading good id

end Sys2Proof.Machine
end

section
/-! PROOFS. Probes, anchors, the thermistors' disagreement and the learning cycle (R201, R203 to R205, R208, R209, R214, R215). -/

namespace Sys2Proof.Machine

/-! ### FULL_CHARGE_ANCHOR (R204, R208) -/

/-- R208: what a full-charge anchor asks of a learning cycle, by its phase. -/
def anchorLearning (s : State) : State :=
  match s.sal.phase with
  | .charging => learnStep (s.onSal fun x => { x with probeEn := true, probing := false, qDis := 0 }) .discharge 2
  | .recharge => finishLearn s
  | .none | .discharge => s

/-- R204: the anchor's voltage and current are met. -/
theorem execFullChargeAnchor_met {s : State} {p : PackId} (id : s.sal.id = some p) (present : s.sal.present = true)
    (charged : 995 * p.chargeMv * 1000 ≤ s.sal.voltage * 1000) (small : -(ratedCurrent s : Int) < s.sal.current * 20) :
    execFullChargeAnchor s = .next (judgeEnergy (publish (anchorLearning
      ((anchorAt s full).onSal fun x => { x with anchorLow := false, disagree := 0 })))) := by
  unfold execFullChargeAnchor
  rw [id]
  exact if_neg (by simp [present, small]; omega)

/-! ### LEARNED_RECORD_DAILY_UPDATE (R209, R211) -/

/-- R209: at least one equivalent full cycle of the record's own pack has been discharged. -/
theorem execLearnedRecordDailyUpdate_counts {s : State} {r : Learned} {p : PackId} (learned : s.sal.learned = some r) (id : s.sal.id = some p)
    (own : p.packId = r.packId) (cycled : max 1 r.qmax * 1000000000 ≤ s.sal.throughput) :
    execLearnedRecordDailyUpdate s = .next (judgeEnergy (putLearned
      (s.onSal fun x => { x with throughput := x.throughput % (max 1 r.qmax * 1000000000) })
      { r with cycles := min 65535 (r.cycles + s.sal.throughput / (max 1 r.qmax * 1000000000)) })) := by
  have some_ : s.sal.throughput / (max 1 r.qmax * 1000000000) ≠ 0 := (Nat.div_pos cycled (by omega)).ne'
  unfold execLearnedRecordDailyUpdate
  rw [learned]
  exact if_neg (by simp [id, own, -Nat.div_eq_zero_iff, some_])

/-- Settles O43: each command passes what holds it back; the full-charge anchor and the interruption then go by the phase of the cycle. -/
theorem probesAnchorsAndLearning : Obligations.ProbesAnchorsAndLearning := by
  intro s
  refine ⟨fun free read usable idle vouched => ?_, fun a b c d e f g h probing => ?_, rfl, rfl, rfl, fun p id present charged small => ?_,
    fun a b ntc0 ntc1 apart unfailed => ?_, fun phase => ?_, fun stalled => ?_, fun r p learned id own cycled => ?_⟩
  · exact congrArg Host.Outcome.next (if_neg (by rcases vouched with h | h <;> simp [free, read, usable, idle, h]))
  · show execProbeComplete _ _ _ _ _ _ _ _ _ = _
    rw [execProbeComplete, if_neg (by simp [probing])]
    exact (apply_ite Host.Outcome.next ..).symm
  · have met := execFullChargeAnchor_met id present charged small
    refine ⟨fun phase => met.trans ?_, fun phase => met.trans ?_, fun phase => met.trans ?_⟩
    · rcases phase with phase | phase <;> simp only [anchorLearning, phase]
    · simp only [anchorLearning, phase]
    · simp only [anchorLearning, phase]
  · show execThermistorDisagreement s = _
    unfold execThermistorDisagreement
    rw [ntc0, ntc1]
    exact if_neg (by simp [apart, unfailed])
  · exact congrArg Host.Outcome.next (if_pos (by simpa using phase))
  · rcases stalled with ⟨phase, still⟩ | ⟨phase, low⟩
    · exact congrArg Host.Outcome.next (if_pos (by rw [phase]; exact decide_eq_true still))
    · exact congrArg Host.Outcome.next (if_pos (by rw [phase]; exact decide_eq_true low))
  · exact execLearnedRecordDailyUpdate_counts learned id own cycled

end Sys2Proof.Machine
end

section
/-! PROOFS. Changes of the input pins, the detection of a loss, and the Couch's commit, programming, limit and seal (R226 to R229, R232 to
R234). -/

namespace Sys2Proof.Machine

/-! ### What a detection leaves of the Couch (R207, R214, R407) -/

section
variable (s : State)

theorem disqualify_couch (cause : Nat) : (disqualify s cause).couch = s.couch := by
  unfold disqualify
  split
  · rfl
  · exact endLongOf_frame .couch (by decide)

theorem supplyFails_couch : (supplyFails s).couch = s.couch := by
  rw [supplyFails, stopProbe, onSal_couch, onSal_couch, disqualify_couch]

theorem spoilWords_couch (words : List Nat) : (spoilWords s words).couch = s.couch := by
  unfold spoilWords State.each
  induction words generalizing s with
  | nil => rfl
  | cons w words ih => exact ih _

theorem ledgerStop_couch : (ledgerStop s).couch = s.couch := by
  unfold ledgerStop
  -- a sector's words stay a variable: nothing may evaluate the list
  generalize List.range sectorWords = words
  split
  · rw [onLedger_couch, spoilWords_couch]
  · rw [onLedger_couch, spoilWords_couch]
  all_goals rfl

theorem endLedgerErase_couch : (endLedgerErase s).couch = s.couch := by
  unfold endLedgerErase
  split
  · rw [onLedger_couch, ledgerStop_couch]
  all_goals rfl

/-! ### INPUT_LOSS_DETECTION (R226 to R228) -/

/-- R226: the detection is noted: the input is absent, and what it fed has ended. -/
def lossNoted : State :=
  supplyFails ((s.onPower fun p => { p with absentSince := some p.now }).onCouch fun c => { c with inputPresent := false })

/-- R404, R407: the detection's record, once the first failing rail is captured and an erase of the Ledger is ended. -/
def lossRecorded : State :=
  let e := endLedgerErase ((lossNoted s).onPower fun p => { p with firstRail := capture (lossNoted s) })
  rindWrite e 2 (newestGeneration e) (dirtyBytes e) (capture (lossNoted s))

theorem lossNoted_couch : (lossNoted s).couch = { s.couch with inputPresent := false } := by
  rw [lossNoted, supplyFails_couch, onCouch_couch, onPower_couch]

theorem lossRecorded_couch : (lossRecorded s).couch = { s.couch with inputPresent := false } :=
  calc (lossRecorded s).couch
      = (endLedgerErase ((lossNoted s).onPower fun p => { p with firstRail := capture (lossNoted s) })).couch := rindWrite_frame .couch (by decide)
    _ = (lossNoted s).couch := endLedgerErase_couch _
    _ = _ := lossNoted_couch s
end

section
variable {s : State} (raw : s.couch.raw = true) (present : s.couch.inputPresent = true) (vao : s.power.vao = true)
include raw present vao

theorem execInputLossDetection_unseen (unseen : s.couch.inputSeen = false) : execInputLossDetection s = .next (lossNoted s) := by
  have kept : (lossNoted s).couch.inputSeen = false := by rw [lossNoted_couch]; exact unseen
  rw [execInputLossDetection, if_neg (by simp [raw, present, vao])]
  exact if_pos (by rw [← lossNoted.eq_1, kept]; rfl)

variable (seen : s.couch.inputSeen = true)
include seen

theorem execInputLossDetection_down (orch : s.couch.orch = .down) :
    execInputLossDetection s = .next (detectDown (lossNoted s) (capture (lossNoted s))) := by
  have keptSeen : (lossNoted s).couch.inputSeen = true := by rw [lossNoted_couch]; exact seen
  have keptOrch : (lossNoted s).couch.orch = .down := by rw [lossNoted_couch]; exact orch
  rw [execInputLossDetection, if_neg (by simp [raw, present, vao]), ← lossNoted.eq_1]
  dsimp only
  rw [keptSeen, if_neg (by simp), if_pos keptOrch]

/-- R227: a detection after input was seen and with the device up is recorded, and then goes by the orchestrator's state. -/
theorem execInputLossDetection_recorded (up : s.couch.orch ≠ .down) : execInputLossDetection s =
    let u := lossRecorded s
    let v := u.onCouch fun c => { c with detected := some u.now }
    match s.couch.orch with
    | .serving =>
      .next (if threeCancels v then couchCommit (v.event 12 6 1 (detail := 3)) false .inputAbsent false false (capture (lossNoted s)) else arm v)
    | .committed => .next (u.onCouch fun c => { c with detected := some (c.detected.getD u.now) })
    | .lifting => .next (startPowerDown (u.onCouch fun c => { c with firstRail := capture (lossNoted s) }) .inputAbsent)
    | .armed | .down => .next u := by
  have keptSeen : (lossNoted s).couch.inputSeen = true := by rw [lossNoted_couch]; exact seen
  have keptUp : (lossNoted s).couch.orch ≠ .down := by rw [lossNoted_couch]; exact up
  have kept : (lossRecorded s).couch.orch = s.couch.orch := by rw [lossRecorded_couch]
  rw [execInputLossDetection, if_neg (by simp [raw, present, vao]), ← lossNoted.eq_1]
  dsimp only
  rw [keptSeen, if_neg (by simp), if_neg keptUp, ← lossRecorded.eq_1, kept]
  cases s.couch.orch
  case serving => exact (apply_ite Host.Outcome.next ..).symm
  all_goals rfl
end

/-! ### INPUT_CHANGE (R226, R230) -/

theorem busThreshold_stampFall (s : State) (code : Nat) : busThreshold (stampFall s code) = busThreshold s := rfl
theorem busThreshold_clearFall (s : State) (code : Nat) : busThreshold (clearFall s code) = busThreshold s := rfl

theorem execInputChange_records {s : State} {pf : Bool} {mv : Nat} (vao : s.power.vao = true) : execInputChange pf mv s =
    let t := if mv < busThreshold s then stampFall s 0x30 else clearFall s 0x30
    let t := if pf then stampFall t 0x31 else clearFall t 0x31
    let lost := pf || decide (mv < busThreshold s)
    let t := t.onPower fun p => { p with powerFail := pf, busMv := mv, glitches := if t.couch.raw && !lost && t.couch.inputPresent then sat32 (p.glitches + 1) else p.glitches }
    .next ((if lost then t.onSal fun x => { x with lowCurrent := false } else t).onCouch fun c => { c with raw := lost }) := by
  rw [execInputChange, if_neg (by simp [vao])]
  simp only [inputLost, apply_ite busThreshold, busThreshold_stampFall, busThreshold_clearFall, ite_self]

/-! ### COUCH_PROGRAM_COMPLETE, COUCH_SEAL_WRITTEN and HOLD_UP_TIME_LIMIT (R227, R232 to R234) -/

section
variable {s : State} (orch : s.couch.orch = .committed)
include orch

theorem execCouchSealWritten_ends (stopped : s.couch.stopped = true) : execCouchSealWritten s =
    let t := rindComplete (leaveGeneration s true) 4
    .next (if t.couch.inputPresent && !t.couch.toDown && !t.couch.cold then internalReset t
      else startPowerDown (t.onCouch fun c => { c with sealed := true }) t.couch.cause) := by
  rw [execCouchSealWritten, if_neg (by simp [orch, stopped])]
  exact (apply_ite Host.Outcome.next ..).symm

variable (runs : s.couch.stopped = false) (unsealed : s.couch.sealed = false)
include runs unsealed

section
variable {loc : BitVec 40} (drained : s.couch.curdDrained = true) (member : s.couch.set.contains (locChannel loc) = true)
  (fit : couchFit (flashAt s (locChannel loc)) = true) (free : freeLoc s loc .image = true)
include drained member fit free

theorem execCouchProgramComplete_saves {page : Nat} (next_ : s.couch.todo.find? (savable s) = some page) :
    execCouchProgramComplete loc true s = .next (saveAt s page loc) := by
  rw [execCouchProgramComplete, if_neg (by simp [orch, runs, unsealed, drained, List.contains_iff_mem.mp member, fit, free])]
  simp only [next_]
  rfl

theorem execCouchProgramComplete_fails :
    execCouchProgramComplete loc false s = .next (abandonMoves (growBad s (locChannel loc) (blockId loc))) := by
  rw [execCouchProgramComplete, if_neg (by simp [orch, runs, unsealed, drained, List.contains_iff_mem.mp member, fit, free])]
  rfl
end

theorem watchStop_stops {flag : U8} (detected : s.couch.detected.isSome = true) (gen : s.couch.gen.isSome = true) : watchStop s flag =
    rindWrite (stopCouch s flag) 14 ((s.couch.gen.map (·.num)).getD 0) (if s.couch.curdDrained then s.couch.todo.length else chargedPages s) :=
  if_neg (by simp [orch, runs, unsealed, Option.isSome_iff_ne_none.mp detected, Option.isSome_iff_ne_none.mp gen])
end

/-- Settles O44: each command passes what holds it back; the detection then goes by what the Couch was doing, which its own record leaves. -/
theorem inputLossArmsAndCommitsTheCouch : Obligations.InputLossArmsAndCommitsTheCouch := by
  intro s
  refine ⟨fun pf mv vao => execInputChange_records vao, fun raw present vao => ⟨fun unseen => ?_, fun seen => ⟨fun orch => ?_, ?_, ?_, ?_⟩⟩,
    fun orch => ?_, fun orch => ?_, fun orch _ stopped => ?_,
    fun page loc orch drained runs unsealed member fit free => ⟨fun next_ => ?_, ?_⟩, fun orch runs unsealed detected gen => ?_⟩
  · exact execInputLossDetection_unseen raw present vao unseen
  · exact execInputLossDetection_down raw present vao seen orch
  iterate 3
    · intro orch
      exact (execInputLossDetection_recorded raw present vao seen (by simp [orch])).trans (by rw [orch]; rfl)
  · exact congrArg Host.Outcome.next (if_pos orch)
  · exact congrArg Host.Outcome.next (if_neg orch)
  · exact execCouchSealWritten_ends orch stopped
  · exact execCouchProgramComplete_saves orch runs unsealed drained member fit free next_
  · exact execCouchProgramComplete_fails orch runs unsealed drained member fit free
  · exact congrArg Host.Outcome.next (watchStop_stops orch runs unsealed detected gen)

end Sys2Proof.Machine
end

section
/-! PROOFS. Self-test waves, the image load, READY.CORE and the watchdogs (R241, R418, R420, R421, R425, R427, R434). -/

namespace Sys2Proof.Machine

/-! ### BIST_WAVE_COMPLETE and IMAGE_LOAD_COMPLETE (R418, R420, R425, R427) -/

/-- R426, R427: an image's digest is taken: the second choice's always, and the first's where no record names another. -/
def digestTaken (s : State) (i : ImageInfo) : Bool :=
  decide (s.ledger.loadTries = 2) || ((loadRecord s).map fun r => decide (r.digest = i.digest)).getD true

section
variable {s : State} (booting : s.power.seq = .booting) (released : s.power.waitButton = false)
include booting released

theorem execBistWaveComplete_fences {n : Nat} {rs : List BistResult} {changed : Bool} : execBistWaveComplete n ⟨rs, changed⟩ s =
    let t := if changed && s.ledger.loadTries = 0 then s.onLedger fun l => { l with loadTries := 1 } else s
    .next (t.each (rs.filter (!·.pass)) fun s x => if (unitAt s x.unit).st = .inService then fenceAtBoot s x.unit else s) :=
  if_neg (by simp [booting, released])

section
variable {genuine : Bool} (loading : s.ledger.loadTries ≠ 0)
include loading

theorem execImageLoadComplete_missing (none_ : slotImage (slotOf s s.ledger.chosen) genuine = none) :
    execImageLoadComplete genuine s = .next (loadFails s) := by
  rw [execImageLoadComplete, if_neg (by simp [booting, released, loading])]
  simp only [none_]

variable {i : ImageInfo} (found : slotImage (slotOf s s.ledger.chosen) genuine = some i)
include found

theorem execImageLoadComplete_found : execImageLoadComplete genuine s =
    let t := setSlot s s.ledger.chosen fun f => { f with image := some i }
    .next (if imageValid s i && digestTaken s i then
      (if s.ledger.loadTries = 2 then recovery t s.ledger.chosen else t).onLedger fun l => { l with running := s.ledger.chosen, loadTries := 0 }
    else loadFails s) := by
  rw [execImageLoadComplete, if_neg (by simp [booting, released, loading])]
  simp only [found, digestTaken, decide_eq_true_eq]
  exact (apply_ite Host.Outcome.next ..).symm
end

/-! ### READY_CORE (R241, R418, R421) -/

section
variable (below : s.cmd.ready = .below) (loaded : s.ledger.loadTries = 0) (trained : s.vat.ch.any (·.st = .training) = false)
include below loaded trained

theorem execReadyCore_noDram (offline : (s.vat.ch.filter (·.st = .online)).isEmpty = true) (unlogged : s.log.noDram = false) :
    execReadyCore s = .next ((s.onLog fun l => { l with noDram := true }).event 0 6 3) := by
  rw [execReadyCore, trained, if_neg (by simp [booting, released, below, loaded]), if_pos offline, unlogged]
  rfl

theorem execReadyCore_ready (online : (s.vat.ch.filter (·.st = .online)).isEmpty = false) : execReadyCore s =
    let t := (s.onPower fun p => { p with seq := .running, done := true }).onLedger fun l => { l with expiries := 0 }
    let u := rindComplete (blowFuses (reserveArea t)) 1
    .next (u.onCmd fun c => { c with ready := if u.power.maintenance then .maintenance else .core }) := by
  rw [execReadyCore, trained, if_neg (by simp [booting, released, below, loaded]), if_neg (by simp [online])]
  dsimp only
  split <;> rfl
end

/-! ### BOOT_WATCHDOG_EXPIRY (R434) -/

/-- R434: every island but SV is re-initialised for the next boot. -/
def watchdogReset (s : State) : State := islandsReset (s.onCmd fun c => { c with resetRun := max c.resetRun 4 })

theorem execBootWatchdogExpiry_resets : execBootWatchdogExpiry s =
    let t := watchdogReset s
    .next (if t.ledger.trial then bootStart t (s.ledger.loadTries = 0)
      else if t.ledger.expiries < 2 then (bootStart t (s.ledger.loadTries = 0)).onLedger fun l => { l with expiries := l.expiries + 1 }
      else if t.ledger.expiries = 2 then t.onLedger fun l => { l with expiries := 3, chosen := !l.chosen, loadTries := 2 }
      else loadFails (t.onLedger fun l => { l with loadTries := 2 })) := by
  rw [execBootWatchdogExpiry, if_neg (by simp [booting, released])]
  simp only [apply_ite Host.Outcome.next]
  rfl
end

/-- Settles O54: each command passes what holds it back; a load then goes by the image, and an expiry by the trial and its count. -/
theorem bootsRunToReadyCoreOrStartAgain : Obligations.BootsRunToReadyCoreOrStartAgain := by
  intro s
  refine ⟨fun booting released => ⟨fun n rs changed => ?_, fun genuine loading => ⟨fun none_ => ?_, fun i found => ⟨fun valid taken => ?_, fun bad => ?_⟩⟩,
    fun below loaded trained => ⟨fun offline unlogged => ?_, fun online => ?_⟩, ?_⟩, fun e management => ?_, fun above => ?_⟩
  · exact execBistWaveComplete_fences booting released (n := n)
  · exact execImageLoadComplete_missing booting released loading none_
  · refine (execImageLoadComplete_found booting released loading found).trans (congrArg Host.Outcome.next (if_pos ?_))
    rcases taken with h | h <;> simp [digestTaken, valid, h]
  · refine (execImageLoadComplete_found booting released loading found).trans (congrArg Host.Outcome.next (if_neg ?_))
    rcases bad with h | ⟨first, h⟩
    · simp [h]
    · simp [digestTaken, first, h]
  · exact execReadyCore_noDram booting released below loaded trained offline unlogged
  · exact execReadyCore_ready booting released below loaded trained online
  · have reset := execBootWatchdogExpiry_resets booting released
    refine ⟨fun trial => reset.trans ?_, fun confirmed few => reset.trans ?_, fun confirmed many => reset.trans ?_,
      fun confirmed third => reset.trans ?_⟩
    · exact congrArg Host.Outcome.next (if_pos trial)
    · exact congrArg Host.Outcome.next ((if_neg (Bool.eq_false_iff.mp confirmed)).trans (if_pos few))
    · exact congrArg Host.Outcome.next ((if_neg (Bool.eq_false_iff.mp confirmed)).trans
        ((if_neg (Nat.lt_asymm many)).trans (if_neg many.ne')))
    · exact congrArg Host.Outcome.next ((if_neg (Bool.eq_false_iff.mp confirmed)).trans ((if_neg third.not_lt).trans (if_pos third)))
  · exact if_neg (by simp [management])
  · exact if_neg above

end Sys2Proof.Machine
end

section
/-! PROOFS. The commands of the TWIN group (R258, R265, R266, R270, R271, R315): the status bytes read nothing of the arrival queue,
and once a packet of TWIN_RESYNC or TWIN_ROLE passes its refusals the region decides. -/

namespace Sys2Proof.Machine

theorem takeArrived_twinStatusBytes (s : State) (r : Req) (op : U16) : twinStatusBytes (takeArrived s r op) = twinStatusBytes s := by
  obtain ⟨l, k, h⟩ := takeArrived_eq s r op; rw [h]; rfl

/-! ### TWIN_RESYNC and TWIN_ROLE (R266, R271, R315) -/

/-- R297: neither field of the packet holds a reserved value. -/
theorem firstReserved_none {a b : Option (Status × Nat)} (ha : a = none) (hb : b = none) : firstReserved a b = none := by rw [ha, hb]; rfl

section
variable {s : State} {r : Req} {n : U16} {g : Region}
variable (wellFormed : regionReserved n 16 = none) (named : regionOf s n.toNat = some g) (mirrored : isMirrored g = true)
  (idle : regionBusy s g = false)
include wellFormed named mirrored idle

/-- R271: without the discard flag a region that is not DIVERGED passes every refusal. -/
theorem execTwinResync_passes (hr : Reaches s r 0x0504 .owner .service = true) (attached : s.felt.pair = .attached)
    (whole : g.mirror ≠ .diverged) : execTwinResync r n 0 s =
      let t := takeArrived s r 0x0504
      .next (if g.mirror = .inSync then ok t r 0x0504 []
        else startLong t r 0x0504 (issuer s r) (.resync g.num) (resyncPages s g).length 1 fun s => resync s g.num) := by
  rw [execTwinResync, command_region hr named (firstReserved_none wellFormed (if_neg (show ¬ 2 ≤ (0 : U8).toNat by decide)))]
  dsimp only
  rw [checked_pass (by simp [mirrored, attached, idle, whole])]
  rfl

/-- R266: the role that the packet asks for stands, or the token changes hands at a close. -/
theorem twinRole_passes {flags : U8} (hr : Reaches s r 0x0505 .owner .service = true)
    (defined : ¬ (4 ≤ flags.toNat || (flags.getLsbD 0 && flags.getLsbD 1)) = true)
    (may : (flags.getLsbD 0 = false ∧ s.felt.pair = .attached ∧ g.mirror = .inSync) ∨
      (flags.getLsbD 0 = true ∧ (s.felt.pair = .twinDown ∨ s.felt.pair = .detached))) :
    twinRole s r n flags =
      let t := takeArrived s r 0x0505
      if holdsToken g != flags.getLsbD 1 then ok t r 0x0505 []
      else requestClose (defer t (issuer s r) r)
        [{ change := if flags.getLsbD 0 then .force g.num else .handover g.num (flags.getLsbD 1),
           req := some (r, 0x0505, (issuer s r).num) }] := by
  rw [twinRole]
  dsimp only
  rw [command_region hr named (firstReserved_none wellFormed (if_neg defined)), checked_pass]
  rcases may with ⟨force, attached, inSync⟩ | ⟨force, down | detached⟩
  · simpa [mirrored, idle, attached, inSync] using force
  · simp [mirrored, idle, force, down]
  · simp [mirrored, idle, force, detached]
end

/-- Settles O13: nothing refuses the packet; the pair's state, or the region's and its token's, then chooses the effect. -/
theorem twinCommandsComplete : Obligations.TwinCommandsComplete := by
  intro s r n g x
  refine ⟨fun hr detached _ => ?_, fun hr => ⟨fun pair => ?_, fun pair => ?_, fun pair => ?_⟩, fun hr => ?_,
    fun wellFormed named mirrored idle => ⟨fun hr attached => ⟨fun inSync => ?_, fun lagging _ => ?_⟩, fun hr => ?_⟩⟩
  · show Host.Outcome.next (command _ _ _ _ _ _ _) = _
    rw [command_reaches hr, checked_pass (by simp [detached])]
  iterate 3
    · show Host.Outcome.next (command _ _ _ _ _ _ _) = _
      rw [command_reaches hr, checked_pass (by simp [pair])]
      simp only [takeArrived_felt, pair, x]
  · show Host.Outcome.next (command _ _ _ _ _ _ _) = _
    rw [command_reaches hr, takeArrived_twinStatusBytes]
  · exact (execTwinResync_passes wellFormed named mirrored idle hr attached (by simp [inSync])).trans
      (congrArg Host.Outcome.next (if_pos inSync))
  · exact (execTwinResync_passes wellFormed named mirrored idle hr attached (by simp [lagging])).trans
      (congrArg Host.Outcome.next (if_neg (by simp [lagging])))
  · have role {flags : U8} := twinRole_passes wellFormed named mirrored idle hr (flags := flags)
    refine ⟨fun attached inSync => ⟨fun holds => ⟨congrArg Host.Outcome.next ?_, congrArg Host.Outcome.next ?_⟩,
      fun follows => congrArg Host.Outcome.next ?_⟩, fun parted follows => congrArg Host.Outcome.next ?_⟩
    · exact (role (by decide) (.inl ⟨rfl, attached, inSync⟩)).trans (if_pos (by rw [holds]; rfl))
    · exact (role (by decide) (.inl ⟨rfl, attached, inSync⟩)).trans (if_neg (by rw [holds]; decide))
    · exact (role (by decide) (.inl ⟨rfl, attached, inSync⟩)).trans (if_neg (by rw [follows]; decide))
    · exact (role (by decide) (.inr ⟨rfl, parted⟩)).trans (if_neg (by rw [follows]; decide))

end Sys2Proof.Machine
end

section
/-! PROOFS. The training of a Felt link, its silence, and its flits (R250 to R252, R261, R449): what of a link an update of it leaves, and the
checks of a flit in their order. -/

namespace Sys2Proof.Machine

/-! ### What an update of a link leaves of it -/

/-- A link that does not exist reads as after reset, before and after an update. -/
theorem linkAt_setLink_of {α : Type} {s : State} {t : Nat} {f : Link → Link} {field : Link → α} (h : ∀ l, field (f l) = field l) :
    field (linkAt (setLink s t f) t) = field (linkAt s t) := by
  by_cases ht : t < s.felt.links.length
  · rw [linkAt_setLink ht, h]
  · simp [linkAt, setLink, State.onFelt, ht]

/-- R251: the NAK of a flit names the last sequence received, which the link's other counts do not change. -/
theorem flitBad_setLink {s : State} {t : Nat} {f : Link → Link} (h : ∀ l, (f l).rxSeq = l.rxSeq) :
    flitBad (setLink s t f) t = (setLink s t f).emit (.flitNak t (((linkAt s t).rxSeq + 4095) % 4096)) := by
  rw [flitBad, linkAt_setLink_of (field := Link.rxSeq) h]

/-! ### FELT_LINK_TRAINED, FAST_RETRAIN_TIMEOUT and FELT_LINK_SILENCE (R250, R261, R449) -/

section
variable {s : State} {t : Nat}

theorem fastFails_retraining (fast : (linkAt s t).st = .fastRetrain) : fastFails s t = startFull (s.event 7 2 1 (unitWord 6 t)) t :=
  if_neg (by simp [fast])

theorem execFeltLinkTrained_full {good : Bool} (training : (linkAt s t).st = .fullTrain) : execFeltLinkTrained t true good s =
    if good then .next (setLink s t fun l =>
      { l with st := .trained, authentic := false, session := (l.session + 1) % 2 ^ 32, rxSeq := 0, txSeq := 0, retryBuf := [],
               replayed := [], tagFails := 0, flits := 0, fullFails := [], dataCredits := 1024, ctlCredits := 32 })
    else
      let fails := ((linkAt s t).fullFails.filter fun x => s.now ≤ x + 60 * second) ++ [s.now]
      let u := setLink s t fun l => { l with fullFails := fails }
      .next (if 3 ≤ fails.length then fenceFelt u t else u) :=
  if_neg (by simp [training])

theorem execFeltLinkTrained_fast {good : Bool} (fast : (linkAt s t).st = .fastRetrain) : execFeltLinkTrained t false good s =
    if good then
      let u := setLink s t fun l => { l with st := if l.authentic then .up else .trained }
      .next (pump (if (linkAt s t).retryBuf.isEmpty then u else u.emit (.flitReplay t (linkAt s t).retryBuf)) t)
    else .next (startFull (s.event 7 2 1 (unitWord 6 t)) t) := by
  rw [← fastFails_retraining fast]
  exact if_neg (by simp [fast])

theorem linkAllowed_event {cls code severity : Nat} {unit : U16} {region address detail : Nat} :
    linkAllowed (s.event cls code severity unit region address detail) t = linkAllowed s t := rfl

/-- R250: the pair keeps the link, and nothing asks for full training. -/
theorem linkFalls_retrains (on : (linkAt s t).st = .up ∨ (linkAt s t).st = .trained) (pair : s.felt.pair ≠ .detached)
    (allowed : linkAllowed s t = true) :
    linkFalls s t false = setLink (s.event 7 1 1 (unitWord 6 t)) t fun l => { l with st := .fastRetrain } := by
  have standing : ¬ ((linkAt s t).st ≠ .up && (linkAt s t).st ≠ .trained) = true := by rcases on with h | h <;> simp [h]
  have kept : ¬ ((s.event 7 1 1 (unitWord 6 t)).felt.pair = .detached || !linkAllowed (s.event 7 1 1 (unitWord 6 t)) t) = true := by
    have felt : (s.event 7 1 1 (unitWord 6 t)).felt = s.felt := event_frame .felt (by decide)
    simpa [felt, linkAllowed_event, allowed] using pair
  rw [linkFalls]
  dsimp only
  rw [if_neg standing, if_neg kept, if_neg Bool.false_ne_true]
end

/-! ### FELT_FLIT_RECEIVED (R251, R252) -/

/-- R251: the CRC of the flit is right, and neither of its words holds a reserved value. -/
def flitGood (bytes : List Byte) (crc : U32) : Prop := crc32c (bytes.take 240) = crc ∧ field bytes 0 2 / 4096 < 2 ∧ field bytes 2 2 < 8192

/-- R250 to R252: what a good flit of this session does before its own sequence is looked at. -/
def flitTaken (s : State) (t : Nat) (bytes : List Byte) : State :=
  let u := setLink s t fun l => { l with tagFails := 0 }
  let v := if (linkAt s t).st = .trained then linkRises u t else u
  takeAck (setLink v t fun l =>
    { l with dataCredits := min 1024 (l.dataCredits + field bytes 4 4 % 2048),
             ctlCredits := min 32 (l.ctlCredits + field bytes 4 4 / 2048 % 32) })
    t (field bytes 2 2 % 4096) (4096 ≤ field bytes 2 2)

/-- R251: the first checks refuse what the FEC could not correct and what is not good. -/
theorem flit_refused {fec : Bool} {bytes : List Byte} {crc : U32} :
    (!fec || crc32c (bytes.take 240) ≠ crc || 2 ≤ field bytes 0 2 / 4096 || 8192 ≤ field bytes 2 2) = true ↔
      fec = false ∨ ¬ flitGood bytes crc := by
  simp only [flitGood, Bool.or_eq_true, Bool.not_eq_true', decide_eq_true_eq, not_and_or, not_lt, or_assoc, ne_eq]

theorem flit_passes {bytes : List Byte} {crc : U32} (good : flitGood bytes crc) :
    ¬ (!true || crc32c (bytes.take 240) ≠ crc || 2 ≤ field bytes 0 2 / 4096 || 8192 ≤ field bytes 2 2) = true :=
  flit_refused.not.mpr (by simp [good])

section
variable {s : State} {t : Nat} {bytes : List Byte} {crc : U32} {fault : FlitFault}
variable (on : (linkAt s t).st = .up ∨ (linkAt s t).st = .trained)
include on

theorem flit_heard : ¬ ((linkAt s t).st ≠ .trained && (linkAt s t).st ≠ .up) = true := by rcases on with h | h <;> simp [h]

theorem execFeltFlitReceived_bad {fec tag : Bool} (bad : fec = false ∨ ¬ flitGood bytes crc) :
    execFeltFlitReceived t ⟨bytes, fault⟩ crc fec tag s =
      .next ((setLink s t fun l => { l with tagFails := 0 }).emit (.flitNak t (((linkAt s t).rxSeq + 4095) % 4096))) := by
  refine (if_neg (flit_heard on)).trans ((if_pos (flit_refused.mpr bad)).trans (congrArg Host.Outcome.next ?_))
  exact flitBad_setLink fun _ => rfl

section
variable (good : flitGood bytes crc)
include good

/-- R252: the second wrong tag in a row takes the link down. -/
theorem execFeltFlitReceived_unauthentic : execFeltFlitReceived t ⟨bytes, fault⟩ crc true false s =
    let u := s.emit (.flitNak t (((linkAt s t).rxSeq + 4095) % 4096))
    let v := if (linkAt s t).tagFails = 0 then u.event 16 1 2 (unitWord 6 t) else u
    if 1 ≤ (linkAt s t).tagFails then .next (linkFalls (setLink v t fun l => { l with tagFails := 0 }) t true)
    else .next (setLink v t fun l => { l with tagFails := l.tagFails + 1 }) :=
  (if_neg (flit_heard on)).trans ((if_neg (flit_passes good)).trans (if_pos rfl))

theorem execFeltFlitReceived_authentic : execFeltFlitReceived t ⟨bytes, fault⟩ crc true true s =
    let u := setLink s t fun l => { l with tagFails := 0 }
    let v := flitTaken s t bytes
    if field bytes 4 4 / 65536 ≠ (linkAt s t).session % 65536 then .next (setLink u t fun l => { l with discarded := l.discarded + 1 })
    else if field bytes 0 2 / 4096 = 1 then .next v
    else if field bytes 0 2 % 4096 = (linkAt s t).rxSeq then
      .next (takePayload (setLink v t fun l => { l with rxSeq := (l.rxSeq + 1) % 4096 }) t fault)
    else if ((linkAt s t).rxSeq + 4096 - field bytes 0 2 % 4096) % 4096 ≤ 2048 then .next v
    else .next (flitBad v t) :=
  (if_neg (flit_heard on)).trans ((if_neg (flit_passes good)).trans (if_neg Bool.false_ne_true))
end
end

/-! ### FLIT_ACK_TIMEOUT (R252) -/

theorem execFlitAckTimeout_replays {s : State} {t seq : Nat} (up : (linkAt s t).st = .up)
    (waits : (linkAt s t).retryBuf.contains seq = true) :
    execFlitAckTimeout t seq s = .next (replayFlits s t ((linkAt s t).retryBuf.dropWhile (· ≠ seq))) :=
  if_neg (by rw [up, waits]; decide)

/-- Settles O46: a training by its kind and its end, a silence by what keeps the link, and a flit by its checks in their order. -/
theorem feltLinksTrainAndReplay : Obligations.FeltLinksTrainAndReplay := by
  intro s t l
  refine ⟨fun training => ?_, fun training => ?_, fun fast => ⟨?_, ?_, ?_⟩, rfl, fun on pair allowed => ?_, fun up seq waits => ?_,
    fun on bytes crc fault => ?_⟩
  · exact execFeltLinkTrained_full training
  · exact execFeltLinkTrained_full training
  · exact execFeltLinkTrained_fast fast
  · exact execFeltLinkTrained_fast fast
  · exact congrArg Host.Outcome.next (fastFails_retraining fast)
  · exact congrArg Host.Outcome.next (linkFalls_retrains on pair allowed)
  · exact execFlitAckTimeout_replays up waits
  · intro nak good
    refine ⟨fun fec tag bad => execFeltFlitReceived_bad on bad,
      fun good => ⟨fun again => ?_, fun first => ?_, fun other => ?_, fun session => ?_⟩⟩
    · refine (execFeltFlitReceived_unauthentic on good).trans ((if_pos again).trans ?_)
      rw [if_neg (Nat.one_le_iff_ne_zero.mp again)]
    · refine (execFeltFlitReceived_unauthentic on good).trans ((if_neg (Nat.not_le.mpr (Nat.lt_one_iff.mpr first))).trans ?_)
      rw [if_pos first]
    · exact (execFeltFlitReceived_authentic on good).trans (if_pos other)
    · have taken := (execFeltFlitReceived_authentic on good (fault := fault)).trans (if_neg (not_not.mpr session))
      refine ⟨fun idle => ?_, fun carries inOrder => ?_, fun carries outOfOrder => ?_⟩
      · exact taken.trans (if_pos idle)
      · exact taken.trans ((if_neg (by rw [carries]; decide)).trans (if_pos inOrder))
      · exact taken.trans ((if_neg (by rw [carries]; decide)).trans ((if_neg outOfOrder).trans (apply_ite Host.Outcome.next ..).symm))

end Sys2Proof.Machine
end

section
/-! PROOFS. The power-up by its positions, the calender chain, PPS and the service button (R260, R389, R390, R397 to R399,
R418, R430, R466). -/

namespace Sys2Proof.Machine

section
variable {s : State} {e : Nat}

/-! ### A rail that is enabled and one that becomes good (R390, R397) -/

/-- R390 step 5: what a rail's power-good records of the rail itself and of its inputs. -/
def railOn (s : State) (e : Nat) : State := clearFall (railInputs (setRail s e fun r => { r with good := true }) e true) e

theorem railOn_seq : (railOn s e).power.seq = s.power.seq := rfl
theorem railOn_pendingHold : (railOn s e).power.pendingHold = s.power.pendingHold := rfl

/-- R390 step 5: the rail is good in the power-up: once each rail of the position is, the next one follows. -/
theorem railGood_rails {p : Nat} (seq : s.power.seq = .rails p) : railGood s e =
    if (List.range 16).all fun k => !(railUsed (railOn s e) k && railPosition (railOn s e) k = p) || (railAt (railOn s e) k).good
    then toPosition (railOn s e) (p + 1) else railOn s e := by
  rw [railGood, show clearFall _ _ = railOn s e from rfl]
  simp only [railOn_seq, seq]

/-- R397: the rail that comes back alone waits no more. -/
theorem railGood_running (seq : s.power.seq = .running) (alone : s.power.pendingHold = some e) :
    railGood s e = (railOn s e).onPower fun p => { p with pendingHold := none } := by
  rw [railGood, show clearFall _ _ = railOn s e from rfl]
  simp only [railOn_seq, seq]
  rw [State.onPower, State.onPower, railOn_pendingHold, if_pos alone]

theorem execRailDelayExpiry_enables (off : (railAt s e).enabled = false)
    (due : (∃ p, s.power.seq = .rails p ∧ railUsed s e = true ∧ railPosition s e = p) ∨
      s.power.seq = .running ∧ s.power.pendingHold = some e) :
    execRailDelayExpiry e s = .next (setRail s e fun r => { r with enabled := true, good := false, failed := false }) := by
  rw [execRailDelayExpiry]
  rcases due with ⟨p, seq, used, position⟩ | ⟨seq, alone⟩
  · simp [seq, used, position, off]
  · simp [seq, alone, off]

section
variable (enabled : (railAt s e).enabled = true) (bad : (railAt s e).good = false)
include enabled bad

theorem execRailPowerGood_good : execRailPowerGood e s = .next (railGood s e) :=
  congrArg Host.Outcome.next (if_pos (by simp [enabled, bad]))

/-- R390: without a power-good input the time-out stands for it. -/
theorem execRailPgTimeout_good (unread : railPg s e = 0xFF) : execRailPgTimeout e s = .next (railGood s e) :=
  (if_neg (by simp [enabled, bad])).trans (if_pos unread)
end
end

/-! ### The service button (R430) -/

section
variable {s : State} {at_ : Nat} (pressed : s.power.button = some at_)
include pressed

theorem execServiceButtonRelease_pressed : execServiceButtonRelease s =
    let t := s.onPower fun p => { p with button := none, held3 := false, stuck := false }
    .next (if s.power.waitButton then bootChoose t (s.power.held3 || decide (at_ + 3 * second ≤ s.now)) else t) := by
  simp only [execServiceButtonRelease, pressed]

variable (heard : s.power.stuck = false)
include heard

theorem button_counts : ¬ (s.power.button.isNone || s.power.stuck) = true := by simp [pressed, heard]

theorem execButtonHold3s_holds : execButtonHold3s s =
    let u := s.onPower fun p => { p with held3 := true }
    .next (if aboveCore u then u.event 14 3 0 else u) :=
  if_neg (button_counts pressed heard)

theorem execButtonStuckTimeout_sticks : execButtonStuckTimeout s =
    let v := (s.onPower fun p => { p with stuck := true }).event 14 4 1
    .next (if s.power.waitButton then bootChoose v false else v) :=
  if_neg (button_counts pressed heard)
end

/-- Settles O52: a position by the rails that it still waits for, and every other command once nothing holds it back. -/
theorem thePowerUpRunsRailByRail : Obligations.ThePowerUpRunsRailByRail := by
  intro s
  refine ⟨fun off => ?_, fun vao => ?_, fun seq => ?_, fun seq => ?_, fun seq => ⟨?_, ?_⟩, fun p e seq used position off => ?_,
    fun e seq alone => ⟨fun off => ?_, fun enabled bad => ?_⟩, fun p e seq enabled bad => ⟨?_, fun unread => ?_⟩, fun seq held => ?_,
    fun b => rfl, fun vao rising at_ mode => ⟨?_, ?_⟩, rfl, fun vao free => ?_,
    fun at_ pressed => ⟨fun waits => ?_, fun serves => ?_, fun heard => ⟨?_, ?_⟩⟩⟩
  · exact if_neg (by simp [off])
  · exact if_neg (by simp [vao])
  · exact congrArg Host.Outcome.next (if_neg seq)
  · show execChainBypassTimeout s = _
    simp only [execChainBypassTimeout, seq]
  · exact congrArg Host.Outcome.next (if_pos seq)
  · show execChainBypassTimeout s = _
    simp only [execChainBypassTimeout, seq, bypassChain]
  · exact execRailDelayExpiry_enables off (.inl ⟨p, seq, used, position⟩)
  · exact execRailDelayExpiry_enables off (.inr ⟨seq, alone⟩)
  · exact (execRailPowerGood_good enabled bad).trans (congrArg Host.Outcome.next (railGood_running seq alone))
  · exact (execRailPowerGood_good enabled bad).trans (congrArg Host.Outcome.next (railGood_rails seq))
  · exact (execRailPgTimeout_good enabled bad unread).trans (congrArg Host.Outcome.next (railGood_rails seq))
  · exact if_neg (by simp [seq])
  · exact congrArg Host.Outcome.next (if_pos (by cases rising <;> simp [vao, mode]))
  · exact congrArg Host.Outcome.next (if_neg (by cases rising <;> simp [mode]))
  · exact congrArg Host.Outcome.next (if_neg (by simp [vao, free]))
  · exact (execServiceButtonRelease_pressed pressed).trans (congrArg Host.Outcome.next (if_pos waits))
  · exact (execServiceButtonRelease_pressed pressed).trans (congrArg Host.Outcome.next (if_neg (Bool.eq_false_iff.mp serves)))
  · exact execButtonHold3s_holds pressed heard
  · exact execButtonStuckTimeout_sticks pressed heard

end Sys2Proof.Machine
end

section
/-! PROOFS. Replies and what they leave of the Command Processor, and the opcodes of sessions (R37, R278, R280, R287 to R290, R295, R305). -/

namespace Sys2Proof.Machine

/-! ### The record of a channel (R283) -/

section
variable {ch c : Chan} {f : Channel → Channel} (keepsName : ∀ x, (f x).ch = x.ch)
include keepsName

/-- An update of one channel's record that keeps its name finds the records that stood before. -/
theorem find?_map_channel (l : List Channel) :
    (l.map fun x => if x.ch = ch then f x else x).find? (·.ch = c) = (l.find? (·.ch = c)).map fun x => if x.ch = ch then f x else x := by
  have names : ((fun x : Channel => decide (x.ch = c)) ∘ fun x => if x.ch = ch then f x else x) = fun x => decide (x.ch = c) := by
    funext x
    by_cases h : x.ch = ch <;> simp [h, keepsName]
  rw [List.find?_map, names]

theorem channelOf_setChannel_same (s : State) : channelOf (setChannel s ch f) ch = f (channelOf s ch) := by
  by_cases has : (s.cmd.channels.any (·.ch = ch)) = true
  · obtain ⟨x, hx⟩ := Option.isSome_iff_exists.mp (List.find?_isSome.mpr (List.any_eq_true.mp has))
    have named : x.ch = ch := by simpa using List.find?_some hx
    simp only [channelOf, setChannel, State.onCmd, if_pos has, find?_map_channel keepsName, hx, Option.map_some, Option.getD_some, if_pos named]
  · have none_ : s.cmd.channels.find? (·.ch = ch) = none := by simpa using has
    simp [channelOf, setChannel, State.onCmd, has, List.find?_append, none_, keepsName, blankChannel]

theorem channelOf_setChannel_other (s : State) (other : c ≠ ch) : channelOf (setChannel s ch f) c = channelOf s c := by
  by_cases has : (s.cmd.channels.any (·.ch = ch)) = true
  · simp only [channelOf, setChannel, State.onCmd, if_pos has, find?_map_channel keepsName]
    cases hx : s.cmd.channels.find? (·.ch = c) with
    | none => rfl
    | some x =>
      have named : x.ch = c := by simpa using List.find?_some hx
      simp [named, other]
  · have unnamed : ch ≠ c := Ne.symm other
    simp [channelOf, setChannel, State.onCmd, has, List.find?_append, keepsName, blankChannel, unnamed]
end

/-! ### Replies (R278, R280, R287) -/

/-- R287: a reply that fits one packet is that packet. -/
theorem reply_eq_sendReply (s : State) (r : Req) (op : U16) (st : Status) (detail : Nat) {params : List Byte} (fits : params.length ≤ 65532) :
    reply s r op st detail params = sendReply (settle s r) r.ch
      { opcode := op, tag := r.tag, more := st = .accepted, urgent := r.urgent, status := st, detail := detail, params := params } := by
  have one : (params.length - 1) / replyRoom = 0 := Nat.div_eq_of_lt (by simp only [replyRoom]; omega)
  rw [reply, one, sendParts]

/-- A reply packet changes no record of the Command Processor but a channel's. -/
theorem sendReply_cmd (s : State) (ch : Chan) (p : Reply) : { (sendReply s ch p).cmd with channels := s.cmd.channels } = s.cmd := by
  cases ch <;> rfl

theorem sendReply_mailbox (s : State) (h l : Nat) (p : Reply) : sendReply s (.mailbox h l) p =
    setChannel (s.emit (.reply (.mailbox h l) p)) (.mailbox h l) fun c => { c with replies := c.replies ++ p.bytes } := by
  simp [sendReply, sendBytes, channelSegments, State.emit]

/-- R280: the bytes of a reply packet enter the reply queue of its mailbox channel. -/
theorem sendReply_replies (s : State) (h l : Nat) (p : Reply) :
    (channelOf (sendReply s (.mailbox h l) p) (.mailbox h l)).replies = (channelOf s (.mailbox h l)).replies ++ p.bytes :=
  (congrArg (fun t => (channelOf t (.mailbox h l)).replies) (sendReply_mailbox s h l p)).trans
    (congrArg Channel.replies (channelOf_setChannel_same (f := fun c => { c with replies := c.replies ++ p.bytes }) (fun _ => rfl) _))

theorem sendReply_channelOf_other (s : State) {ch c : Chan} (p : Reply) (other : c ≠ ch) : channelOf (sendReply s ch p) c = channelOf s c := by
  cases ch with
  | mailbox h l =>
    rw [sendReply_mailbox]
    exact channelOf_setChannel_other (f := fun c => { c with replies := c.replies ++ p.bytes }) (fun _ => rfl) _ other
  | smbus _ _ | vdm _ _ | udp _ _ => rfl

/-- Settles O3: the reply is one packet, sent from the state in which its request is settled. -/
theorem replyEchoesItsPacket : Obligations.ReplyEchoesItsPacket := by
  intro s r op st detail params fits p t
  have ht : t = sendReply (settle s r) r.ch p := reply_eq_sendReply s r op st detail fits
  refine ⟨?_, reply_frame, ?_, fun h l mailbox => ?_, fun c other => ?_⟩
  · rw [ht]
    exact sendReply_out (settle s r) r.ch p
  · rw [ht]
    exact sendReply_cmd (settle s r) r.ch p
  · rw [ht, mailbox]
    exact sendReply_replies (settle s r) h l p
  · rw [ht]
    exact sendReply_channelOf_other (settle s r) p other

/-! ### SESSION_OPEN (R288, R295, R305) -/

theorem findFrom_spec {p : Nat → Bool} {fuel i k : Nat} (low : i ≤ k) (high : k < i + fuel) (hk : p k = true) :
    ∃ n, findFrom p fuel i = some n ∧ i ≤ n ∧ n < i + fuel ∧ p n = true := by
  induction fuel generalizing i with
  | zero => omega
  | succ fuel ih =>
    by_cases hi : p i = true
    · exact ⟨i, by simp [findFrom, hi], le_rfl, by omega, hi⟩
    · have later : i ≠ k := fun e => hi (e ▸ hk)
      obtain ⟨n, found, a, b, hn⟩ := ih (i := i + 1) (by omega) (by omega)
      exact ⟨n, by simpa [findFrom, hi] using found, by omega, by omega, hn⟩

/-- Fewer than 64 sessions leave one of the numbers 1 to 65 free. -/
theorem exists_free_number {s : State} (room : s.cmd.sessions.length < 64) : ∃ k, 1 ≤ k ∧ k < 1 + 65 ∧ sessionNum s k = none := by
  by_contra taken
  have all : List.range' 1 65 ⊆ s.cmd.sessions.map (·.num) := by
    intro k hk
    obtain ⟨low, high⟩ := List.mem_range'_1.mp hk
    obtain ⟨x, hx⟩ := Option.ne_none_iff_exists'.mp fun free => taken ⟨k, low, high, free⟩
    exact List.mem_map.mpr ⟨x, List.mem_of_find?_eq_some hx, by simpa using List.find?_some hx⟩
  have count := ((List.nodup_range' (s := 1) (n := 65)).subperm all).length_le
  simp only [List.length_range', List.length_map] at count
  omega

/-- R288: with fewer than 64 sessions open, the number that a new one takes lies in 1 to 65 and is free. -/
theorem freeSession_spec {s : State} (room : s.cmd.sessions.length < 64) :
    1 ≤ freeSession s ∧ freeSession s ≤ 65 ∧ sessionNum s (freeSession s) = none := by
  obtain ⟨k, low, high, free⟩ := exists_free_number room
  obtain ⟨n, found, a, b, hn⟩ := findFrom_spec (p := fun n => (sessionNum s n).isNone) low high (by simp [free])
  have number : freeSession s = n := by simp [freeSession, found]
  rw [number]
  exact ⟨a, by omega, by simpa using hn⟩

@[simp] theorem takeArrived_freeSession (s : State) (r : Req) (op : U16) : freeSession (takeArrived s r op) = freeSession s := by
  simp [freeSession]
@[simp] theorem takeArrived_openChecks (s : State) (r : Req) (op : U16) (ch : Chan) (kind head ld : U8) (tok : Bool) :
    openChecks (takeArrived s r op) ch kind head ld tok = openChecks s ch kind head ld tok := by
  obtain ⟨l, n, h⟩ := takeArrived_eq s r op; rw [h]; rfl

/-- A request that no session of its channel keeps outstanding leaves the sessions as they are when it is settled. -/
theorem settle_sessions {s : State} {r : Req} (h : ∀ x ∈ s.cmd.sessions, x.ch = r.ch → x.outstanding = []) :
    (settle s r).cmd.sessions = s.cmd.sessions := by
  refine (List.map_congr_left fun x hx => ?_).trans (List.map_id _)
  by_cases mine : x.ch = r.ch
  · have nothing : x.outstanding.erase r.tag = x.outstanding := by simp [h x hx mine]
    rw [if_pos mine, nothing]
    rfl
  · exact if_neg mine

section
variable {s : State} {ch : Chan} {kind head ld : U8} {tok : Bool} (pass : (openChecks s ch kind head ld tok).all (fun c => !c.1) = true)
include pass

/-- R288: fewer than 64 sessions are open, and none of them on the channel. -/
theorem openChecks_room : s.cmd.sessions.length < 64 ∧ ∀ x ∈ s.cmd.sessions, x.ch ≠ ch := by
  simp [openChecks, sessionOn] at pass
  obtain ⟨room, alone, -⟩ := pass
  exact ⟨room, alone⟩

theorem openChecks_none : firstOf (openChecks s ch kind head ld tok) = none :=
  firstOf_eq_none (by simpa using pass)
end

/-- R305: what SESSION_OPEN leaves when nothing refuses it: the session, its reply, and the next challenge after a diagnostic open. -/
theorem execSessionOpen_opens {s : State} {r : Req} {kind head ld : U8} {tok : Bool} (hr : Reaches s r 0x0002 .anyone .notCouch = true)
    (serves : s.cmd.ready ≠ .recovery) (fields : openReserved kind head ld = none)
    (pass : (openChecks s r.ch kind head ld tok).all (fun c => !c.1) = true) :
    execSessionOpen r kind head ld tok s = .next
      ((ok (openSession (takeArrived s r 0x0002) r.ch kind head ld) r 0x0002
        (le 2 (freeSession s) ++ le 1 (if kind = 1 then 1 else 0) ++ [0])).onCmd fun c =>
          { c with challenges := c.challenges + if kind = 2 then 1 else 0 }) := by
  have quiet : ¬ firstOf (openChecks s r.ch kind head ld tok) = some (.notOwner, 4) := by simp [openChecks_none pass]
  rw [execSessionOpen, fields, command_reaches hr, if_neg (by simp [serves])]
  dsimp only
  rw [takeArrived_openChecks, if_neg quiet, checked_none (openChecks_none pass), takeArrived_freeSession]
  split <;> rfl

/-- Settles O4: the reply of the packet leaves the session that was opened, for its channel held none. -/
theorem sessionOpenOpensASession : Obligations.SessionOpenOpensASession := by
  intro s r kind head ld tok hr serves fields pass
  let opened := openSession (takeArrived s r 0x0002) r.ch kind head ld
  let params := le 2 (freeSession s) ++ le 1 (if kind = 1 then 1 else 0) ++ [0]
  obtain ⟨room, noneOn⟩ := openChecks_room pass
  obtain ⟨low, high, free⟩ := freeSession_spec room
  have sent := reply_eq_sendReply opened r 0x0002 .ok 0 (params := params) (by simp [params, le])
  have cmd := sendReply_cmd (settle opened r) r.ch
    { opcode := 0x0002, tag := r.tag, more := decide (Status.ok = .accepted), urgent := r.urgent, status := .ok, detail := 0, params := params }
  rw [← sent] at cmd
  have alone : ∀ x ∈ opened.cmd.sessions, x.ch = r.ch → x.outstanding = [] := by
    simp only [opened, openSession, setChannel, State.onCmd, takeArrived_cmd_sessions, List.forall_mem_append, List.forall_mem_singleton]
    exact ⟨fun x hx mine => absurd mine (noneOn x hx), fun _ => trivial⟩
  refine ⟨_, freeSession s, execSessionOpen_opens hr serves fields pass, low, high, free, ?_, ?_, ?_, ?_, ?_⟩
  · refine ((congrArg Cmd.sessions cmd).trans (settle_sessions alone)).trans ?_
    simp [opened, openSession, setChannel]
  · refine (congrArg Cmd.owner cmd).trans ?_
    simp [opened, openSession, setChannel, settle]
  · refine congrArg (· + if kind = 2 then 1 else 0) ((congrArg Cmd.challenges cmd).trans ?_)
    simp [opened, openSession, setChannel, settle]
  · exact ⟨_, (congrArg State.out sent).trans (sendReply_out ..), rfl, rfl, rfl⟩
  · have before : SameBut [.out, .cmd] s opened := sameBut_outCmd rfl
    have replied : SameBut [.out, .cmd] s (ok opened r 0x0002 params) := before.trans ok_frame
    exact (replied.trans (sameBut_outCmd rfl)).mono (by decide)

/-! ### SESSION_CLOSE and RESET of scope SESSION (R37, R289, R290, R305) -/

/-- Settles O5: nothing refuses the packet, and what is left of its command is the end that the statement names. -/
theorem sessionCloseAndSessionResetEndTheSession : Obligations.SessionCloseAndSessionResetEndTheSession := by
  intro s r n
  refine ⟨fun hr => ?_, fun hr named defined owner stands other => ?_, fun hr idle stands => ?_, fun hr idle named owner stands => ?_⟩
  · show Host.Outcome.next (command _ _ _ _ _ _ _) = _
    rw [if_neg (by decide), command_reaches hr]
    rfl
  · have nonzero : n.toNat ≠ 0 := fun h => named (BitVec.eq_of_toNat_eq h)
    have open_ : (sessionNum s n.toNat).isNone = false := by simpa [Option.isSome_iff_ne_none] using stands
    show Host.Outcome.next (command _ _ _ _ _ _ _) = _
    rw [if_neg defined, command_reaches hr]
    dsimp only
    rw [checked_pass (by simp [owner, open_, other]), if_neg (by simp [nonzero])]
  · show Host.Outcome.next (command _ _ _ _ _ _ _) = _
    rw [command_reaches hr, if_pos rfl]
    dsimp only
    rw [checked_pass (by simp [stands, resetBusy, idle])]
  · show Host.Outcome.next (command _ _ _ _ _ _ _) = _
    rw [command_reaches hr, if_neg named]
    dsimp only
    rw [checked_pass (by simp [stands, owner, resetBusy, idle])]

end Sys2Proof.Machine
end

section
/-! PROOFS. PARAM_WRITE (R287, R298, R300, R306, R307, R326, R328): what its packet passes, its chain, and the image put in force. -/

namespace Sys2Proof.Machine

/-! ### The elements of a chain (R287, R298, R307) -/

theorem columnAllows_of_reaches {s : State} {r : Req} {op : U16} {who : Issuer} {col : Column} (h : Reaches s r op who col = true) :
    columnAllows s col = true := by
  simp only [Reaches, Bool.and_eq_true] at h
  exact h.1.2

/-- A PARAM_WRITE that nothing refuses before its entry is an element of its session. -/
theorem execParamWrite_element {s : State} {r : Req} {table : U8} (hr : Reaches s r 0x0101 .owner .fromLift = true)
    (fields : tableReserved table = none) (more : Bool) (bytes : List Byte) :
    execParamWrite r more table bytes s = .next (writeElement (takeArrived s r 0x0101) r (issuer s r) more table.toNat bytes) := by
  rw [execParamWrite, if_neg (by simp [fields, columnAllows_of_reaches hr]), fields, command_reaches hr]

section
variable {s : State} {r : Req} {x : Session} {id : Nat} (writable : s.cmd.sealSt ≠ .sealed ∨ writableSealed id = true)
include writable

theorem writable_passes : ¬ (s.cmd.sealSt = .sealed && !writableSealed id) = true := by
  rcases writable with h | h <;> simp [h]

theorem writeElement_first (alone : x.chain = none) (more : Bool) (bytes : List Byte) :
    writeElement s r x more id bytes = writeElement.step_ r x more id s bytes := by
  rw [writeElement, if_neg (writable_passes writable), alone]

theorem writeElement_next {old : List Byte} (follows : x.chain = some { tag := r.tag, table := id, bytes := old }) (more : Bool)
    (bytes : List Byte) : writeElement s r x more id bytes = writeElement.step_ r x more id (setChain s x none) (old ++ bytes) := by
  rw [writeElement, if_neg (writable_passes writable), follows]
  simp
end

section
variable {s : State} {r : Req} {x : Session} {id : Nat} {image : List Byte} (fits : image.length ≤ 1048576)
include fits

theorem step_more : writeElement.step_ r x true id s image =
    replyMore (setChain s x (some { tag := r.tag, table := id, bytes := image })) r 0x0101 := by
  rw [writeElement.step_, if_neg (by omega), if_pos rfl]

/-- R326, R346: the last element puts the image in force where no check refuses it. -/
theorem step_last (content : contentRefusal s image id = none) (hold : id = 12 → s.cmd.sealSt = .sealed → railsBeyondHold s image = false)
    (drains : modeChangeDrains s image id = false) (free : tableBusy s image id = none) :
    writeElement.step_ r x false id s image = applyTable s r x id image := by
  have rails : ¬ (id = 12 && s.cmd.sealSt = .sealed && railsBeyondHold s image) = true := by
    simpa using hold
  rw [writeElement.step_, if_neg (by omega), if_neg (by decide), writeTable, if_neg rails, content]
  simp only [drains, free]
  rfl
end

/-! ### The image in force (R121, R328) -/

/-- The image stands in its table. -/
def storeImage (s : State) (id : Nat) (image : List Byte) : State :=
  s.onCmd fun c => { c with tables := c.tables.set (id - 1) (some image) }

section
variable {s : State} {r : Req} {x : Session} {id : Nat} {image : List Byte}

theorem applyTable_same (same : tableImage s id = image) : applyTable s r x id image = ok (storeImage s id image) r 0x0101 [] :=
  if_pos same

variable (differs : tableImage s id ≠ image)
include differs

theorem applyTable_plain (plain : id = 6 ∨ id = 13) : applyTable s r x id image = ok (storeImage s id image) r 0x0101 [] := by
  rcases plain with rfl | rfl <;> exact if_neg differs

theorem applyTable_answersFirst (early : id = 1 ∨ id = 2 ∨ id = 12) :
    applyTable s r x id image = tableEffect s (ok (storeImage s id image) r 0x0101 []) image id := by
  rcases early with rfl | rfl | rfl <;> exact if_neg differs

theorem applyTable_answersLast (late : id = 3 ∨ id = 4 ∨ 7 ≤ id ∧ id ≤ 11 ∨ 14 ≤ id) :
    applyTable s r x id image = ok (tableEffect s (storeImage s id image) image id) r 0x0101 [] := by
  rw [applyTable]
  dsimp only
  rw [if_neg differs, if_neg (by omega), if_neg (by simp; omega)]
  rfl

/-- R121: a stricter Curd mode is answered when its drain ends. -/
theorem applyTable_mode (tiering : id = 5) :
    applyTable s r x id image =
      let t := tableEffect s (storeImage s 5 image) image 5
      if t.curd.draining.isSome ∧ s.curd.draining = none ∧ t.curd.drainReq = none then
        (defer t x r).onCurd fun c => { c with drainReq := some (r, 0x0101, x.num) }
      else ok t r 0x0101 [] := by
  subst tiering
  exact ((if_neg differs).trans (if_pos rfl)).trans (if_congr (by simp [storeImage, and_assoc]) rfl rfl)
end

/-- Settles O8: an element that more follow opens or continues its chain; the last one, alone or at the end of a chain, reaches the same
application of the whole image. -/
theorem paramWriteChainsAndApplies : Obligations.ParamWriteChainsAndApplies := by
  intro s r table bytes hr fields writable x T id
  have writable' : T.cmd.sealSt ≠ .sealed ∨ writableSealed id = true := by simpa [T] using writable
  have element := fun more => execParamWrite_element hr fields more bytes
  refine ⟨fun alone fits => ?_, fun old follows fits => ?_, fun whole base last fits content hold drains free => ?_⟩
  · exact (element true).trans (congrArg Host.Outcome.next ((writeElement_first writable' alone ..).trans (step_more fits)))
  · exact (element true).trans (congrArg Host.Outcome.next ((writeElement_next writable' follows ..).trans (step_more fits)))
  have sealed_ : base.cmd.sealSt = s.cmd.sealSt := by
    rcases last with ⟨_, _, rfl⟩ | ⟨_, _, _, rfl⟩ <;> simp [T, setChain, setSession]
  have applies : execParamWrite r false table bytes s = .next (applyTable base r x id whole) := by
    rw [element false, ← step_last fits content (fun h k => hold h (sealed_ ▸ k)) drains free]
    rcases last with ⟨alone, rfl, rfl⟩ | ⟨old, follows, rfl, rfl⟩
    · exact congrArg Host.Outcome.next (writeElement_first writable' alone ..)
    · exact congrArg Host.Outcome.next (writeElement_next writable' follows ..)
  refine ⟨fun quiet => applies.trans (congrArg Host.Outcome.next ?_), fun differs early => ?_, fun differs late => ?_, fun differs tiering => ?_⟩
  · by_cases same : tableImage base id = whole
    · exact applyTable_same same
    · exact applyTable_plain same (quiet.resolve_left same)
  · exact applies.trans (congrArg Host.Outcome.next (applyTable_answersFirst differs early))
  · exact applies.trans (congrArg Host.Outcome.next (applyTable_answersLast differs late))
  · exact applies.trans (congrArg Host.Outcome.next (by rw [applyTable_mode differs tiering, tiering]; rfl))

end Sys2Proof.Machine
end

section
/-! PROOFS. The transports: diagnostic opcodes, mailbox commands, MCTP messages, Ethernet frames, timeouts, progress reports and the TAP
(R277, R279 to R287, R290, R293, R295, R302, R468). -/

namespace Sys2Proof.Machine

/-! ### The diagnostic groups (R277, R302) -/

/-- R295: a refusal whose status has no counter is its reply alone. -/
theorem reject_uncounted {st : Status} (uncounted : counterIndex st = none) (s : State) (r : Req) (op : U16) (detail : Nat) :
    reject s r op st detail = sendReply s r.ch
      { opcode := op, tag := r.tag, more := false, urgent := r.urgent, status := st, detail := detail, params := [] } := by
  simp only [reject, countFailure, uncounted, sendParts]

theorem unlocked_eq_false {s : State} {ch : Chan} (h : ∀ x, sessionOn s ch = some x → x.kind ≠ .diagnostic) : unlocked s ch = false := by
  cases hx : sessionOn s ch with
  | none => simp [unlocked, hx]
  | some x => simp [unlocked, hx, h x hx]

/-- Settles O20: the channel's session decides between the reply and the refusal by name. -/
theorem diagnosticOpcodesAreLockedOrNotDescribed : Obligations.DiagnosticOpcodesAreLockedOrNotDescribed := by
  intro s r op ready room recovery
  have heard : ¬ (readyCode s = 0 || replyQueueFull s r.ch || !recoveryChannel s r.ch) = true := by simp [ready, room, recovery]
  refine ⟨fun locked => ?_, fun x session diagnostic => ?_⟩
  · show execDiagnosticOpcode r op s = _
    rw [execDiagnosticOpcode, if_neg heard, if_neg (by simp [unlocked_eq_false locked]), reject_uncounted rfl]
  · show execDiagnosticOpcode r op s = _
    rw [execDiagnosticOpcode, if_neg heard, if_pos (by simp [unlocked, session, diagnostic])]

/-! ### The mailbox (R279, R280, R283) -/

/-- Settles O21: on an identity that is up each command does its own part. -/
theorem mailboxCommandsCarryTheStream : Obligations.MailboxCommandsCarryTheStream := by
  intro s h l p n ch up answering
  have heard : ¬ (!identityUp s h l || !answers s (.mailbox h l)) = true := by simpa [up] using answering
  refine ⟨fun fits => ?_, fun full => ?_, ?_⟩
  · exact (if_neg heard).trans (if_neg (Nat.not_lt.mpr fits))
  · exact (if_neg heard).trans (if_pos full)
  · exact if_neg heard

/-! ### A whole packet (R277, R284, R291) -/

/-- A NOP packet with host tag 7. -/
def nopPacket : List Byte := packetBytes 0 0x0004 7 []

/-- READY.SERVICE with the link of head 0 up; the session of LD 0 keeps a request with host tag 7 outstanding. -/
def tagBusy : State :=
  (State.reset.onCmd fun c => { c with ready := .service, sessions := [{ noSession (.mailbox 0 0) with num := 1, outstanding := [7] }] }).onCxl
    fun c => { c with linkUp := [0] }

/-- The arrival numbers that a command leaves given. -/
def arrivalsAfter : Res State → Option Nat
  | .next t => some t.cmd.arrivals
  | _ => none

/-- Refutes O22: the packet passes steps 1 to 7, but its host tag is that of an outstanding request of its session, so that it is answered
CONFLICT and does not arrive (R277). -/
theorem not_aWholePacketArrives : ¬ Obligations.AWholePacketArrives := by
  intro h
  obtain ⟨t, taken, _, counted, _⟩ := h tagBusy 0 0 nopPacket (by decide +kernel) (by decide +kernel) (by decide +kernel) (by decide +kernel)
    (by decide +kernel) (by decide +kernel) (by decide +kernel) (by decide +kernel) (by decide +kernel) (by decide +kernel) (by decide +kernel)
    (by decide +kernel) (by decide +kernel) (by decide +kernel) (by decide +kernel)
  have stays : arrivalsAfter (exec (.kolnyxWrite 0 0 nopPacket) tagBusy) = some tagBusy.cmd.arrivals := by decide +kernel
  rw [taken] at stays
  have same : t.cmd.arrivals = tagBusy.cmd.arrivals := Option.some.inj stays
  omega

/-! ### MCTP (R281) -/

/-- A message of type 0x7F without an integrity check: its enterprise number and its segment. -/
theorem execMctpMessage_vendor {s : State} {b : Bus} {e : Nat} (on : busAnswers s b e = true) {n : List Byte} (four : n.length = 4)
    (seg : List Byte) : execMctpMessage b e (0x7F :: n ++ seg) s =
      if n ≠ [0x00, 0x00, 0xD3, 0xA1] ∨ 4096 < seg.length then
        .next (discardSegment (s.onCmd fun c => { c with mctpDiscards := c.mctpDiscards + 1 }) (busChan b e)
          (if n = [0x00, 0x00, 0xD3, 0xA1] then seg.length else 0))
      else .next (receive s (busChan b e) seg) := by
  have type : field (0x7F :: n ++ seg) 0 1 = 0x7F := by simp [field, ofLe]
  have number : ((0x7F :: n ++ seg).drop 1).take 4 = n := by simp [four]
  have rest : (0x7F :: n ++ seg).drop 5 = seg := by simp [four]
  have heard : ¬ (!busAnswers s b e) = true := by simp [on]
  rw [execMctpMessage, type, number, if_neg heard, if_neg (show ¬ 128 ≤ 0x7F by decide), rest]
  by_cases bad : n ≠ [0x00, 0x00, 0xD3, 0xA1] ∨ 4096 < seg.length
  · rw [if_pos (by simpa using bad), if_pos bad]
    simp
  · rw [if_neg (by simpa using bad), if_neg bad]

theorem mctpReply_next {s : State} {b : Bus} {e : Nat} (on : busAnswers s b e = true) (completion : Nat) (data : List Byte) :
    mctpReply s b e completion data = .next (s.emit (.mctp b e completion data)) :=
  congrArg Host.Outcome.next (if_pos on)

/-- Endpoint IDs do not decide what answers. -/
theorem busAnswers_eids (s : State) (l : List (Bus × U8)) (b : Bus) (e : Nat) :
    busAnswers (s.onCmd fun c => { c with eids := l }) b e = busAnswers s b e := by
  cases b <;> rfl

/-- Settles O23: on a binding or an Ethernet that answers, each message is judged by its own fields alone. -/
theorem mctpAndEthernetMessagesAreTakenDiscardedOrAnswered : Obligations.MctpAndEthernetMessagesAreTakenDiscardedOrAnswered := by
  refine ⟨fun s b e on => ?_, fun s ip port p on => ?_⟩
  · have heard : ¬ (!busAnswers s b e) = true := by simp [on]
    refine ⟨fun seg fits => ?_, fun n seg four bad => ?_, fun id => ⟨fun nonzero valid => ?_, fun invalid => ?_⟩, mctpReply_next on 0 _,
      fun t known => ?_, mctpReply_next on 0 _, mctpReply_next on 0 _, fun c => mctpReply_next on 5 _⟩
    · exact (execMctpMessage_vendor on (n := [0x00, 0x00, 0xD3, 0xA1]) rfl seg).trans (if_neg (by simpa using fits))
    · exact (execMctpMessage_vendor on four seg).trans (if_pos bad)
    · exact (if_neg heard).trans ((if_neg (by simpa using And.intro nonzero valid)).trans (mctpReply_next ((busAnswers_eids s _ b e).trans on) 0 _))
    · exact (if_neg heard).trans ((if_pos (by simpa using invalid)).trans (mctpReply_next on 2 _))
    · refine (if_pos ?_).trans (mctpReply_next on 0 _)
      rcases known with rfl | rfl | rfl <;> rfl
  · have heard : ¬ (!ethernetAnswers s) = true := by simp [on]
    refine ⟨fun fits => ?_, fun good => ?_, ?_, fun mac => ?_, fun id seq => ?_⟩
    · exact (if_neg heard).trans ((if_neg (by decide)).trans (if_neg (by simpa using fits)))
    · exact (if_neg heard).trans (if_pos rfl)
    · exact (if_neg heard).trans ((if_neg (by decide)).trans (if_pos (by simp)))
    · exact congrArg Host.Outcome.next (if_pos (by simp [on]))
    · exact congrArg Host.Outcome.next (if_pos on)

/-! ### Timeouts, progress reports and the TAP (R285, R287, R290, R293, R468) -/

theorem chainTimesOut_eq {s t : State} {ch : Chan}
    (h : sessionOn s ch = none ∧ t = s ∨ ∃ x, sessionOn s ch = some x ∧ t = setChain s x none) : chainTimesOut s ch = t := by
  rcases h with ⟨none_, rfl⟩ | ⟨x, some_, rfl⟩
  · simp only [chainTimesOut, none_]
  · simp only [chainTimesOut, some_]

/-- Settles O24: the chain ends first, and what stands in the stream decides the rest of a reassembly timeout. -/
theorem timeoutsOfChannelsAndSessions : Obligations.TimeoutsOfChannelsAndSessions := by
  intro s
  refine ⟨fun ch t answering waits room chain => ?_, fun n x session remote => ?_, rfl, fun o ch channel room => ?_, fun j => ?_⟩
  · have stream : ¬ ((channelOf s ch).rx.isEmpty || replyQueueFull t ch) = true := by simp [waits, room]
    show execReassemblyTimeout ch s = _
    rw [execReassemblyTimeout, if_neg (by simp [answering]), chainTimesOut_eq chain]
    dsimp only
    rw [if_neg stream]
    split
    · rfl
    · split <;> rfl
  · show execSessionIdleTimeout n s = _
    simp only [execSessionIdleTimeout, session]
    cases name : x.ch with
    | mailbox h l => exact absurd name (remote h l)
    | smbus _ _ | vdm _ _ | udp _ _ => rfl
  · rw [reportProgress, channel]
    exact if_neg (by simp [room])
  · have acts : jtagActs s = decide (s.cmd.ready = .below ∨ s.cmd.ready = .maintenance ∨ s.cmd.ready = .recovery) := by
      simp [jtagActs, Bool.or_assoc]
    show execJtagInstruction j s = _
    cases j with
    | extest | highz | clamp => simp [execJtagInstruction, acts]
    | bypass | idcode | samplePreload => rfl

end Sys2Proof.Machine
end

section
/-! PROOFS. The ready-state table (R300, R329, R431): which column a state falls in, and what a packet outside its opcode's columns meets. -/

namespace Sys2Proof.Machine

/-! ### The columns of the table (R300, R431) -/

/-- R300, R304: the code that GET_READY_STATE gives in each column. -/
theorem readyCode_of_stage {s : State} {g : Stage} (h : stageOf s = some g) :
    g = .couch ∧ readyCode s = 5 ∨ g = .core ∧ (readyCode s = 1 ∨ readyCode s = 4) ∨ g = .lift ∧ readyCode s = 2 ∨ g = .svc ∧ readyCode s = 3 := by
  unfold stageOf at h
  unfold readyCode
  by_cases committed : s.couch.orch = .committed
  · rw [if_pos committed] at h
    cases h
    simp [committed]
  · rw [if_neg committed] at h ⊢
    cases ready : s.cmd.ready <;> rw [ready] at h <;> cases h <;> simp

/-- R300: a row of the table, with the seal that CONFIG_UNSEAL needs beside its column. -/
theorem columnAllows_iff {s : State} {g : Stage} (h : stageOf s = some g) (c : Column) :
    columnAllows s c = true ↔ g ∈ acceptedIn c ∧ (c = .sealedOnly → s.cmd.sealSt = .sealed) := by
  rcases readyCode_of_stage h with ⟨rfl, code⟩ | ⟨rfl, code | code⟩ | ⟨rfl, code⟩ | ⟨rfl, code⟩ <;>
    cases c <;> simp [columnAllows, acceptedIn, code]

/-! ### The packet check around the ready state (R284, R298) -/

/-- A packet that the ready state alone stops is rejected with the ready-state code. -/
theorem command_notReady {s : State} {o : Opcode} (admitted : Admitted s o = true) (unmarked : columnAllows s o.col = false)
    (body : State → Session → State) :
    command s o.req o.op o.step7 o.who o.col body = reject (takeArrived s o.req o.op) o.req o.op .notReady (readyCode s) := by
  unfold Admitted at admitted
  simp only [Bool.and_eq_true, decide_eq_true_eq, Bool.not_eq_true', Option.isNone_iff_eq_none] at admitted
  obtain ⟨⟨⟨⟨⟨ready, room⟩, recovery⟩, turn⟩, fields⟩, session⟩ := admitted
  unfold command
  simp only [ready, room, recovery, turn, fields, takeArrived_sessionOn]
  cases on : sessionOn s o.req.ch with
  | none =>
    simp only [on, decide_eq_true_eq] at session
    simp [session, unmarked]
  | some x =>
    simp only [on, Bool.and_eq_true, Bool.or_eq_true, decide_eq_true_eq, Bool.not_eq_true'] at session
    obtain ⟨⟨tag, few⟩, authority⟩ := session
    rcases authority with h | h <;> simp [tag, Nat.not_le.mpr few, h, unmarked]

theorem reaches_of_admitted {s : State} {o : Opcode} (admitted : Admitted s o = true) (serves : s.cmd.ready ≠ .recovery)
    (marked : columnAllows s o.col = true) : Reaches s o.req o.op o.who o.col = true := by
  unfold Admitted at admitted
  unfold Reaches
  simp only [Bool.and_eq_true] at admitted ⊢
  obtain ⟨⟨heard, -⟩, session⟩ := admitted
  exact ⟨⟨⟨heard, by simp [recoveryAccepts, serves]⟩, marked⟩, session⟩

/-! ### What a PARAM_WRITE that is stopped does before (R287) -/

theorem sessionOn_setChain {s : State} {ch : Chan} {x : Session} (h : sessionOn s ch = some x) (c : Option Chain) :
    sessionOn (setChain s x c) ch = some { x with chain := c } := by
  have names : ((fun y : Session => decide (y.ch = ch)) ∘ fun y => if y.num = x.num then { y with chain := c } else y) =
      fun y => decide (y.ch = ch) := by
    funext y
    by_cases h : y.num = x.num <;> simp [h]
  show List.find? _ (List.map _ s.cmd.sessions) = _
  rw [List.find?_map, names]
  exact (congrArg (Option.map _) h).trans (by simp)

/-- An element whose packet is stopped discards its chain, and nothing else. -/
theorem dropChain_cases (s : State) (r : Req) :
    dropChain s r = s ∨ ∃ x, sessionOn s r.ch = some x ∧ dropChain s r = setChain s x none := by
  unfold dropChain
  cases h : sessionOn s r.ch with
  | none => exact .inl rfl
  | some x =>
    dsimp only
    split
    · exact .inr ⟨x, rfl, rfl⟩
    · exact .inl rfl

theorem dropChain_frame {s : State} {r : Req} : SameBut [.out, .cmd] s (dropChain s r) := by
  rcases dropChain_cases s r with h | ⟨x, -, h⟩ <;> rw [h]
  · exact SameBut.refl
  · exact sameBut_outCmd rfl

theorem dropChain_out (s : State) (r : Req) : (dropChain s r).out = s.out := by
  rcases dropChain_cases s r with h | ⟨x, -, h⟩ <;> rw [h]
  rfl

theorem dropChain_columnAllows (s : State) (r : Req) (c : Column) : columnAllows (dropChain s r) c = columnAllows s c := by
  rcases dropChain_cases s r with h | ⟨x, -, h⟩ <;> rw [h]
  rfl

theorem dropChain_readyCode (s : State) (r : Req) : readyCode (dropChain s r) = readyCode s := by
  rcases dropChain_cases s r with h | ⟨x, -, h⟩ <;> rw [h]
  rfl

theorem dropChain_admitted (s : State) (o : Opcode) : Admitted (dropChain s o.req) o = Admitted s o := by
  rcases dropChain_cases s o.req with h | ⟨x, on, h⟩ <;> rw [h]
  unfold Admitted
  rw [sessionOn_setChain on, on]
  rfl

/-- Every opcode's command is the packet check before its own part; PARAM_WRITE alone may drop its chain first. -/
theorem exec_eq_command {i : Instr} {o : Opcode} (h : opcodeOf i = some o) (s : State) :
    ∃ t body, exec i s = .next (command t o.req o.op o.step7 o.who o.col body) ∧ (t = s ∨ t = dropChain s o.req) := by
  cases i
  case twinRoleHandover r region flags | twinRoleForce r region flags =>
    cases h
    exact ⟨s, _, congrArg Host.Outcome.next (by rw [twinRole]), .inl rfl⟩
  case paramWrite r more table bytes =>
    cases h
    refine ⟨if _ then dropChain s r else s, _, rfl, ?_⟩
    split
    · exact .inr rfl
    · exact .inl rfl
  all_goals cases h <;> exact ⟨s, _, rfl, .inl rfl⟩

/-- R300: an opcode that no earlier step stops is refused in a column that is not marked for it. -/
theorem exec_notReady {i : Instr} {o : Opcode} {s : State} (opcode : opcodeOf i = some o) (admitted : Admitted s o = true)
    (unmarked : columnAllows s o.col = false) :
    ∃ t, exec i s = .next t ∧ SameBut [.out, .cmd] s t ∧ t.out = s.out ++ replyOut o.req.ch
      { opcode := o.op, tag := o.req.tag, more := false, urgent := o.req.urgent, status := .notReady, detail := readyCode s, params := [] } := by
  obtain ⟨t, body, runs, ht⟩ := exec_eq_command opcode s
  have before : SameBut [.out, .cmd] s t ∧ t.out = s.out ∧ Admitted t o = true ∧ columnAllows t o.col = false ∧ readyCode t = readyCode s := by
    rcases ht with rfl | rfl
    · exact ⟨SameBut.refl, rfl, admitted, unmarked, rfl⟩
    · exact ⟨dropChain_frame, dropChain_out .., (dropChain_admitted ..).trans admitted, (dropChain_columnAllows ..).trans unmarked, dropChain_readyCode ..⟩
  obtain ⟨frame, out, admitted', unmarked', code⟩ := before
  rw [command_notReady admitted' unmarked', code] at runs
  exact ⟨_, runs, frame.trans (takeArrived_frame.trans reject_frame), by rw [reject_out, takeArrived_out, out]⟩

/-! ### PARAM_WRITE while sealed (R298, R329) -/

theorem writableSealed_iff (id : Nat) : writableSealed id = true ↔ id ∈ [3, 4, 5, 6, 7, 8, 9, 10, 11, 12, 14, 15] := by
  simp only [writableSealed, Bool.or_eq_true, Bool.and_eq_true, decide_eq_true_eq, List.mem_cons, List.not_mem_nil, or_false]
  omega

/-- Settles O57: the ready-state code of a state's column decides the packet's last check, and the seal decides an element's first. -/
theorem opcodesAreRefusedOutsideTheirReadyStates : Obligations.OpcodesAreRefusedOutsideTheirReadyStates := by
  refine ⟨fun i o s opcode admitted => ⟨fun ⟨g, column, unmarked⟩ => exec_notReady opcode admitted ?_,
    fun g column marked sealed_ serves => reaches_of_admitted admitted serves ((columnAllows_iff column o.col).mpr ⟨marked, sealed_⟩)⟩,
    fun r more table bytes s hr fields alone sealed_ => ⟨fun frozen => ?_, fun writable last fits => ?_⟩⟩
  · rw [Bool.eq_false_iff, Ne, columnAllows_iff column]
    rintro ⟨marked, sealed_⟩
    rcases unmarked with h | ⟨h, k⟩
    · exact h marked
    · exact k (sealed_ h)
  · have refused : (decide ((takeArrived s r 0x0101).cmd.sealSt = .sealed) && !writableSealed table.toNat) = true := by
      simpa [sealed_, Bool.eq_false_iff, writableSealed_iff] using frozen
    refine (execParamWrite_element hr fields more bytes).trans (congrArg Host.Outcome.next ?_)
    rw [writeElement, if_pos refused, alone]
    rfl
  · subst last
    refine (execParamWrite_element hr fields false bytes).trans (congrArg Host.Outcome.next ?_)
    rw [writeElement_first (.inr ((writableSealed_iff _).mpr writable)) alone, writeElement.step_, if_neg (by omega), if_neg (by decide)]

end Sys2Proof.Machine
end

section
/-! PROOFS. IDENTIFY, NOP and GET_READY_STATE (R300, R304, R305), PARAM_READ, CONFIG_SEAL and CONFIG_UNSEAL (R301, R307, R348, R349): the
reply bytes and the checks of the seal read nothing of the arrival queue. -/

namespace Sys2Proof.Machine

/-- A packet that reaches its opcode's own part leaves what that part leaves. -/
theorem next_of_reaches {s t : State} {r : Req} {op : U16} {step7 : Option (Status × Nat)} {who : Issuer} {col : Column}
    {body : State → Session → State} (hr : Reaches s r op who col = true) (fields : step7 = none)
    (runs : body (takeArrived s r op) (issuer s r) = t) : (.next (command s r op step7 who col body) : Res State) = .next t := by
  rw [fields, command_reaches hr, runs]

section
variable (s : State) (r : Req) (op : U16)

@[simp] theorem takeArrived_identifyBytes : identifyBytes (takeArrived s r op) = identifyBytes s := by
  obtain ⟨l, k, h⟩ := takeArrived_eq s r op; rw [h]; rfl
@[simp] theorem takeArrived_nopBytes (x : Session) : nopBytes (takeArrived s r op) x = nopBytes s x := by
  obtain ⟨l, k, h⟩ := takeArrived_eq s r op; rw [h]; rfl
@[simp] theorem takeArrived_readyBytes : readyBytes (takeArrived s r op) = readyBytes s := by
  obtain ⟨l, k, h⟩ := takeArrived_eq s r op; rw [h]; rfl
@[simp] theorem takeArrived_tableImage (id : Nat) : tableImage (takeArrived s r op) id = tableImage s id := by
  obtain ⟨l, k, h⟩ := takeArrived_eq s r op; rw [h]; rfl
@[simp] theorem takeArrived_sealFailure : sealFailure (takeArrived s r op) = sealFailure s := by
  obtain ⟨l, k, h⟩ := takeArrived_eq s r op; rw [h]; rfl
end

/-- Settles O2: the packet reaches its opcode, whose bytes are those of the state before the packet. -/
theorem identityAndStateQueriesReply : Obligations.IdentityAndStateQueriesReply := by
  intro s r
  refine ⟨fun hr => next_of_reaches hr rfl ?_, fun hr => next_of_reaches hr rfl ?_, fun hr => next_of_reaches hr rfl ?_⟩
  · rw [takeArrived_identifyBytes]
  · rw [takeArrived_nopBytes]
  · rw [takeArrived_readyBytes]
    rfl

/-- R348, R349: tables that pass every check are sealed, and the first seal ends the safe profile. -/
theorem execConfigSeal_seals {s : State} {r : Req} (hr : Reaches s r 0x0103 .owner .fromLift = true) (open_ : s.cmd.sealSt ≠ .sealed)
    (whole : sealFailure s = none) (noChain : (s.cmd.sessions.any fun x => x.chain.isSome) = false) :
    execConfigSeal r s = .next
      (let w := (takeArrived s r 0x0103).onCmd fun c => { c with sealSt := .sealed }
       ok (if s.cmd.safe then endSafeProfile w else w) r 0x0103 []) := by
  refine next_of_reaches hr rfl ?_
  rw [if_neg (by simpa using open_), takeArrived_sealFailure, whole]
  dsimp only
  rw [if_neg (by simpa using noChain), takeArrived_cmd_safe]

/-- Settles O7: the packet reaches its opcode, and what seals or unseals stands in the state before it. -/
theorem paramReadAndSealingComplete : Obligations.ParamReadAndSealingComplete := by
  intro s r table
  refine ⟨fun hr fields => next_of_reaches hr fields ?_, execConfigSeal_seals, fun hr => next_of_reaches hr rfl rfl⟩
  rw [takeArrived_cmd_tables, takeArrived_tableImage]

end Sys2Proof.Machine
end

section
/-! PROOFS. Temperatures and exclusions of sensors, rails, the Rind log and the orderly power-down (R227, R320, R369, R373, R374, R409). -/

namespace Sys2Proof.Machine

section
variable (s : State) (r : Req) (op : U16)

@[simp] theorem takeArrived_tjOf : tjOf (takeArrived s r op) = tjOf s := by
  obtain ⟨l, k, h⟩ := takeArrived_eq s r op; rw [h]; rfl
@[simp] theorem takeArrived_sensorEntry (n : Nat) : sensorEntry (takeArrived s r op) n = sensorEntry s n := by
  obtain ⟨l, k, h⟩ := takeArrived_eq s r op; rw [h]; rfl
@[simp] theorem takeArrived_sensorAt (n : Nat) : sensorAt (takeArrived s r op) n = sensorAt s n := rfl
@[simp] theorem takeArrived_exclusionForbidden (n : Nat) : exclusionForbidden (takeArrived s r op) n = exclusionForbidden s n := by
  obtain ⟨l, k, h⟩ := takeArrived_eq s r op; rw [h]; rfl
@[simp] theorem takeArrived_enableWord : enableWord (takeArrived s r op) = enableWord s := rfl
@[simp] theorem takeArrived_tornAmong (start : Nat) (recs : List Rind) :
    tornAmong (takeArrived s r op) start recs = tornAmong s start recs := rfl
end

/-- Settles O15: the packet's ranges pass, and what its reply reports stands in the state before it. -/
theorem thermalRailAndRindCommandsComplete : Obligations.ThermalRailAndRindCommandsComplete := by
  intro s r
  refine ⟨fun first count hr inside fits => next_of_reaches hr rfl ?_,
    fun n hr inside => ⟨fun allowed => next_of_reaches hr rfl (checked_pass ?_), next_of_reaches hr rfl (checked_pass ?_)⟩,
    fun hr => next_of_reaches hr rfl rfl, fun start count hr some_ few => next_of_reaches hr rfl (checked_pass ?_),
    fun hr => next_of_reaches hr rfl rfl⟩
  · dsimp only
    rw [checked_pass (by simp [Nat.not_le.mpr inside, Nat.not_lt.mpr fits]), takeArrived_tjOf]
    simp only [takeArrived_sensorEntry, takeArrived_cave]
  · have free : (!(sensorAt s n.toNat).commanded && exclusionForbidden s n.toNat) = false := by
      rcases allowed with h | h <;> simp [h]
    simpa [Nat.not_le.mpr inside] using free
  · simp [Nat.not_le.mpr inside]
  · simp [Nat.not_lt.mpr few, Nat.ne_of_gt some_]

end Sys2Proof.Machine
end

section
/-! PROOFS. Reading and acknowledging events, the alarm mask, and the trace (R319, R320, R445, R446, R448). -/

namespace Sys2Proof.Machine

section
variable (s : State) (r : Req) (op : U16)

@[simp] theorem takeArrived_traceDefaultKib : traceDefaultKib (takeArrived s r op) = traceDefaultKib s := by
  obtain ⟨l, k, h⟩ := takeArrived_eq s r op; rw [h]; rfl
/-- R320: what a session may see rests on its identity and on who owns the device. -/
@[simp] theorem takeArrived_eventVisible (x : Session) (o : Occurrence) : eventVisible (takeArrived s r op) x o = eventVisible s x o := by
  obtain ⟨l, k, h⟩ := takeArrived_eq s r op; rw [h]; rfl
@[simp] theorem takeArrived_readEvents (x : Session) (severity : Nat) (l : List EventRec) (n next : Nat) (acc : List EventRec) :
    readEvents (takeArrived s r op) x severity l n next acc = readEvents s x severity l n next acc := by
  induction l generalizing n next acc with
  | nil => simp only [readEvents]
  | cons e l ih =>
    cases n with
    | zero => simp only [readEvents]
    | succ n => simp only [readEvents, takeArrived_eventVisible, ih]
end

/-- R319: a trace of every unit, or of a unit that stands, with a buffer that may be taken, where no trace runs. -/
theorem execTraceStart_starts {s : State} {r : Req} {unit : U16} {mask buffer : U32} (hr : Reaches s r 0x0A03 .owner .notCouch = true)
    (named : unit = 0 ∨ ∃ u, unitField unit 18 = .ok u) (unitDefined : traceUnitReserved unit = none) (maskDefined : maskReserved mask = none)
    (size : buffer = 0 ∨ (16 ≤ buffer.toNat ∧ buffer.toNat ≤ 65536)) (idle : (s.cmd.trace.map fun t => t.running).getD false = false) :
    execTraceStart r unit mask buffer s =
      .next (ok (startTrace (takeArrived s r 0x0A03) unit mask (if buffer = 0 then traceDefaultKib s else buffer.toNat)) r 0x0A03 []) := by
  have stands : (match unitField unit 18 with | .error (.range, _) => decide (unit ≠ 0) | _ => false) = false := by
    rcases named with rfl | ⟨u, hu⟩
    · rfl
    · rw [hu]
  have given : buffer.toNat = 0 ↔ buffer = 0 := ⟨fun h => BitVec.eq_of_toNat_eq h, fun h => by rw [h]; rfl⟩
  have fits : (decide (buffer.toNat ≠ 0) && (decide (buffer.toNat < 16) || decide (65536 < buffer.toNat))) = false := by
    rcases size with h | ⟨low, high⟩
    · simp [h]
    · simp [Nat.not_lt.mpr low, Nat.not_lt.mpr high]
  refine next_of_reaches hr (by rw [unitDefined, maskDefined]) ?_
  dsimp only
  rw [checked_pass, takeArrived_traceDefaultKib, if_congr given rfl rfl]
  simp only [List.forall_mem_cons, takeArrived_cmd_trace]
  exact ⟨stands, fits, idle, nofun⟩

/-- Settles O17: nothing refuses the packet, and what it reads of the log or the trace stands in the state before it. -/
theorem eventAndTraceCommandsComplete : Obligations.EventAndTraceCommandsComplete := by
  intro s r x
  refine ⟨fun first count sev hr some_ few severity => next_of_reaches hr rfl ?_, fun upTo hr => next_of_reaches hr rfl rfl,
    fun m hr fatal => next_of_reaches hr rfl (checked_pass ?_),
    fun hr => ⟨fun unit mask buffer => execTraceStart_starts hr, next_of_reaches hr rfl rfl, fun t trace => next_of_reaches hr rfl ?_,
      next_of_reaches hr rfl rfl⟩⟩
  · dsimp only
    rw [checked_pass (by simp [Nat.not_lt.mpr few, Nat.ne_of_gt some_, Nat.not_lt.mpr severity]), takeArrived_readEvents]
    rfl
  · simpa using fatal
  · rw [takeArrived_cmd_trace, trace]

end Sys2Proof.Machine
end

section
/-! PROOFS. Firmware: the download, the verification and its end, the activation, the confirmation and the status (R323, R324, R424 to R426,
R432). -/

namespace Sys2Proof.Machine

section
variable (s : State) (r : Req) (op : U16)

@[simp] theorem takeArrived_downloadSlot : downloadSlot (takeArrived s r op) = downloadSlot s := by
  obtain ⟨l, k, h⟩ := takeArrived_eq s r op; rw [h]; rfl
@[simp] theorem takeArrived_slotOf (b : Bool) : slotOf (takeArrived s r op) b = slotOf s b := rfl
@[simp] theorem takeArrived_imageSizeBad (n : Nat) : imageSizeBad (takeArrived s r op) n = imageSizeBad s n := by
  obtain ⟨l, k, h⟩ := takeArrived_eq s r op; rw [h]; rfl
@[simp] theorem takeArrived_slotPending (b : Bool) : slotPending (takeArrived s r op) b = slotPending s b := rfl
@[simp] theorem takeArrived_fwBusy : fwBusy (takeArrived s r op) = fwBusy s := takeArrived_longRuns ..
@[simp] theorem takeArrived_expectedOffset : expectedOffset (takeArrived s r op) = expectedOffset s := by
  obtain ⟨l, k, h⟩ := takeArrived_eq s r op; rw [h]; rfl
@[simp] theorem takeArrived_formatsMissing (b : Bool) : formatsMissing (takeArrived s r op) b = formatsMissing s b := by
  obtain ⟨l, k, h⟩ := takeArrived_eq s r op; rw [h]; rfl
@[simp] theorem takeArrived_fwStatusBytes : fwStatusBytes (takeArrived s r op) = fwStatusBytes s := rfl
end

/-! ### FW_DOWNLOAD (R323, R432) -/

section
variable {s : State} {r : Req} {size : U32} {data : List Byte} (hr : Reaches s r 0x0C01 .owner .notCouch = true)
  (fits : imageSizeBad s size.toNat = false) (idle : fwBusy s = false)
include hr fits idle

theorem execFwDownload_first (within : data.length ≤ size.toNat) (confirmed : s.ledger.trial = false)
    (free : slotPending s (downloadSlot s) = false) : execFwDownload r 0 size data s =
      .next (startLong (takeArrived s r 0x0C01) r 0x0C01 (issuer s r) .fwErase ((size.toNat + 65535) / 65536 * 65536) 0 fun t =>
        fwEraseNext (setSlot t (downloadSlot s) fun _ =>
          { st := .erasing, image := none, declared := size.toNat, received := data.length, bytes := data })) := by
  refine next_of_reaches hr rfl ?_
  dsimp only
  rw [if_pos rfl, checked_pass, takeArrived_downloadSlot]
  simp [fits, idle, within, confirmed, free]

theorem execFwDownload_next {off : U32} (later : off ≠ 0) (expected : off.toNat = expectedOffset s)
    (declared : size.toNat = (slotOf s (downloadSlot s)).declared) (within : off.toNat + data.length ≤ size.toNat) :
    execFwDownload r off size data s =
      let t := appendImage (takeArrived s r 0x0C01) data
      .next (ok t r 0x0C01 (le 4 (slotOf t (downloadSlot s)).received)) := by
  refine next_of_reaches hr rfl ?_
  dsimp only
  rw [if_neg later, if_neg (by simp [expected]), checked_pass, takeArrived_downloadSlot]
  simp [fits, idle, ← declared, within]
end

/-! ### FW_ACTIVATE (R324, R426) -/

/-- R324: a verified image that nothing keeps from being activated; a reset follows the reply where the mode asks for it. -/
theorem execFwActivate_activates {s : State} {r : Req} {mode : U8} (hr : Reaches s r 0x0C03 .owner .notCouch = true) (low : mode.toNat ≤ 1)
    (verified : (slotOf s (downloadSlot s)).st = .verified) (idle : fwBusy s = false) (formats : formatsMissing s (downloadSlot s) = false)
    (unarmed : s.couch.orch ≠ .armed) : execFwActivate r mode s =
      let t := ok (activate_ (takeArrived s r 0x0C03) (downloadSlot s) (mode = 1)) r 0x0C03 []
      .next (if mode = 1 then warmReset t else t) := by
  refine next_of_reaches hr (if_neg (Nat.not_lt.mpr low)) ?_
  dsimp only
  rw [takeArrived_downloadSlot, checked_pass (by simp [verified, idle, formats, unarmed])]

/-! ### FW_VERIFY_COMPLETE (R425) -/

section
variable {s : State} {genuine : Bool} (runs : longRuns s (fun k => k = .fwVerify) = true)
include runs

theorem execFwVerifyComplete_noImage (image : slotImage (slotOf s (downloadSlot s)) genuine = none) : execFwVerifyComplete genuine s =
    .next (endLongOf (setSlot s (downloadSlot s) fun f => { f with st := .invalid }) (fun k => k = .fwVerify) .conflict 10 []) := by
  rw [execFwVerifyComplete, if_neg (by simp [runs])]
  dsimp only
  rw [image]

/-- R425: an image that stands in the slot is judged by its validity and its size. -/
theorem execFwVerifyComplete_judges {i : ImageInfo} (image : slotImage (slotOf s (downloadSlot s)) genuine = some i) :
    execFwVerifyComplete genuine s = .next
      (if imageValid s i = true ∧ i.size = (slotOf s (downloadSlot s)).declared then
        endLongOf (setSlot s (downloadSlot s) fun f => { f with st := .verified, image := some i }) (fun k => k = .fwVerify) .ok 0
          (le 4 i.version.toNat)
      else endLongOf (setSlot s (downloadSlot s) fun f => { f with st := .invalid, image := some i }) (fun k => k = .fwVerify) .conflict
        (if i.signatureOk then 10 else 9) []) := by
  rw [execFwVerifyComplete, if_neg (by simp [runs])]
  dsimp only
  rw [image]
  simp only [Bool.and_eq_true, decide_eq_true_eq]
  split <;> rfl
end

/-- Settles O19: nothing refuses the packet, and the slot that a download fills is that of the state before it. -/
theorem firmwareCommandsComplete : Obligations.FirmwareCommandsComplete := by
  intro s r x b
  refine ⟨fun size data hr fits within confirmed free idle _ => execFwDownload_first hr fits idle within confirmed free,
    fun off size data hr later expected fits declared within idle => execFwDownload_next hr fits idle later expected declared within,
    fun hr whole idle _ => next_of_reaches hr rfl ?_,
    fun hr verified idle formats unarmed => ⟨execFwActivate_activates hr (by decide) verified idle formats unarmed,
      execFwActivate_activates hr (by decide) verified idle formats unarmed⟩,
    fun hr => ⟨fun confirmed => next_of_reaches hr rfl (if_neg (by simp [confirmed])),
      fun trial => next_of_reaches hr rfl (if_pos (by simp [trial]))⟩,
    fun hr => next_of_reaches hr rfl (by rw [takeArrived_fwStatusBytes]),
    fun genuine runs => ⟨execFwVerifyComplete_noImage runs, fun i image => ⟨fun good => ?_, fun bad => ?_⟩⟩⟩
  · dsimp only
    rw [takeArrived_downloadSlot, checked_pass (by simpa [idle] using whole)]
    rfl
  · exact (execFwVerifyComplete_judges runs image).trans (congrArg Host.Outcome.next (if_pos good))
  · have failed : ¬ (imageValid s i = true ∧ i.size = (slotOf s b).declared) := by
      rcases bad with h | h <;> simp [h]
    exact (execFwVerifyComplete_judges runs image).trans (congrArg Host.Outcome.next (if_neg failed))

end Sys2Proof.Machine
end

section
/-! PROOFS. Fences, tests and returns of units, channels taken out and brought back, and error injection (R153, R155, R321, R322, R449 to
R451). -/

namespace Sys2Proof.Machine

/-! ### A packet that names a unit (R297, R321) -/

theorem unitReserved_of_unit {w : U16} {u : UnitId} (h : unitField w 16 = .ok u) : unitReserved w = none := by rw [unitReserved, h]

theorem one_le_unitCls (u : UnitId) : 1 ≤ unitCls u := by cases u <;> simp [unitCls]

theorem withUnit_named {s : State} {r : Req} {op : U16} {w : U16} {u : UnitId} (h : unitField w 16 = .ok u) {low high : Nat}
    (hl : low ≤ unitCls u) (hh : unitCls u ≤ high) (body : UnitId → State) : withUnit s r op w low high body = body u := by
  rw [withUnit, h]
  exact if_neg (by simp [Nat.not_lt.mpr hl, Nat.not_lt.mpr hh])

/-- R321: a packet acts on the unit that it names, of a class that its opcode takes. -/
theorem command_unit {s : State} {r : Req} {op : U16} {who : Issuer} {col : Column} (hr : Reaches s r op who col = true) {w : U16} {u : UnitId}
    (h : unitField w 16 = .ok u) {low high : Nat} (hl : low ≤ unitCls u) (hh : unitCls u ≤ high) (body : State → Session → UnitId → State) :
    command s r op (unitReserved w) who col (fun t x => withUnit t r op w low high (body t x)) = body (takeArrived s r op) (issuer s r) u := by
  rw [unitReserved_of_unit h, command_reaches hr, withUnit_named h hl hh]

/-! ### The refusals read nothing of the arrival queue -/

section
variable (s : State) (r : Req) (op : U16) (u : UnitId)

@[simp] theorem takeArrived_unitAt : unitAt (takeArrived s r op) u = unitAt s u := by cases u <;> rfl
@[simp] theorem takeArrived_fenceCheck : fenceCheck (takeArrived s r op) u = fenceCheck s u := by cases u <;> rfl
@[simp] theorem takeArrived_testable : testable (takeArrived s r op) u = testable s u := by cases u <;> rfl
@[simp] theorem takeArrived_slicedDraining : slicedDraining (takeArrived s r op) u = slicedDraining s u := rfl
@[simp] theorem takeArrived_unitStatus : unitStatus (takeArrived s r op) u = unitStatus s u := by cases u <;> rfl
@[simp] theorem takeArrived_vacateBytes (c : Nat) : vacateBytes (takeArrived s r op) c = vacateBytes s c := rfl
@[simp] theorem takeArrived_flashAt (c : Nat) : flashAt (takeArrived s r op) c = flashAt s c := rfl
@[simp] theorem takeArrived_flashOfflineChecks (c : Nat) : flashOfflineChecks (takeArrived s r op) c = flashOfflineChecks s c := rfl
@[simp] theorem takeArrived_dpaBad (kind dpa : Nat) : dpaBad (takeArrived s r op) u kind dpa = dpaBad s u kind dpa := by cases u <;> rfl
end

section
variable {s : State} {r : Req} {w : U16} {u : UnitId} (named : unitField w 16 = .ok u)
include named

/-! ### UNIT_TEST and UNIT_RETURN (R322, R449, R450) -/

section
variable (cls : unitCls u ≤ 7)
include cls

/-- R322: a test of a unit out of service, which may force write-through. -/
theorem execUnitTest_starts (hr : Reaches s r 0x0B02 .owner .fromLift = true) (out : testable s u = true) (idle : (unitAt s u).st ≠ .testing)
    (drained : slicedDraining s u = false) : execUnitTest r w s =
      .next (startLong (takeArrived s r 0x0B02) r 0x0B02 (issuer s r) (.test u) 1 3 fun t =>
        if forcesTest u then force (setUnit t u fun y => { y with st := .testing }) 2 else setUnit t u fun y => { y with st := .testing }) := by
  rw [execUnitTest, command_unit hr named (one_le_unitCls u) cls]
  dsimp only
  rw [checked_pass (by simp [out, idle, drained])]

/-- R449: a fenced unit that is no memory channel returns after a test that passed. -/
theorem execUnitReturn_returns (hr : Reaches s r 0x0B03 .owner .fromLift = true) (noDram : unitCls u ≠ 3) (noFlash : unitCls u ≠ 4)
    (fenced : (unitAt s u).st = .fenced) (passed : (unitAt s u).result = 1) (drained : slicedDraining s u = false) :
    execUnitReturn r w s = .next (ok (returnUnit (takeArrived s r 0x0B03) u) r 0x0B03 []) := by
  have pass : ∀ c ∈ [(decide ((unitAt (takeArrived s r 0x0B03) u).st ≠ .fenced) || decide ((unitAt (takeArrived s r 0x0B03) u).result ≠ 1),
      Status.conflict, 2), (slicedDraining (takeArrived s r 0x0B03) u, .busy, 3)], c.1 = false := by
    simp [fenced, passed, drained]
  rw [execUnitReturn, command_unit hr named (one_le_unitCls u) cls]
  cases u with
  | dram _ => exact absurd rfl noDram
  | flash _ => exact absurd rfl noFlash
  | engine _ | slice _ | port _ | felt _ | core _ | sensor _ | rail _ => exact congrArg Host.Outcome.next (checked_pass pass)
end

/-! ### CHANNEL_OFFLINE and CHANNEL_ONLINE (R153, R155, R322) -/

theorem execChannelOffline_vacates {c : Nat} (hr : Reaches s r 0x0B04 .owner .service = true) (dram : u = .dram c)
    (on : (dramAt s c).st = .online) (free : firstOf (dramOfflineChecks s c) = none) : execChannelOffline r w s =
      .next (startLong (takeArrived s r 0x0B04) r 0x0B04 (issuer s r) (.offline c) (vacateBytes s c) 0 fun t => beginVacating t c) := by
  subst dram
  rw [execChannelOffline, command_unit hr named (Nat.le_refl 3) (show 3 ≤ 4 by decide)]
  dsimp only
  rw [if_neg (by simp [on]), checked_none (by simpa using free), takeArrived_vacateBytes]

theorem execChannelOffline_fails {c : Nat} (hr : Reaches s r 0x0B04 .owner .service = true) (flash : u = .flash c)
    (on : (flashAt s c).st = .online) (free : firstOf (flashOfflineChecks s c) = none) :
    execChannelOffline r w s = .next (ok (failFlash (takeArrived s r 0x0B04) c 5 false) r 0x0B04 []) := by
  subst flash
  rw [execChannelOffline, command_unit hr named (show 3 ≤ 4 by decide) (Nat.le_refl 4)]
  dsimp only
  rw [checked_none (by simpa using free), if_pos (by simp [on])]

theorem execChannelOnline_returns {c : Nat} (hr : Reaches s r 0x0B05 .owner .service = true) (dram : u = .dram c)
    (idle : (unitAt s u).st ≠ .testing) (steady : (s.vat.ch.any fun d => d.changing) = false) :
    execChannelOnline r w s = .next (ok (dramOnline (takeArrived s r 0x0B05) c) r 0x0B05 []) := by
  subst dram
  rw [execChannelOnline, command_unit hr named (Nat.le_refl 3) (Nat.le_refl 3)]
  dsimp only [unitIndex]
  rw [checked_pass (by simp [idle, steady])]

/-! ### ERROR_INJECT (R451) -/

theorem execErrorInject_starts {kind count : U8} {dpa : U64} (cls : unitCls u ≤ 7) (hr : Reaches s r 0x0B06 .owner .service = true)
    (low : kind.toNat ≤ 4) (fits : injectable kind.toNat (unitCls u) = true) (some_ : count ≠ 0) (lies : dpaBad s u kind.toNat dpa.toNat = false)
    (alone : (s.cmd.injections.any fun i => i.unit = u) = false) : execErrorInject r w kind count dpa s =
      .next (ok (inject (takeArrived s r 0x0B06) { unit := u, kind := kind.toNat, left := count.toNat, dpa := dpa.toNat }) r 0x0B06 []) := by
  rw [execErrorInject, unitReserved_of_unit named]
  dsimp only
  rw [if_neg (Nat.not_lt.mpr low), command_reaches hr]
  rw [withUnit_named named (one_le_unitCls u) cls, checked_pass]
  simp only [List.forall_mem_cons, takeArrived_dpaBad, takeArrived_cmd_injections]
  exact ⟨by simp [fits], decide_eq_false some_, lies, alone, nofun⟩
end

/-- Settles O18: the packet names its unit, and no refusal of its opcode stops it. -/
theorem unitCommandsComplete : Obligations.UnitCommandsComplete := by
  intro s r w u x named cls
  refine ⟨fun hr may => ?_, fun hr out idle drained _ => execUnitTest_starts named cls hr out idle drained, fun hr => ?_,
    fun hr noDram noFlash => execUnitReturn_returns named cls hr noDram noFlash,
    fun hr => ⟨fun c dram on free _ => execChannelOffline_vacates named hr dram on free,
      fun c flash on free => execChannelOffline_fails named hr flash on free⟩,
    fun hr c dram => execChannelOnline_returns named hr dram,
    fun kind count dpa hr low => execErrorInject_starts named cls hr low⟩
  · show Host.Outcome.next (command _ _ _ _ _ _ _) = _
    rw [command_unit hr named (one_le_unitCls u) cls, takeArrived_fenceCheck, checked_pass (by simpa using may)]
  · show Host.Outcome.next (command _ _ _ _ _ _ _) = _
    rw [command_unit hr named (one_le_unitCls u) cls, takeArrived_unitStatus]

end Sys2Proof.Machine
end

section
/-! PROOFS. Arriving events, coalescing windows, tokens and drop summaries, and the ends of injections, tests and snapshot scans (R314, R442,
R443, R450, R451). -/

namespace Sys2Proof.Machine

/-! ### EVENT_ARRIVAL (R438, R441, R442) -/

/-- The occurrence has left its island's port. -/
def leftPort (s : State) (o : Occurrence) : State := s.onLog fun l => { l with ports := l.ports.eraseP (·.occ = o) }

/-- R441: an event that stands at a port has had its effect, and arrives with the time of its port. -/
theorem execEventArrival_port {s : State} {o : Occurrence} {p : PortEvent} (stands : s.log.ports.find? (·.occ = o) = some p) :
    execEventArrival o s = .next (coalesce (leftPort s o) o p.time) := by
  have posted : s.log.ports.any (·.occ = o) = true := by
    rw [List.any_eq_true, ← List.find?_isSome, stands]
    rfl
  rw [execEventArrival, detected, if_pos posted, eventArrives, stands]
  rfl

section
variable (s : State) (o : Occurrence) (time : Nat)

theorem coalesce_never (never : neverCoalesced o = true) : coalesce s o time = writeRecord s o time time 1 false := if_pos never

variable {s o} (may : neverCoalesced o = false)
include may

theorem coalesce_joins (open_ : s.log.windows.any (sameKey ·.occ o) = true) : coalesce s o time =
    s.onLog fun l => { l with windows := l.windows.map fun w => if sameKey w.occ o then joinWindow w o time else w } := by
  rw [coalesce, if_neg (by simp [may]), if_pos open_]

variable (none_ : s.log.windows.any (sameKey ·.occ o) = false)
include none_

theorem coalesce_opens (token : s.log.tokens.getD o.cls 0 ≠ 0) : coalesce s o time =
    (writeRecord s o time time 1 false).onLog fun l =>
      { l with tokens := l.tokens.modify o.cls (· - 1),
               windows := if l.windows.length < 512 then l.windows ++ [{ occ := o, first := time, last := time, count := 0, closed := false }]
                 else l.windows } := by
  rw [coalesce, if_neg (by simp [may]), if_neg (by simp [none_]), if_pos token]

theorem coalesce_counts (noToken : s.log.tokens.getD o.cls 0 = 0) (room : s.log.windows.length < 512) : coalesce s o time =
    s.onLog fun l => { l with windows := l.windows ++ [{ occ := o, first := time, last := time, count := 1, closed := false }] } := by
  rw [coalesce, if_neg (by simp [may]), if_neg (by simp [none_]), if_neg (not_not.mpr noToken), if_pos room]
end

/-! ### COALESCE_WINDOW_CLOSE (R442) -/

/-- R442: an open window of the table closes; with nothing counted it goes. -/
theorem execCoalesceWindowClose_closes {s : State} {k : Nat} {w : Window} (stands : s.log.windows[k]? = some w) (open_ : w.closed = false) :
    execCoalesceWindowClose k s = .next
      (if w.count = 0 then s.onLog fun l => { l with windows := s.log.windows.eraseIdx k }
      else writeSummary (s.onLog fun l => { l with windows := s.log.windows.eraseIdx k ++ [{ w with closed := true }] })
        { w with closed := true }) := by
  rw [execCoalesceWindowClose, stands]
  dsimp only
  rw [if_neg (by simp [open_])]
  split <;> rfl

/-! ### TOKEN_REFILL (R442, R443) -/

theorem execTokenRefill_adds {s : State} {c : Nat} (none_ : (s.log.windows.find? fun w => w.closed && w.occ.cls = c) = none) :
    execTokenRefill c s = .next (s.onLog fun l => { l with tokens := l.tokens.modify c fun t => min (rateLimit s) (t + 1) }) := by
  have still : ((s.onLog fun l => { l with tokens := l.tokens.modify c fun t => min (rateLimit s) (t + 1) }).log.windows.find?
      fun w => w.closed && w.occ.cls = c) = none := none_
  rw [execTokenRefill, still]

/-! ### UNIT_TEST_COMPLETE (R95, R121, R450) -/

/-- R450: the unit of a test that ended: a channel is in service again, and any other unit fenced; the test reports its result. -/
def testEnded (s : State) (u : UnitId) (pass : Bool) : State :=
  endLongOf (setUnit s u fun y => { y with st := (match u with | .dram _ | .flash _ => .inService | _ => .fenced), result := if pass then 1 else 2 })
    (· = .test u) (if pass then .ok else .mediaError) (if pass then 0 else unitIndex u) []

/-- R95: a test that forces write-through runs. -/
def forcingTestRuns (s : State) : Bool := longRuns s fun k => match k with | .test u => forcesTest u | _ => false

/-- R121: a test that forces write-through ends after its drain, and write-through with the last such test. -/
theorem execUnitTestComplete_ends {s : State} {u : UnitId} (testing : (unitAt s u).st = .testing)
    (drained : forcesTest u = true → s.curd.draining = none) (pass : Bool) :
    execUnitTestComplete u pass s =
      .next (if forcesTest u && !forcingTestRuns (testEnded s u pass) then unforce (testEnded s u pass) 2 else testEnded s u pass) :=
  if_neg (by simpa [testing] using drained)

/-! ### SNAPSHOT_SCAN_COMPLETE (R314) -/

/-- The epochs of a snapshot of a region that has begun to scan. -/
def scannedEpochs (n : Nat) (o : LongOp) : Option (Nat × Nat) :=
  match o.kind with
  | .snapshot r eb ee => if r = n && ee ≠ 0 then some (eb, ee) else none
  | _ => none

theorem execSnapshotScanComplete_reports {s : State} {n : U16} {g : Region} {eb ee : Nat} (region : regionOf s n.toNat = some g)
    (scan : s.cmd.longOps.findSome? (scannedEpochs n.toNat) = some (eb, ee)) :
    execSnapshotScanComplete n s = .next (endLongOf (setRegion s n.toNat fun g => { g with snapshot := 0 }) (fun k => k = .snapshot n.toNat eb ee)
      (if 2 ^ 31 ≤ ee - eb then .partial_ else .ok) 0 ((pageRuns (snapshotPages s g eb ee)).flatMap fun (f, k) => le 8 f ++ le 4 k ++ le 4 0)) := by
  rw [execSnapshotScanComplete, region]
  generalize found : List.findSome? _ s.cmd.longOps = e
  obtain rfl : e = some (eb, ee) := found.symm.trans scan
  rfl

/-- Settles O56: an event that stands at a port is coalesced by its class, its window and its token; every other clause is its command's
own case. -/
theorem eventsAreCoalescedAndReported : Obligations.EventsAreCoalescedAndReported := by
  intro s
  refine ⟨fun o p stands => ⟨fun never => ?_, fun may => ⟨fun open_ => ?_, fun none_ => ⟨fun noToken room => ?_, fun token => ?_⟩⟩⟩,
    fun o _ => rfl, fun k w stands open_ => ⟨fun empty => ?_, fun counted => ?_⟩, fun c none_ => ?_, rfl, fun u => rfl,
    fun u pass testing => ⟨fun plain => ?_, fun forced drained => ?_⟩, fun n g eb ee region scan => ?_⟩
  · exact (execEventArrival_port stands).trans (congrArg Host.Outcome.next (coalesce_never _ _ _ never))
  · exact (execEventArrival_port stands).trans (congrArg Host.Outcome.next (coalesce_joins _ may open_))
  · exact (execEventArrival_port stands).trans (congrArg Host.Outcome.next (coalesce_counts _ may none_ noToken room))
  · exact (execEventArrival_port stands).trans (congrArg Host.Outcome.next (coalesce_opens _ may none_ token))
  · exact (execCoalesceWindowClose_closes stands open_).trans (congrArg Host.Outcome.next (if_pos empty))
  · exact (execCoalesceWindowClose_closes stands open_).trans (congrArg Host.Outcome.next (if_neg counted))
  · exact execTokenRefill_adds none_
  · exact (execUnitTestComplete_ends testing (by simp [plain]) pass).trans (congrArg Host.Outcome.next (if_neg (by simp [plain])))
  · refine (execUnitTestComplete_ends testing (fun _ => drained) pass).trans (congrArg Host.Outcome.next ?_)
    by_cases more : forcingTestRuns (testEnded s u pass) = true
    · exact (if_neg (by simp [more])).trans (if_pos more).symm
    · exact (if_pos (by simp [forced, more])).trans (if_neg more).symm
  · exact execSnapshotScanComplete_reports region scan

end Sys2Proof.Machine
end

section
/-! PROOFS. One step on a queue that holds a command (00_scope.md). -/

namespace Sys2Proof.Machine

/-- Settles O1: the queue's shape decides the branch of the step, and its front command is what that branch runs. -/
theorem stepRunsTheFrontCommand : Obligations.StepRunsTheFrontCommand := fun _ _ _ => rfl

end Sys2Proof.Machine
end

section
/-! PROOFS. The commands of the cipher group and the end of a starter key's programming (R320, R350, R351, R357, R358, R362). -/

namespace Sys2Proof.Machine

section
variable (s : State) (r : Req) (op : U16)

@[simp] theorem takeArrived_starterKey : starterKey (takeArrived s r op) = starterKey s := rfl
@[simp] theorem takeArrived_keySlotAt (n : Nat) : keySlotAt (takeArrived s r op) n = keySlotAt s n := rfl
@[simp] theorem takeArrived_slotOfRegion (n : Nat) : slotOfRegion (takeArrived s r op) n = slotOfRegion s n := rfl
@[simp] theorem takeArrived_waitingChanges : waitingChanges (takeArrived s r op) = waitingChanges s := rfl
@[simp] theorem takeArrived_keyStatusBytes (n : Nat) : keyStatusBytes (takeArrived s r op) n = keyStatusBytes s n := by
  obtain ⟨l, k, h⟩ := takeArrived_eq s r op; rw [h]; rfl
end

/-! ### KEY_SLOT_BIND and KEY_SLOT_RETIRE (R357, R358, R362) -/

section
variable {s : State} {r : Req} {slot : U16} (inRange : slot.toNat ≤ 1023)
include inRange

/-- R357, R358: a FREE slot and a region without one meet at the next epoch boundary, where a starter key stands. -/
theorem execKeySlotBind_asks {n : U16} {g : Region} (hr : Reaches s r 0x0901 .owner .fromLift = true) (defined : regionReserved n 18 = none)
    (found : regionOf s n.toNat = some g) (key : (starterKey s).isSome = true) (free : keySlotAt s slot.toNat = none)
    (unbound : slotOfRegion s g.num = none) (alone : waitingChanges s = []) (idle : regionHeld g = false) :
    execKeySlotBind r slot n s = .next (requestClose (defer (takeArrived s r 0x0901) (issuer s r) r)
      [{ change := .bindKey g.num slot.toNat, req := some (r, 0x0901, (issuer s r).num) }]) := by
  refine next_of_reaches hr defined ?_
  dsimp only
  rw [if_neg (Nat.not_lt.mpr inRange), withRegion_named (by simpa using found) (by simp [mayName, isOwner_of_reaches hr]),
    checked_pass]
  simp [key, free, unbound, alone, idle]

/-- R357, R362: no region with cipher on holds the slot. -/
theorem execKeySlotRetire_retires (hr : Reaches s r 0x0902 .owner .fromLift = true)
    (unheld : ∀ k g, keySlotAt s slot.toNat = some k → regionOf s k.region = some g → k.retired = true ∨ flagCipher g.flags = false) :
    execKeySlotRetire r slot s = .next (ok (retireSlot (takeArrived s r 0x0902) slot.toNat) r 0x0902 []) := by
  refine next_of_reaches hr rfl (checked_pass ?_)
  simp only [List.forall_mem_cons, takeArrived_keySlotAt, takeArrived_regionOf]
  refine ⟨decide_eq_false (Nat.not_lt.mpr inRange), ?_, nofun⟩
  cases slotThere : keySlotAt s slot.toNat with
  | none => rfl
  | some k =>
    cases regionThere : regionOf s k.region with
    | none => simp [regionThere]
    | some g => rcases unheld k g slotThere regionThere with h | h <;> simp [regionThere, h]
end

/-! ### STARTER_PROVISION and STARTER_KEY_PROGRAMMING_DONE (R350, R351) -/

/-- R351: both banks are blank, none is being programmed, and the packet names this unit. -/
theorem execStarterProvision_starts {s : State} {r : Req} {mode : U8} {serial : U64} {key : BitVec 256}
    (hr : Reaches s r 0x0904 .owner .fromLift = true) (defined : mode.toNat ≤ 1) (blank : s.cipher.banks = [.blank, .blank])
    (idle : s.cipher.programming = none) (own : serial.toNat = ownSerial) : execStarterProvision r mode serial key s =
      .next ((defer (takeArrived s r 0x0904) (issuer s r) r).onCipher fun c =>
        { c with programming := some (if mode = 0 then Config.drbgKey s.cipher.drawn else key, some (r, 0x0904, (issuer s r).num)),
                 drawn := if mode = 0 then c.drawn + 1 else c.drawn }) := by
  refine next_of_reaches hr (if_neg (Nat.not_lt.mpr defined)) (checked_pass ?_)
  simp [blank, idle, own]

/-- R350, R351: the lowest blank bank takes what the programming has left of it. -/
theorem execStarterKeyProgrammingDone_ends {s : State} {k : BitVec 256} {q : Option (Req × U16 × Nat)}
    (running : s.cipher.programming = some (k, q)) (good : Bool) : execStarterKeyProgrammingDone good s =
      let done (b : KeyBank) : State := s.onCipher fun c => { c with programming := none, banks := putBank c.banks b }
      .next (finishCloses (if good then answerJoined (done (.valid k)) q .ok 0 (checkValue k)
        else answerJoined (done .consumed) q .internal 0 [])) := by
  rw [execStarterKeyProgrammingDone, running]
  cases good <;> rfl

/-- Settles O16: no refusal stops a packet, and the end of a programming goes by its outcome. -/
theorem keyCommandsComplete : Obligations.KeyCommandsComplete := by
  intro s r x
  refine ⟨fun slot n g hr defined inRange => execKeySlotBind_asks inRange hr defined,
    fun slot hr inRange => execKeySlotRetire_retires inRange hr, fun slot count hr some_ fits => next_of_reaches hr rfl ?_,
    fun mode serial key => execStarterProvision_starts,
    fun k q running => ⟨execStarterKeyProgrammingDone_ends running true, execStarterKeyProgrammingDone_ends running false⟩⟩
  rw [checked_pass]
  · simp only [takeArrived_keyStatusBytes]
  · have inRange : slot.toNat ≤ 1023 := by omega
    have most : count.toNat ≤ 1024 - slot.toNat := by omega
    simp [Nat.not_lt.mpr inRange, Nat.not_lt.mpr most, Nat.ne_of_gt some_, ← BitVec.toNat_inj]

end Sys2Proof.Machine
end

section
/-! PROOFS. The passes and self-tests of the cipher cores, the re-key sweep, and key slots that become FREE (R357, R360, R362, R365 to
R368). -/

namespace Sys2Proof.Machine

/-! ### Cores (R360, R365 to R368) -/

/-- R360: below the slot's limit, and within one 64th of the unit of its count, the blocks are counted and nothing else follows. -/
theorem countUsage_counts {s : State} {n blocks : Nat} {k : KeySlot} (found : keySlotAt s n = some k)
    (below : k.usage + blocks < 4 * usageLimit s) (within : k.usage / (usageLimit s / 64) = (k.usage + blocks) / (usageLimit s / 64)) :
    countUsage s n blocks = setKeySlot s n fun k' => { k' with usage := k.usage + blocks, inflight := k'.inflight - 1 } := by
  simp [countUsage, found, Nat.not_le.mpr below, within]

section
variable {s : State} {c : Nat} (service : (s.units.cores.getD c .reset).st = .inService)
include service

/-- R365: a core in service serves a queue in which nothing waits, or whose turn it is. -/
theorem cipherPass_served {slot : Option Nat} (turn : s.cipher.requests.any (·.slot = slot) = false ∨ cipherTurn s c = some slot) :
    ¬ ((s.units.cores.getD c .reset).st ≠ .inService || (s.cipher.requests.any (·.slot = slot) && cipherTurn s c ≠ some slot)) = true := by
  rw [service]
  rcases turn with h | h <;> simp [h]

theorem fenceCore_fences (spare : 4 < coresInService s) :
    fenceCore s c = (setUnit s (.core c) fun u => { u with st := .fenced }).event 8 1 2 (unitWord 7 c) :=
  (if_neg (not_not_intro service)).trans (if_neg (Nat.not_le.mpr spare))

theorem fenceCore_marks (last : coresInService s ≤ 4) :
    fenceCore s c = (s.onUnits fun u => { u with coreFailing := addNew u.coreFailing c }).event 0 5 3 (unitWord 7 c) :=
  (if_neg (not_not_intro service)).trans (if_pos last)
end

/-! ### The sweep and the end of a slot (R357, R360, R362) -/

section
variable {s : State} {region : U16} {page : Nat} {loc : BitVec 40} {k : KeySlot} (slot : slotOfRegion s region.toNat = some k)
include slot

theorem execRekeySweepStep_unlocated (none_ : slotAt s (entry s page).loc = none) :
    execRekeySweepStep region page loc s = .next (endSweep s k.slot) := by
  rw [execRekeySweepStep, slot]
  dsimp only
  rw [none_]

variable {x : Slot} (located : slotAt s (entry s page).loc = some x)
include located

/-- R360, R362: a page that is no live slot of the generation before, that moves, or whose new location is none, is passed over. -/
theorem execRekeySweepStep_passesOver (stays : k.sweep = false ∨ x.keySlot ≠ k.slot ∨ x.cipher = false ∨ x.keyGen + 1 ≠ k.generation ∨
      (entry s page).st = .moving ∨ homeTarget s loc = false) : execRekeySweepStep region page loc s = .next (endSweep s k.slot) := by
  rw [execRekeySweepStep, slot]
  dsimp only
  rw [located]
  refine if_pos ?_
  rcases stays with h | h | h | h | h | h <;> simp [h]

theorem execRekeySweepStep_moves (sweeps : k.sweep = true) (mine : x.keySlot = k.slot) (ciphered : x.cipher = true)
    (before : x.keyGen + 1 = k.generation) (held : (entry s page).region = region.toNat) (rests : (entry s page).st ≠ .moving)
    (target : homeTarget s loc = true) (runs : cleaningRuns s = true) (sealed : s.cmd.safe = false) :
    let e := entry s page
    execRekeySweepStep region page loc s =
      .next (endSweep (cipherRequest (putEntry (writeSlot s { x with loc := loc, keyGen := k.generation, generation := 0 } e.loc)
        { e with loc := loc, keyGen := BitVec.ofNat 2 k.generation, st := if e.st = .couched then .home else e.st }) region.toNat 5) k.slot) := by
  intro e
  rw [execRekeySweepStep, slot]
  dsimp only
  rw [located]
  exact if_neg (by simp [sweeps, mine, ciphered, before, held, rests, target, runs, sealed])
end

theorem execKeySlotFreed_frees {s : State} {n : Nat} {k : KeySlot} (found : keySlotAt s n = some k) (retired : k.retired = true)
    (dead : liveAny s n = false) (idle : k.inflight = 0) :
    execKeySlotFreed n s = .next (s.onCipher fun c => { c with slots := c.slots.filter (·.slot ≠ n) }) := by
  rw [execKeySlotFreed, found]
  exact if_pos (by simp [retired, dead, idle])

/-- Settles O50: a pass is served, a self-test fences or marks by the cores left, and the sweep goes by the page's slot. -/
theorem coresAreFencedAndKeySlotsSweepAndFree : Obligations.CoresAreFencedAndKeySlotsSweepAndFree := by
  intro s
  exact ⟨fun slot c blocks service turn =>
      ⟨if_neg (cipherPass_served service turn), fun d => if_neg (cipherPass_served service turn)⟩,
    fun n k blocks => countUsage_counts, fun c => rfl,
    fun c service => ⟨fun spare => congrArg Host.Outcome.next (fenceCore_fences service spare),
      fun last => congrArg Host.Outcome.next (fenceCore_marks service last)⟩,
    fun region page loc k x slot => execRekeySweepStep_moves slot,
    fun region page loc k slot => ⟨execRekeySweepStep_unlocated slot, fun x => execRekeySweepStep_passesOver slot⟩,
    fun n k => execKeySlotFreed_frees⟩

end Sys2Proof.Machine
end

section
/-! PROOFS. Samples of the Cave's sensors, the timers of the throttle steps, and the restart hold (R369, R371, R377 to R380). -/

namespace Sys2Proof.Machine

/-! ### Sensors that SV samples (R369, R371) -/

section
variable {s : State} {n : Nat} (converted : convertible s n = true)
include converted

section
variable (continuous : (sensorAt s n).polled = false)
include continuous

theorem execSensorSample_judges (temp : Int) : execSensorSample n temp false s = .next (judgeSensor (convert s n temp) n) :=
  (if_neg (by simp [converted, continuous])).trans (if_neg Bool.false_ne_true)

theorem execSensorSample_polls (temp : Int) : execSensorSample n temp true s = .next (setSensor s n fun c => { c with polled := true }) :=
  (if_neg (by simp [converted, continuous])).trans (if_pos rfl)
end

theorem execSensorPollTick_polled (polled : (sensorAt s n).polled = true) (temp : Option Int) :
    execSensorPollTick n temp s = .next (judgeSensor (temp.elim (failSensor s n) (convert s n)) n) := by
  refine (if_neg (by simp [converted, polled])).trans ?_
  cases temp <;> rfl
end

/-! ### Throttling (R378) -/

section
variable {s : State} (throttled : s.cave.tj = .throttle) (serving : s.couch.orch ≠ .committed) (more : s.cave.step < 3)
include throttled serving more

theorem execThrottleStepTimer_steps (high : ∀ t, tjOf s = some t → s.cave.stepTj < t + 10) : execThrottleStepTimer s = .next (takeStep s) := by
  refine congrArg Host.Outcome.next (if_pos ?_)
  cases tj : tjOf s with
  | none => simp [throttled, serving, more]
  | some t => simp [throttled, serving, more, high t tj]
end

theorem execThrottleStepTimer_waits {s : State} {t : Int} (tj : tjOf s = some t) (fallen : t + 10 ≤ s.cave.stepTj) :
    execThrottleStepTimer s = .next s :=
  congrArg Host.Outcome.next (if_neg (by simp [tj, fallen]))

/-- Settles O51: each command passes what guards it; a conversion goes by its result, and a step by how far Tj has fallen. -/
theorem sensorsAreSampledAndTheClocksStep : Obligations.SensorsAreSampledAndTheClocksStep := by
  intro s
  refine ⟨fun n converted => ⟨fun continuous => ⟨execSensorSample_judges converted continuous, execSensorSample_polls converted continuous⟩,
      ?_, ?_, ?_, fun polled => ⟨fun temp => execSensorPollTick_polled converted polled (some temp),
        execSensorPollTick_polled converted polled none⟩⟩,
    fun c slot temp vao hub present => ?_, fun c rank temp dimms stands => ?_,
    fun throttled serving more => ⟨fun t tj high => ?_, fun none_ => ?_, fun t tj fallen => ?_⟩, fun unwinding cooler stepped => ?_,
    fun t waits input tj cool => ?_⟩
  · exact congrArg Host.Outcome.next (if_pos converted)
  · exact congrArg Host.Outcome.next (if_neg (by simp))
  · exact congrArg Host.Outcome.next (if_pos (by simp [converted]))
  · exact congrArg Host.Outcome.next (if_neg (by simp [vao, hub, present]))
  · exact if_neg (by simpa [Nat.not_le.mpr stands] using Option.isSome_iff_ne_none.mp dimms)
  · exact execThrottleStepTimer_steps throttled serving more fun u hu => by rw [Option.some.inj (hu.symm.trans tj)]; exact high
  · exact execThrottleStepTimer_steps throttled serving more fun u hu => nomatch none_.symm.trans hu
  · exact execThrottleStepTimer_waits tj fallen
  · exact congrArg Host.Outcome.next (if_pos (by simp [unwinding, cooler, stepped]))
  · exact congrArg Host.Outcome.next (if_pos (by simp [waits, input, tj, cool]))

end Sys2Proof.Machine
end

section
/-! PROOFS. Rails that time out, dip or fail, the progress watch, the power-down order and what follows the off-time (R388, R391 to R396). -/

namespace Sys2Proof.Machine

/-! ### RAIL_PG_TIMEOUT (R391, R397) -/

/-- R404: a rail's record and its event leave the sequencer where it was. -/
@[simp] theorem railRecord_seq (s : State) (e : Nat) : (railRecord s e).power.seq = s.power.seq := rfl

section
variable {s : State} {e : Nat} (enabled : (railAt s e).enabled = true) (bad : (railAt s e).good = false) (judged : railPg s e ≠ 0xFF)
include enabled bad judged

theorem execRailPgTimeout_startsPowerDown {p : Nat} (seq : s.power.seq = .rails p) : execRailPgTimeout e s =
    let t := railRecord s e
    .next (startPowerDown (t.onCouch fun c => { c with firstRail := t.power.firstRail }) .fault) := by
  rw [execRailPgTimeout, if_neg (by simp [enabled, bad]), if_neg judged]
  simp only [railRecord_seq, seq]

/-- R397: outside the power-up the rail was brought up alone. -/
theorem execRailPgTimeout_takesDown (late : ∀ p, s.power.seq ≠ .rails p) : execRailPgTimeout e s =
    .next ((dropRail (railRecord s e) e).onPower fun p => { p with pendingHold := none }) := by
  rw [execRailPgTimeout, if_neg (by simp [enabled, bad]), if_neg judged]
  simp only [railRecord_seq]
end

/-! ### RAIL_FAULT (R395) -/

/-- R395: a failed rail is recorded once its judging input has fallen. -/
def railFailed (s : State) (e : Nat) (sense : Bool) : State :=
  let t := setRail s e fun r => { r with failed := true }
  railRecord (stampFall (if sense then railSenseInput t e false else railPgInput t e false) e) e

section
variable {s : State} {e : Nat} {sense : Bool} (stands : ∀ l, s.power.seq ≠ .powerDown l) (good : (railAt s e).good = true)
  (whole : (railAt s e).failed = false) (judged : railJudged s e sense = true)
include stands good whole judged

/-- R392, R395: of a rail that is ON, outside the power-down order, a dip is a glitch, and what a failure leads to goes by its domain. -/
theorem execRailFault_counts (dip : Bool) : execRailFault ⟨e, sense, dip⟩ s =
    if dip then .next (s.onPower fun p => { p with glitches := sat32 (p.glitches + 1) })
    else
      let t := railFailed s e sense
      if railDomain t e = 1 then .next (failChannel (dropRail t e) (railIndex t e) 4)
      else if railDomain t e = 2 then
        .next ((dropRail t e).each ((List.range 48).filter fun c => carrierOf t c = railIndex t e) fun u c => failFlash u c 3 true)
      else .next (coreFault t) := by
  refine if_neg ?_
  cases seq : s.power.seq with
  | powerDown l => exact absurd seq (stands l)
  | _ => simp [good, whole, judged]
end

section
variable {t : State}

theorem coreFault_commits (h : t.couch.orch = .serving ∨ t.couch.orch = .armed) :
    coreFault t = (couchCommit t true .fault true false 255).onPower fun p => { p with watching := true } := by
  rcases h with h | h <;> simp only [coreFault, h]

theorem coreFault_startsPowerDown (h : t.couch.orch = .lifting ∨ t.couch.orch = .down) :
    coreFault t = startPowerDown (t.onCouch fun c => { c with firstRail := t.power.firstRail }) .fault := by
  rcases h with h | h <;> simp only [coreFault, h]

theorem coreFault_goesDown (h : t.couch.orch = .committed) :
    coreFault t = (t.onCouch fun c => { c with toDown := true, cause := .fault }).onPower fun p => { p with watching := true } := by
  simp only [coreFault, h]
end

/-! ### OFF_TIME_EXPIRY (R393, R394, R396) -/

section
variable {s : State} (seq : s.power.seq = .offTime)
include seq

theorem execOffTimeExpiry_staysDown (kept : staysDown s = true) (away : (s.couch.inputPresent && s.power.absentSince.isSome) = false) :
    execOffTimeExpiry s = .next (s.onPower fun p => { p with seq := .stayDown }) :=
  (if_neg (not_not_intro seq)).trans (if_pos (by rw [kept, away]; rfl))

theorem execOffTimeExpiry_startsAgain (free : staysDown s = false ∨ (s.couch.inputPresent && s.power.absentSince.isSome) = true) :
    execOffTimeExpiry s =
      let t := s.onPower fun p => { p with seq := .waitInput, lockout := false, restarts := if staysDown s then [] else p.restarts }
      .next (if s.couch.inputPresent then inputArrives t else t) :=
  (if_neg (not_not_intro seq)).trans (if_neg (by rcases free with h | h <;> simp [h]))
end

/-- Settles O53: a rail goes by the sequencer, its domain and the Couch; every other command passes what guards it. -/
theorem railsFallAndTheDeviceStaysDownWhereItMust : Obligations.RailsFallAndTheDeviceStaysDownWhereItMust := by
  intro s e
  refine ⟨fun enabled bad judged =>
      ⟨fun p => execRailPgTimeout_startsPowerDown enabled bad judged, execRailPgTimeout_takesDown enabled bad judged⟩,
    fun sense stands good whole judged => ⟨execRailFault_counts stands good whole judged true, ?_⟩, fun vao inside unused => ?_,
    fun orch watching => ?_, fun rails seq => ?_, fun seq => ⟨fun kept away => ?_, fun free => ?_⟩⟩
  · have fails := (execRailFault_counts stands good whole judged false).trans (if_neg Bool.false_ne_true)
    refine ⟨fun dram => fails.trans (if_pos dram), fun flash => fails.trans ((if_neg ?_).trans (if_pos flash)), fun noDram noFlash => ?_⟩
    · exact fun dram => absurd (dram.symm.trans flash) (by decide)
    · have core := fails.trans ((if_neg noDram).trans (if_neg noFlash))
      exact ⟨fun runs => core.trans (congrArg Host.Outcome.next (coreFault_commits runs)),
        fun nothing => core.trans (congrArg Host.Outcome.next (coreFault_startsPowerDown nothing)),
        fun committed => core.trans (congrArg Host.Outcome.next (coreFault_goesDown committed))⟩
  · exact if_neg (by rw [vao, unused]; simpa using inside)
  · exact if_neg (by simp [orch, watching])
  · show execPowerDownRailStep s = _
    simp only [execPowerDownRailStep, seq]
  · refine execOffTimeExpiry_staysDown seq ?_ away
    rcases kept with h | h <;> simp [staysDown, h]
  · refine execOffTimeExpiry_startsAgain seq (free.imp_left ?_)
    rintro ⟨unlocked, cause⟩
    simp [staysDown, unlocked, cause]

end Sys2Proof.Machine
end

section
/-! PROOFS. The Ledger's command machine and the timing of its reads (R412 to R417). -/

namespace Sys2Proof.Machine

/-! ### Operations that start or wait (R413, R416) -/

theorem askLedger_starts {s : State} (free : ledgerBusy s = false) (alone : s.ledger.queue = []) (op : LedgerOp) : askLedger s op = startOp s op :=
  if_neg (by simp [free, alone])

theorem askLedger_waits {s : State} (held : ledgerBusy s = true ∨ s.ledger.queue ≠ []) (op : LedgerOp) :
    askLedger s op = s.onLedger fun l => { l with queue := l.queue ++ [op] } :=
  if_pos (by simpa using held)

/-- R413: the erase cycle takes its key at a sector's base address alone. -/
theorem ledgerErase_starts (s : State) {a : Nat} {key : U16} (good : key = 0x00A5) (base : a % 32768 = 0) :
    ledgerErase s a key = startLedger s (.busyErase (a / 32768)) :=
  if_pos (by simp [good, sectorWords, base])

theorem ledgerErase_reads (s : State) {a : Nat} {key : U16} (bad : key ≠ 0x00A5 ∨ a % 32768 ≠ 0) : ledgerErase s a key = setLedger s .read :=
  if_neg fun both => by
    obtain ⟨good, base⟩ : key = 0x00A5 ∧ a % sectorWords = 0 := by simpa using both
    exact bad.elim (· good) (· base)

/-! ### The unlock cycles (R413) -/

section
variable {s : State}

theorem ledgerWrite_of_read (st : s.ledger.st = .read) (a : Nat) (d : U16) :
    ledgerWrite s a d = setLedger s (if a = 0x1E1E && d = 0x00C3 then .unlock1 else .read) := by simp only [ledgerWrite, st]

theorem ledgerWrite_of_unlock1 (st : s.ledger.st = .unlock1) (a : Nat) (d : U16) :
    ledgerWrite s a d = setLedger s (if a = 0x0E1E && d = 0x003C then .unlock2 else .read) := by simp only [ledgerWrite, st]

theorem ledgerWrite_of_unlock2 (st : s.ledger.st = .unlock2) (a : Nat) (d : U16) : ledgerWrite s a d =
    if a ≠ 0x1E1E then setLedger s .read
    else if d = 0x004B then setLedger s .program
    else if d = 0x005A then setLedger s .erase
    else if d = 0x0069 then ledgerIdentify s
    else setLedger s .read := by simp only [ledgerWrite, st]

/-- R413: the unlock cycles in any other order, or to another address, leave the machine reading. -/
theorem ledgerWrite_reads {a : BitVec 25} {d : U16} (wrong : (s.ledger.st = .read ∧ ¬ (a = 0x1E1E ∧ d = 0x00C3)) ∨
    (s.ledger.st = .unlock1 ∧ ¬ (a = 0x0E1E ∧ d = 0x003C)) ∨ (s.ledger.st = .unlock2 ∧ a ≠ 0x1E1E)) :
    ledgerWrite s a.toNat d = setLedger s .read := by
  have address (b : BitVec 25) : a.toNat = b.toNat ↔ a = b := BitVec.toNat_inj
  rcases wrong with ⟨st, other⟩ | ⟨st, other⟩ | ⟨st, other⟩
  · rw [ledgerWrite_of_read st, if_neg (by simpa [← address] using other)]
  · rw [ledgerWrite_of_unlock1 st, if_neg (by simpa [← address] using other)]
  · rw [ledgerWrite_of_unlock2 st, if_pos (by simpa [← address] using other)]
end

/-! ### Operations that end (R413, R414, R417) -/

theorem loseTable_st (s : State) (n : Nat) : (loseTable s n).ledger.st = s.ledger.st := by
  unfold loseTable
  dsimp only
  split <;> rfl

/-- R417: a sector that becomes grown bad leaves the machine's state. -/
theorem growBadSector_st (s : State) (n : Nat) : (growBadSector s n).ledger.st = s.ledger.st := by
  unfold growBadSector
  split
  · exact loseTable_st ..
  split
  · rfl
  dsimp only
  -- in the reserve or not, with a reserve sector left or not
  split <;> split <;> rfl

/-- R323: without the erase of a slot an ended operation has no successor in it. -/
theorem fwErased_idle {s t : State} (noErase : fwErase s = none) (same : fwErase t = fwErase s) (sector : Option Nat) :
    fwErased t sector = t := by rw [fwErased, same, noErase]

theorem eraseHeld_fwErase (s : State) (n : Nat) : fwErase (eraseHeld s n) = fwErase s := by
  unfold eraseHeld
  split <;> rfl

section
variable {s : State}

section
variable {a : Nat} {d : U16} (runs : s.ledger.st = .busyProgram a d)
include runs

theorem execLedgerOpComplete_programs (noErase : fwErase s = none) : execLedgerOpComplete true s =
    let w := sectorOf s (a / 32768) * 32768 + a % 32768
    .next ((putWord s w (ledgerWord s w &&& d)).onLedger fun l => { l with st := .read }) := by
  simp only [execLedgerOpComplete, busySector, ledgerApply, runs, if_true]
  refine congrArg Host.Outcome.next (fwErased_idle noErase ?_ _)
  rfl

theorem ledgerStop_program : ledgerStop s =
    ((putWord s (sectorOf s (a / 32768) * 32768 + a % 32768) (Config.indeterminate s.fresh)).draw).onLedger fun l =>
      { l with st := .read, byReset := true } := by
  simp only [ledgerStop, runs]
  rfl

theorem ledgerBusy_program : ledgerBusy s = true := by simp only [ledgerBusy, runs]
end

section
variable {n : Nat} (runs : s.ledger.st = .busyErase n)
include runs

theorem ledgerApply_erase : ledgerApply s = eraseHeld (eraseArray s (sectorOf s n)) n := by simp only [ledgerApply, runs]

theorem execLedgerOpComplete_erases (noErase : fwErase s = none) :
    execLedgerOpComplete true s = .next (setLedger (eraseHeld (eraseArray s (sectorOf s n)) n) .read) := by
  simp only [execLedgerOpComplete, busySector, runs, if_true, ledgerApply_erase runs]
  refine congrArg Host.Outcome.next (fwErased_idle noErase ?_ _)
  exact eraseHeld_fwErase ..

/-- R417: the sector of a failed erase is replaced, and the operation is repeated in its replacement. -/
theorem execLedgerOpComplete_replaces : execLedgerOpComplete false s =
    let t := (growBadSector s (sectorOf s n)).onLedger fun l => { l with error := true }
    .next (fwErased (setLedger (eraseHeld (eraseArray t (sectorOf t n)) n) .read) (some n)) := by
  have still : ((growBadSector s (sectorOf s n)).onLedger fun l => { l with error := true }).ledger.st = .busyErase n :=
    (growBadSector_st ..).trans runs
  simp only [execLedgerOpComplete, busySector, runs, Bool.false_eq_true, if_false, ledgerApply_erase still, erasingSector, still]

theorem execLedgerEraseLimit_growsBad : execLedgerEraseLimit s =
    let t := growBadSector s (sectorOf s n)
    let u := spoilWords (eraseHeld (eraseArray t (sectorOf t n)) n) ((List.range 32768).map (sectorOf s n * 32768 + ·))
    .next (fwErased (u.onLedger fun l => { l with st := .read, byReset := true }) (some n)) := by
  simp only [execLedgerEraseLimit, runs, sectorWords]
end
end

/-! ### VAO_SAMPLE_TICK (R415) -/

section
variable {s : State} {mv : Nat}

/-- R415: the setting that a level leaves of the one in use: a slower one within 50 mV of its band's lower edge. -/
def keptBand (s : State) (mv : Nat) : Nat :=
  if mv < bandEdge s.ledger.band + 50 then (if s.ledger.band = 2 && bandEdge 1 + 50 ≤ mv then 1 else 0) else s.ledger.band

theorem keptBand_of_low (low : mv < bandEdge s.ledger.band + 50) :
    keptBand s mv = if s.ledger.band = 2 && bandEdge 1 + 50 ≤ mv then 1 else 0 := if_pos low

theorem keptBand_lt (fast : 0 < s.ledger.band) (low : mv < bandEdge s.ledger.band + 50) : keptBand s mv < s.ledger.band := by
  rw [keptBand_of_low low]
  split
  · next h => simp only [Bool.and_eq_true, decide_eq_true_eq] at h; omega
  · exact fast

/-- R415: none is slower than the slowest. -/
theorem le_keptBand (kept : s.ledger.band = 0 ∨ bandEdge s.ledger.band + 50 ≤ mv) : s.ledger.band ≤ keptBand s mv := by
  rcases kept with h | h
  · exact h ▸ Nat.zero_le _
  · exact (if_neg (Nat.not_lt.mpr h)).ge

theorem execVaoSampleTick_faster (slow : s.ledger.band < 2) (high : bandEdge (s.ledger.band + 1) + 50 ≤ mv) : execVaoSampleTick mv s =
    let t := s.onPower fun p => { p with vaoMv := mv }
    .next (if s.ledger.bandSince + 10000000 ≤ s.now then t.onLedger fun l => { l with band := s.ledger.band + 1, bandSince := s.now } else t) := by
  have kept : bandEdge s.ledger.band + 50 ≤ mv := by
    have rises : bandEdge s.ledger.band ≤ bandEdge (s.ledger.band + 1) := by
      generalize s.ledger.band = b at slow
      interval_cases b <;> decide
    omega
  refine (if_neg (le_keptBand (.inr kept)).not_gt).trans ((if_pos (by simp [slow, high])).trans ?_)
  exact (apply_ite Host.Outcome.next ..).symm

theorem execVaoSampleTick_slower (fast : 0 < s.ledger.band) (low : mv < bandEdge s.ledger.band + 50) :
    execVaoSampleTick mv s = .next ((s.onPower fun p => { p with vaoMv := mv }).onLedger fun l =>
      { l with band := if s.ledger.band = 2 && bandEdge 1 + 50 ≤ mv then 1 else 0, bandSince := s.now }) := by
  rw [← keptBand_of_low low]
  exact if_pos (keptBand_lt fast low)

theorem execVaoSampleTick_between (kept : s.ledger.band = 0 ∨ bandEdge s.ledger.band + 50 ≤ mv)
    (below : s.ledger.band = 2 ∨ mv < bandEdge (s.ledger.band + 1) + 50) :
    execVaoSampleTick mv s = .next ((s.onPower fun p => { p with vaoMv := mv }).onLedger fun l => { l with bandSince := s.now }) := by
  refine (if_neg (le_keptBand kept).not_gt).trans (if_neg ?_)
  rcases below with h | h
  · simp [h]
  · simp [Nat.not_le.mpr h]
end

/-- Settles O55: the machine's state and its queue decide what a cycle does; an operation ends by the sector that stands for its own, and the
read timing goes by the edge of its band. -/
theorem ledgerCommandsProgramEraseAndReport : Obligations.LedgerCommandsProgramEraseAndReport := by
  intro s
  refine ⟨fun free alone a d => ?_, fun held a d => ?_, fun st => ?_, fun st => ?_, fun st => ⟨?_, ?_⟩, fun a d wrong => ?_,
    fun a d runs noErase => ⟨?_, ?_, ?_⟩, fun n runs noErase => ⟨?_, ?_, ?_⟩, fun mv => ⟨?_, ?_, ?_⟩⟩
  · have start (op : LedgerOp) : (.next (askLedger s op) : Res State) = .next (startOp s op) :=
      congrArg Host.Outcome.next (askLedger_starts free alone op)
    exact ⟨start _, fun good base => (start _).trans (congrArg Host.Outcome.next (ledgerErase_starts s good base)),
      fun bad => (start _).trans (congrArg Host.Outcome.next (ledgerErase_reads s bad)), start _⟩
  · have wait (op : LedgerOp) := congrArg (Host.Outcome.next (φ := Fault) (ρ := Refusal)) (askLedger_waits held op)
    exact ⟨wait _, wait _, wait _⟩
  · exact congrArg Host.Outcome.next (ledgerWrite_of_read st ..)
  · exact congrArg Host.Outcome.next (ledgerWrite_of_unlock1 st ..)
  · exact congrArg Host.Outcome.next (ledgerWrite_of_unlock2 st ..)
  · exact congrArg Host.Outcome.next (ledgerWrite_of_unlock2 st ..)
  · exact congrArg Host.Outcome.next (ledgerWrite_reads wrong)
  · exact execLedgerOpComplete_programs runs noErase
  · exact congrArg Host.Outcome.next (ledgerStop_program runs)
  · exact congrArg Host.Outcome.next (if_pos (ledgerBusy_program runs))
  · exact execLedgerOpComplete_erases runs noErase
  · exact execLedgerOpComplete_replaces runs
  · exact execLedgerEraseLimit_growsBad runs
  · exact execVaoSampleTick_faster
  · exact fun fast _ => execVaoSampleTick_slower fast
  · exact fun _ => execVaoSampleTick_between

end Sys2Proof.Machine
end
